-- ==== Sys2Proof/Word.lean ====
section
/-! DEFINITION. The word types of the OL6840 model: what the manual itself treats as bits. -/

namespace Sys2Proof

/-- One octet (R166, R242). -/
abbrev Byte := BitVec 8

/-- A 16-bit value: an address of the register space, a queue number, a node address. -/
abbrev Half := BitVec 16

/-- A 32-bit register, counter, event argument or acceptance sequence. -/
abbrev Word := BitVec 32

/-- The 48-bit time of an event record and of a compare value (Table 6.13, TIME48 of Table 7.1). -/
abbrev Time48 := BitVec 48

/-- TIME, NTIME and the other 64-bit values. -/
abbrev Dword := BitVec 64

/-- A string of octets: a dictionary value, a PDU, a payload, a frame. -/
abbrev Bytes := List Byte

end Sys2Proof
end

