-- ==== Sys2Proof/Syntax.lean ====
section
/-! DEFINITION. The commands of the block: one constructor of `Instr` for each row of spec/opcode_table.json,
and the small types of their operands. A quantity that the manual only measures (a temperature, a level of
a line, a received frame) is an operand of the command it decides. -/

namespace Sys2Proof

/-- The port a dictionary request comes from (R9). For the air, the key slot that secured the carrying frame,
or none where the frame was unsecured (R480). -/
inductive Port where
  | spi
  | field
  | air (slot : Option (Fin 8))
  deriving DecidableEq, Repr

/-- How a control is written: by its register over SPI, or by its dictionary entry from a port. -/
inductive Via where
  | register
  | dict (port : Port) (tag : Byte)
  deriving DecidableEq, Repr

/-- The two I/O supply banks of Table 2.2. -/
inductive IoBank where
  | a
  | b
  deriving DecidableEq, Repr

/-- The engines that the engine watchdog supervises (R112). -/
inductive Engine where
  | dictionary
  | queue
  | sequencer
  | mortar
  deriving DecidableEq, Repr

/-- A receive path, and in dual-channel receive the channel of that path (Table 8.5). -/
inductive Path where
  | a
  | b
  deriving DecidableEq, Repr

/-- What SECDED finds in a word (R452). -/
inductive Ecc where
  | clean
  | corrected
  | uncorrectable
  deriving DecidableEq, Repr

/-- A word of Keystone or of Ashlar that the queue check of a warm boot reads, and what SECDED finds there (Table 5.3). -/
inductive EccFind where
  | stone (slice : Fin 8) (place : Fin 64) (found : Ecc)
  | word (bank : Fin 132) (row : Byte) (found : Ecc)
  deriving DecidableEq, Repr

/-- How far a boot runs inside the command that starts it. `stall = none`: it reports ready.
`stall = some p`: phase `p` of Table 5.3 does not end inside the command; a boot that stalls in phase 2 waits
for XO_STARTED and PLL_LOCK, any other one for the boot watchdog or another reset. -/
structure BootRun where
  stall   : Option (Fin 7)
  /-- boot time in µs, reported by READY_TIME (R118) -/
  us      : Word
  /-- duration of the mount in µs, reported by MOUNT_US (R389) -/
  mountUs : Word
  /-- further sources in force in the cycle in which the reset is taken, by bit of Table 5.1 (R111) -/
  also    : BitVec 7
  /-- what the queue check of a warm boot finds (Table 5.3) -/
  checks  : List EccFind
  /-- programs that fail their verify in the reset commit or the catch-up commit, as in `CommitRun` -/
  fails   : List (Nat × Bool)
  deriving DecidableEq, Repr

/-- What is measured of a power-fail commit: PF_LAST_US and PF_END_MV (R368). -/
structure CommitRun where
  us    : Half
  endMv : Half
  /-- programs that fail their verify, in order: the records sealed since the commit's start or the failure before, and
  whether in chain B -/
  fails : List (Nat × Bool)
  deriving DecidableEq, Repr

/-- How a Mortar append ends. `torn` is a loss of the supply inside the append: the seals that were wholly
programmed in chain A, and in chain B (R383, R390). `progFail` is a program that fails its verify in a chain
(R398): false chain A, true chain B. `tornOpen` is a loss of the supply while a pair is opened: the chain whose sector
was being opened, and the words that SSEQ and SSEQ_INV of that sector are left with (R377, R378). -/
inductive AppendEnd where
  | done
  | tornOpen (chainB : Bool) (sseq inv : Word)
  | torn (sealsA sealsB : Nat)
  | progFail (chainB : Bool)
  deriving DecidableEq, Repr

/-- What a lane computes in one symbol period: despread quality q in 0.5 dB units, chip timing in chips, and the phase
change from the symbol before, in 1/65536 of a turn (R234). -/
structure SymbolQ where
  q      : Int
  timing : Int
  turn   : Int
  deriving DecidableEq, Repr

/-- What a detection shows when a lane or the Mosaic detector raises it (R234, R235, R263). -/
structure Early where
  /-- the channel: path A's or, in dual-channel receive, path B's -/
  chan   : Path
  lane   : Fin 32
  /-- spreading factor code 0–5, or 7 for Mosaic -/
  sf     : Fin 8
  pathA  : Bool
  pathB  : Bool
  bin    : BitVec 4
  /-- despread quality q, 0.5 dB units -/
  q      : Int
  /-- chip timing of the symbol boundary, in chips -/
  timing : Int
  /-- the symbols that raised it, oldest first (R234) -/
  run    : List SymbolQ
  /-- the normalised correlations of the Mosaic detector, in 1/256, oldest window first (R263) -/
  corr   : List Nat
  /-- mean level over the last 16 chips at each path, 0.5 dB units (R216) -/
  rssiA  : Int
  rssiB  : Int
  deriving DecidableEq, Repr

/-- An exact complex value: `a + b ζ + c ζ² + d ζ³` with ζ = e^(jπ/4), so that the subcarrier values of Table 10.6 and
their rotations are exact. -/
structure Cx where
  a : Rat
  b : Rat
  c : Rat
  d : Rat
  deriving DecidableEq, Repr

/-- What is measured when the sync word has been found and the PHY header received (R225, R237, R251, R262). -/
structure Confirm where
  tag      : Half
  /-- the window of the last 16 decided bits at which the sync word is judged found, first decided bit in bit 15 -/
  window   : Half
  /-- signal-to-noise ratio over the sync word or the LTS, 0.5 dB units -/
  snr      : Int
  rssiA    : Int
  rssiB    : Int
  /-- frequency offset in units of 0.25 Hz: in spread mode from the centre of the detecting bin, estimated over the
  preamble (R227); in Mosaic mode the coarse estimate of the STS (R264) -/
  coarse   : Int
  /-- in Mosaic mode the fine estimate of the LTS, in units of 0.25 Hz (R264) -/
  fine     : Int
  /-- how long ago the last chip of the sync word left the correlator, or the second LTS symbol ended, in 1/64 µs -/
  ago      : Nat
  /-- the header bytes that the decoder decides on, its CRC-8 last: 3 in spread mode, 4 in Mosaic mode -/
  header   : Bytes
  /-- soft values of the header's coded bits on each path, in sending order -/
  softA    : List Int
  softB    : List Int
  /-- the weight that the channel estimate of each path gives its soft values: one in spread mode, one for each data
  subcarrier in ascending k in Mosaic mode (R210) -/
  weightA  : List Nat
  weightB  : List Nat
  /-- what each path observes of each subcarrier in the two LTS symbols, in ascending k -/
  ltsA     : List (Cx × Cx)
  ltsB     : List (Cx × Cx)
  deriving DecidableEq, Repr

/-- What one symbol period decides of the pending detections: those whose sync word is found and whose PHY header has been
received, and the tags of those whose window ends in the period (R225, R237, R240, R268). -/
structure SyncPeriod where
  found   : List Confirm
  expired : List Half
  deriving DecidableEq, Repr

/-- What a path receives in a Mosaic data symbol: the values of the 40 subcarriers in ascending k, and what the four
pilots give, as the factor that takes the common phase error away and the factor that takes the phase slope away from one
subcarrier to the next, both of amplitude 1 (R267). -/
structure ToneRow where
  tones : List Cx
  phase : Cx
  slope : Cx
  deriving DecidableEq, Repr

/-- The measurements of the symbols of a frame in reception, oldest first (q in R254, the SNR of the pilots in R267), with
how many symbols of its payload have been received, and in Mosaic mode what each path received in those symbols. -/
structure Fading where
  chan     : Path
  values   : List Int
  received : Nat
  tonesA   : List ToneRow
  tonesB   : List ToneRow
  deriving DecidableEq, Repr

/-- A frame received whole on a channel: the PSDU and the CRC-32 that the decoder decides on, the soft values of the
coded bits it decides from, and what the demodulator measured of it (R91, R210, R266, R267, R270). -/
structure RxFrame where
  chan      : Path
  psdu      : Bytes
  crc       : Word
  /-- soft values of the payload's coded bits on each path, in sending order -/
  softA     : List Int
  softB     : List Int
  /-- the data symbols of a Mosaic frame as each path receives them -/
  tonesA    : List ToneRow
  tonesB    : List ToneRow
  /-- chip-clock measurement m in ppb (R91) -/
  mPpb      : Int
  /-- mean error-vector magnitude, 0.5 dB units, of a Mosaic frame -/
  evm       : Int
  deriving DecidableEq, Repr

/-- What the Firefly lane hears in a window: the symbols that raised its detection, oldest first, their frequency offset
in units of 0.25 Hz, their chip timing, and the 16 bits decided after it (R288, R290). -/
structure WakeSeen where
  run    : List SymbolQ
  timing : Int
  offset : Int
  word   : Half
  deriving DecidableEq, Repr

/-- What a margin read of a pair finds (Table 15.9): nothing, a record that fails only at a margin threshold,
or one copy of a record that fails at the normal threshold. -/
inductive Margin where
  | clean
  | weak
  | oneCopyBad
  /-- both copies of the pair's record of this place fail their CRC (R391) -/
  | bothBad (record : Nat)
  deriving DecidableEq, Repr

/-- The part of an address that a write of a compare value reaches (R411). -/
inductive ValPart where
  | low (via : Word)
  | high (via : Half)
  | whole (port : Port) (tag : Byte) (value : Bytes)
  deriving DecidableEq, Repr

/-- How STAGGER is executed: TIMER.STGGO over the staged registers, or one dictionary value (R414). -/
inductive StaggerBy where
  | go
  | dict (port : Port) (tag : Byte) (value : Bytes)
  deriving DecidableEq, Repr

/-- What starts an ADC sequence (R443). -/
inductive AdcBy where
  | trigger
  | go
  | cmd (port : Port) (tag : Byte) (value : Bytes)
  deriving DecidableEq, Repr

/-- The raw result of one sequence entry: the conversion, and for a supervision the reverse conversion too. -/
structure AdcCode where
  forward : BitVec 12
  reverse : BitVec 12
  deriving DecidableEq, Repr

/-- How a capture value is read (R420, R421): one register, a register read of a whole paired unit, or the
dictionary entry. -/
inductive CapRead where
  | rise
  | fall
  | value
  | unit
  | dict (port : Port) (tag : Byte)
  deriving DecidableEq, Repr

/-- The commands: one for each row of spec/opcode_table.json. -/
inductive Instr where
  -- reset and supply
  | powerOnReset (dipped : Bool) (run : BootRun)
  | brownOutReset
  | resetN
  | watchdogReset (engine : Engine) (run : BootRun)
  | bootWatchdog (run : BootRun)
  | softwareReset (key : Byte) (go : Bool) (run : BootRun)
  | resetCmd (port : Port) (tag : Byte) (value : Bytes)
  | deferredReset (run : BootRun)
  | jtagReset (run : BootRun)
  | vinReversal (run : CommitRun)
  | bodWarn (vinMv : Half) (run : CommitRun)
  | bodWarnClear (vinMv : Half)
  | iovddLoss (bank : IoBank)
  | iovddReturn (bank : IoBank)
  | resetNRelease (run : BootRun)
  -- clocks of the boot, QUIET and restore
  | xoStarted
  | pllLock
  | pllLockTimeout
  | quietEnd
  | journalRestore (queues : Nat)
  -- power states
  | shutdownRequest (via : Via)
  | dormantRequest (via : Via)
  | sniffRequest (via : Via)
  | wake (sources : BitVec 7) (run : BootRun)
  | spiWake (run : BootRun)
  -- Lintel, Plumb, thermal
  | lintelStepUp (failed : Nat)
  | lintelStepDown
  | plumbStepDown
  | nearMiss
  | thermSample (temp : Half)
  -- oscillators and the time base
  | lfxoQualified
  | xoFailure
  | lfxoFailure
  | lossOfLock (within10s : Bool)
  | rcCalibration (hfrc lfrc : BitVec 10)
  | ckenDeferredGate (block : Fin 40)
  | powerGood (domain : Fin 206)
  | fcwLoad
  | slewEnd
  | holdoverEntry
  | tbModeWrite (port : Port) (tag : Byte) (value : Bytes)
  -- SPI host port
  | registerRead (addr : Half) (count : Byte) (c8 : Option Byte)
  | registerWrite (addr : Half) (count : Byte) (data : Bytes) (c8 : Option Byte)
  | dictionaryRequest (n : Byte) (pdu : Bytes) (c8 : Option Byte)
  | responseFetch (c8 : Option Byte)
  | queuePush (queue : Half) (len : Half) (c8 : Option Byte) (payload : Bytes) (crc : Word)
  | queuePop (queue : Half) (flags : Byte) (sequence : Word) (c8 : Option Byte)
  | queuePeek (queue : Half) (position : Half) (c8 : Option Byte)
  | eventFetch (count : Byte) (c8 : Option Byte)
  | statusOnly
  | unknownOpcode (opcode : Byte)
  | spiCsNRise (mosi : Bytes) (fill : Nat)
  | errcodeClear
  -- dictionary engine, Footing, Courses, device states
  | dictRead (port : Port) (tag : Byte) (index : Half) (sub : Byte)
  | dictWrite (port : Port) (tag : Byte) (index : Half) (sub : Byte) (value : Bytes)
  | roleWrite (port : Port) (tag : Byte) (value : Bytes)
  | footingCmd (port : Port) (tag : Byte) (value : Bytes)
  | courseReq (port : Port) (tag : Byte) (value : Bytes)
  | imageLoad (course : Fin 8) (port : Port) (tag : Byte) (value : Bytes)
  | imageCommit (course : Fin 8) (port : Port) (tag : Byte) (value : Bytes)
  | frameBoundary
  | stateCmdConfig (via : Via)
  | stateCmdRun (via : Via)
  | stateCmdMaint (via : Via)
  | stateCmdSafe (via : Via)
  -- EIA-485 field port
  | fieldFrame (inForce other : Bytes)
  | fieldReply
  | echoFault (noTransition : Bool)
  | replyRetry
  | fieldConfigApply
  | interCharacterGap
  | idleLow
  -- radio commands and channel access
  | radioRx (via : Via)
  | radioStop (via : Via)
  | radioTx (via : Via)
  | radioAbort (via : Via)
  | listenEnd
  | ccaBusy (rssi : Option Int)
  | backoffEnd
  | synthLock
  | synthUnlock
  | txEnd
  | antVerdict (returnLoss : Byte) (phaseDeg : Int)
  | ackWaitExpiry
  | ackTx
  -- detection and reception
  | earlySync (seen : List Early)
  | sync (seen : SyncPeriod)
  | syncWordTimeout (tag : Half)
  | ltsTimeout (tag : Half)
  | signalLoss (seen : Fading)
  | pilotLoss (seen : Fading)
  | noiseFloorWindow (path : Path) (samples : List Int)
  | beaconReceived (frame : RxFrame)
  | pollReceived (frame : RxFrame)
  | dataReceived (frame : RxFrame)
  | nullReceived (frame : RxFrame)
  | joinReceived (frame : RxFrame)
  | fackReceived (frame : RxFrame)
  | ackReceived (chan : Path)
  | airCommit (chan : Path)
  -- Firefly
  | sniffWindow
  | sniffWindowEnd
  | wakeWord (seen : WakeSeen)
  | ffStayExpiry
  -- the polled network and Swarm
  | beaconCycle
  | pollStart
  | pollReply
  | pollMiss
  | joinSlot
  | fackWaitExpiry
  | relayCopyDue (orig fseq : Half)
  | seenExpiry (orig fseq : Half)
  | airDreqWrite (port : Port) (tag : Byte) (value : Bytes)
  | dutyBinRoll
  -- queues
  | stoneEviction
  | evictionRetire (entry : Fin 4)
  | segmentRefused (index : Nat)
  | sliceIdleOff (slice : Fin 8)
  | qto (queue : Half)
  | qPurge (port : Port) (tag : Byte) (value : Bytes)
  | ledgerClear (port : Port) (tag : Byte) (value : Bytes)
  -- Mortar
  | mortarAppend (records : Nat) (ending : AppendEnd)
  | appendTimeout
  | compaction
  | eraseEnd (okA okB : Bool)
  | marginScan (ssq : Word) (found : Margin)
  | hotRefresh
  -- timers
  | timeStep (pins : BitVec 12)
  | snap (via : Via)
  | stagger (by_ : StaggerBy)
  | compareConfigWrite (ch : Fin 16) (via : Via) (value : Word)
  | compareValueWrite (ch : Fin 16) (part : ValPart)
  | cntWrite (n : Fin 8) (via : Via) (value : Half)
  | captureEdge (unit : Fin 12)
  | captureRead (unit : Fin 12) (what : CapRead)
  -- pulse inputs, ADC, Hod
  | pulseSample (ch : Fin 8) (ratio : Nat)
  | adcStart (by_ : AdcBy) (codes : List AdcCode)
  | adcSequenceEnd (codes : List AdcCode)
  | hodFlush (ch : Fin 8)
  -- background work and repair
  | ashlarScrub (bank : Fin 132) (row : Byte) (found : Ecc)
  | migrationEnd
  | keystoneScrub (slice : Fin 8) (stone : Fin 64) (found : Ecc)
  | selfTest (pass : Bool)
  | bistSkip
  | laneReassign
  | telemSample (vinMv vholdMv : Half)
  | telemClear (port : Port) (tag : Byte) (value : Bytes)
  | adcOffset (code : BitVec 12)
  | canaryCheck (pass : Bool)
  | vcoCalibration (band : Fin 5) (setting : Byte)
  | iqImageCalibration (path : Path)
  | decommission (port : Port) (tag : Byte) (value : Bytes)
  deriving DecidableEq, Repr

end Sys2Proof
end

