-- ==== Sys2Proof/Decode.lean ====
section
/-! DEFINITION. The words of the table. The opcode table gives no row any bits: a command is an event or a transaction,
and no word spells one. -/

namespace Sys2Proof

/-- The command that a word of `nbits` bits spells: none, since no row of the table has bits. -/
def decodeTableWord (_nbits _w : Nat) : Option Instr := none

end Sys2Proof
end

