-- ==== Sys2Proof/Config.lean ====
section
/-! DEFINITION. The values the manual leaves open after which the device goes on: constants with no body,
so that nothing can be proved of a value of them. -/

namespace Sys2Proof

/-- The n-th draw of the device's random generator, a natural number of any size; a draw from 0 to N is this
value modulo N + 1 (R162, R277, R278, R309, R315). The manual says how a draw is distributed, not what it is. -/
opaque Config.draw : Nat → Nat

/-- What a counter of 32 bits holds after one count more than its width can hold: no rule says. -/
opaque Config.pastMax : Nat → Nat

/-- The n-th value the manual leaves undefined or does not state (a level nobody drives, a reading of a unit
whose first conversion has not run). -/
opaque Config.free : Nat → Nat

/-- The sector sequence number of the first pair ever opened (R384 gives the later ones). -/
opaque Config.firstSseq : Word

end Sys2Proof
end

