-- ==== Sys2Proof/Machine/Bits.lean ====
section
/-! DEFINITION. Byte order, fields, the three checks of the manual (CRC-8, CRC-16, CRC-32), and the sorted
association list that holds sparse tables. -/

namespace Sys2Proof.Machine

/-- The low `n` bytes of `x`, least significant first (R7). -/
def leBytes : Nat → Nat → Bytes
  | 0, _ => []
  | n + 1, x => BitVec.ofNat 8 x :: leBytes n (x / 256)

/-- The number that a string of bytes spells, least significant byte first (R7). -/
def leNat : Bytes → Nat
  | [] => 0
  | b :: bs => b.toNat + 256 * leNat bs

/-- Bits `lo` to `lo + width - 1` of `x`. -/
def field (x lo width : Nat) : Nat := x / 2 ^ lo % 2 ^ width

/-- `x` with bits `lo` to `lo + width - 1` replaced by the low bits of `v`. -/
def withField (x lo width v : Nat) : Nat :=
  x % 2 ^ lo + 2 ^ lo * (v % 2 ^ width) + 2 ^ (lo + width) * (x / 2 ^ (lo + width))

/-- Bit `i` of `x`. -/
def bit (x i : Nat) : Bool := x / 2 ^ i % 2 == 1

/-- The value 1 of a true condition and 0 of a false one. -/
def b2n (b : Bool) : Nat := if b then 1 else 0

/-- A two's-complement value of `width` bits. -/
def signed (width x : Nat) : Int :=
  if x % 2 ^ width < 2 ^ (width - 1) then Int.ofNat (x % 2 ^ width) else Int.ofNat (x % 2 ^ width) - 2 ^ width

/-- The encoding of an integer in `width` bits, two's complement. -/
def unsigned (width : Nat) (x : Int) : Nat := (x % 2 ^ width).toNat

/-- One step of a CRC that shifts left: `w` its width, `poly` its polynomial. -/
def crcShiftLeft (w poly : Nat) : Nat → Nat → Nat
  | 0, c => c
  | n + 1, c =>
    crcShiftLeft w poly n (if 2 ^ (w - 1) ≤ c then (2 * c % 2 ^ w) ^^^ poly else 2 * c % 2 ^ w)

/-- CRC-8: polynomial 0x07, initial value 0, no reflection, no final exclusive-or (R152). -/
def crc8 (bs : Bytes) : Byte :=
  BitVec.ofNat 8 (bs.foldl (fun c b => crcShiftLeft 8 0x07 8 (c ^^^ b.toNat)) 0)

/-- CRC-16-CCITT: polynomial 0x1021, initial value 0xFFFF (R157). -/
def crc16 (bs : Bytes) : Half :=
  BitVec.ofNat 16 (bs.foldl (fun c b => crcShiftLeft 16 0x1021 8 (c ^^^ (b.toNat * 256))) 0xFFFF)

/-- Eight steps of the reflected CRC-32. -/
def crcShiftRight : Nat → Nat → Nat
  | 0, c => c
  | n + 1, c => crcShiftRight n (if c % 2 = 1 then (c / 2) ^^^ 0xEDB88320 else c / 2)

/-- The IEEE 802.3 CRC-32 (R244). -/
def crc32 (bs : Bytes) : Word :=
  BitVec.ofNat 32 ((bs.foldl (fun c b => crcShiftRight 8 (c ^^^ b.toNat)) 0xFFFFFFFF) ^^^ 0xFFFFFFFF)

/-- The value that a sparse table gives key `k`: `d` where no pair is listed. -/
def tabGet {α : Type} (d : α) (k : Nat) : List (Nat × α) → α
  | [] => d
  | (j, v) :: m => if k = j then v else tabGet d k m

/-- The sparse table with `v` at `k`. It keeps the keys strictly rising, and lists no pair whose value is `d`. -/
def tabSet {α : Type} [DecidableEq α] (d : α) (k : Nat) (v : α) : List (Nat × α) → List (Nat × α)
  | [] => if v = d then [] else [(k, v)]
  | (j, w) :: m =>
    if k < j then (if v = d then (j, w) :: m else (k, v) :: (j, w) :: m)
    else if k = j then (if v = d then m else (k, v) :: m)
    else (j, w) :: tabSet d k v m

/-- The canonical form of a sparse table with default `d`: every key of it is above `lo`, the keys rise strictly,
no listed value is `d`. -/
def tabWf {α : Type} [DecidableEq α] (d : α) : Option Nat → List (Nat × α) → Bool
  | _, [] => true
  | lo, (j, v) :: m => (lo.all (· < j)) && decide (v ≠ d) && tabWf d (some j) m

/-- The element at place `i`, or `d` beyond the end. -/
def nth {α : Type} (d : α) (l : List α) (i : Nat) : α := l.getD i d

/-- `l` with its element at place `i` replaced. -/
def setNth {α : Type} (l : List α) (i : Nat) (v : α) : List α := l.set i v

end Sys2Proof.Machine
end

