-- ==== Sys2Proof/Machine/DictTable.lean ====
section
/-! DEFINITION. The object dictionary as a table of rows, one for each entry or run of entries of Tables 1.8 to
19.5: type, access code, default and range (R3, R166, R167), the reserved bits that R4 ignores, and the enable bit
that governs the entry (R506).
What the manual leaves open here and how the model reads it, with its mark: log entry 16. -/

namespace Sys2Proof.Machine

/-- The types of Table 7.1. -/
inductive Ty where
  | bool | u8 | u16 | u32 | u64 | i16 | i32 | time48
  | octets (n : Nat)
  | upTo (n : Nat)
  | vstring (n : Nat)
  deriving DecidableEq, Repr

/-- The access codes of Table 0.3. -/
inductive Access where
  | ro | rw | wo | w1c | w1 | rwc | rwp
  deriving DecidableEq, Repr

/-- The range of an entry (R167). -/
inductive Range where
  | any
  | between (lo hi : Int)
  | listed (vals : List Nat)
  deriving DecidableEq, Repr

/-- An entry, or `count` entries at consecutive subindices. `mask` names the bits that are not reserved. -/
structure Row where
  idx    : Nat
  sub    : Nat
  count  : Nat
  ty     : Ty
  access : Access
  dflt   : Nat
  range  : Range
  mask   : Option Nat
  deriving DecidableEq, Repr

/-! The keys of the entries: index × 256 + subindex, of the first one where a name stands for a run. -/
namespace K

/-- ROLE -/
abbrev role : Nat := 0x101001
/-- ROLE_ACTIVE -/
abbrev roleActive : Nat := 0x101002
/-- PINMUX0 -/
abbrev pinmux0 : Nat := 0x120001
/-- PINMUX1 -/
abbrev pinmux1 : Nat := 0x120002
/-- GPIOPULL -/
abbrev gpiopull : Nat := 0x120003
/-- GPIODRV -/
abbrev gpiodrv : Nat := 0x120004
/-- GPIOOD -/
abbrev gpiood : Nat := 0x120005
/-- GPIOOE -/
abbrev gpiooe : Nat := 0x120006
/-- GPIOOUT -/
abbrev gpioout : Nat := 0x120007
/-- PSTATE_CMD -/
abbrev pstateCmd : Nat := 0x640001
/-- PSTATE -/
abbrev pstate : Nat := 0x640002
/-- WAKE_EN -/
abbrev wakeEn : Nat := 0x640003
/-- BOD_LEVEL -/
abbrev bodLevel : Nat := 0x640004
/-- RETAIN_MASK -/
abbrev retainMask : Nat := 0x640005
/-- LIVE_MASK -/
abbrev liveMask : Nat := 0x640006
/-- VIN_MV -/
abbrev vinMv : Nat := 0x640007
/-- VHOLD_MV -/
abbrev vholdMv : Nat := 0x640008
/-- THERM_LEVEL -/
abbrev thermLevel : Nat := 0x680001
/-- DIE_TEMP -/
abbrev dieTemp : Nat := 0x680002
/-- CROSSINGS -/
abbrev crossings : Nat := 0x680003
/-- OP_REQ -/
abbrev opReq : Nat := 0x6C0001
/-- OP_ACTIVE -/
abbrev opActive : Nat := 0x6C0002
/-- PLUMB_EN -/
abbrev plumbEn : Nat := 0x6C0003
/-- PLUMB_TRIM -/
abbrev plumbTrim : Nat := 0x6C0004
/-- NEAR_MISS -/
abbrev nearMiss : Nat := 0x6C0005
/-- VCORE_MV -/
abbrev vcoreMv : Nat := 0x6C0006
/-- XO_CFG -/
abbrev xoCfg : Nat := 0x600001
/-- CKEN0 -/
abbrev cken0 : Nat := 0x600002
/-- CKEN1 -/
abbrev cken1 : Nat := 0x600003
/-- CLK_STATUS -/
abbrev clkStatus : Nat := 0x600004
/-- GATE_COUNT -/
abbrev gateCount : Nat := 0x600005
/-- CKO0_CFG–CKO3_CFG -/
abbrev ckoCfg : Nat := 0x600010
/-- CKO_EN -/
abbrev ckoEn : Nat := 0x600014
/-- TB_MODE -/
abbrev tbMode : Nat := 0x370001
/-- TB_STATE -/
abbrev tbState : Nat := 0x370002
/-- TB_SLEW -/
abbrev tbSlew : Nat := 0x370003
/-- TB_STEP_LIM -/
abbrev tbStepLim : Nat := 0x370004
/-- TB_HOLD -/
abbrev tbHold : Nat := 0x370005
/-- TB_TRIM -/
abbrev tbTrim : Nat := 0x370006
/-- TB_FREQ -/
abbrev tbFreq : Nat := 0x370007
/-- TB_PHASE -/
abbrev tbPhase : Nat := 0x370008
/-- TB_FCW -/
abbrev tbFcw : Nat := 0x370009
/-- NT_OFFSET -/
abbrev ntOffset : Nat := 0x37000A
/-- TB_FAVG -/
abbrev tbFavg : Nat := 0x37000B
/-- RESET_CAUSE -/
abbrev resetCause : Nat := 0x102001
/-- BOOT_FAILS -/
abbrev bootFails : Nat := 0x102002
/-- QUIET_BASE -/
abbrev quietBase : Nat := 0x102003
/-- QUIET_SPREAD -/
abbrev quietSpread : Nat := 0x102004
/-- QUIET_LEFT -/
abbrev quietLeft : Nat := 0x102005
/-- RESET_CMD -/
abbrev resetCmd : Nat := 0x102006
/-- WDT_LIMIT -/
abbrev wdtLimit : Nat := 0x102007
/-- READY_TIME -/
abbrev readyTime : Nat := 0x102008
/-- RESTORE_LEFT -/
abbrev restoreLeft : Nat := 0x102009
/-- SPI_CRC -/
abbrev spiCrc : Nat := 0x110001
/-- IRQ_MASK -/
abbrev irqMask : Nat := 0x110002
/-- EVT_LOST -/
abbrev evtLost : Nat := 0x110003
/-- FP_ADDR -/
abbrev fpAddr : Nat := 0x110010
/-- FP_BAUD -/
abbrev fpBaud : Nat := 0x110011
/-- FP_POLARITY -/
abbrev fpPolarity : Nat := 0x110012
/-- FP_STATUS -/
abbrev fpStatus : Nat := 0x110013
/-- FP_RETRY -/
abbrev fpRetry : Nat := 0x110014
/-- FP_FAULTS -/
abbrev fpFaults : Nat := 0x110015
/-- VENDOR_ID -/
abbrev vendorId : Nat := 0x100001
/-- PART -/
abbrev part : Nat := 0x100002
/-- SILICON_REV -/
abbrev siliconRev : Nat := 0x100003
/-- SERIAL -/
abbrev serial : Nat := 0x100004
/-- CODE_VERSION -/
abbrev codeVersion : Nat := 0x100005
/-- DEVICE_NAME -/
abbrev deviceName : Nat := 0x100006
/-- DEV_STATE -/
abbrev devState : Nat := 0x103001
/-- STATE_CMD -/
abbrev stateCmd : Nat := 0x103002
/-- ILLEGAL_COUNT -/
abbrev illegalCount : Nat := 0x103003
/-- LAST_ILLEGAL -/
abbrev lastIllegal : Nat := 0x103004
/-- FOOTING_CMD -/
abbrev footingCmd : Nat := 0x104001
/-- FOOTING_COUNT -/
abbrev footingCount : Nat := 0x104002
/-- FOOTING_GEN -/
abbrev footingGen : Nat := 0x104003
/-- EVT_MASK -/
abbrev evtMask : Nat := 0x105001
/-- LOCKVIOL -/
abbrev lockviol : Nat := 0x106002
/-- COURSE_BOOT -/
abbrev courseBoot : Nat := 0xA00001
/-- COURSE_REQ -/
abbrev courseReq : Nat := 0xA00002
/-- COURSE_ACTIVE -/
abbrev courseActive : Nat := 0xA00003
/-- COURSE_PEND -/
abbrev coursePend : Nat := 0xA00004
/-- COURSE_ERR -/
abbrev courseErr : Nat := 0xA00005
/-- COURSE_TRIG0–7 -/
abbrev courseTrig : Nat := 0xA00008
/-- IMAGE_LOAD -/
abbrev imageLoad : Nat := 0xA10001
/-- IMAGE_COMMIT -/
abbrev imageCommit : Nat := 0xA10002
/-- IMAGE_STATE -/
abbrev imageState : Nat := 0xA10003
/-- IMAGE_CRC -/
abbrev imageCrc : Nat := 0xA10004
/-- REGION -/
abbrev region : Nat := 0x106001
/-- CHAN_A_HZ -/
abbrev chanAHz : Nat := 0x200001
/-- CHAN_B_HZ -/
abbrev chanBHz : Nat := 0x200002
/-- SYNTH_LO_HZ -/
abbrev synthLoHz : Nat := 0x200003
/-- SYNTH_STATUS -/
abbrev synthStatus : Nat := 0x200004
/-- SYNTH_UNLOCKS -/
abbrev synthUnlocks : Nat := 0x200005
/-- RX_MODE -/
abbrev rxMode : Nat := 0x210001
/-- RX_PATHS_OK -/
abbrev rxPathsOk : Nat := 0x210002
/-- RXB_PREEMPT -/
abbrev rxbPreempt : Nat := 0x210003
/-- DUAL_ACK_DROP -/
abbrev dualAckDrop : Nat := 0x210004
/-- RX_MODE_EFF -/
abbrev rxModeEff : Nat := 0x210005
/-- ANT_B_FITTED -/
abbrev antBFitted : Nat := 0x210006
/-- AGC_MODE -/
abbrev agcMode : Nat := 0x218001
/-- AGC_GAIN -/
abbrev agcGain : Nat := 0x218002
/-- TX_POWER -/
abbrev txPower : Nat := 0x220001
/-- TX_LIMIT -/
abbrev txLimit : Nat := 0x220002
/-- TX_RAMP -/
abbrev txRamp : Nat := 0x220003
/-- TX_EFFECTIVE -/
abbrev txEffective : Nat := 0x220004
/-- ANT_STATUS -/
abbrev antStatus : Nat := 0x220005
/-- ANT_FAULTS -/
abbrev antFaults : Nat := 0x220006
/-- RSSI_A -/
abbrev rssiA : Nat := 0x280001
/-- RSSI_B -/
abbrev rssiB : Nat := 0x280002
/-- RSSI_PROV_A -/
abbrev rssiProvA : Nat := 0x280003
/-- RSSI_PROV_B -/
abbrev rssiProvB : Nat := 0x280004
/-- NF_A -/
abbrev nfA : Nat := 0x280005
/-- NF_B -/
abbrev nfB : Nat := 0x280006
/-- NF_VALID -/
abbrev nfValid : Nat := 0x280007
/-- CHIP_RATE -/
abbrev chipRate : Nat := 0x240001
/-- TX_SF -/
abbrev txSf : Nat := 0x240002
/-- NET_CODE -/
abbrev netCode : Nat := 0x240003
/-- SYNC_WORD -/
abbrev syncWord : Nat := 0x240004
/-- SYNC_TOL -/
abbrev syncTol : Nat := 0x240005
/-- PREAMBLE_SYM -/
abbrev preambleSym : Nat := 0x240006
/-- AFC_HZ -/
abbrev afcHz : Nat := 0x240007
/-- SNR -/
abbrev snr : Nat := 0x240008
/-- EARLY_N -/
abbrev earlyN : Nat := 0x240009
/-- EARLY_THR -/
abbrev earlyThr : Nat := 0x24000A
/-- LANES_ACTIVE -/
abbrev lanesActive : Nat := 0x250001
/-- SPARES_LEFT -/
abbrev sparesLeft : Nat := 0x250002
/-- EARLY_COUNT -/
abbrev earlyCount : Nat := 0x250003
/-- CANCEL_COUNT -/
abbrev cancelCount : Nat := 0x250004
/-- LANE_PHYS -/
abbrev lanePhys : Nat := 0x250007
/-- LANE_MAP0–31 -/
abbrev laneMap : Nat := 0x250010
/-- MOSAIC_MCS -/
abbrev mosaicMcs : Nat := 0x260001
/-- MOSAIC_DD -/
abbrev mosaicDd : Nat := 0x260002
/-- MOSAIC_MU -/
abbrev mosaicMu : Nat := 0x260003
/-- MOSAIC_DET_THR -/
abbrev mosaicDetThr : Nat := 0x260004
/-- MOSAIC_EVM -/
abbrev mosaicEvm : Nat := 0x260005
/-- PILOT_LOSS -/
abbrev pilotLoss : Nat := 0x260006
/-- HDR_FAILS -/
abbrev hdrFails : Nat := 0x270001
/-- CRC32_FAILS -/
abbrev crc32Fails : Nat := 0x270002
/-- RX_LENGTH -/
abbrev rxLength : Nat := 0x270003
/-- CORRECTED -/
abbrev corrected : Nat := 0x270004
/-- SIGNAL_LOSS -/
abbrev signalLoss : Nat := 0x270005
/-- RADIO_CMD -/
abbrev radioCmd : Nat := 0x310001
/-- RADIO_STATE -/
abbrev radioState : Nat := 0x310002
/-- TX_QUEUE -/
abbrev txQueue : Nat := 0x310003
/-- LBT_EN -/
abbrev lbtEn : Nat := 0x310008
/-- LBT_LISTEN -/
abbrev lbtListen : Nat := 0x310009
/-- LBT_RAND -/
abbrev lbtRand : Nat := 0x31000A
/-- LBT_MARGIN -/
abbrev lbtMargin : Nat := 0x31000B
/-- LBT_THR_MIN -/
abbrev lbtThrMin : Nat := 0x31000C
/-- LBT_THR_MAX -/
abbrev lbtThrMax : Nat := 0x31000D
/-- LBT_BO_SLOT -/
abbrev lbtBoSlot : Nat := 0x31000E
/-- LBT_BO_SLOTS -/
abbrev lbtBoSlots : Nat := 0x31000F
/-- LBT_TRIES -/
abbrev lbtTries : Nat := 0x310010
/-- LBT_EXEMPT -/
abbrev lbtExempt : Nat := 0x310011
/-- CCA_THR_A -/
abbrev ccaThrA : Nat := 0x310012
/-- CCA_THR_B -/
abbrev ccaThrB : Nat := 0x310013
/-- CCA_BUSY_COUNT -/
abbrev ccaBusyCount : Nat := 0x310014
/-- TX_MAX_ON -/
abbrev txMaxOn : Nat := 0x310015
/-- DUTY_LO_HZ0–7 -/
abbrev dutyLoHz : Nat := 0x310020
/-- DUTY_HI_HZ0–7 -/
abbrev dutyHiHz : Nat := 0x310028
/-- DUTY_BUDGET0–7 -/
abbrev dutyBudget : Nat := 0x310030
/-- DUTY_USED0–7 -/
abbrev dutyUsed : Nat := 0x310038
/-- DUTY_BLOCKS -/
abbrev dutyBlocks : Nat := 0x310040
/-- FF_INT -/
abbrev ffInt : Nat := 0x320001
/-- FF_WIN -/
abbrev ffWin : Nat := 0x320002
/-- FF_SF -/
abbrev ffSf : Nat := 0x320003
/-- FF_STAY -/
abbrev ffStay : Nat := 0x320004
/-- FF_WAKES -/
abbrev ffWakes : Nat := 0x320005
/-- FF_FALSE -/
abbrev ffFalse : Nat := 0x320006
/-- FF_TX_INT -/
abbrev ffTxInt : Nat := 0x320007
/-- ACK_SF -/
abbrev ackSf : Nat := 0x330001
/-- ACK_WIN -/
abbrev ackWin : Nat := 0x330002
/-- ACK_SUPP_COUNT -/
abbrev ackSuppCount : Nat := 0x330003
/-- ACK_MISS_COUNT -/
abbrev ackMissCount : Nat := 0x330004
/-- ACK_SENT -/
abbrev ackSent : Nat := 0x330005
/-- ADDR -/
abbrev addr : Nat := 0x300001
/-- JOINED -/
abbrev joined : Nat := 0x300002
/-- MAC_DISCARDS -/
abbrev macDiscards : Nat := 0x300003
/-- BEACON_PERIOD -/
abbrev beaconPeriod : Nat := 0x340001
/-- CYCLE -/
abbrev cycle : Nat := 0x340002
/-- BEACON_TTL -/
abbrev beaconTtl : Nat := 0x340003
/-- POLL_BURST -/
abbrev pollBurst : Nat := 0x340004
/-- POLL_XCH -/
abbrev pollXch : Nat := 0x340005
/-- RSP_WIN -/
abbrev rspWin : Nat := 0x340006
/-- POLL_MISS -/
abbrev pollMiss : Nat := 0x340007
/-- LAST_HASH -/
abbrev lastHash : Nat := 0x340008
/-- POLL_HASH -/
abbrev pollHash : Nat := 0x340009
/-- POLL_SEL -/
abbrev pollSel : Nat := 0x340010
/-- POLL_ATTR -/
abbrev pollAttr : Nat := 0x340011
/-- AIR_DREQ -/
abbrev airDreq : Nat := 0x340012
/-- AIR_DRSP -/
abbrev airDrsp : Nat := 0x340013
/-- ADM_EN -/
abbrev admEn : Nat := 0x350001
/-- JSTART -/
abbrev jstart : Nat := 0x350002
/-- JSLOTS -/
abbrev jslots : Nat := 0x350003
/-- JLEN -/
abbrev jlen : Nat := 0x350004
/-- JOIN_COUNT -/
abbrev joinCount : Nat := 0x350005
/-- JOIN_SEL -/
abbrev joinSel : Nat := 0x350010
/-- JOIN_INFO -/
abbrev joinInfo : Nat := 0x350011
/-- SW_TTL -/
abbrev swTtl : Nat := 0x360001
/-- SW_SUPPRESS -/
abbrev swSuppress : Nat := 0x360002
/-- SW_EN -/
abbrev swEn : Nat := 0x360003
/-- FACK_WAIT -/
abbrev fackWait : Nat := 0x360004
/-- SEEN_USED -/
abbrev seenUsed : Nat := 0x360005
/-- SW_RELAYED -/
abbrev swRelayed : Nat := 0x360006
/-- SW_SUPPRESSED -/
abbrev swSuppressed : Nat := 0x360007
/-- SW_DROPS -/
abbrev swDrops : Nat := 0x360008
/-- TB_REF -/
abbrev tbRef : Nat := 0x37000C
/-- TB_DEPTH -/
abbrev tbDepth : Nat := 0x37000D
/-- DEF_ATTR -/
abbrev defAttr : Nat := 0x400001
/-- Q_MAXLEN -/
abbrev qMaxlen : Nat := 0x400002
/-- AIR_RESERVE -/
abbrev airReserve : Nat := 0x400003
/-- XS_LOW -/
abbrev xsLow : Nat := 0x400004
/-- XS_EN -/
abbrev xsEn : Nat := 0x400010
/-- XS_SIZE -/
abbrev xsSize : Nat := 0x400011
/-- XS_RDCMD -/
abbrev xsRdcmd : Nat := 0x400012
/-- XS_WRCMD -/
abbrev xsWrcmd : Nat := 0x400013
/-- XS_LAT -/
abbrev xsLat : Nat := 0x400014
/-- NOTICES -/
abbrev notices : Nat := 0x410001
/-- QTO_G0–QTO_G15 -/
abbrev qtoG : Nat := 0x420001
/-- FREE_PAIRS -/
abbrev freePairs : Nat := 0x430001
/-- FREE_SINGLES -/
abbrev freeSingles : Nat := 0x430002
/-- XS_FREE -/
abbrev xsFree : Nat := 0x430003
/-- STONES_USED -/
abbrev stonesUsed : Nat := 0x430004
/-- EVICTIONS -/
abbrev evictions : Nat := 0x430005
/-- EVB_HITS -/
abbrev evbHits : Nat := 0x430006
/-- REISSUES -/
abbrev reissues : Nat := 0x430007
/-- AIR_REFUSED -/
abbrev airRefused : Nat := 0x430008
/-- PUSH_FULL -/
abbrev pushFull : Nat := 0x430009
/-- FRAMES_LOST -/
abbrev framesLost : Nat := 0x43000A
/-- OVERSIZE -/
abbrev oversize : Nat := 0x43000B
/-- Q_SEL -/
abbrev qSel : Nat := 0x440001
/-- Q_ATTR -/
abbrev qAttr : Nat := 0x440002
/-- Q_IN_COUNT -/
abbrev qInCount : Nat := 0x440003
/-- Q_OUT_COUNT -/
abbrev qOutCount : Nat := 0x440004
/-- Q_ACC_SEQ -/
abbrev qAccSeq : Nat := 0x440005
/-- Q_WHERE -/
abbrev qWhere : Nat := 0x440006
/-- Q_PURGE -/
abbrev qPurge : Nat := 0x440007
/-- JRN_STAGED -/
abbrev jrnStaged : Nat := 0x700001
/-- JRN_STALLS -/
abbrev jrnStalls : Nat := 0x700002
/-- JRN_LIVE -/
abbrev jrnLive : Nat := 0x700003
/-- PF_COMMITS -/
abbrev pfCommits : Nat := 0x700004
/-- PF_LAST_US -/
abbrev pfLastUs : Nat := 0x700005
/-- PF_END_MV -/
abbrev pfEndMv : Nat := 0x700006
/-- SEQ_EPOCH -/
abbrev seqEpoch : Nat := 0x700007
/-- LEDGER_DIRTY -/
abbrev ledgerDirty : Nat := 0x740001
/-- LEDGER_DIRTY_MAX -/
abbrev ledgerDirtyMax : Nat := 0x740002
/-- DUPLICATES -/
abbrev duplicates : Nat := 0x740003
/-- LEDGER_FULL -/
abbrev ledgerFull : Nat := 0x740004
/-- LEDGER_WIN -/
abbrev ledgerWin : Nat := 0x740005
/-- LEDGER_CLEAR -/
abbrev ledgerClear : Nat := 0x740006
/-- MORTAR_STATE -/
abbrev mortarState : Nat := 0x700010
/-- MOUNT_US -/
abbrev mountUs : Nat := 0x700011
/-- SECTORS_USABLE -/
abbrev sectorsUsable : Nat := 0x700012
/-- SPARES_MORTAR -/
abbrev sparesMortar : Nat := 0x700013
/-- ERASE_MAX -/
abbrev eraseMax : Nat := 0x700014
/-- ERASE_MIN -/
abbrev eraseMin : Nat := 0x700015
/-- LIVE_BYTES -/
abbrev liveBytes : Nat := 0x700016
/-- PREPARED -/
abbrev prepared : Nat := 0x700017
/-- REFRESHES -/
abbrev refreshes : Nat := 0x700018
/-- RETIRED -/
abbrev retired : Nat := 0x700019
/-- SCAN_DAYS -/
abbrev scanDays : Nat := 0x70001A
/-- HOT_RECORDS -/
abbrev hotRecords : Nat := 0x70001B
/-- WRITE_STALLS -/
abbrev writeStalls : Nat := 0x70001C
/-- COPY_REPAIRS -/
abbrev copyRepairs : Nat := 0x70001D
/-- TIME -/
abbrev time : Nat := 0x500001
/-- NTIME -/
abbrev ntime : Nat := 0x500002
/-- SNAP_CMD -/
abbrev snapCmd : Nat := 0x500003
/-- SNAP_SEQ -/
abbrev snapSeq : Nat := 0x500004
/-- SNAP_TIME -/
abbrev snapTime : Nat := 0x500005
/-- SNAP_NTIME -/
abbrev snapNtime : Nat := 0x500006
/-- SNAP_CNT -/
abbrev snapCnt : Nat := 0x500007
/-- TRIG_LOST -/
abbrev trigLost : Nat := 0x500008
/-- SKIPS -/
abbrev skips : Nat := 0x500009
/-- STAGGER -/
abbrev stagger : Nat := 0x50000A
/-- CMP_STAT -/
abbrev cmpStat : Nat := 0x50000B
/-- CMP_CFG0–15 -/
abbrev cmpCfg : Nat := 0x500010
/-- CMP_VAL0–15 -/
abbrev cmpVal : Nat := 0x500020
/-- CMP_PERIOD0–15 -/
abbrev cmpPeriod : Nat := 0x500030
/-- CAPP_CFG0–7 -/
abbrev cappCfg : Nat := 0x500040
/-- CAPS_CFG0–3 -/
abbrev capsCfg : Nat := 0x500048
/-- CAPP_VAL0–7 -/
abbrev cappVal : Nat := 0x500050
/-- CAPS_VAL0–3 -/
abbrev capsVal : Nat := 0x500058
/-- CNT_CFG0–7 -/
abbrev cntCfg : Nat := 0x500060
/-- CNT0–7 -/
abbrev cnt : Nat := 0x500068
/-- PULSE_CFG0–7 -/
abbrev pulseCfg : Nat := 0x580001
/-- PULSE_SAMPLE -/
abbrev pulseSample : Nat := 0x580009
/-- LINE_CONFIRM -/
abbrev lineConfirm : Nat := 0x58000A
/-- LINE_STATE0–7 -/
abbrev lineState : Nat := 0x580010
/-- LINE_CODES0–7 -/
abbrev lineCodes : Nat := 0x580018
/-- LINE_INDET -/
abbrev lineIndet : Nat := 0x580020
/-- PULSE_RESTORE -/
abbrev pulseRestore : Nat := 0x580021
/-- CKPT_SEQ -/
abbrev ckptSeq : Nat := 0x580022
/-- ADC_SEQ0–15 -/
abbrev adcSeq : Nat := 0x580030
/-- ADC_SEQ_LEN -/
abbrev adcSeqLen : Nat := 0x580040
/-- ADC_CMD -/
abbrev adcCmd : Nat := 0x580041
/-- ADC_OVERRUN -/
abbrev adcOverrun : Nat := 0x580042
/-- ADC_LAST -/
abbrev adcLast : Nat := 0x580043
/-- HOD_CFG0–7 -/
abbrev hodCfg : Nat := 0x580050
/-- HOD_QUEUE0–7 -/
abbrev hodQueue : Nat := 0x580058
/-- HOD_DROPS -/
abbrev hodDrops : Nat := 0x580060
/-- BG_FAULTS -/
abbrev bgFaults : Nat := 0x900001
/-- SCRUB_PASS -/
abbrev scrubPass : Nat := 0x900002
/-- ECC_CORRECTED -/
abbrev eccCorrected : Nat := 0x900003
/-- ECC_UNCORRECTED -/
abbrev eccUncorrected : Nat := 0x900004
/-- ROW_LIMIT -/
abbrev rowLimit : Nat := 0x900005
/-- BIST_INT -/
abbrev bistInt : Nat := 0x900006
/-- BIST_FAILS -/
abbrev bistFails : Nat := 0x900007
/-- BIST_SKIPS -/
abbrev bistSkips : Nat := 0x900008
/-- TELEM_PERIOD -/
abbrev telemPeriod : Nat := 0x900009
/-- TEMP_MIN -/
abbrev tempMin : Nat := 0x90000A
/-- TEMP_MAX -/
abbrev tempMax : Nat := 0x90000B
/-- VIN_MIN -/
abbrev vinMin : Nat := 0x90000C
/-- VHOLD_MIN -/
abbrev vholdMin : Nat := 0x90000D
/-- TELEM_CLEAR -/
abbrev telemClear : Nat := 0x90000E
/-- REPAIR_COUNT -/
abbrev repairCount : Nat := 0x900010
/-- REPAIR_MAP -/
abbrev repairMap : Nat := 0x900011
/-- MAP_GEN -/
abbrev mapGen : Nat := 0x900012
/-- BANK_SPARES -/
abbrev bankSpares : Nat := 0x900013
/-- ROW_SPARES_USED -/
abbrev rowSparesUsed : Nat := 0x900014
/-- SLICES_OK -/
abbrev slicesOk : Nat := 0x900015
/-- FACTORY_REPAIRS -/
abbrev factoryRepairs : Nat := 0x900016
/-- MAP_UNSAVED -/
abbrev mapUnsaved : Nat := 0x900017
/-- ELOG_SEL -/
abbrev elogSel : Nat := 0x900018
/-- ELOG_ENTRY -/
abbrev elogEntry : Nat := 0x900019
/-- ELOG_NEXT -/
abbrev elogNext : Nat := 0x90001A
/-- KEY0–KEY7 -/
abbrev key : Nat := 0x800001
/-- KEY_USE0–7 -/
abbrev keyUse : Nat := 0x800010
/-- KEY_KCV0–7 -/
abbrev keyKcv : Nat := 0x800018
/-- TX_SLOT -/
abbrev txSlot : Nat := 0x800020
/-- TX_MIC -/
abbrev txMic : Nat := 0x800021
/-- RX_REQUIRE -/
abbrev rxRequire : Nat := 0x800022
/-- TX_FCNT -/
abbrev txFcnt : Nat := 0x800023
/-- SEC_FAIL_MIC -/
abbrev secFailMic : Nat := 0x800024
/-- SEC_FAIL_REPLAY -/
abbrev secFailReplay : Nat := 0x800025
/-- SEC_FAIL_POLICY -/
abbrev secFailPolicy : Nat := 0x800026
/-- SEC_DENIED -/
abbrev secDenied : Nat := 0x800027
/-- FP_WRITE_LOCK -/
abbrev fpWriteLock : Nat := 0x800028
/-- DECOMMISSION -/
abbrev decommission : Nat := 0x800029
/-- DECOM_COUNT -/
abbrev decomCount : Nat := 0x80002A
/-- RX_WIN0 -/
abbrev rxWin0 : Nat := 0x80002B

end K

def rows0 : List Row := [
  ⟨0x1010, 0x01, 1, .u8, .rwc, 1, .listed [1, 2, 3], none⟩,
  ⟨0x1010, 0x02, 1, .u8, .ro, 1, .any, none⟩,
  ⟨0x1200, 0x01, 1, .u32, .rwp, 0, .any, none⟩,
  ⟨0x1200, 0x02, 1, .u32, .rwp, 0, .any, some 0xFFFF⟩,
  ⟨0x1200, 0x03, 1, .u32, .rwp, 0x555555, .any, some 0xFFFFFF⟩,
  ⟨0x1200, 0x04, 1, .u32, .rwp, 0, .any, some 0xFFFFFF⟩,
  ⟨0x1200, 0x05, 1, .u32, .rwp, 0, .any, some 0xFFF⟩,
  ⟨0x1200, 0x06, 1, .u32, .rwp, 0, .any, some 0xFFF⟩,
  ⟨0x1200, 0x07, 1, .u32, .rwp, 0, .any, some 0xFFF⟩,
  ⟨0x6400, 0x01, 1, .u8, .wo, 0, .any, none⟩,
  ⟨0x6400, 0x02, 1, .u8, .ro, 4, .any, none⟩,
  ⟨0x6400, 0x03, 1, .u16, .rwp, 0x61, .any, some 0x7F⟩,
  ⟨0x6400, 0x04, 1, .u8, .rwp, 0x18, .between 0 74, none⟩,
  ⟨0x6400, 0x05, 1, .octets 17, .rwp, 0, .any, none⟩,
  ⟨0x6400, 0x06, 1, .octets 17, .ro, 0, .any, none⟩,
  ⟨0x6400, 0x07, 1, .u16, .ro, 0, .any, none⟩,
  ⟨0x6400, 0x08, 1, .u16, .ro, 0, .any, none⟩,
  ⟨0x6800, 0x01, 1, .u8, .ro, 0, .any, none⟩,
  ⟨0x6800, 0x02, 1, .i16, .ro, 0, .any, none⟩,
  ⟨0x6800, 0x03, 1, .u32, .ro, 0, .any, none⟩,
  ⟨0x6C00, 0x01, 1, .u8, .rwp, 0, .between 0 3, none⟩,
  ⟨0x6C00, 0x02, 1, .u8, .ro, 0, .any, none⟩,
  ⟨0x6C00, 0x03, 1, .bool, .rwp, 1, .any, none⟩,
  ⟨0x6C00, 0x04, 1, .u8, .ro, 0, .any, none⟩,
  ⟨0x6C00, 0x05, 1, .u32, .ro, 0, .any, none⟩,
  ⟨0x6C00, 0x06, 1, .u16, .ro, 0, .any, none⟩,
  ⟨0x6000, 0x01, 1, .u8, .w1, 8, .any, some 0x7F⟩,
  ⟨0x6000, 0x02, 1, .u32, .rwp, 0, .any, some 0x1FF⟩,
  ⟨0x6000, 0x03, 1, .u32, .rwp, 0, .any, some 0xFF⟩,
  ⟨0x6000, 0x04, 1, .u16, .ro, 0, .any, none⟩]

def rows1 : List Row := [
  ⟨0x6000, 0x05, 1, .u32, .ro, 0, .any, none⟩,
  ⟨0x6000, 0x10, 4, .u32, .rwp, 0, .any, some 0x1FFFFFF⟩,
  ⟨0x6000, 0x14, 1, .u8, .rwp, 0, .any, some 0xF⟩,
  ⟨0x3700, 0x01, 1, .u8, .rwp, 1, .between 0 1, none⟩,
  ⟨0x3700, 0x02, 1, .u8, .ro, 0, .any, none⟩,
  ⟨0x3700, 0x03, 1, .u16, .rwp, 0xFA, .between 10 10000, none⟩,
  ⟨0x3700, 0x04, 1, .u16, .rwp, 0x1F4, .any, none⟩,
  ⟨0x3700, 0x05, 1, .u8, .rwp, 3, .between 1 255, none⟩,
  ⟨0x3700, 0x06, 1, .i32, .rwp, 0, .any, none⟩,
  ⟨0x3700, 0x07, 1, .i32, .ro, 0, .any, none⟩,
  ⟨0x3700, 0x08, 1, .i32, .ro, 0, .any, none⟩,
  ⟨0x3700, 0x09, 1, .u32, .ro, 0x6666666, .any, none⟩,
  ⟨0x3700, 0x0A, 1, .u64, .ro, 0, .any, none⟩,
  ⟨0x3700, 0x0B, 1, .u8, .rwp, 3, .between 0 8, none⟩,
  ⟨0x1020, 0x01, 1, .u16, .ro, 0, .any, none⟩,
  ⟨0x1020, 0x02, 1, .u8, .ro, 0, .any, none⟩,
  ⟨0x1020, 0x03, 1, .u16, .rwp, 0x1F4, .between 0 10000, none⟩,
  ⟨0x1020, 0x04, 1, .u16, .rwp, 0x1F4, .between 1 10000, none⟩,
  ⟨0x1020, 0x05, 1, .u16, .ro, 0, .any, none⟩,
  ⟨0x1020, 0x06, 1, .u32, .wo, 0, .any, none⟩,
  ⟨0x1020, 0x07, 1, .u16, .rwp, 0x64, .between 10 1000, none⟩,
  ⟨0x1020, 0x08, 1, .u32, .ro, 0, .any, none⟩,
  ⟨0x1020, 0x09, 1, .u32, .ro, 0, .any, none⟩,
  ⟨0x1100, 0x01, 1, .bool, .rwp, 0, .any, none⟩,
  ⟨0x1100, 0x02, 1, .u8, .rwp, 7, .any, some 0x7⟩,
  ⟨0x1100, 0x03, 1, .u32, .ro, 0, .any, none⟩,
  ⟨0x1100, 0x10, 1, .u8, .rwp, 1, .between 1 247, none⟩,
  ⟨0x1100, 0x11, 1, .u8, .rwp, 4, .between 0 8, none⟩,
  ⟨0x1100, 0x12, 1, .u8, .rwp, 0, .between 0 2, none⟩,
  ⟨0x1100, 0x13, 1, .u8, .ro, 0, .any, none⟩]

def rows2 : List Row := [
  ⟨0x1100, 0x14, 1, .u8, .rwp, 2, .between 0 7, none⟩,
  ⟨0x1100, 0x15, 1, .u32, .ro, 0, .any, none⟩,
  ⟨0x1000, 0x01, 1, .u16, .ro, 0xD1B4, .any, none⟩,
  ⟨0x1000, 0x02, 1, .u16, .ro, 0x6840, .any, none⟩,
  ⟨0x1000, 0x03, 1, .u8, .ro, 0, .any, none⟩,
  ⟨0x1000, 0x04, 1, .u64, .ro, 0, .any, none⟩,
  ⟨0x1000, 0x05, 1, .u32, .ro, 0, .any, none⟩,
  ⟨0x1000, 0x06, 1, .vstring 32, .rwp, 0, .any, none⟩,
  ⟨0x1030, 0x01, 1, .u8, .ro, 0, .any, none⟩,
  ⟨0x1030, 0x02, 1, .u8, .wo, 0, .any, none⟩,
  ⟨0x1030, 0x03, 1, .u32, .ro, 0, .any, none⟩,
  ⟨0x1030, 0x04, 1, .u32, .ro, 0, .any, none⟩,
  ⟨0x1040, 0x01, 1, .u32, .wo, 0, .any, none⟩,
  ⟨0x1040, 0x02, 1, .u16, .ro, 0, .any, none⟩,
  ⟨0x1040, 0x03, 1, .u32, .ro, 0, .any, none⟩,
  ⟨0x1050, 0x01, 1, .u32, .rwp, 0xFFFFFE, .any, some 0xFFFFFE⟩,
  ⟨0x1060, 0x02, 1, .bool, .rw, 0, .between 0 0, none⟩,
  ⟨0xA000, 0x01, 1, .u8, .rwp, 0xF, .listed [0, 1, 2, 3, 4, 5, 6, 7, 15], none⟩,
  ⟨0xA000, 0x02, 1, .u8, .wo, 0, .any, none⟩,
  ⟨0xA000, 0x03, 1, .u8, .ro, 0xF, .any, none⟩,
  ⟨0xA000, 0x04, 1, .u8, .ro, 0xFF, .any, none⟩,
  ⟨0xA000, 0x05, 1, .u32, .ro, 0, .any, none⟩,
  ⟨0xA000, 0x08, 8, .u16, .rwp, 0, .any, some 0x80FF⟩,
  ⟨0xA100, 0x01, 1, .upTo 250, .wo, 0, .any, none⟩,
  ⟨0xA101, 0x01, 1, .upTo 250, .wo, 0, .any, none⟩,
  ⟨0xA102, 0x01, 1, .upTo 250, .wo, 0, .any, none⟩,
  ⟨0xA103, 0x01, 1, .upTo 250, .wo, 0, .any, none⟩,
  ⟨0xA104, 0x01, 1, .upTo 250, .wo, 0, .any, none⟩,
  ⟨0xA105, 0x01, 1, .upTo 250, .wo, 0, .any, none⟩,
  ⟨0xA106, 0x01, 1, .upTo 250, .wo, 0, .any, none⟩]

def rows3 : List Row := [
  ⟨0xA107, 0x01, 1, .upTo 250, .wo, 0, .any, none⟩,
  ⟨0xA100, 0x02, 1, .u32, .wo, 0, .any, none⟩,
  ⟨0xA101, 0x02, 1, .u32, .wo, 0, .any, none⟩,
  ⟨0xA102, 0x02, 1, .u32, .wo, 0, .any, none⟩,
  ⟨0xA103, 0x02, 1, .u32, .wo, 0, .any, none⟩,
  ⟨0xA104, 0x02, 1, .u32, .wo, 0, .any, none⟩,
  ⟨0xA105, 0x02, 1, .u32, .wo, 0, .any, none⟩,
  ⟨0xA106, 0x02, 1, .u32, .wo, 0, .any, none⟩,
  ⟨0xA107, 0x02, 1, .u32, .wo, 0, .any, none⟩,
  ⟨0xA100, 0x03, 1, .u8, .ro, 0, .any, none⟩,
  ⟨0xA101, 0x03, 1, .u8, .ro, 0, .any, none⟩,
  ⟨0xA102, 0x03, 1, .u8, .ro, 0, .any, none⟩,
  ⟨0xA103, 0x03, 1, .u8, .ro, 0, .any, none⟩,
  ⟨0xA104, 0x03, 1, .u8, .ro, 0, .any, none⟩,
  ⟨0xA105, 0x03, 1, .u8, .ro, 0, .any, none⟩,
  ⟨0xA106, 0x03, 1, .u8, .ro, 0, .any, none⟩,
  ⟨0xA107, 0x03, 1, .u8, .ro, 0, .any, none⟩,
  ⟨0xA100, 0x04, 1, .u32, .ro, 0, .any, none⟩,
  ⟨0xA101, 0x04, 1, .u32, .ro, 0, .any, none⟩,
  ⟨0xA102, 0x04, 1, .u32, .ro, 0, .any, none⟩,
  ⟨0xA103, 0x04, 1, .u32, .ro, 0, .any, none⟩,
  ⟨0xA104, 0x04, 1, .u32, .ro, 0, .any, none⟩,
  ⟨0xA105, 0x04, 1, .u32, .ro, 0, .any, none⟩,
  ⟨0xA106, 0x04, 1, .u32, .ro, 0, .any, none⟩,
  ⟨0xA107, 0x04, 1, .u32, .ro, 0, .any, none⟩,
  ⟨0x1060, 0x01, 1, .u8, .w1, 0, .between 0 3, none⟩,
  ⟨0x2000, 0x01, 1, .u32, .rwp, 0x33CB1FF0, .any, none⟩,
  ⟨0x2000, 0x02, 1, .u32, .rwp, 0x33CB1FF0, .any, none⟩,
  ⟨0x2000, 0x03, 1, .u32, .ro, 0, .any, none⟩,
  ⟨0x2000, 0x04, 1, .u16, .ro, 0, .any, none⟩]

def rows4 : List Row := [
  ⟨0x2000, 0x05, 1, .u32, .ro, 0, .any, none⟩,
  ⟨0x2100, 0x01, 1, .u8, .rwp, 2, .between 0 3, none⟩,
  ⟨0x2100, 0x02, 1, .u8, .ro, 3, .any, none⟩,
  ⟨0x2100, 0x03, 1, .u32, .ro, 0, .any, none⟩,
  ⟨0x2100, 0x04, 1, .u32, .ro, 0, .any, none⟩,
  ⟨0x2100, 0x05, 1, .u8, .ro, 2, .any, none⟩,
  ⟨0x2100, 0x06, 1, .bool, .rwc, 1, .any, none⟩,
  ⟨0x2180, 0x01, 1, .u8, .rwp, 0, .between 0 1, none⟩,
  ⟨0x2180, 0x02, 1, .u8, .rwp, 0x28, .between 0 72, none⟩,
  ⟨0x2200, 0x01, 1, .u8, .rwp, 0x30, .between 0 60, none⟩,
  ⟨0x2200, 0x02, 1, .u8, .rwp, 0x3C, .between 0 60, none⟩,
  ⟨0x2200, 0x03, 1, .u8, .rwp, 2, .between 0 4, none⟩,
  ⟨0x2200, 0x04, 1, .u8, .ro, 0, .any, none⟩,
  ⟨0x2200, 0x05, 1, .u16, .ro, 4, .any, none⟩,
  ⟨0x2200, 0x06, 1, .u32, .ro, 0, .any, none⟩,
  ⟨0x2800, 0x01, 1, .i16, .ro, 0, .any, none⟩,
  ⟨0x2800, 0x02, 1, .i16, .ro, 0, .any, none⟩,
  ⟨0x2800, 0x03, 1, .i16, .ro, 0, .any, none⟩,
  ⟨0x2800, 0x04, 1, .i16, .ro, 0, .any, none⟩,
  ⟨0x2800, 0x05, 1, .i16, .ro, 0xFF10, .any, none⟩,
  ⟨0x2800, 0x06, 1, .i16, .ro, 0xFF10, .any, none⟩,
  ⟨0x2800, 0x07, 1, .u8, .ro, 0, .any, none⟩,
  ⟨0x2400, 0x01, 1, .u8, .rwp, 3, .between 0 4, none⟩,
  ⟨0x2400, 0x02, 1, .u8, .rwp, 2, .between 0 5, none⟩,
  ⟨0x2400, 0x03, 1, .u8, .rwp, 0, .between 0 63, none⟩,
  ⟨0x2400, 0x04, 1, .u16, .rwp, 0xF9AC, .any, none⟩,
  ⟨0x2400, 0x05, 1, .u8, .rwp, 1, .between 0 3, none⟩,
  ⟨0x2400, 0x06, 1, .u8, .rwp, 0x10, .between 8 64, none⟩,
  ⟨0x2400, 0x07, 1, .i32, .ro, 0, .any, none⟩,
  ⟨0x2400, 0x08, 1, .i16, .ro, 0, .any, none⟩]

def rows5 : List Row := [
  ⟨0x2400, 0x09, 1, .u8, .rwp, 4, .between 2 8, none⟩,
  ⟨0x2400, 0x0A, 1, .u8, .rwp, 0xC, .between 0 40, none⟩,
  ⟨0x2500, 0x01, 1, .u32, .ro, 0, .any, none⟩,
  ⟨0x2500, 0x02, 1, .u8, .ro, 2, .any, none⟩,
  ⟨0x2500, 0x03, 1, .u32, .ro, 0, .any, none⟩,
  ⟨0x2500, 0x04, 1, .u32, .ro, 0, .any, none⟩,
  ⟨0x2500, 0x07, 1, .octets 32, .ro, 0, .any, none⟩,
  ⟨0x2500, 0x10, 32, .u16, .rwp, 0, .any, some 0x970F⟩,
  ⟨0x2600, 0x01, 1, .u8, .rwp, 1, .between 0 2, none⟩,
  ⟨0x2600, 0x02, 1, .bool, .rwp, 1, .any, none⟩,
  ⟨0x2600, 0x03, 1, .u8, .rwp, 4, .between 2 8, none⟩,
  ⟨0x2600, 0x04, 1, .u8, .rwp, 0xA0, .between 64 240, none⟩,
  ⟨0x2600, 0x05, 1, .i16, .ro, 0, .any, none⟩,
  ⟨0x2600, 0x06, 1, .u32, .ro, 0, .any, none⟩,
  ⟨0x2700, 0x01, 1, .u32, .ro, 0, .any, none⟩,
  ⟨0x2700, 0x02, 1, .u32, .ro, 0, .any, none⟩,
  ⟨0x2700, 0x03, 1, .u16, .ro, 0, .any, none⟩,
  ⟨0x2700, 0x04, 1, .u16, .ro, 0, .any, none⟩,
  ⟨0x2700, 0x05, 1, .u32, .ro, 0, .any, none⟩,
  ⟨0x3100, 0x01, 1, .u8, .wo, 0, .any, none⟩,
  ⟨0x3100, 0x02, 1, .u8, .ro, 0, .any, none⟩,
  ⟨0x3100, 0x03, 1, .u16, .rw, 0, .any, none⟩,
  ⟨0x3100, 0x08, 1, .bool, .rwp, 1, .any, none⟩,
  ⟨0x3100, 0x09, 1, .u16, .rwp, 0x1388, .between 128 20000, none⟩,
  ⟨0x3100, 0x0A, 1, .u8, .rwp, 0xA, .between 0 40, none⟩,
  ⟨0x3100, 0x0B, 1, .u8, .rwp, 0x14, .between 0 60, none⟩,
  ⟨0x3100, 0x0C, 1, .i16, .rwp, 0xFF1A, .any, none⟩,
  ⟨0x3100, 0x0D, 1, .i16, .rwp, 0xFF56, .any, none⟩,
  ⟨0x3100, 0x0E, 1, .u16, .rwp, 0x3E8, .between 100 10000, none⟩,
  ⟨0x3100, 0x0F, 1, .u8, .rwp, 0x20, .between 1 255, none⟩]

def rows6 : List Row := [
  ⟨0x3100, 0x10, 1, .u8, .rwp, 8, .between 1 16, none⟩,
  ⟨0x3100, 0x11, 1, .u8, .rwp, 3, .any, some 0xF⟩,
  ⟨0x3100, 0x12, 1, .i16, .ro, 0xFF24, .any, none⟩,
  ⟨0x3100, 0x13, 1, .i16, .ro, 0xFF24, .any, none⟩,
  ⟨0x3100, 0x14, 1, .u32, .ro, 0, .any, none⟩,
  ⟨0x3100, 0x15, 1, .u16, .rwp, 0x3E8, .any, none⟩,
  ⟨0x3100, 0x20, 8, .u32, .rwp, 0, .any, none⟩,
  ⟨0x3100, 0x28, 8, .u32, .rwp, 0, .any, none⟩,
  ⟨0x3100, 0x30, 8, .u32, .rwp, 0, .any, none⟩,
  ⟨0x3100, 0x38, 8, .u32, .ro, 0, .any, none⟩,
  ⟨0x3100, 0x40, 1, .u32, .ro, 0, .any, none⟩,
  ⟨0x3200, 0x01, 1, .u16, .rwp, 0xFA, .between 20 10000, none⟩,
  ⟨0x3200, 0x02, 1, .u16, .rwp, 0x7D0, .between 1000 8000, none⟩,
  ⟨0x3200, 0x03, 1, .u8, .rwp, 0, .between 0 5, none⟩,
  ⟨0x3200, 0x04, 1, .u16, .rwp, 0x12C, .between 10 2000, none⟩,
  ⟨0x3200, 0x05, 1, .u32, .ro, 0, .any, none⟩,
  ⟨0x3200, 0x06, 1, .u32, .ro, 0, .any, none⟩,
  ⟨0x3200, 0x07, 1, .u16, .rwp, 0xFA, .any, none⟩,
  ⟨0x3300, 0x01, 1, .u8, .rwp, 0, .between 0 5, none⟩,
  ⟨0x3300, 0x02, 1, .u8, .rwp, 0x14, .between 5 100, none⟩,
  ⟨0x3300, 0x03, 1, .u32, .ro, 0, .any, none⟩,
  ⟨0x3300, 0x04, 1, .u32, .ro, 0, .any, none⟩,
  ⟨0x3300, 0x05, 1, .u32, .ro, 0, .any, none⟩,
  ⟨0x3000, 0x01, 1, .u16, .rwc, 0, .between 0 65534, none⟩,
  ⟨0x3000, 0x02, 1, .bool, .ro, 0, .any, none⟩,
  ⟨0x3000, 0x03, 1, .u32, .ro, 0, .any, none⟩,
  ⟨0x3400, 0x01, 1, .u16, .rwp, 0x3E8, .between 250 60000, none⟩,
  ⟨0x3400, 0x02, 1, .u32, .ro, 0, .any, none⟩,
  ⟨0x3400, 0x03, 1, .u8, .rwp, 4, .between 1 15, none⟩,
  ⟨0x3400, 0x04, 1, .u8, .rwp, 4, .between 1 16, none⟩]

def rows7 : List Row := [
  ⟨0x3400, 0x05, 1, .u16, .rwp, 0x2BC, .any, none⟩,
  ⟨0x3400, 0x06, 1, .u8, .rwp, 0x14, .between 5 100, none⟩,
  ⟨0x3400, 0x07, 1, .u32, .ro, 0, .any, none⟩,
  ⟨0x3400, 0x08, 1, .u32, .ro, 0, .any, none⟩,
  ⟨0x3400, 0x09, 1, .u32, .ro, 0, .any, none⟩,
  ⟨0x3400, 0x10, 1, .u16, .rw, 1, .between 1 65535, none⟩,
  ⟨0x3400, 0x11, 1, .u8, .rwp, 0, .any, some 0x7F⟩,
  ⟨0x3400, 0x12, 1, .vstring 242, .wo, 0, .any, none⟩,
  ⟨0x3400, 0x13, 1, .vstring 242, .ro, 0, .any, none⟩,
  ⟨0x3500, 0x01, 1, .bool, .rwp, 1, .any, none⟩,
  ⟨0x3500, 0x02, 1, .u16, .rwp, 0xC8, .any, none⟩,
  ⟨0x3500, 0x03, 1, .u8, .rwp, 0x10, .between 1 64, none⟩,
  ⟨0x3500, 0x04, 1, .u8, .rwp, 0x28, .any, none⟩,
  ⟨0x3500, 0x05, 1, .u32, .ro, 0, .any, none⟩,
  ⟨0x3500, 0x10, 1, .u16, .rw, 1, .between 1 65534, none⟩,
  ⟨0x3500, 0x11, 1, .octets 16, .ro, 0, .any, none⟩,
  ⟨0x3600, 0x01, 1, .u8, .rwp, 4, .between 1 15, none⟩,
  ⟨0x3600, 0x02, 1, .u8, .rwp, 2, .between 1 8, none⟩,
  ⟨0x3600, 0x03, 1, .bool, .rwp, 1, .any, none⟩,
  ⟨0x3600, 0x04, 1, .u16, .rwp, 0x7D0, .between 100 60000, none⟩,
  ⟨0x3600, 0x05, 1, .u16, .ro, 0, .any, none⟩,
  ⟨0x3600, 0x06, 1, .u32, .ro, 0, .any, none⟩,
  ⟨0x3600, 0x07, 1, .u32, .ro, 0, .any, none⟩,
  ⟨0x3600, 0x08, 1, .u32, .ro, 0, .any, none⟩,
  ⟨0x3700, 0x0C, 1, .u16, .ro, 0, .any, none⟩,
  ⟨0x3700, 0x0D, 1, .u8, .ro, 0, .any, none⟩,
  ⟨0x4000, 0x01, 1, .u16, .rwp, 0x21, .any, some 0xF3F⟩,
  ⟨0x4000, 0x02, 1, .u16, .rwp, 0x3FF, .between 1 1023, none⟩,
  ⟨0x4000, 0x03, 1, .u16, .rwp, 0x400, .between 0 16384, none⟩,
  ⟨0x4000, 0x04, 1, .u8, .rwp, 0x19, .between 0 100, none⟩]

def rows8 : List Row := [
  ⟨0x4000, 0x10, 1, .bool, .rwc, 0, .any, none⟩,
  ⟨0x4000, 0x11, 1, .u8, .rwc, 0, .between 0 4, none⟩,
  ⟨0x4000, 0x12, 1, .u16, .rwc, 0, .any, none⟩,
  ⟨0x4000, 0x13, 1, .u16, .rwc, 0, .any, none⟩,
  ⟨0x4000, 0x14, 1, .u8, .rwc, 0, .any, none⟩,
  ⟨0x4100, 0x01, 1, .u32, .ro, 0, .any, none⟩,
  ⟨0x4200, 0x01, 16, .u16, .rwp, 0, .any, none⟩,
  ⟨0x4300, 0x01, 1, .u32, .ro, 0xBC00, .any, none⟩,
  ⟨0x4300, 0x02, 1, .u32, .ro, 0x17800, .any, none⟩,
  ⟨0x4300, 0x03, 1, .u32, .ro, 0, .any, none⟩,
  ⟨0x4300, 0x04, 1, .u16, .ro, 0, .any, none⟩,
  ⟨0x4300, 0x05, 1, .u32, .ro, 0, .any, none⟩,
  ⟨0x4300, 0x06, 1, .u32, .ro, 0, .any, none⟩,
  ⟨0x4300, 0x07, 1, .u32, .ro, 0, .any, none⟩,
  ⟨0x4300, 0x08, 1, .u32, .ro, 0, .any, none⟩,
  ⟨0x4300, 0x09, 1, .u32, .ro, 0, .any, none⟩,
  ⟨0x4300, 0x0A, 1, .u32, .ro, 0, .any, none⟩,
  ⟨0x4300, 0x0B, 1, .u32, .ro, 0, .any, none⟩,
  ⟨0x4400, 0x01, 1, .u16, .rw, 0, .any, none⟩,
  ⟨0x4400, 0x02, 1, .u16, .rwp, 0x21, .any, some 0x8F3F⟩,
  ⟨0x4400, 0x03, 1, .u16, .ro, 0, .any, none⟩,
  ⟨0x4400, 0x04, 1, .u16, .ro, 0, .any, none⟩,
  ⟨0x4400, 0x05, 1, .u32, .ro, 0, .any, none⟩,
  ⟨0x4400, 0x06, 1, .u8, .ro, 0, .any, none⟩,
  ⟨0x4400, 0x07, 1, .u32, .wo, 0, .any, none⟩,
  ⟨0x7000, 0x01, 1, .u16, .ro, 0, .any, none⟩,
  ⟨0x7000, 0x02, 1, .u32, .ro, 0, .any, none⟩,
  ⟨0x7000, 0x03, 1, .u32, .ro, 0, .any, none⟩,
  ⟨0x7000, 0x04, 1, .u32, .ro, 0, .any, none⟩,
  ⟨0x7000, 0x05, 1, .u16, .ro, 0, .any, none⟩]

def rows9 : List Row := [
  ⟨0x7000, 0x06, 1, .u16, .ro, 0, .any, none⟩,
  ⟨0x7000, 0x07, 1, .u16, .ro, 0, .any, none⟩,
  ⟨0x7400, 0x01, 1, .u16, .ro, 0, .any, none⟩,
  ⟨0x7400, 0x02, 1, .u8, .rwp, 0x40, .between 16 128, none⟩,
  ⟨0x7400, 0x03, 1, .u32, .ro, 0, .any, none⟩,
  ⟨0x7400, 0x04, 1, .u32, .ro, 0, .any, none⟩,
  ⟨0x7400, 0x05, 1, .octets 8, .ro, 0, .any, none⟩,
  ⟨0x7400, 0x06, 1, .u32, .wo, 0, .any, none⟩,
  ⟨0x7000, 0x10, 1, .u8, .ro, 0, .any, none⟩,
  ⟨0x7000, 0x11, 1, .u32, .ro, 0, .any, none⟩,
  ⟨0x7000, 0x12, 1, .u16, .ro, 0, .any, none⟩,
  ⟨0x7000, 0x13, 1, .u8, .ro, 8, .any, none⟩,
  ⟨0x7000, 0x14, 1, .u16, .ro, 0, .any, none⟩,
  ⟨0x7000, 0x15, 1, .u16, .ro, 0, .any, none⟩,
  ⟨0x7000, 0x16, 1, .u32, .ro, 0, .any, none⟩,
  ⟨0x7000, 0x17, 1, .u16, .ro, 0, .any, none⟩,
  ⟨0x7000, 0x18, 1, .u32, .ro, 0, .any, none⟩,
  ⟨0x7000, 0x19, 1, .u8, .ro, 0, .any, none⟩,
  ⟨0x7000, 0x1A, 1, .u8, .rwp, 7, .between 1 30, none⟩,
  ⟨0x7000, 0x1B, 1, .u16, .ro, 0, .any, none⟩,
  ⟨0x7000, 0x1C, 1, .u32, .ro, 0, .any, none⟩,
  ⟨0x7000, 0x1D, 1, .u32, .ro, 0, .any, none⟩,
  ⟨0x5000, 0x01, 1, .u64, .ro, 0, .any, none⟩,
  ⟨0x5000, 0x02, 1, .u64, .ro, 0, .any, none⟩,
  ⟨0x5000, 0x03, 1, .u8, .wo, 0, .any, none⟩,
  ⟨0x5000, 0x04, 1, .u32, .ro, 0, .any, none⟩,
  ⟨0x5000, 0x05, 1, .u64, .ro, 0, .any, none⟩,
  ⟨0x5000, 0x06, 1, .u64, .ro, 0, .any, none⟩,
  ⟨0x5000, 0x07, 1, .octets 16, .ro, 0, .any, none⟩,
  ⟨0x5000, 0x08, 1, .u32, .ro, 0, .any, none⟩]

def rows10 : List Row := [
  ⟨0x5000, 0x09, 1, .u32, .ro, 0, .any, none⟩,
  ⟨0x5000, 0x0A, 1, .octets 20, .wo, 0, .any, none⟩,
  ⟨0x5000, 0x0B, 1, .u32, .w1c, 0, .any, some 0xFFFFFFFF⟩,
  ⟨0x5000, 0x10, 16, .u32, .rwp, 0, .any, some 0xFF0F3F⟩,
  ⟨0x5000, 0x20, 16, .time48, .rw, 0, .any, none⟩,
  ⟨0x5000, 0x30, 16, .u32, .rw, 0, .any, none⟩,
  ⟨0x5000, 0x40, 8, .u32, .rwp, 0, .any, some 0xF9⟩,
  ⟨0x5000, 0x48, 4, .u32, .rwp, 0, .any, some 0xFF⟩,
  ⟨0x5000, 0x50, 8, .octets 16, .ro, 0, .any, none⟩,
  ⟨0x5000, 0x58, 4, .u32, .ro, 0, .any, none⟩,
  ⟨0x5000, 0x60, 8, .u32, .rwp, 0, .any, some 0xFFFFFF⟩,
  ⟨0x5000, 0x68, 8, .u16, .rw, 0, .any, none⟩,
  ⟨0x5800, 0x01, 8, .u8, .rwp, 0x30, .any, some 0xF3⟩,
  ⟨0x5800, 0x09, 1, .u8, .rwp, 0x20, .between 8 255, none⟩,
  ⟨0x5800, 0x0A, 1, .u8, .rwp, 2, .between 1 8, none⟩,
  ⟨0x5800, 0x10, 8, .u8, .ro, 0, .any, none⟩,
  ⟨0x5800, 0x18, 8, .u32, .ro, 0, .any, none⟩,
  ⟨0x5800, 0x20, 1, .u32, .ro, 0, .any, none⟩,
  ⟨0x5800, 0x21, 1, .u8, .ro, 0, .any, none⟩,
  ⟨0x5800, 0x22, 1, .u32, .ro, 0, .any, none⟩,
  ⟨0x5800, 0x30, 16, .u16, .rwp, 0, .any, some 0xFFF⟩,
  ⟨0x5800, 0x40, 1, .u8, .rwp, 1, .between 1 16, none⟩,
  ⟨0x5800, 0x41, 1, .u8, .wo, 0, .any, none⟩,
  ⟨0x5800, 0x42, 1, .u32, .ro, 0, .any, none⟩,
  ⟨0x5800, 0x43, 1, .octets 32, .ro, 0, .any, none⟩,
  ⟨0x5800, 0x50, 8, .u32, .rwp, 0, .any, some 0xFFFF1F77⟩,
  ⟨0x5800, 0x58, 8, .u16, .rwp, 0, .any, none⟩,
  ⟨0x5800, 0x60, 1, .u32, .ro, 0, .any, none⟩,
  ⟨0x9000, 0x01, 1, .u32, .ro, 0, .any, none⟩,
  ⟨0x9000, 0x02, 1, .u16, .rwp, 0xE10, .between 60 65535, none⟩]

def rows11 : List Row := [
  ⟨0x9000, 0x03, 1, .u32, .ro, 0, .any, none⟩,
  ⟨0x9000, 0x04, 1, .u32, .ro, 0, .any, none⟩,
  ⟨0x9000, 0x05, 1, .u8, .rwp, 3, .between 1 15, none⟩,
  ⟨0x9000, 0x06, 1, .u16, .rwp, 0x3C, .between 10 3600, none⟩,
  ⟨0x9000, 0x07, 1, .u32, .ro, 0, .any, none⟩,
  ⟨0x9000, 0x08, 1, .u32, .ro, 0, .any, none⟩,
  ⟨0x9000, 0x09, 1, .u16, .rwp, 0x3E8, .between 100 60000, none⟩,
  ⟨0x9000, 0x0A, 1, .i16, .ro, 0, .any, none⟩,
  ⟨0x9000, 0x0B, 1, .i16, .ro, 0, .any, none⟩,
  ⟨0x9000, 0x0C, 1, .u16, .ro, 0, .any, none⟩,
  ⟨0x9000, 0x0D, 1, .u16, .ro, 0, .any, none⟩,
  ⟨0x9000, 0x0E, 1, .u8, .wo, 0, .any, none⟩,
  ⟨0x9000, 0x10, 1, .u32, .ro, 0, .any, none⟩,
  ⟨0x9000, 0x11, 1, .octets 256, .ro, 0, .any, none⟩,
  ⟨0x9000, 0x12, 1, .u32, .ro, 0, .any, none⟩,
  ⟨0x9000, 0x13, 1, .u8, .ro, 4, .any, none⟩,
  ⟨0x9000, 0x14, 1, .u16, .ro, 0, .any, none⟩,
  ⟨0x9000, 0x15, 1, .u8, .ro, 0xFF, .any, none⟩,
  ⟨0x9000, 0x16, 1, .u16, .ro, 0, .any, none⟩,
  ⟨0x9000, 0x17, 1, .u8, .ro, 0, .any, none⟩,
  ⟨0x9000, 0x18, 1, .u8, .rw, 0, .between 0 63, none⟩,
  ⟨0x9000, 0x19, 1, .octets 20, .ro, 0, .any, none⟩,
  ⟨0x9000, 0x1A, 1, .u8, .ro, 0, .any, none⟩,
  ⟨0x8000, 0x01, 8, .octets 16, .w1, 0, .any, none⟩,
  ⟨0x8000, 0x10, 8, .u8, .w1, 0, .between 0 3, none⟩,
  ⟨0x8000, 0x18, 8, .u32, .ro, 0, .any, none⟩,
  ⟨0x8000, 0x20, 1, .u8, .rwp, 0xFF, .listed [0, 1, 2, 3, 4, 5, 6, 7, 255], none⟩,
  ⟨0x8000, 0x21, 1, .u8, .rwp, 2, .between 1 3, none⟩,
  ⟨0x8000, 0x22, 1, .bool, .rwp, 0, .any, none⟩,
  ⟨0x8000, 0x23, 1, .u32, .ro, 0, .any, none⟩]

def rows12 : List Row := [
  ⟨0x8000, 0x24, 1, .u32, .ro, 0, .any, none⟩,
  ⟨0x8000, 0x25, 1, .u32, .ro, 0, .any, none⟩,
  ⟨0x8000, 0x26, 1, .u32, .ro, 0, .any, none⟩,
  ⟨0x8000, 0x27, 1, .u32, .ro, 0, .any, none⟩,
  ⟨0x8000, 0x28, 1, .bool, .w1, 0, .any, none⟩,
  ⟨0x8000, 0x29, 1, .octets 16, .wo, 0, .any, none⟩,
  ⟨0x8000, 0x2A, 1, .u32, .ro, 0, .any, none⟩,
  ⟨0x8000, 0x2B, 1, .octets 9, .ro, 0, .any, none⟩]

/-- Every entry of the dictionary. -/
def table : List Row :=
  rows0 ++ rows1 ++ rows2 ++ rows3 ++ rows4 ++ rows5 ++ rows6 ++ rows7 ++ rows8 ++ rows9 ++ rows10 ++ rows11 ++ rows12

/-- The row of an index and subindex. -/
def rowOf (idx sub : Nat) : Option Row :=
  table.find? fun r => r.idx == idx && decide (r.sub ≤ sub) && decide (sub < r.sub + r.count)

/-- The manual defines the index. -/
def indexKnown (idx : Nat) : Bool := table.any fun r => r.idx == idx

/-- The length a value of the type has, or none where it may vary. -/
def Ty.length : Ty → Option Nat
  | .bool => some 1 | .u8 => some 1 | .u16 => some 2 | .u32 => some 4 | .u64 => some 8
  | .i16 => some 2 | .i32 => some 4 | .time48 => some 6
  | .octets n => some n | .upTo _ => none | .vstring _ => none

/-- R167: the length fits the type. -/
def Ty.fits (t : Ty) (len : Nat) : Bool :=
  match t with
  | .upTo n => decide (1 ≤ len) && decide (len ≤ n)
  | .vstring n => decide (len ≤ n)
  | t => t.length == some len

/-- The integer a value encodes. -/
def Ty.toInt (t : Ty) (b : Bytes) : Int :=
  match t with
  | .i16 => signed 16 (leNat b)
  | .i32 => signed 32 (leNat b)
  | _ => Int.ofNat (leNat b)

/-- R167: the value is in the entry's range; the rules that look beyond one number are judged elsewhere. -/
def Row.inRange (r : Row) (b : Bytes) : Bool :=
  let v := match r.mask with
    | some m => leNat b &&& m
    | none => leNat b
  (r.ty != .bool || decide (leNat b ≤ 1)) &&
  match r.range with
  | .any => true
  | .between lo hi =>
    let x := if r.mask.isSome then Int.ofNat v else r.ty.toInt b
    decide (lo ≤ x) && decide (x ≤ hi)
  | .listed l => l.contains v

/-- R4: the value with its reserved bits ignored. -/
def Row.keep (r : Row) (b : Bytes) : Bytes :=
  match r.mask with
  | some m => leBytes b.length (leNat b &&& m)
  | none => b

/-- LANE_MAPn by default (Table 9.4). -/
def laneMapDefault (n : Nat) : Nat :=
  let path := if n < 12 ∨ (24 ≤ n ∧ n < 28) then 0x8000 else 0x9000
  if n < 24 then path + 256 * (n % 12 / 2) + (if n % 2 = 0 then 0xF else 0)
  else path + 256 * (4 + n % 4 / 2) + (if n % 2 = 0 then 0xE else 1)

/-- The default of an entry of a run whose entries differ, else the row's own. -/
def runDefault (key : Nat) (dflt : Nat) : Nat :=
  if K.laneMap ≤ key ∧ key < K.laneMap + 32 then laneMapDefault (key - K.laneMap)
  else if key = K.dutyLoHz then 868000000 else if key = K.dutyLoHz + 1 then 868700000
  else if key = K.dutyLoHz + 2 then 869400000
  else if key = K.dutyHiHz then 868600000 else if key = K.dutyHiHz + 1 then 869200000
  else if key = K.dutyHiHz + 2 then 869650000
  else if key = K.dutyBudget then 36000 else if key = K.dutyBudget + 1 then 3600
  else if key = K.dutyBudget + 2 then 360000
  else if key = K.qtoG then 5000
  else if key = K.adcSeq then 0x1F
  else dflt

/-- The default value of an entry, encoded as its type asks. -/
def defaultOf (key : Nat) : Bytes :=
  match rowOf (key / 256) (key % 256) with
  | none => []
  | some r =>
    match r.ty.length with
    | some n => leBytes n (runDefault key r.dflt)
    | none => []

/-- The enable bit that governs an entry: its block number in Table 4.2 (R506, Table 4.10). -/
def gateOfEntry (idx sub : Nat) : Option Nat :=
  if idx = 0x1100 then (if 0x10 ≤ sub ∧ sub ≤ 0x15 then some 0 else none)
  else if idx = 0x3700 then (if sub = 0x0C ∨ sub = 0x0D then some 1 else none)
  else if idx = 0x3000 ∨ idx = 0x3100 ∨ idx = 0x3200 ∨ idx = 0x3300 ∨ idx = 0x3400 ∨ idx = 0x3500 then some 1
  else if idx = 0x3600 then some 2
  else if idx = 0x5800 then
    (if sub ≤ 0x22 then some 4 else if 0x30 ≤ sub ∧ sub ≤ 0x43 then some 5 else if 0x50 ≤ sub then some 6 else none)
  else if idx = 0x8000 then some 7
  else if idx = 0x2000 then some 32
  else if idx = 0x2800 then
    (if sub = 1 ∨ sub = 3 ∨ sub = 5 then some 33 else if sub = 2 ∨ sub = 4 ∨ sub = 6 then some 34 else none)
  else if idx = 0x2200 then some 35
  else if idx = 0x2500 then some 36
  else if idx = 0x2400 then some 37
  else if idx = 0x2600 then some 38
  else if idx = 0x2700 then some 39
  else none

end Sys2Proof.Machine
end

