-- ==== Sys2Proof/Machine/Phy.lean ====
section
/-! DEFINITION. The physical layer (files 09 and 10): spreading codes, chips, whitening, the convolutional code,
puncturing, interleaving, subcarrier values, training fields and pilots; the signal of a frame from its first chip or
sample to its last; the decision of the decoder; the equaliser.
What the manual leaves open here and how the model reads it, with its mark: log entries 101 to 105. -/

namespace Sys2Proof.Machine

-- Bit order (R242)

/-- The bits of a byte, of a string of bytes: least significant bit first. -/
def byteBits (b : Byte) : List Bool := (List.range 8).map fun i => bit b.toNat i
def bytesBits (l : Bytes) : List Bool := (l.map byteBits).flatten

/-- The low `n` bits of a word, most significant first (R224, R289). -/
def msbBits (n x : Nat) : List Bool := (List.range n).map fun i => bit x (n - 1 - i)

/-- A list in pieces of `n`. -/
def chunks {α : Type} (n : Nat) (l : List α) : List (List α) :=
  (List.range (l.length / n)).map fun i => (l.drop (i * n)).take n

-- Nine-stage sequences (R222, R246)

/-- The parity of a number of nine bits. -/
def parity9 (x : Nat) : Bool := (List.range 9).foldl (fun p i => xor p (bit x i)) false

/-- One step of a nine-stage sequence: bit i of the register is the bit i places ahead; `taps` name the bits whose sum
is the one nine places ahead. -/
def lfsrStep (taps x : Nat) : Nat := x / 2 + 256 * b2n (parity9 (x &&& taps))

/-- The first `n` bits of the sequence whose first nine bits are those of `x`. -/
def lfsrBits (taps : Nat) : Nat → Nat → List Bool
  | 0, _ => []
  | n + 1, x => bit x 0 :: lfsrBits taps n (lfsrStep taps x)

/-- w(n) of R246, for n below the argument. -/
def whitening (n : Nat) : List Bool := lfsrBits 0x21 n 0x1FF

/-- g(n) of R222, for n from 0 to 510. -/
def goldCode (netCode : Nat) : List Bool :=
  (lfsrBits 0x11 511 0x1FF).zipWith xor (lfsrBits 0x59 511 (0x101 + 4 * netCode))

/-- c(0) to c(S − 1) of R222 for S chips. -/
def spreadCode (netCode chips : Nat) : List Bool := ((goldCode netCode).drop (chips - 1)).take chips

-- Chips and symbols (R223)

/-- Δ of a symbol in quarter turns: one bit is DBPSK, two are DQPSK. -/
def symbolTurn : List Bool → Nat
  | [true] => 2
  | [false, true] => 1
  | [true, true] => 2
  | [true, false] => 3
  | _ => 0

/-- φm of every symbol, in quarter turns: φ0 = 0. -/
def symbolPhases (symbols : List (List Bool)) : List Nat :=
  (symbols.foldl (fun (x : Nat × List Nat × Bool) b =>
    let p := if x.2.2 then (x.1 + symbolTurn b) % 4 else 0
    (p, p :: x.2.1, true)) (0, [], false)).2.1.reverse

/-- x(k) in quarter turns: chip k of a signal whose symbols have these phases. -/
def chipTurn (code : List Bool) (phases : List Nat) (k : Nat) : Nat :=
  let n := code.length
  (nth 0 phases (k / n) + 2 * b2n (nth false code (k % n)) + k) % 4

-- The convolutional code (R247, R248)

/-- The coded bits A and B of an input bit; bit 0 of the register is s1. -/
def coded (reg : Nat) (u : Bool) : Bool × Bool :=
  let s := fun i => bit reg (i - 1)
  (xor u (xor (s 2) (xor (s 3) (xor (s 5) (s 6)))), xor u (xor (s 1) (xor (s 2) (xor (s 3) (s 6)))))

/-- The register after an input bit. -/
def shifted (reg : Nat) (u : Bool) : Nat := (2 * reg + b2n u) % 64

/-- The coded bits of an input, in pairs, from a register at zero. -/
def codedPairs (input : List Bool) : List (Bool × Bool) :=
  (input.foldl (fun (x : Nat × List (Bool × Bool)) u => (shifted x.1 u, coded x.1 u :: x.2)) (0, [])).2.reverse

/-- The code rates of Table 10.2. -/
inductive Rate where
  | half
  | twoThirds
  | threeQuarters
  deriving DecidableEq, Repr

/-- Which of A and B of an input bit are sent (Table 10.2). -/
def Rate.sends : Rate → Nat → Bool × Bool
  | .half, _ => (true, true)
  | .twoThirds, i => (true, i % 2 == 0)
  | .threeQuarters, i => (i % 3 != 2, i % 3 != 1)

/-- The bits of a pair that are sent. -/
def sentOf {α : Type} (k : Bool × Bool) (p : α × α) : List α := (if k.1 then [p.1] else []) ++ (if k.2 then [p.2] else [])

/-- The pairs with the bits that are not sent left out. -/
def puncture {α : Type} (r : Rate) (pairs : List (α × α)) : List α :=
  (pairs.zipIdx.map fun x => sentOf (r.sends x.2) x.1).flatten

-- Interleaving (R250)

/-- A block of R rows and C columns in the order in which it is sent, and back. -/
def interleaveBlock {α : Type} (d : α) (rows cols : Nat) (b : List α) : List α :=
  (List.range (rows * cols)).map fun p => nth d b (p % rows * cols + p / rows)
def deinterleaveBlock {α : Type} (d : α) (rows cols : Nat) (b : List α) : List α :=
  (List.range (rows * cols)).map fun k => nth d b (rows * (k % cols) + k / cols)

/-- How the bits of a header or a payload are coded: the rate, the interleaver block (Table 10.3), and the input bits
with the tail and the padding (R249). -/
structure Coding where
  rate   : Rate
  rows   : Nat
  cols   : Nat
  inputs : Nat
  deriving DecidableEq, Repr

/-- The input of a code: the frame's bits, the tail and the padding. -/
def Coding.input (c : Coding) (bits : List Bool) : List Bool := bits ++ List.replicate (c.inputs - bits.length) false

/-- The coded bits of a frame's bits in sending order. -/
def Coding.encode (c : Coding) (bits : List Bool) : List Bool :=
  ((chunks (c.rows * c.cols) (puncture c.rate (codedPairs (c.input bits)))).map
    (interleaveBlock false c.rows c.cols)).flatten

-- The decoder (R270)

/-- A 4-bit soft value from −8 to 7; a negative one means a coded bit 1. -/
def soft4 (x : Int) : Int := max (-8) (min 7 x)

/-- The level of a soft value, which is never zero: an erasure alone has zero weight. -/
def softLevel (x : Int) : Int := 2 * soft4 x + 1

/-- The levels of the received soft values as pairs for A and B of each input bit; what is not sent is an erasure. -/
def depuncture (r : Rate) : Nat → Nat → List Int → List (Int × Int)
  | 0, _, _ => []
  | n + 1, i, l =>
    let k := r.sends i
    let a := if k.1 then (l.head?.getD 0, l.tail) else (0, l)
    let b := if k.2 then (a.2.head?.getD 0, a.2.tail) else (0, a.2)
    (a.1, b.1) :: depuncture r n (i + 1) b.2

/-- What the decoder works on: levels by input bit, with the padding of `bits` frame bits as erasures. -/
def Coding.levels (c : Coding) (bits : Nat) (soft : List Int) : List (Int × Int) :=
  let l := ((chunks (c.rows * c.cols) (soft.map softLevel)).map (deinterleaveBlock 0 c.rows c.cols)).flatten
  (depuncture c.rate c.inputs 0 l).zipIdx.map fun x => if bits + 6 ≤ x.2 then (0, 0) else x.1

/-- How well a pair of coded bits fits a pair of levels. -/
def fit (p : Bool × Bool) (l : Int × Int) : Int := (if p.1 then -l.1 else l.1) + (if p.2 then -l.2 else l.2)

/-- How well an input fits the levels. -/
def fitOf (levels : List (Int × Int)) (input : List Bool) : Int := ((codedPairs input).zipWith fit levels).sum

/-- The coded bits of the two branches that enter each state of the register: from the state p with p < 32, from p + 32.
-/
def branches : List ((Bool × Bool) × (Bool × Bool)) :=
  (List.range 64).map fun t => (coded (t / 2) (bit t 0), coded (t / 2 + 32) (bit t 0))

/-- Each element of a list twice. -/
def twice : List Int → List Int
  | [] => []
  | x :: l => x :: x :: twice l

/-- One step of the Viterbi algorithm: the best fit of a path that ends in each state of the register. -/
def viterbiStep (best : List Int) (l : Int × Int) : List Int :=
  branches.zipWith (fun c x => max (x.1 + fit c.1 l) (x.2 + fit c.2 l))
    ((twice (best.take 32)).zip (twice (best.drop 32)))

/-- The best fit of a path that starts with the register at zero and ends there, after the tail (R247, R270). -/
def viterbi (levels : List (Int × Int)) : Int :=
  nth 0 (levels.foldl viterbiStep (0 :: List.replicate 63 (-1000000))) 0

/-- The decoder may decide on these bits: no input whose tail ends at the terminated state fits the soft values better.
What follows the tail is padding, whose positions have no weight. -/
def Coding.decides (c : Coding) (bits : List Bool) (soft : List Int) : Bool :=
  let n := bits.length + 6
  let l := (c.levels bits.length soft).take n
  soft.length == (puncture c.rate (List.replicate c.inputs ((), ()))).length &&
    fitOf l ((c.input bits).take n) == viterbi l

/-- Coded bits whose hard decision differs from the re-encoded decision. -/
def Coding.differing (c : Coding) (bits : List Bool) (soft : List Int) : Nat :=
  ((c.encode bits).zipWith (fun b x => b2n (b != decide (soft4 x < 0))) soft).sum

-- The frame in bits (R243, R244, R246, R249, R251, R262)

/-- Data bits and coded bits of an OFDM symbol (Table 10.5). -/
def dataBits (mcs : Nat) : Nat := if mcs = 0 then 36 else 54
def carrierBits (mcs : Nat) : Nat := if mcs = 2 then 3 else 2

/-- Np: coded bits of a spread payload. -/
def codedBits (len : Nat) : Nat := if len = 0 then 0 else 64 * ((16 * len + 76 + 63) / 64)

/-- Nsym: data symbols of a Mosaic payload. -/
def mosaicSymbols (mcs len : Nat) : Nat :=
  if len = 0 then 0 else (8 * (len + 4) + 6 + dataBits mcs - 1) / dataBits mcs

/-- The codings of a header and of a payload. -/
def headerCoding (mosaic : Bool) : Coding := if mosaic then ⟨.twoThirds, 12, 6, 48⟩ else ⟨.half, 8, 9, 36⟩
def payloadCoding (mosaic : Bool) (mcs len : Nat) : Coding :=
  if mosaic then ⟨if mcs = 1 then .threeQuarters else .half, 12, 3 * carrierBits mcs, mosaicSymbols mcs len * dataBits mcs⟩
  else ⟨.half, 8, 8, codedBits len / 2⟩

/-- The PHY header: LENGTH and HDATA, in Mosaic mode the MCS too, and the CRC-8 (R251, R262). -/
def headerBytes (mosaic : Bool) (mcs len : Nat) (hdata : Byte) : Bytes :=
  let h := if mosaic then leBytes 2 (len % 1024 + 1024 * (mcs % 4)) ++ [hdata] else [BitVec.ofNat 8 len, hdata]
  h ++ [crc8 h]

/-- The PSDU and a CRC-32, low byte first, whitened. -/
def whitened (psdu : Bytes) (crc : Word) : List Bool :=
  let b := bytesBits (psdu ++ leBytes 4 crc.toNat)
  b.zipWith xor (whitening b.length)

-- What is on the air

/-- The signal that the transmitter forms: a frame's parameters as they stood when it started. -/
structure OnAir where
  mosaic   : Bool
  sf       : Nat
  mcs      : Nat
  netCode  : Nat
  chipRate : Nat
  preamble : Nat
  syncWord : Half
  /-- wake blocks sent ahead, their SF code and wake word (R289) -/
  wake     : Nat
  wakeSf   : Nat
  wakeWord : Half
  hdata    : Byte
  psdu     : Bytes
  deriving DecidableEq, Repr

/-- Chips of an SF code, bits of a symbol, symbols of the sync word and of the header. -/
def chipsOf (sf : Nat) : Nat := 8 * 2 ^ sf
def bitsPer (sf : Nat) : Nat := if sf ≤ 2 then 2 else 1
def syncSymbols (sf : Nat) : Nat := 16 / bitsPer sf
def headerSymbols (sf : Nat) : Nat := 72 / bitsPer sf

/-- The header and the payload as coded bits in sending order. -/
def OnAir.headerBits (x : OnAir) : List Bool :=
  (headerCoding x.mosaic).encode (bytesBits (headerBytes x.mosaic x.mcs x.psdu.length x.hdata))
def OnAir.payloadBits (x : OnAir) : List Bool :=
  if x.psdu = [] then [] else (payloadCoding x.mosaic x.mcs x.psdu.length).encode (whitened x.psdu (crc32 x.psdu))

/-- The bits of a spread-mode frame (R224): preamble, sync word, header, payload. -/
def OnAir.spreadBits (x : OnAir) : List Bool :=
  List.replicate (x.preamble * bitsPer x.sf) false ++ msbBits 16 x.syncWord.toNat ++ x.headerBits ++ x.payloadBits

/-- The bits of the wake preamble (R289). -/
def OnAir.wakeBits (x : OnAir) : List Bool :=
  (List.replicate x.wake (List.replicate (4 * bitsPer x.wakeSf) false ++ msbBits 16 x.wakeWord.toNat)).flatten

/-- Chip k of the frame, and of the wake preamble, in quarter turns (R223). -/
def OnAir.chip (x : OnAir) (k : Nat) : Nat :=
  chipTurn (spreadCode x.netCode (chipsOf x.sf)) (symbolPhases (chunks (bitsPer x.sf) x.spreadBits)) k
def OnAir.wakeChip (x : OnAir) (k : Nat) : Nat :=
  chipTurn (spreadCode x.netCode (chipsOf x.wakeSf)) (symbolPhases (chunks (bitsPer x.wakeSf) x.wakeBits)) k

-- Mosaic subcarriers (R255, R256, R258 to R261)

/-- A subcarrier value: its index, its amplitude and its phase in 1/64 of a turn. -/
structure Tone where
  k    : Int
  amp  : Nat
  turn : Nat
  deriving DecidableEq, Repr

/-- The 40 subcarriers in ascending k, the pilots, and the 36 of the data. -/
def carriers : List Int := (List.range 41).filterMap fun i => if i = 20 then none else some ((i : Int) - 20)
def pilotCarriers : List Int := [-17, -6, 6, 17]
def dataCarriers : List Int := carriers.filter fun k => !pilotCarriers.contains k

/-- The phase of a QPSK or 8PSK value in eighths of a turn (R258, Table 10.6). -/
def pskTurn : List Bool → Nat
  | [false, false] => 1
  | [true, false] => 3
  | [true, true] => 5
  | [false, true] => 7
  | [false, false, false] => 0
  | [false, false, true] => 1
  | [false, true, true] => 2
  | [false, true, false] => 3
  | [true, true, false] => 4
  | [true, true, true] => 5
  | [true, false, true] => 6
  | [true, false, false] => 7
  | _ => 0

/-- The sign 1 − 2 w(n), as a phase in 1/64 of a turn. -/
def wTurn (n : Nat) : Nat := 32 * b2n (nth false (whitening (n + 1)) n)

/-- The pilots of the header symbol, n = 0, and of data symbol n − 1 (R261). -/
def pilotTones (n : Nat) : List Tone :=
  pilotCarriers.map fun k => ⟨k, 1, (wTurn (n % 511) + (if k = 17 then 32 else 0)) % 64⟩

/-- The subcarriers of a symbol that carries coded bits, `per` to a data subcarrier. -/
def symbolTones (n per : Nat) (bits : List Bool) : List Tone :=
  dataCarriers.zipWith (fun k b => ⟨k, 1, 8 * pskTurn b⟩) (chunks per bits) ++ pilotTones n

/-- The STS and the LTS (Table 10.8). The amplitude of √2 (1 + j) is 2, its phase an eighth of a turn. -/
def stsTones : List Tone :=
  ([-20, -16, -12, -8, -4, 4, 8, 12, 16, 20] : List Int).zipIdx.map fun x => ⟨x.1, 2, (8 + wTurn (50 + x.2)) % 64⟩
def ltsTones : List Tone := carriers.zipIdx.map fun x => ⟨x.1, 1, wTurn (10 + x.2)⟩

/-- The header symbol and the data symbols of a Mosaic frame. -/
def OnAir.symbols (x : OnAir) : List (List Tone) :=
  symbolTones 0 2 x.headerBits ::
    (chunks (36 * carrierBits x.mcs) x.payloadBits).zipIdx.map fun b => symbolTones (b.2 + 1) (carrierBits x.mcs) b.1

/-- The sum of subcarriers at sample n after the instant at which their phases hold, exact: the coefficients of
e^(j2πi/64) for i from 0 to 31 (R256). -/
def sumTones (tones : List Tone) (n : Int) : List Int :=
  tones.foldl (fun v t =>
    let p := (((t.turn : Int) + t.k * n) % 64).toNat
    setNth v (p % 32) (nth 0 v (p % 32) + (if p < 32 then (t.amp : Int) else -(t.amp : Int)))) (List.replicate 32 0)

/-- Sample n of a Mosaic frame at 128 ksps (Table 10.7): STS of 128 samples, LTS guard of 16, two LTS symbols of 64,
then symbols of 72 whose useful part follows a prefix of 8. -/
def OnAir.sample (x : OnAir) (n : Nat) : List Int :=
  if n < 128 then sumTones stsTones n
  else if n < 272 then sumTones ltsTones ((n : Int) - 144)
  else sumTones (nth [] x.symbols ((n - 272) / 72)) (((n - 272) % 72 : Nat) - 8)

/-- Chips of a spread-mode frame, samples of a Mosaic frame. -/
def OnAir.size (x : OnAir) : Nat :=
  if x.mosaic then 272 + 72 * (1 + mosaicSymbols x.mcs x.psdu.length)
  else x.spreadBits.length / bitsPer x.sf * chipsOf x.sf

-- Exact values and the equaliser (R264, R266)

def cxAdd (x y : Cx) : Cx := ⟨x.a + y.a, x.b + y.b, x.c + y.c, x.d + y.d⟩
def cxScale (r : Rat) (x : Cx) : Cx := ⟨r * x.a, r * x.b, r * x.c, r * x.d⟩

/-- An eighth of a turn back, and `n` of them: the quotient by e^(jnπ/4). -/
def cxBack (x : Cx) : Cx := ⟨x.b, x.c, x.d, -x.a⟩
def cxUnturn : Nat → Cx → Cx
  | 0, x => x
  | n + 1, x => cxBack (cxUnturn n x)

/-- The tap of a subcarrier trained: the mean of the two LTS observations divided by the LTS value, whose phase in
1/64 of a turn is 0 or 32. -/
def trainTap (turn : Nat) (y : Cx × Cx) : Cx := cxUnturn (turn / 8) (cxScale (1 / 2) (cxAdd y.1 y.2))
def trainTaps (y : List (Cx × Cx)) : List Cx := (ltsTones.map fun t => t.turn).zipWith trainTap y

/-- The product, the conjugate, and a whole power of a value of amplitude 1. -/
def cxMul (x y : Cx) : Cx :=
  ⟨x.a * y.a - x.b * y.d - x.c * y.c - x.d * y.b, x.a * y.b + x.b * y.a - x.c * y.d - x.d * y.c,
    x.a * y.c + x.b * y.b + x.c * y.a - x.d * y.d, x.a * y.d + x.b * y.c + x.c * y.b + x.d * y.a⟩
def cxConj (x : Cx) : Cx := ⟨x.a, -x.d, -x.c, -x.b⟩
def cxPow (x : Cx) (k : Int) : Cx :=
  (List.range k.natAbs).foldl (fun p _ => cxMul p (if k < 0 then cxConj x else x)) ⟨1, 0, 0, 0⟩

/-- p + q / √2 is not negative. -/
def notNegative (p q : Rat) : Bool :=
  if p < 0 then decide (0 ≤ q) && decide (2 * p * p ≤ q * q)
  else decide (0 ≤ q) || decide (q * q ≤ 2 * p * p)

/-- The real part of a value is at least that of another. -/
def realGe (x y : Cx) : Bool := notNegative (x.a - y.a) (x.b - x.d - y.b + y.d)

/-- The phases of Table 10.6 that an MCS uses on a data subcarrier, in eighths of a turn. -/
def pskPhases (mcs : Nat) : List Nat := if mcs = 2 then List.range 8 else [1, 3, 5, 7]

/-- The hard decision d of a data subcarrier (R266): the phase of its MCS that the equalised value y / h lies nearest to.
Of two that lie equally near the lower one is taken (DESIGN CHOICE, log entry 126). -/
def hardDecision (mcs : Nat) (h y : Cx) : Nat :=
  let z := cxMul y (cxConj h)
  let l := pskPhases mcs
  (l.find? fun n => l.all fun m => realGe (cxUnturn n z) (cxUnturn m z)).getD 0

/-- The values of a symbol with the common phase error and the phase slope of its pilots removed (R267). -/
def correctedTones (r : ToneRow) : List Cx :=
  carriers.zipWith (fun k y => cxMul (cxMul y r.phase) (cxPow r.slope k)) r.tones

/-- h + 2^−μ (y / d − h). -/
def updateTap (mu : Nat) (h y : Cx) (d : Nat) : Cx :=
  cxAdd h (cxScale (1 / 2 ^ mu) (cxAdd (cxUnturn d y) (cxScale (-1) h)))

/-- The taps after data symbol `n`: data subcarriers from the hard decisions, pilots from their known values. -/
def updateTaps (mu mcs n : Nat) (taps : List Cx) (row : ToneRow) : List Cx :=
  (taps.zip (carriers.zip (correctedTones row))).map fun x =>
    let d := match (pilotTones (n + 1)).find? fun t => t.k == x.2.1 with
      | some t => t.turn / 8
      | none => hardDecision mcs x.1 x.2.2
    updateTap mu x.1 x.2.2 d

/-- A value for each of the 40 subcarriers. -/
def wholeRow (r : ToneRow) : Bool := r.tones.length == carriers.length

/-- The taps after the first `n` data symbols of a frame. -/
def trackTaps (mu mcs n : Nat) (taps : List Cx) (rows : List ToneRow) : List Cx :=
  (rows.take n).zipIdx.foldl (fun t x => if wholeRow x.1 then updateTaps mu mcs x.2 t x.1 else t) taps

-- Diversity (R210)

/-- Soft value i weighted: `per` coded bits in a row share a weight, and the weights repeat from symbol to symbol. A
signal without a weight counts nothing. -/
def weighted (per : Nat) (w : List Nat) (soft : List Int) : List Int :=
  soft.zipIdx.map fun x => (nth 0 w (x.2 / per % w.length) : Int) * x.1

/-- The combined soft values of two paths: the mean weighted by their channel estimates (R210). How the sum is brought to
the 4 bits of R270 no rule states (DESIGN CHOICE, log entry 126). -/
def combined (per : Nat) (wa wb : List Nat) (a b : List Int) : List Int :=
  let ones := fun (l : List Int) => l.map fun _ => (1 : Int)
  let sum := (weighted per wa a).zipWith (· + ·) (weighted per wb b)
  let total := (weighted per wa (ones a)).zipWith (· + ·) (weighted per wb (ones b))
  sum.zipWith (fun x t => x / t) total

end Sys2Proof.Machine
end

