-- ==== Sys2Proof/Machine/State.lean ====
section
/-! DEFINITION. The state of the OL6840 as plain data: one structure for each part of the device, the refusals and
faults of a step, and the state after reset.
What the manual leaves open here and how the model reads it, with its mark: log entries 8 and 11 to 13. -/

namespace Sys2Proof.Machine

/-- A fault of a step. No rule of the manual stops the block, so no meaning raises one. -/
inductive Fault where
  /-- Raised by nothing: the interface asks for a type of faults. Safe. -/
  | none
  deriving DecidableEq, Repr

/-- A refusal of a step. -/
inductive Refusal where
  /-- Raised by `exec` for a command whose meaning is not written; safe, since nothing is then claimed of it. -/
  | notModelled (mnemonic : String)
  deriving DecidableEq, Repr

-- Events, the SPI port and the field port (file 06)

/-- An event record (Table 6.13). -/
structure Event where
  code : Half
  tag  : Half
  time : Time48
  arg  : Word
  deriving DecidableEq, Repr

/-- The SPI host port. -/
structure Spi where
  /-- ERR of the next status byte (R138) -/
  err      : Bool
  /-- PORT.ERRCODE -/
  errcode  : Byte
  /-- what the device sent in the last transaction -/
  miso     : Bytes
  /-- a request of this port is in the dictionary engine -/
  asked    : Bool
  /-- the response held and not yet fetched (R149) -/
  resp     : Option Bytes
  /-- PORT.RCPTQ and PORT.RCPTSEQ (R144) -/
  rcptQ    : Half
  /-- PORT.RCPTSEQ (R144) -/
  rcptSeq  : Word
  deriving DecidableEq, Repr

/-- The EIA-485 field port. -/
structure FieldPort where
  /-- FP_ADDR and FP_BAUD in force, which follow the live values under R160 -/
  addr      : Byte
  /-- FP_BAUD in force (R156, R160) -/
  baud      : Byte
  /-- reversed polarity in force (FPSTAT.REV) -/
  rev       : Bool
  /-- FPSTAT.IDLE_LOW (R161) -/
  idleLow   : Bool
  /-- FPSTAT.SHORT (R162) -/
  short     : Bool
  /-- FPSTAT.CONTEND (R162) -/
  contend   : Bool
  /-- FP_FAULTS bits 15:0, 23:16 and 31:24 -/
  badFrames : Half
  /-- FP_FAULTS bits 23:16 (R161) -/
  turns     : Byte
  /-- FP_FAULTS bits 31:24 (R162) -/
  echoes    : Byte
  /-- a request is in the engine, or its reply has not been sent or abandoned (R159) -/
  busy      : Bool
  /-- the request is a broadcast write, which is not answered -/
  mute      : Bool
  /-- the reply PDU, once the engine has answered -/
  reply     : Option Bytes
  /-- the reply is on the bus, with FP_DE raised, or has just been sent whole -/
  sending   : Bool
  /-- repetitions begun after echo faults (R162) -/
  retries   : Nat
  /-- 4 + r character times drawn after the last echo fault, while they run -/
  waitChars : Nat
  /-- the frame of the last reply put on the bus -/
  sent      : Bytes
  /-- FP_ADDR or FP_BAUD, where the request in hand has written it: it takes effect after the reply (R160) -/
  own       : Option Nat
  deriving DecidableEq, Repr

-- The dictionary engine and Courses (file 07)

/-- A dictionary request (Table 6.7). -/
structure Request where
  port  : Port
  cmd   : Byte
  tag   : Byte
  index : Half
  sub   : Byte
  value : Bytes
  deriving DecidableEq, Repr

/-- What the engine waits for before it can answer. -/
inductive Wait where
  /-- the seal of the source-2 records of the request (R170); `was` is `rolePending` before it was accepted -/
  | seal (was : Bool)
  /-- the frame boundary of an accepted state transition (R173) -/
  | boundary (target : Fin 8)
  deriving DecidableEq, Repr

/-- The dictionary engine (R9). -/
structure Engine where
  /-- the request being served, when it cannot be answered at once -/
  job      : Option (Request × Wait)
  /-- requests that wait, in the order in which they reached the engine (R9) -/
  waits    : List Request
  /-- a transition accepted by a write of SYS.STATECMD, which has no response (R173) -/
  regTarget : Option (Fin 8)
  /-- ILLEGAL_COUNT and LAST_ILLEGAL -/
  illegalCount : Word
  /-- LAST_ILLEGAL (R174) -/
  lastIllegal  : Word
  deriving DecidableEq, Repr

/-- The Courses (§7.7). -/
structure Courses where
  /-- COURSE_ACTIVE: 0–7, or 15 for none -/
  active  : Fin 16
  /-- a pending target and its cause: 0 command, 1 trigger, 2 commit -/
  pend    : Option (Fin 16 × Fin 4)
  /-- the image of the Course in force, empty for none -/
  image   : Bytes
  /-- COURSE_ERR -/
  err     : Word
  /-- the partial load of each Course -/
  loads   : List (Option Bytes)
  /-- FOOTING_CMD has been sealed and no reset has followed (R180) -/
  cleared : Bool
  deriving DecidableEq, Repr

-- Mortar (file 15) and accepted work (file 14)

/-- A record of the log with the state of its two copies (Table 15.4, R380). -/
structure Rec where
  type    : Byte
  key     : Nat
  gen     : BitVec 23
  payload : Bytes
  /-- hot-written SEAL (R65) -/
  hot     : Bool
  sealA   : Bool
  sealB   : Bool
  /-- the copy still passes its CRC -/
  okA     : Bool
  okB     : Bool
  deriving DecidableEq, Repr

/-- Two sectors with one sector sequence number. `sseq` counts from the first pair ever opened. -/
structure Pair where
  sseq : Nat
  secA : Nat
  secB : Nat
  /-- FULL programmed -/
  full : Bool
  recs : List Rec
  deriving DecidableEq, Repr

/-- What a physical sector holds (Table 15.3, R510). -/
inductive SectorUse where
  /-- a spare that the repair map has not assigned: erased, no header -/
  | unassigned
  | prepared
  /-- ACTIVE or CLOSED: the pair that names it says which -/
  | inPair
  /-- chosen for an erase, or left so by an abandoned one -/
  | dirty
  | retired
  deriving DecidableEq, Repr

/-- A physical sector. -/
structure Sector where
  use    : SectorUse
  erases : Word
  deriving DecidableEq, Repr

/-- A record that has not been programmed yet. -/
structure NewRec where
  type    : Byte
  key     : Nat
  payload : Bytes
  deriving DecidableEq, Repr

/-- A record of the station table (R310). -/
structure Station where
  serial : Dword
  role   : Byte
  depth  : Byte
  ntime  : Time48
  deriving DecidableEq, Repr

/-- What a source-2 append is for: the request in the engine, or the clearing of a ledger window by a JOIN (R362), with
the station record that the JOIN leaves. -/
inductive AppendFor where
  | request
  /-- `tag` is that of the JOIN, whose ACK waits for the seal -/
  | joinClear (queue : Nat) (station : Station) (tag : Half)
  deriving DecidableEq, Repr

/-- An append at source 2 of R383 that waits for the writer. -/
structure Append2 where
  recs    : List NewRec
  owner   : AppendFor
  stalled : Bool
  deriving DecidableEq, Repr

/-- The flash record store. -/
structure Mortar where
  /-- use and ERASES of each physical sector (R376, R378) -/
  sectors  : List Sector
  /-- pairs with their sector sequence number, FULL mark and records (R377, R384) -/
  pairs    : List Pair
  /-- MORTAR_STATE: 0 unmounted, 1 mounted, 2 read-only, 3 mounted and not written -/
  state    : Fin 4
  /-- MOUNT_US (R389) -/
  mountUs  : Word
  /-- GEN of the next record (R381) -/
  nextGen  : BitVec 23
  /-- sector sequence number of the next pair, counted from the first pair ever opened -/
  nextSseq : Nat
  /-- the sectors of chain A and chain B whose erase is in progress -/
  erasing  : Option (Nat × Nat)
  /-- appends waiting at source 2 -/
  waiting2 : List Append2
  /-- records waiting at source 4: CKPT, RMAP and ELOG -/
  waiting4 : List NewRec
  /-- a waiting append of source 3, of source 4, has been counted in WRITE_STALLS -/
  stalled3 : Bool
  /-- an append has been counted in WRITE_STALLS (R387) -/
  stalled4 : Bool
  /-- copies of torn records that wait to be appended before any new append (R390) -/
  repairs  : List NewRec
  /-- pairs that need refresh, with the reason of Table 15.9 -/
  refresh  : List (Nat × Nat)
  /-- refreshes with reason 1 or 3: the sector, and TIME in µs (R398) -/
  weakAt   : List (Nat × Nat)
  /-- sectors to retire once their pair has been compacted -/
  failing  : List Nat
  /-- REFRESHES (R396) -/
  refreshes   : Word
  /-- WRITE_STALLS (R387) -/
  writeStalls : Word
  /-- COPY_REPAIRS (R390) -/
  copyRepairs : Word
  /-- Footing records sealed since manufacture (FOOTING_GEN) -/
  footingGen  : Word
  deriving DecidableEq, Repr

/-- The journal stage and the counters of PD166 (R365, R366, R509). -/
structure Journal where
  /-- staged JACC, EPOCH and JREL records, in stage order -/
  stage    : List NewRec
  /-- JREL entries that found no room: queue, in chain, newest sequence released (R366) -/
  relWait  : List (Nat × Bool × Word)
  /-- newest sequences of frames removed as lost while older frames of their chain stay -/
  lost     : List (Nat × Bool × Word)
  /-- JRN_STALLS (R358, R365) -/
  stalls   : Word
  /-- PF_COMMITS (R368) -/
  pfCommits : Word
  /-- PF_LAST_US (R368) -/
  pfLastUs  : Half
  /-- PF_END_MV (R368) -/
  pfEndMv   : Half
  /-- DUPLICATES (R360) -/
  duplicates : Word
  /-- LEDGER_FULL (R361) -/
  ledgerFull : Word
  deriving DecidableEq, Repr

-- Queues (file 13)

/-- A frame in a chain: the header of Table 6.4, its payload and the segments it occupies. -/
structure Frame where
  seq     : Word
  src     : Byte
  time    : Word
  payload : Bytes
  /-- segment indices, first to last; an xSPI index has bit 23 set (R329) -/
  segs    : List Nat
  /-- each segment has its mirror too (R334) -/
  mirrored : Bool
  deriving DecidableEq, Repr

/-- A queue: its two chains, and its descriptor (Table 13.1). -/
structure Queue where
  inCh    : List Frame
  outCh   : List Frame
  accSeq  : Word
  attr    : Half
  readMs  : Half
  /-- the ledger window (R359) -/
  lastSeq : Word
  valid   : Bool
  /-- the QTO mark, bit 0 of descriptor byte 29 -/
  qto     : Bool
  deriving DecidableEq, Repr

/-- What a stone or an eviction entry of an unguarded queue holds that Ashlar does not: the descriptor, the tail segment
of each chain (R339). -/
structure Parts where
  desc    : Bool
  inTail  : Bool
  outTail : Bool
  deriving DecidableEq, Repr

/-- A stone in use. -/
structure Stone where
  queue : Nat
  /-- its place, 0–511; slice place / 64 -/
  place : Nat
  dirty : Parts
  deriving DecidableEq, Repr

/-- A busy entry of the eviction buffer. -/
structure EvEntry where
  queue : Nat
  dirty : Parts
  deriving DecidableEq, Repr

/-- The queue engine. -/
structure QueueEngine where
  /-- queues that differ from an empty queue with ACC_SEQ `accBase` -/
  queues   : List (Nat × Queue)
  /-- ACC_SEQ of every queue since the last boot that did not keep Ashlar (R357) -/
  accBase  : Word
  /-- stones in use, least recently used first -/
  stones   : List Stone
  /-- slices switched on -/
  slicesOn : BitVec 8
  /-- the four eviction-buffer entries -/
  evb      : List (Option EvEntry)
  /-- next segment-write GEN -/
  segGen   : BitVec 12
  /-- xSPI segments whose contents a loss of IOVDD_A has taken (R344) -/
  xsBad    : List Nat
  /-- refusals counted at each segment index since its last acknowledged write (R341) -/
  refusals : List (Nat × Nat)
  /-- a queue whose class change waits for its seal (R512) -/
  classChange : Option Nat
  /-- NOTICES (R348) -/
  notices  : Word
  /-- EVICTIONS (R340) -/
  evictions : Word
  /-- EVB_HITS (R341) -/
  evbHits  : Word
  /-- REISSUES (R341) -/
  reissues : Word
  /-- AIR_REFUSED (R335) -/
  airRefused : Word
  /-- PUSH_FULL (R335) -/
  pushFull : Word
  /-- FRAMES_LOST (R344, R367) -/
  framesLost : Word
  /-- OVERSIZE (R332) -/
  oversize : Word
  deriving DecidableEq, Repr

-- Reset and boot (file 05), device state (file 07), role (file 01)

/-- The device states (Table 7.3). -/
inductive DevState where
  | notReady
  | boot
  | quiet
  | config
  | run
  | maint
  | safe
  deriving DecidableEq, Repr

/-- The roles (R10). -/
inductive Role where
  | node
  | relay
  | coordinator
  deriving DecidableEq, Repr

/-- Reset, boot, device state. -/
structure Sys where
  /-- DEV_STATE, Table 7.3 (R171) -/
  dev       : DevState
  /-- ROLE_ACTIVE (R10) -/
  role      : Role
  /-- RDY has been reported since the last reset or wake (R118, R119) -/
  ready     : Bool
  /-- a ROLE write or FOOTING_CMD has been sealed: R12 holds until the next reset -/
  rolePending : Bool
  /-- the LOCKVIOL flag of AON (R177) -/
  lockviol  : Bool
  /-- durable queues still to restore, in order (R128) -/
  restore   : List Nat
  /-- this boot skips phases 4 to 6 (R123) -/
  skipped   : Bool
  deriving DecidableEq, Repr

/-- The boot sequences: after a cold reset, a warm reset, a wake from SHUTDOWN (R41, R117). -/
inductive BootKind where
  | cold
  | warm
  | shutdown
  deriving DecidableEq, Repr

/-- Reset and boot (file 05). -/
structure Boot where
  /-- RESET_CAUSE -/
  cause   : BitVec 16
  /-- BOOT_FAILS, and whether the boot in progress or the last one skips phases 4 to 6 (R123) -/
  fails   : Byte
  /-- BOOT.STATUS.PHASE -/
  phase   : Fin 8
  /-- the boot sequence in progress (R117) -/
  kind    : BootKind
  /-- READY_TIME -/
  readyUs : Word
  /-- TIME at ready, and the hold H in ms (R124) -/
  readyAt : Nat
  /-- the hold H (R124) -/
  hold    : Nat
  /-- the reset that RESET_CMD has announced is due (R113) -/
  resetDue : Bool
  /-- the port whose RESET_CMD is to be answered before that reset is taken (R113) -/
  resetPort : Port
  /-- this boot restores every durable queue again: BOD_WARN had stopped the restore when the reset came (R132) -/
  anew : Bool
  /-- a reset is asserted: its end starts the boot -/
  held    : Bool
  /-- a boot that has stalled, and whether it waits for XO or for the root PLL in phase 2 -/
  waiting : Option BootRun
  /-- BOOT.STATUS.FOOTING_OK and COURSE -/
  footingOk : Bool
  /-- BOOT.STATUS.COURSE (R188) -/
  course  : Fin 16
  deriving DecidableEq, Repr

/-- The power states (Table 3.3). -/
inductive PowerState where
  | off
  | shutdown
  | dormant
  | sniff
  | idle
  | rx
  | tx
  deriving DecidableEq, Repr

/-- The supply and the thermal level (file 03). -/
structure Supply where
  /-- power state, PSTATE (R39) -/
  power     : PowerState
  /-- BOD_WARN (R50) -/
  bodWarn   : Bool
  /-- thermal level: 0 NORMAL, 1 WARM, 2 HOT, 3 CRIT -/
  therm     : Fin 4
  /-- die temperature, 0.1 °C -/
  temp      : Half
  /-- the last eight valid samples, newest first (R61) -/
  samples   : List Half
  /-- TIME in µs at the last level change; none when there has been none since the last cold reset (R61) -/
  changedAt : Option Nat
  /-- consecutive samples out of range, and all of them (R64) -/
  badRun    : Nat
  /-- samples discarded (R64) -/
  discards  : Word
  /-- CROSSINGS (R61) -/
  crossings : Word
  /-- operating point in force; VCORE in mV -/
  op        : Fin 4
  /-- VCORE as it stands, in mV (PWR.PLUMB.VCORE_MV) -/
  vcore     : Half
  /-- the voltage that VCORE falls to in the background, or stands at (R55, R68) -/
  vend      : Half
  /-- Plumb trim of each point, in 5 mV steps (R58) -/
  trims     : List Nat
  /-- NEAR_MISS (R57) -/
  nearMiss  : Word
  /-- VIN and VHOLD as last measured, mV -/
  vinMv     : Half
  /-- VHOLD_MV (R36) -/
  vholdMv   : Half
  /-- the Plumb trim of every point is locked at 0 until the next reset (R453) -/
  trimLock  : BitVec 4
  /-- a sleep or shutdown request that has been accepted and waits for a Mortar write to complete, by its code (R42,
  R70) -/
  sleepDue  : Option (Fin 8)
  /-- reception was on when BOD_WARN came (R51) -/
  bodRx     : Bool
  /-- a valid sample of the die temperature has been taken since reset -/
  sampled   : Bool
  /-- wakes requested inside the device, by bit of Table 3.4 -/
  wakeReq   : BitVec 7
  /-- PWR.WAKESRC -/
  wakeSrc   : Half
  /-- domains that are switching on, PD000 at bit 0 (R46) -/
  rising    : BitVec 206
  /-- a wake from DORMANT or SNIFF has not reached IDLE: the root PLL has not locked (R44, R79) -/
  waking    : Bool
  deriving DecidableEq, Repr

-- Self-repair (file 18)

/-- An entry of the repair map (Table 18.2). -/
structure MapEntry where
  kind : Byte
  b1   : Byte
  b2   : Byte
  b3   : Byte
  deriving DecidableEq, Repr

/-- Background work, self-repair and the event log. -/
structure Repair where
  /-- the factory map of the fuses, and the field map in force with its version -/
  factory  : List MapEntry
  /-- field map, REPAIR_MAP (R463) -/
  map      : List MapEntry
  /-- MAP_GEN (R463) -/
  mapGen   : Word
  /-- MAP_UNSAVED (R464) -/
  mapUnsaved : Byte
  /-- REPAIR_COUNT (R465) -/
  repairCount : Word
  /-- ELOG_NEXT -/
  elogNext : Nat
  /-- the bank number that each spare bank serves (R459) -/
  spareOf  : List (Option Nat)
  /-- the bank that migrates and the spare it goes to -/
  migrating : List (Nat × Nat)
  /-- Ashlar banks retired without a spare (R460) -/
  banksLost : List Nat
  /-- spare rows used in each bank -/
  rowsUsed : List (Nat × Nat)
  /-- the watch table: bank, row, corrections since boot, oldest first (R458) -/
  watch    : List (Nat × Nat × Nat)
  /-- rows with an uncorrectable word since boot (R459) -/
  badRows  : List (Nat × Nat)
  /-- banks reported as suspect since boot -/
  suspects : List Nat
  /-- stones with an uncorrectable word since boot: slice, stone (R461) -/
  badStones : List (Nat × Nat)
  /-- SLICES_OK -/
  slicesOk : BitVec 8
  /-- BG_FAULTS (R453) -/
  bgFaults : Word
  /-- ECC_CORRECTED (R452) -/
  eccCorrected   : Word
  /-- ECC_UNCORRECTED (R452) -/
  eccUncorrected : Word
  /-- the next unit of the self-test rotation (R455) -/
  bistUnit : Fin 37
  /-- units whose last test failed -/
  bistOnce : List Nat
  /-- BIST_FAILS (R457) -/
  bistFails : Word
  /-- BIST_SKIPS (R456) -/
  bistSkips : Word
  /-- TEMP_MIN (R454) -/
  tempMin  : Half
  /-- TEMP_MAX (R454) -/
  tempMax  : Half
  /-- VIN_MIN (R454) -/
  vinMin   : Half
  /-- VHOLD_MIN (R454) -/
  vholdMin : Half
  /-- a sample has been taken since the extremes were cleared -/
  telemSeen : Bool
  deriving DecidableEq, Repr

-- The radio (files 08 to 12)

/-- The states of the radio sequencer (Table 11.1). -/
inductive RadioState where
  | off
  | sleep
  | sniff
  | idle
  | synthUp
  | cca
  | rx
  | tx
  | ackWait
  | ackTx
  deriving DecidableEq, Repr

/-- A detection: what its early sync showed, with its tag (R234). -/
structure Det where
  tag  : Half
  seen : Early
  /-- it was raised while a frame of its channel was in reception (Table 8.7) -/
  late : Bool
  deriving DecidableEq, Repr

/-- The Scarab lanes (file 09). -/
structure Scarab where
  /-- LANE_PHYS: the physical lane of each logical lane, 255 for none -/
  lanePhys : List Nat
  /-- failed physical lanes -/
  physFail : List Nat
  /-- failed physical lanes whose reassignment waits (R233) -/
  laneDue  : List Nat
  /-- the tag of the next EARLY_SYNC, and of the last -/
  nextTag  : Half
  /-- the last tag (R234, R503) -/
  lastTag  : Half
  /-- pending detections -/
  dets     : List Det
  /-- a setting of R241 has changed: they are cancelled at the frame boundary -/
  changed  : Bool
  /-- EARLY_COUNT (R236) -/
  earlyCount  : Word
  /-- CANCEL_COUNT (R238) -/
  cancelCount : Word
  deriving DecidableEq, Repr

/-- Oscillators, root PLL, clock monitor and gating (file 04). -/
structure Clocks where
  /-- XO judged started and not failed -/
  xoOk    : Bool
  /-- LFXO qualified and not failed -/
  lfxoOk  : Bool
  /-- lock of the root PLL, CLK_STATUS (R77) -/
  lock    : Bool
  /-- the PLL is referenced to HFRC: the time base is DEGRADED (R98) -/
  refHfrc : Bool
  /-- LFCLK comes from LFXO -/
  lfSrc   : Bool
  /-- an XO failure, an LFXO failure has been declared since reset -/
  xoFailed : Bool
  /-- an LFXO failure since reset (R99) -/
  lfxoFailed : Bool
  /-- CLK.MON: XOFAIL, LFXOFAIL, UNLOCK and UNLOCKS -/
  mon     : BitVec 3
  /-- CLK.MON UNLOCKS (R100, R503) -/
  unlocks : Byte
  /-- restarts of the PLL in succession without lock (R78) -/
  restarts : Nat
  /-- losses of lock that lie within 10 s of the last (R100) -/
  recent  : Nat
  /-- the PLL is stopped until reset (R507) -/
  stopped : Bool
  /-- CLK.LFINC for LFXO and for LFRC (R94) -/
  incLfxo : Word
  /-- CLK.LFINC for LFRC (R94) -/
  incLfrc : Word
  /-- HFRC trim (R75) -/
  hfrcTrim : BitVec 10
  /-- LFRC trim (R75) -/
  lfrcTrim : BitVec 10
  /-- clocks running: CLK.CKSTAT0 and CKSTAT1 -/
  run0    : BitVec 9
  /-- CLK.CKSTAT1 (R85) -/
  run1    : BitVec 8
  /-- CLK.GATELOG (R86) -/
  gateLog : Word
  /-- GATE_COUNT (R86) -/
  gateCount : Word
  deriving DecidableEq, Repr

/-- A confirmed frame in reception on a channel (R237). -/
structure Reception where
  tag  : Half
  seen : Early
  conf : Confirm
  /-- TIME_sync in units of 1/64 µs (R228, R265) -/
  timeSync : Int
  /-- it is received on CHAN_B_HZ (R211) -/
  chanB : Bool
  deriving DecidableEq, Repr

/-- The receive paths and what they latch (file 08, R228, Table 8.7). -/
structure Rx where
  /-- RX_PATHS_OK: path A in bit 0, path B in bit 1 -/
  pathsOk : BitVec 2
  /-- RSSI_A (R216) -/
  rssiA   : Half
  /-- RSSI_B (R216) -/
  rssiB   : Half
  /-- RSSI_PROV_A (R216) -/
  provA   : Half
  /-- RSSI_PROV_B (R216) -/
  provB   : Half
  /-- noise floors in 0.5 dB units, and NF_VALID -/
  nfA     : Half
  /-- NF_B (R217) -/
  nfB     : Half
  /-- NF_VALID (R218) -/
  nfValid : BitVec 2
  /-- gain of each path while it is frozen -/
  gainA   : Option Byte
  /-- frozen gain (R215) -/
  gainB   : Option Byte
  /-- the channel centre and the die temperature of the last IQ and image calibration of each path (R452, R453) -/
  iqAt    : List (Option (Nat × Half))
  /-- channels that receive in Mosaic mode (R263) -/
  mosaic  : BitVec 2
  /-- HOT has ended the reception of the second channel, until the level returns to WARN or NORMAL (R67) -/
  second  : Bool
  /-- the frame in reception on each channel -/
  recA    : Option Reception
  /-- the frame in reception (R237) -/
  recB    : Option Reception
  /-- RXB_PREEMPT (R212) -/
  preempt : Word
  /-- DUAL_ACK_DROP (R219) -/
  dualAckDrop : Word
  /-- AFC_HZ (R227) -/
  afcHz   : Word
  /-- SNR (R227) -/
  snr     : Half
  /-- HDR_FAILS (R252) -/
  hdrFails : Word
  /-- CRC32_FAILS (R270) -/
  crcFails : Word
  /-- RX_LENGTH (R270) -/
  length  : Half
  /-- CORRECTED (R270) -/
  corrected : Half
  /-- SIGNAL_LOSS (R254) -/
  losses  : Word
  /-- PILOT_LOSS (R267) -/
  pilotLosses : Word
  /-- MOSAIC_EVM (R267) -/
  evm     : Half
  /-- the one-tap equaliser of each path, by subcarrier in ascending k (R264, R266) -/
  tapsA   : List Cx
  /-- the equaliser of path B (R264, R266) -/
  tapsB   : List Cx
  /-- CODEC.STATUS: the last header passed, the last payload CRC-32 was good -/
  hdrOk   : Bool
  /-- CODEC.STATUS (R252, R270) -/
  crcOk   : Bool
  deriving DecidableEq, Repr

/-- A MAC frame (Tables 12.1 and 19.1): in a secured frame `body` ends with the MIC. -/
structure MacFrame where
  type : Nat
  ar   : Bool
  pend : Bool
  dst  : Half
  src  : Half
  /-- FLOOD header: ORIG, FSEQ, TTL, HOP (R313) -/
  flood : Option (Half × Half × Nat × Nat)
  /-- auxiliary security header: SCTL and FCNT -/
  aux  : Option (Byte × Word)
  body : Bytes
  deriving DecidableEq, Repr

/-- What the device sends (Table 12.2). -/
inductive TxKind where
  | ack
  | beacon
  | poll
  | data
  | null
  | join
  | fack
  | copy
  deriving DecidableEq, Repr

/-- A transmission in hand. Its security, MSEQ and FCNT are set when it starts (R295, R473). -/
structure TxJob where
  kind   : TxKind
  frame  : MacFrame
  /-- Mosaic mode with an MCS, or spread mode with an SF code -/
  mosaic : Bool
  sf     : Nat
  mcs    : Nat
  /-- channel: true for CHAN_B_HZ, and its centre in Hz -/
  chanB  : Bool
  freq   : Nat
  /-- number of wake blocks sent ahead (R289) -/
  wake   : Nat
  /-- the queue and acceptance sequence of the frame it carries -/
  item   : Option (Nat × Word)
  /-- HDATA: MSEQ, or that of the frame an ACK answers -/
  hdata  : Byte
  /-- bit of LBT_EXEMPT that exempts it, none for no class -/
  cls    : Option Nat
  /-- NTIME by which its listen must have ended: the end of its join slot (R309) -/
  latest : Option Nat := none
  deriving DecidableEq, Repr

/-- A channel-access attempt (R277, R278). -/
structure Attempt where
  job    : TxJob
  /-- busy listens so far -/
  busy   : Nat
  /-- listening, else backing off -/
  listen : Bool
  /-- the back-off has ended and the next listen waits for the radio (R291) -/
  ready  : Bool
  /-- Tl of the listen, or the length of the back-off, in µs -/
  us     : Nat
  deriving DecidableEq, Repr

/-- What SYNTH_UP leads to. -/
inductive UpFor where
  | rx
  | cca
  | tx (job : TxJob)
  | ack (job : TxJob)
  deriving DecidableEq, Repr

/-- An ACK that is due on a channel (R283 to R285). -/
structure AckDue where
  job   : TxJob
  queue : Half
  /-- the commit has completed, or the frame was a duplicate -/
  armed : Bool
  /-- the tag of the frame that it acknowledges -/
  tag   : Half
  deriving DecidableEq, Repr

/-- A frame whose commit is under way, or that is to be judged once an earlier commit to its queue is complete (R354,
R374). -/
structure CommitDue where
  chan    : Path
  queue   : Nat
  seq     : Word
  src     : Byte
  payload : Bytes
  /-- tag, TYPE, dictionary-response bit and SRC for RX_DONE -/
  done    : Half × Nat × Bool × Half
  /-- a flooded DATA: the originator to send a FACK to, and its TTL (R317) -/
  fack    : Option (Half × Nat)
  /-- the downlink frame of a POLL (R306) -/
  dl      : Bool
  deriving DecidableEq, Repr

/-- The radio sequencer (file 11) and the synthesizer and transmitter (file 08). -/
structure Radio where
  /-- RADIO_STATE (R273) -/
  state : RadioState
  /-- reception is on, or was before the transmission (R273) -/
  rxOn  : Bool
  /-- reception is on only for the exchange in hand: after a Firefly wake, or for a reply or a FACK (R290, R305, R317)
  -/
  temp  : Bool
  /-- STOP waits for the end of a confirmed frame (R275) -/
  stopping : Bool
  /-- what SYNTH_UP leads to -/
  up    : UpFor
  /-- the channel-access attempt (R277, R278) -/
  cca   : Option Attempt
  /-- the frame in transmission, or that ACK_WAIT answers -/
  tx    : Option TxJob
  /-- the signal that the transmitter forms while the PA is on (files 09 and 10) -/
  onAir : Option OnAir
  /-- radio settings written since the last frame boundary, with the values that stay in force until the next (R189,
  R229, R241, R272) -/
  inForce : List (Nat × Bytes)
  /-- TIME in µs at which the last transmission ended its ramp-down -/
  endedAt : Nat
  /-- ACKs due (R283, R284) -/
  acks  : List AckDue
  /-- air commits under way (R354) -/
  commits : List CommitDue
  /-- LO frequency in force, lock, and the channel it serves -/
  lo    : Nat
  /-- SYNTH_STATUS lock (R202) -/
  lock  : Bool
  /-- SYNTH_UNLOCKS (R202) -/
  unlocks : Word
  /-- VCO band settings, one for each band of Table 8.1, and the die temperature of their calibration, none while
  the band has not been calibrated (R203) -/
  vco   : List Byte
  /-- temperature of each calibration (R203) -/
  vcoAt : List (Option Half)
  /-- code of TX_EFFECTIVE, and VPA in mV -/
  effective : Nat
  /-- VPA (R205) -/
  vpa   : Nat
  /-- ANT_STATUS class (R207) -/
  antClass : Fin 4
  /-- ANT_STATUS UNTESTED (R207) -/
  untested : Bool
  /-- ANT_STATUS return loss (R207) -/
  antLoss  : Byte
  /-- ANT_FAULTS (R208) -/
  antFaults : Word
  /-- the antenna test of the frame in progress has failed; a class to report when the frame ends -/
  antBad   : Bool
  /-- an antenna verdict of the frame in progress (R208) -/
  antPost  : Option (Fin 4 × Byte)
  /-- MAC.CCA last level (R278) -/
  ccaLast  : Half
  /-- CCA_BUSY_COUNT (R278) -/
  ccaBusy  : Word
  /-- DUTY_BLOCKS (R282) -/
  dutyBlocks : Word
  /-- ACK_SUPP_COUNT (R285) -/
  ackSupp  : Word
  /-- ACK_MISS_COUNT (R286) -/
  ackMiss  : Word
  /-- ACK_SENT (R284) -/
  ackSent  : Word
  /-- FF_WAKES (R290) -/
  ffWakes  : Word
  /-- FF_FALSE (R290) -/
  ffFalse  : Word
  /-- FF_STAY runs: no frame for the node has been confirmed since its wake (R290) -/
  ffStay   : Bool
  /-- the Firefly window in which the device woke has not ended (R293) -/
  window   : Bool
  /-- airtime in µs by sub-band: the current bin first (R281) -/
  bins     : List (List Nat)
  deriving DecidableEq, Repr

/-- A flood copy that waits in a relay buffer (R315). -/
structure RelayCopy where
  orig : Half
  fseq : Half
  job  : TxJob
  /-- µs after the end of the received frame at which it is due -/
  dueUs : Nat
  repeats : Nat
  segs : List Nat
  deriving DecidableEq, Repr

/-- Swarm (§12.6). -/
structure Swarm where
  /-- seen cache of (ORIG, FSEQ), oldest first -/
  seen    : List (Half × Half)
  /-- relay buffers (R315) -/
  buffers : List RelayCopy
  /-- FSEQ (R313) -/
  fseq    : Half
  /-- SW_RELAYED (R315) -/
  relayed : Word
  /-- SW_SUPPRESSED (R315) -/
  suppressed : Word
  /-- SW_DROPS (R315) -/
  drops   : Word
  deriving DecidableEq, Repr

/-- Segments of the relay buffers, which the pool of R335 holds. -/
def Swarm.bufSegs (w : Swarm) : List Nat := (w.buffers.map fun b => b.segs).flatten

/-- A reply to a POLL in preparation, with what the station held at the end of the POLL (R303). -/
structure Reply where
  sf     : Nat
  mosaic : Bool
  mcs    : Nat
  chanB  : Bool
  flooded : Bool
  /-- DLSEQ of the downlink committed from the POLL -/
  dlAck  : Option Word
  /-- the head of Q.0x0000 as a host pushed it, and whether another such frame followed it -/
  head   : Option Frame
  /-- whether another host-pushed frame followed the head (R303) -/
  more   : Bool
  /-- the dictionary response held (R307) -/
  dr     : Option Bytes
  deriving DecidableEq, Repr

/-- A poll exchange at the coordinator (R301 to R305). -/
structure Exchange where
  addr    : Half
  flooded : Bool
  /-- the reply is asked for in Mosaic mode -/
  mosaic  : Bool
  /-- the reply is asked for on CHAN_B_HZ -/
  chanB   : Bool
  sf      : Nat
  /-- the downlink frame it carries -/
  dl      : Option Word
  /-- exchanges with this address in a row -/
  burst   : Nat
  /-- the POLL has been sent -/
  sent    : Bool
  deriving DecidableEq, Repr

/-- The polled network (file 12). -/
structure Net where
  /-- ADDR in force of a node or relay is the live value of ADDR; JOINED -/
  joined   : Bool
  /-- MSEQ (R295) -/
  mseq     : Byte
  /-- MAC_DISCARDS (R294) -/
  discards : Word
  /-- poll table: attribute bytes that are not 0, by address (R300) -/
  polls    : List (Nat × Byte)
  /-- the next address to poll (R301) -/
  pollNext : Half
  /-- the poll exchange (R301, R305) -/
  exch     : Option Exchange
  /-- an exchange of this address with PEND = 1 ended: its count so far (R305) -/
  again    : Option (Half × Nat)
  /-- POLL_MISS (R305) -/
  pollMiss : Word
  /-- CYCLE (R298, R299) -/
  cycle    : Word
  /-- LAST_HASH (R299) -/
  lastHash : Word
  /-- the admission window that the last beacon announced, from its start to its end in NTIME; none while closed -/
  open_    : Option (Nat × Nat)
  /-- the coordinator's beacon of the cycle has begun channel access -/
  beaconOf : Option Nat
  /-- join slot: its start and its end in NTIME (R309) -/
  slot     : Option (Nat × Nat)
  /-- JOIN_COUNT (R310) -/
  joinCount : Word
  /-- station table: SERIAL, role, depth, NTIME; JOIN_INFO (R310) -/
  stations : List (Nat × Option Station)
  /-- newest FCNT accepted from each address (R474) -/
  newest   : List (Nat × Option Word)
  /-- AIR_DREQ pending, AIR_DRSP, and the station's held response (R307) -/
  dreq     : Option (Half × Bytes)
  /-- AIR_DRSP (R307) -/
  drsp     : Bytes
  /-- the station's response held (R307) -/
  held     : Option Bytes
  /-- the reply to a POLL (R303) -/
  reply    : Option Reply
  /-- FACK_WAIT: the queue and sequence of the flooded frame -/
  fackWait : Option (Nat × Word)
  /-- FACKs to send: originator, ORIG_SEQ, TTL, and whether the DATA came on channel B (R211, R317) -/
  facks    : List (Half × Word × Nat × Bool)
  deriving DecidableEq, Repr

/-- The time base (§4.5, R311). -/
structure TimeBase where
  /-- TB_STATE (R89) -/
  state   : Fin 5
  /-- F and P in ppb -/
  freq    : Int
  /-- P (R91) -/
  slew    : Int
  /-- TB_PHASE (R91) -/
  phaseNs : Int
  /-- TB_FCW (R87) -/
  fcw     : Word
  /-- a word computed and not yet loaded -/
  load    : Option Word
  /-- TB_REF (R311) -/
  ref     : Option Half
  /-- TB_DEPTH less 1 (R311) -/
  refDepth : Nat
  /-- a lower-DEPTH copy of this cycle that named the reference: cycle, the DEPTH it had to beat, its SNR -/
  cand    : Option (Word × Nat × Int)
  /-- TIME in µs at the last valid reference frame (R93) -/
  lastRef : Nat
  /-- PERIOD of the last valid beacon received, in ms (R93) -/
  period  : Nat
  deriving DecidableEq, Repr

/-- Frame security (file 19). -/
structure Security where
  /-- epoch and count of the next FCNT (R473) -/
  epoch   : BitVec 12
  /-- TX_FCNT (R473) -/
  count   : Nat
  /-- RX_WIN0: HIGH, MAP, VALID -/
  high    : Word
  /-- RX_WIN0 (R474) -/
  map     : Word
  /-- RX_WIN0 (R474) -/
  valid   : Bool
  /-- SEC_FAIL_MIC (R472) -/
  failMic : Word
  /-- SEC_FAIL_REPLAY (R472) -/
  failReplay : Word
  /-- SEC_FAIL_POLICY (R472) -/
  failPolicy : Word
  /-- SEC_DENIED (R480) -/
  denied  : Word
  /-- DECOM_COUNT (R478) -/
  decomCount : Word
  deriving DecidableEq, Repr

-- TIME, compare, capture and counters (file 16)

/-- A compare channel; CFG's written fields are the live value of CMP_CFGn. -/
structure Compare where
  /-- CFG.MCOUNT -/
  matches_ : Byte
  val      : Time48
  period   : Word
  /-- its bits of TIMER.CMPSTAT -/
  matched  : Bool
  late     : Bool
  deriving DecidableEq, Repr

/-- The input filter of a capture unit or a counter (R419). -/
structure Filter where
  /-- accepted level -/
  level : Bool
  /-- consecutive samples at the other level -/
  run   : Nat
  /-- low TIME at the first of them -/
  first : Word
  deriving DecidableEq, Repr

/-- A paired capture unit (R420). -/
structure CapPair where
  rise  : Word
  fall  : Word
  width : Word
  per   : Word
  rnew  : Bool
  fnew  : Bool
  rovr  : Bool
  fovr  : Bool
  /-- a rise has been captured since the unit was enabled -/
  seen  : Bool
  deriving DecidableEq, Repr

/-- A single capture unit (R421). -/
structure CapSingle where
  val  : Word
  new_ : Bool
  ovr  : Bool
  deriving DecidableEq, Repr

/-- A counter (R422). -/
structure Counter where
  val : Half
  /-- its bit of TIMER.CNTSTAT -/
  ovf : Bool
  deriving DecidableEq, Repr

/-- The timer block. -/
structure Timer where
  /-- TIME (R403) -/
  time      : Dword
  /-- fraction of the accumulator of R94, 24 bits -/
  frac      : BitVec 24
  /-- NT_OFFSET; NTIME is TIME plus it (R88, R412) -/
  ntOffset  : Dword
  /-- SNAP_SEQ (R407) -/
  snapSeq   : Word
  /-- SNAP_TIME (R406) -/
  snapTime  : Dword
  /-- SNAP_NTIME (R406) -/
  snapNtime : Dword
  /-- SNAP_CNT (R406) -/
  snapCnt   : List Half
  cmps      : List Compare
  /-- CAPP_VAL0–7 (R420) -/
  capPairs  : List CapPair
  /-- CAPS_VAL0–3 (R421) -/
  capSingles : List CapSingle
  cnts      : List Counter
  /-- input filters of CAPP0–7 and CAPS0–3, and of CNT0–7 -/
  capFilters : List Filter
  /-- accepted level, samples, first sample (R419) -/
  cntFilters : List Filter
  /-- edges accepted by each capture filter and not yet written to its unit: rising, low TIME -/
  edges     : List (List (Bool × Word))
  /-- TRIG_LOST (R418) -/
  trigLost  : Word
  /-- SKIPS (R410) -/
  skips     : Word
  /-- TIMER.STGMASK, STGBASE, STGSPACE and STGPER -/
  stgMask   : Half
  /-- STGBASE (R414) -/
  stgBase   : Time48
  /-- STGSPACE (R414) -/
  stgSpace  : Word
  /-- STGPER (R414) -/
  stgPer    : Word
  deriving DecidableEq, Repr

-- Pulse inputs, ADC and Hod (file 17)

/-- The line states (R439). -/
inductive LineState where
  | unknown
  | normal
  | reversed
  | open_
  | short
  deriving DecidableEq, Repr

/-- A pulse channel. -/
structure PulseCh where
  /-- accepted level, true closed; in AON (R434) -/
  level   : Bool
  /-- the comparator's last output -/
  out     : Bool
  /-- consecutive samples at `out` -/
  run     : Nat
  line    : LineState
  /-- the last reading that differs from the state, and how often it has come in a row -/
  reading : LineState
  repeats : Nat
  /-- LINE_CODESn -/
  forward : BitVec 12
  reverse : BitVec 12
  /-- the supervision that the start of the channel asks for has not run (R439) -/
  starting : Bool
  /-- TIME at the last supervision, and its code in the polarity in force (R450) -/
  strobe : Option (Dword × BitVec 12)
  deriving DecidableEq, Repr

/-- The pulse inputs. -/
structure Pulse where
  chans   : List PulseCh
  /-- LINE_INDET (R438) -/
  indet   : Word
  /-- PULSE_RESTORE -/
  restore : Fin 3
  /-- CKPT_SEQ -/
  ckptSeq : Word
  /-- a commit has latched its checkpoint: sampling waits for the next boot (R448) -/
  stopped : Bool
  deriving DecidableEq, Repr

/-- The ADC. -/
structure Adc where
  /-- a sequence runs, a trigger is pending (R443) -/
  running : Bool
  /-- a sequence runs, a trigger is pending (R443) -/
  pend    : Bool
  /-- triggers delivered and not yet taken by a start -/
  trig    : Nat
  /-- ADC_OVERRUN (R443) -/
  overrun : Word
  /-- ADC_LAST -/
  last    : List Half
  /-- the channel that SUPNEXT looks at first -/
  supNext : Nat
  /-- the offset measured on the internal ground (R453) -/
  offset  : BitVec 12
  deriving DecidableEq, Repr

/-- A checkpoint: the latched counters, levels and line states (R447). -/
structure Checkpoint where
  time   : Dword
  cnts   : List Half
  levels : List Bool
  lines  : List LineState
  deriving DecidableEq, Repr

/-- Hod. -/
structure Hod where
  /-- the records of each channel's open frame -/
  frames : List (List Bytes)
  /-- HOD_DROPS (R446) -/
  drops  : Word
  /-- a checkpoint latched in sleep, staged at the next wake (R448) -/
  sleepCkpt : Option Checkpoint
  deriving DecidableEq, Repr

/-- The pins. -/
structure Pins where
  /-- levels of the GPIO pins at the last step of TIME -/
  gpio   : BitVec 12
  /-- IOVDD_A and IOVDD_B are present -/
  bankA  : Bool
  /-- IOVDD_B present (R17) -/
  bankB  : Bool
  /-- VIN is reversed: no pin is driven (R26) -/
  reversed : Bool
  /-- RESET_N is low, as the device sees it while IOVDD_A is present (R17, R111) -/
  resetLow : Bool
  deriving DecidableEq, Repr

/-- What is set at manufacture or held in fuses: the identity entries (R182), XO_CFG (R72) and REGION (R197). -/
structure Identity where
  /-- SILICON_REV (R182) -/
  siliconRev : Byte
  /-- SERIAL (R182) -/
  serial     : Dword
  /-- CODE_VERSION (R182) -/
  codeVersion : Word
  /-- XO_CFG and REGION, unwritten while none -/
  xoCfg      : Option Byte
  /-- REGION (R197) -/
  region     : Option Byte
  deriving DecidableEq, Repr

/-- The whole device. -/
structure State where
  sys     : Sys
  boot    : Boot
  sup     : Supply
  /-- live values that differ from their defaults, by index × 256 + subindex (R169) -/
  live    : List (Nat × Bytes)
  ring    : List Event
  evtLost : Word
  spi     : Spi
  field   : FieldPort
  engine  : Engine
  courses : Courses
  mortar  : Mortar
  jrn     : Journal
  qe      : QueueEngine
  repair  : Repair
  scarab  : Scarab
  rx      : Rx
  radio   : Radio
  swarm   : Swarm
  net     : Net
  tb      : TimeBase
  sec     : Security
  id      : Identity
  timer   : Timer
  pulse   : Pulse
  adc     : Adc
  hod     : Hod
  pins    : Pins
  clk     : Clocks
  /-- values drawn so far from the free values of `Config` -/
  draws   : Nat
  /-- commands waiting, first in, first out -/
  pending : List Instr
  deriving DecidableEq, Repr

-- The state after reset

/-! Each part as its tables reset it. A register with no stated value holds the value that the assumption log names. -/

def Spi.reset : Spi := ⟨false, 0, [], false, none, 0, 0⟩

def FieldPort.reset : FieldPort := {
  addr := 1, baud := 4, rev := false, idleLow := false, short := false, contend := false, badFrames := 0, turns := 0,
  echoes := 0, busy := false, mute := false, reply := none, sending := false, retries := 0, waitChars := 0,
  sent := [], own := none }

def Engine.reset : Engine := ⟨none, [], none, 0, 0⟩

def Courses.reset : Courses := ⟨15, none, [], 0, List.replicate 8 none, false⟩

/-- The store as it leaves manufacture (R510): 128 prepared sectors with one erase each, eight spares without a header.
-/
def Mortar.reset : Mortar := {
  sectors := List.replicate 128 ⟨.prepared, 1⟩ ++ List.replicate 8 ⟨.unassigned, 0⟩, pairs := [], state := 0,
  mountUs := 0, nextGen := 0, nextSseq := 0, erasing := none, waiting2 := [], waiting4 := [], stalled3 := false,
  stalled4 := false, repairs := [], refresh := [], weakAt := [], failing := [], refreshes := 0, writeStalls := 0, copyRepairs := 0,
  footingGen := 0 }

def Journal.reset : Journal := ⟨[], [], [], 0, 0, 0, 0, 0, 0⟩

def QueueEngine.reset : QueueEngine := {
  queues := [], accBase := 0, stones := [], slicesOn := 0, evb := List.replicate 4 none, segGen := 0, xsBad := [],
  refusals := [], classChange := none, notices := 0, evictions := 0, evbHits := 0, reissues := 0, airRefused := 0,
  pushFull := 0, framesLost := 0, oversize := 0 }

def Sys.reset : Sys := ⟨.notReady, .node, false, false, false, [], false⟩

/-- A power-on reset is in force. -/
def Boot.reset : Boot := {
  cause := 0, fails := 0, phase := 0, kind := .cold, readyUs := 0, readyAt := 0, hold := 0, resetDue := false,
  resetPort := .spi, anew := false, held := true, waiting := none, footingOk := false, course := 0 }

def Supply.reset : Supply := {
  power := .off, bodWarn := false, therm := 0, temp := 0, samples := [], changedAt := none, badRun := 0,
  discards := 0, crossings := 0, op := 0, vcore := 620, vend := 620, trims := [0, 0, 0, 0], nearMiss := 0,
  vinMv := 1500, vholdMv := 1500, trimLock := 0, sleepDue := none, bodRx := false, sampled := false, wakeReq := 0,
  wakeSrc := 0, rising := 0, waking := false }

def Repair.reset : Repair := {
  factory := [], map := [], mapGen := 0, mapUnsaved := 0, repairCount := 0, elogNext := 0,
  spareOf := List.replicate 4 none, migrating := [], banksLost := [], rowsUsed := [], watch := [], badRows := [],
  suspects := [], badStones := [], slicesOk := 0xFF, bgFaults := 0, eccCorrected := 0, eccUncorrected := 0,
  bistUnit := 0, bistOnce := [], bistFails := 0, bistSkips := 0, tempMin := 0, tempMax := 0, vinMin := 0,
  vholdMin := 0, telemSeen := false }

def Scarab.reset : Scarab := {
  lanePhys := List.range 32, physFail := [], laneDue := [], nextTag := 1, lastTag := 0, dets := [], changed := false,
  earlyCount := 0, cancelCount := 0 }

def Clocks.reset : Clocks := {
  xoOk := false, lfxoOk := false, lock := false, refHfrc := false, lfSrc := false, xoFailed := false,
  lfxoFailed := false, mon := 0, unlocks := 0, restarts := 0, recent := 0, stopped := false, incLfxo := 0x1E848000,
  incLfrc := 0x1E848000, hfrcTrim := 0, lfrcTrim := 0, run0 := 0, run1 := 0, gateLog := 0, gateCount := 0 }

def Rx.reset : Rx := {
  pathsOk := 3, rssiA := 0, rssiB := 0, provA := 0, provB := 0, nfA := 0xFF10, nfB := 0xFF10, nfValid := 0,
  gainA := none, gainB := none, iqAt := [none, none], mosaic := 0, second := false, recA := none, recB := none, preempt := 0,
  dualAckDrop := 0, afcHz := 0, snr := 0, hdrFails := 0, crcFails := 0, length := 0, corrected := 0, losses := 0,
  pilotLosses := 0, evm := 0, tapsA := [], tapsB := [], hdrOk := false, crcOk := false }

def Radio.reset : Radio := {
  state := .off, rxOn := false, temp := false, stopping := false, up := .rx, cca := none, tx := none, onAir := none,
  inForce := [], endedAt := 0, acks := [], commits := [], lo := 0, lock := false, unlocks := 0,
  vco := List.replicate 5 0, vcoAt := List.replicate 5 none, effective := 0, vpa := 0, antClass := 0,
  untested := true, antLoss := 0, antFaults := 0, antBad := false, antPost := none, ccaLast := 0, ccaBusy := 0,
  dutyBlocks := 0, ackSupp := 0, ackMiss := 0, ackSent := 0, ffWakes := 0, ffFalse := 0, ffStay := false, window := false,
  bins := List.replicate 8 [] }

def Swarm.reset : Swarm := ⟨[], [], 0, 0, 0, 0⟩

def Net.reset : Net := {
  joined := false, mseq := 0, discards := 0, polls := [], pollNext := 1, exch := none, again := none, pollMiss := 0,
  cycle := 0, lastHash := 0, open_ := none, beaconOf := none, slot := none, joinCount := 0, stations := [],
  newest := [], dreq := none, drsp := [], held := none, reply := none, fackWait := none, facks := [] }

def TimeBase.reset : TimeBase := ⟨0, 0, 0, 0, 0x06666666, none, none, 0, none, 0, 0⟩

def Security.reset : Security := ⟨0, 0, 0, 0, false, 0, 0, 0, 0, 0⟩

def Identity.reset : Identity := ⟨0, 0, 0, none, none⟩

def Timer.reset : Timer := {
  time := 0, frac := 0, ntOffset := 0, snapSeq := 0, snapTime := 0, snapNtime := 0, snapCnt := List.replicate 8 0,
  cmps := List.replicate 16 ⟨0, 0, 0, false, false⟩,
  capPairs := List.replicate 8 ⟨0, 0, 0, 0, false, false, false, false, false⟩,
  capSingles := List.replicate 4 ⟨0, false, false⟩, cnts := List.replicate 8 ⟨0, false⟩,
  capFilters := List.replicate 12 ⟨false, 0, 0⟩, cntFilters := List.replicate 8 ⟨false, 0, 0⟩,
  edges := List.replicate 12 [], trigLost := 0, skips := 0, stgMask := 0, stgBase := 0, stgSpace := 0, stgPer := 0 }

def Pulse.reset : Pulse := {
  chans := List.replicate 8 ⟨false, false, 0, .unknown, .unknown, 0, 0, 0, false, none⟩, indet := 0, restore := 0,
  ckptSeq := 0, stopped := false }

def Adc.reset : Adc := ⟨false, false, 0, 0, List.replicate 16 0, 0, 0⟩

def Hod.reset : Hod := ⟨List.replicate 8 [], 0, none⟩

/-- Both I/O banks are powered when the device is first released (log entry 106). -/
def Pins.reset : Pins := ⟨0, true, true, false, false⟩

/-- The device as it leaves manufacture, with the power-on reset in force: POWER_ON_RESET releases it and boots it. -/
def State.reset : State := {
  sys := .reset, boot := .reset, sup := .reset, live := [], ring := [], evtLost := 0, spi := .reset, field := .reset,
  engine := .reset, courses := .reset, mortar := .reset, jrn := .reset, qe := .reset, repair := .reset,
  scarab := .reset, rx := .reset, radio := .reset, swarm := .reset, net := .reset, tb := .reset, sec := .reset,
  id := .reset, timer := .reset, pulse := .reset, adc := .reset, hod := .reset, pins := .reset, clk := .reset,
  draws := 0, pending := [] }

end Sys2Proof.Machine
end

