-- ==== Sys2Proof/Machine/Ops.lean ====
section
/-! DEFINITION. The operations every family shares: counters, free values, live values of entries, events,
the error report of the SPI port, and the tests of state that many rules name.
What the manual leaves open here and how the model reads it, with its mark: log entries 7 to 9. -/

namespace Sys2Proof.Machine

/-- A counter of `w` bits that holds `c` after `n` more counts; past the top of its width the value is free. -/
def countUp (w c n : Nat) : BitVec w := BitVec.ofNat w (if c + n < 2 ^ w then c + n else Config.pastMax (c + n))

/-- A 32-bit counter after one count, and after `n`. -/
def inc (c : Word) : Word := countUp 32 c.toNat 1
def incBy (n : Nat) (c : Word) : Word := countUp 32 c.toNat n

/-- A 16-bit and an 8-bit counter after one count. -/
def inc16 (c : Half) : Half := countUp 16 c.toNat 1
def inc8 (c : Byte) : Byte := countUp 8 c.toNat 1

/-- A draw from 0 to `n`, and the state in which the next draw is another one. -/
def draw (n : Nat) (s : State) : Nat × State :=
  (Config.draw s.draws % (n + 1), { s with draws := s.draws + 1 })

/-- A value of `w` bits that the manual leaves open. -/
def freeBits (w : Nat) (s : State) : Nat × State :=
  (Config.free s.draws % 2 ^ w, { s with draws := s.draws + 1 })

-- Live values

/-- The live value of an entry that is stored as written (R169). -/
def liveBytes (s : State) (key : Nat) : Bytes :=
  match s.live.find? (fun p => p.1 == key) with
  | some p => p.2
  | none => defaultOf key

/-- The live value of an entry as a number. -/
def liveNat (s : State) (key : Nat) : Nat := leNat (liveBytes s key)

/-- A radio setting in force: a value written during a frame applies from the next frame boundary (R189, R241, R272). -/
def phyNat (s : State) (key : Nat) : Nat :=
  match s.radio.inForce.find? (fun p => p.1 == key) with
  | some p => leNat p.2
  | none => liveNat s key

/-- The live value of a signed entry of `w` bits. -/
def liveInt (s : State) (w key : Nat) : Int := signed w (liveNat s key)

/-- The live value of a BOOL entry. -/
def liveBool (s : State) (key : Nat) : Bool := liveNat s key == 1

/-- The state with a live value set. -/
def setLive (s : State) (key : Nat) (v : Bytes) : State :=
  { s with live := tabSet (defaultOf key) key v s.live }

-- Device state

/-- The code of a device state (Table 7.3). -/
def DevState.code : DevState → Nat
  | .notReady => 0 | .boot => 1 | .quiet => 2 | .config => 3 | .run => 4 | .maint => 5 | .safe => 6

/-- The role's code (R10). -/
def Role.code : Role → Nat
  | .node => 1 | .relay => 2 | .coordinator => 3

/-- The thermal level is HOT, or CRIT, in which the actions of HOT hold too (R60). -/
def hot (s : State) : Bool := decide (2 ≤ s.sup.therm.val)

-- Events (R150, R151, R181)

def evPktNotice     : Half := 0x0001
def evQto           : Half := 0x0002
def evEarlySync     : Half := 0x0003
def evSync          : Half := 0x0004
def evSyncCancel    : Half := 0x0005
def evRxDone        : Half := 0x0006
def evTxDone        : Half := 0x0007
def evAckMiss       : Half := 0x0008
def evAckSuppressed : Half := 0x0009
def evCcaBusy       : Half := 0x000A
def evDutyBlock     : Half := 0x000B
def evAntFault      : Half := 0x000C
def evLineFault     : Half := 0x000D
def evClkFail       : Half := 0x000E
def evTbHoldover    : Half := 0x000F
def evBodWarn       : Half := 0x0010
def evThermStep     : Half := 0x0011
def evRepair        : Half := 0x0012
def evLockViol      : Half := 0x0013
def evGateErr       : Half := 0x0014
def evIllegalState  : Half := 0x0015
def evMortarRefresh : Half := 0x0016
def evCourseSwitch  : Half := 0x0017

/-- The places of the event ring, and those kept for the three events of R151. -/
def ringSize : Nat := 256
def ringKept : Nat := 8

/-- CLKFAIL, BOD_WARN and THERM_STEP: the events with kept places (R151), whose mask bits always read 1 (R181). -/
def keptEvent (code : Half) : Bool := code == evClkFail || code == evBodWarn || code == evThermStep

/-- The mask lets the event into the ring (R181). -/
def unmasked (s : State) (code : Half) : Bool := keptEvent code || bit (liveNat s K.evtMask) code.toNat

/-- There is a place in the ring for the event (R151). -/
def hasPlace (ring : List Event) (code : Half) : Bool :=
  decide (ring.length < if keptEvent code then ringSize else ringSize - ringKept)

/-- Post an event with its tag and argument at the present TIME (R150, R151, R181). -/
def post (code tag : Half) (arg : Word) (s : State) : State :=
  if unmasked s code then
    if hasPlace s.ring code then
      { s with ring := s.ring ++ [⟨code, tag, s.timer.time.setWidth 48, arg⟩] }
    else { s with evtLost := inc s.evtLost }
  else s

-- The error report of the SPI port (R138)

def errGated    : Byte := 0x01
def errUnmapped : Byte := 0x02
def errState    : Byte := 0x03
def errCrc      : Byte := 0x04
def errOpcode   : Byte := 0x05
def errAlign    : Byte := 0x06
def errLength   : Byte := 0x07
def errFull     : Byte := 0x08
def errEmpty    : Byte := 0x09
def errSeq      : Byte := 0x0A
def errNotReady : Byte := 0x0B
def errBusy     : Byte := 0x0C
def errField    : Byte := 0x0D
def errTrunc    : Byte := 0x0E
def errPower    : Byte := 0x0F

/-- Report an error of the transaction: the first one met is kept (R138). `spi.err` is clear when a transaction
starts, so a set flag means an error met earlier in it. -/
def spiError (code : Byte) (s : State) : State :=
  if s.spi.err then s else { s with spi := { s.spi with err := true, errcode := code } }

-- Abort codes (Table 7.2)

def abOk        : Half := 0x0000
def abNoIndex   : Half := 0x0101
def abNoSub     : Half := 0x0102
def abReadOnly  : Half := 0x0201
def abWriteOnly : Half := 0x0202
def abLocked    : Half := 0x0203
def abLength    : Half := 0x0301
def abRange     : Half := 0x0302
def abState     : Half := 0x0401
def abBusy      : Half := 0x0402
def abGated     : Half := 0x0501
def abPersist   : Half := 0x0601
def abSecurity  : Half := 0x0701

/-- The source code of a port in Tables 4.3 and 7.5. -/
def portCode : Port → Nat
  | .spi => 0 | .field => 1 | .air _ => 2

/-- The refusal of the state rule (R174), with the argument of Table 7.5: the index or register address, the
subindex, whether it is a write, whether a dictionary access, the source, whether the radio state caused it. -/
def illegalState (addr sub : Nat) (write dict : Bool) (source : Nat) (radio : Bool) (s : State) : State :=
  let arg := BitVec.ofNat 32 (addr + 2 ^ 16 * sub + 2 ^ 24 * b2n write + 2 ^ 25 * b2n dict + 2 ^ 26 * source
    + 2 ^ 28 * s.sys.dev.code + 2 ^ 31 * b2n radio)
  post evIllegalState 0 arg { s with engine := { s.engine with
    illegalCount := inc s.engine.illegalCount, lastIllegal := arg } }


end Sys2Proof.Machine
end

