-- ==== Sys2Proof/Machine/Log.lean ====
section
/-! DEFINITION. Mortar as a log that is read: which records count, which are damaged, the newest of a key, what
the Footing, the Courses, the ledger and the other users of the log find in it (R379 to R395), and liveness.
What the manual leaves open here and how the model reads it, with its mark: log entries 10, 84, 90 and 95. -/

namespace Sys2Proof.Machine

-- Record types (Table 15.5)

def rtFoot : Byte := 0x01
def rtFtab : Byte := 0x02
def rtFclr : Byte := 0x03
def rtOnce : Byte := 0x04
def rtCimg : Byte := 0x11
def rtCcmt : Byte := 0x12
def rtJacc : Byte := 0x21
def rtJrel : Byte := 0x22
def rtLedger : Byte := 0x23
def rtEpoch : Byte := 0x24
def rtRcpt : Byte := 0x25
def rtCkpt : Byte := 0x31
def rtRmap : Byte := 0x41
def rtElog : Byte := 0x51

/-- Bytes a record of payload length `len` occupies (R379). -/
def recSize (len : Nat) : Nat := 16 + 4 * ((len + 3) / 4)

/-- A copy is sealed and still verifies, in chain A and in chain B (R380). -/
def Rec.goodA (r : Rec) : Bool := r.sealA && r.okA
def Rec.goodB (r : Rec) : Bool := r.sealB && r.okB

/-- The record counts: either copy is sealed (R389). -/
def Rec.counts (r : Rec) : Bool := r.goodA || r.goodB

/-- The records of a pair that count or are damaged (R391), each with its mark: true for damaged. One that is sealed in
neither chain is ignored; what a mount does not find is no longer in the list. -/
def pairRecs (rs : List Rec) : List (Rec × Bool) :=
  (rs.filter fun r => r.sealA || r.sealB).map fun r => (r, !r.counts)

/-- Every record of the store that counts or is damaged, in the order of appending. -/
def logRecs (m : Mortar) : List (Rec × Bool) := (m.pairs.map fun p => pairRecs p.recs).flatten

/-- Record generation x is newer than y (R381). -/
def genNewer (x y : BitVec 23) : Bool := decide (1 ≤ (x - y).toNat) && decide ((x - y).toNat < 2 ^ 22)

/-- The newest of some marked records. -/
def newestOf : List (Rec × Bool) → Option (Rec × Bool)
  | [] => none
  | x :: xs =>
    match newestOf xs with
    | none => some x
    | some y => if genNewer x.1.gen y.1.gen then some x else some y

/-- The newest record of a type and key, with its damaged mark. -/
def newestKey (m : Mortar) (type : Byte) (key : Nat) : Option (Rec × Bool) :=
  newestOf ((logRecs m).filter fun x => x.1.type == type && x.1.key == key)

/-- The CUTOFF of every FCLR record (Table 15.5); a damaged one hides those before it (R391). -/
def cutoffs (m : Mortar) : List (BitVec 23) :=
  let l := (logRecs m).filter fun x => x.1.type == rtFclr && x.1.key == 0
  (l.filter fun x => !x.2 && l.all fun y => !y.2 || !genNewer y.1.gen x.1.gen).map fun x =>
    BitVec.ofNat 23 (leNat (x.1.payload.take 4))

/-- FCLR makes FOOT, FTAB, CIMG and CCMT records older than its CUTOFF void. -/
def void (m : Mortar) (r : Rec) : Bool :=
  (r.type == rtFoot || r.type == rtFtab || r.type == rtCimg || r.type == rtCcmt) &&
  (cutoffs m).any fun c => genNewer c r.gen

/-- The payload in force of a type and key: the newest record, unless it is damaged or void (R391). -/
def payloadOf (m : Mortar) (type : Byte) (key : Nat) : Option Bytes :=
  match newestKey m type key with
  | some (r, false) => if void m r then none else some r.payload
  | _ => none

/-- The Footing value of an entry (R179). -/
def footValue (m : Mortar) (key : Nat) : Option Bytes := payloadOf m rtFoot key

/-- The stored value of a w1 entry held in Mortar (R176). -/
def onceValue (m : Mortar) (key : Nat) : Option Bytes := (payloadOf m rtOnce key).filter fun v => !v.isEmpty

/-- A table block of the Footing (Table 15.5): table 1 the poll attributes, table 2 the queue attributes. -/
def ftabBlock (m : Mortar) (tab block : Nat) : Option Bytes := payloadOf m rtFtab (tab * 65536 + block)

/-- The distinct keys of some records. -/
def distinctKeys : List Nat → List Nat
  | [] => []
  | k :: ks => if ks.contains k then distinctKeys ks else k :: distinctKeys ks

/-- FOOTING_COUNT: the FOOT keys and FTAB blocks the Footing holds (R179). -/
def footingCount (m : Mortar) : Nat :=
  let rs := (logRecs m).filter fun x => !x.2 && !void m x.1
  (distinctKeys ((rs.filter fun x => x.1.type == rtFoot).map fun x => x.1.key)).length +
    (distinctKeys ((rs.filter fun x => x.1.type == rtFtab).map fun x => x.1.key)).length

/-- The Footing is found when at least one Footing record is sealed (R179). -/
def footingFound (m : Mortar) : Bool := decide (0 < footingCount m)

/-- SEQ_EPOCH: the newest sealed EPOCH record, 0 when none exists (R357). -/
def seqEpoch (m : Mortar) : BitVec 12 :=
  match payloadOf m rtEpoch 0 with
  | some p => BitVec.ofNat 12 (leNat (p.take 2))
  | none => 0

/-- The live CCMT of a Course: slot, fragments, length and CRC (Table 15.8). -/
def courseCommit (m : Mortar) (c : Nat) : Option (Nat × Nat × Nat × Nat) :=
  match payloadOf m rtCcmt c with
  | some p => some (leNat (p.take 1), leNat ((p.drop 1).take 1), leNat ((p.drop 2).take 2), leNat ((p.drop 4).take 4))
  | none => none

/-- Fragments 0 to `n - 1` of a slot of a Course, joined. -/
def fragments (m : Mortar) (c slot : Nat) : Nat → Bytes
  | 0 => []
  | n + 1 => fragments m c slot n ++ (payloadOf m rtCimg (c * 256 + slot * 16 + n)).getD []

/-- The valid image of Course c (R395): its fragments reproduce the CCMT's LENGTH and CRC, which is that of the image's
last field and covers every byte before it (Table 7.6). -/
def courseImage (m : Mortar) (c : Nat) : Option Bytes :=
  match courseCommit m c with
  | none => none
  | some (slot, n, len, crc) =>
    let img := fragments m c slot n
    if n = 0 then none
    else if img.length = len ∧ leNat (img.drop (len - 4)) = crc ∧ (crc32 (img.take (len - 4))).toNat = crc then some img
    else none

/-- The Courses whose live commit names an image that the fragments do not reproduce (R395). -/
def badImages (m : Mortar) : List Nat :=
  (List.range 8).filter fun c => (courseCommit m c).any (fun x => x.2.1 != 0) && (courseImage m c).isNone

/-- The ledger entries of a LEDGER payload (Table 14.3): queue, VALID, LAST_SEQ. -/
def ledgerEntries : Nat → Bytes → List (Nat × Bool × Word)
  | 0, _ => []
  | n + 1, p =>
    if p.length < 8 then []
    else (leNat (p.take 2), bit (leNat ((p.drop 2).take 1)) 0, BitVec.ofNat 32 (leNat ((p.drop 4).take 4))) ::
      ledgerEntries n (p.drop 8)

/-- The newest sealed ledger entry of a queue; a damaged LEDGER record hides every older one (R391). -/
def sealedWindow (m : Mortar) (q : Nat) : Option (Bool × Word) :=
  match newestOf ((logRecs m).filter fun x => x.1.type == rtLedger &&
      (x.2 || (ledgerEntries 32 x.1.payload).any fun e => e.1 == q)) with
  | some (r, false) => ((ledgerEntries 32 r.payload).find? fun e => e.1 == q).map fun e => e.2
  | _ => none

-- The journal records (Table 14.3)

/-- Queue, chain (true for in), fragment, last mark and sequence of a JACC payload. -/
def jaccOf (p : Bytes) : Nat × Bool × Nat × Bool × Word :=
  let b := leNat ((p.drop 2).take 1)
  (leNat (p.take 2), bit b 0, field b 1 3, bit b 4, BitVec.ofNat 32 (leNat ((p.drop 4).take 4)))

/-- Queue, chain and sequence of a JREL payload. -/
def jrelOf (p : Bytes) : Nat × Bool × Word :=
  (leNat (p.take 2), bit (leNat ((p.drop 2).take 1)) 0, BitVec.ofNat 32 (leNat ((p.drop 4).take 4)))

/-- Sequence a is b or older, in the comparison of R360. -/
def seqLe (a b : Word) : Bool := a == b || decide (2 ^ 31 ≤ (a - b).toNat)

/-- The newest sealed JREL of a chain; a damaged one hides every older one of its key, the queue (R391). -/
def sealedRelease (m : Mortar) (q : Nat) (inCh : Bool) : Option Word :=
  match newestOf ((logRecs m).filter fun x => x.1.type == rtJrel &&
      (if x.2 then x.1.key == q else (jrelOf x.1.payload).1 == q && (jrelOf x.1.payload).2.1 == inCh)) with
  | some (r, false) => some (jrelOf r.payload).2.2
  | _ => none

/-- A sealed JREL record releases the frame (R367). -/
def released (m : Mortar) (q : Nat) (inCh : Bool) (seq : Word) : Bool :=
  match sealedRelease m q inCh with
  | some r => seqLe seq r
  | none => false

-- Liveness (R392, Table 15.7)

/-- Newer than every other record of the list that satisfies `same`. -/
def newestAmong (m : Mortar) (r : Rec) (same : Rec → Bool) : Bool :=
  (logRecs m).all fun x => x.1 == r || !same x.1 || !genNewer x.1.gen r.gen

/-- The record is live; `sseq` is its pair's. -/
def live (m : Mortar) (sseq : Nat) (r : Rec) : Bool :=
  let sameKey := fun x : Rec => x.type == r.type && x.key == r.key
  if r.type = rtFoot ∨ r.type = rtFtab ∨ r.type = rtCcmt then newestAmong m r sameKey && !void m r
  else if r.type = rtCimg then newestAmong m r sameKey && !void m r &&
    (match courseCommit m (r.key / 256) with
     | some (slot, _) => slot == r.key / 16 % 16
     | none => false)
  else if r.type = rtFclr then m.pairs.any fun p => decide (p.sseq < sseq)
  else if r.type = rtOnce ∨ r.type = rtEpoch ∨ r.type = rtRcpt ∨ r.type = rtCkpt ∨ r.type = rtRmap ∨ r.type = rtElog then
    newestAmong m r sameKey
  else if r.type = rtJacc then
    let (q, c, f, _, sq) := jaccOf r.payload
    !released m q c sq && newestAmong m r fun x => x.type == rtJacc &&
      (jaccOf x.payload).1 == q && (jaccOf x.payload).2.1 == c && (jaccOf x.payload).2.2.1 == f &&
      (jaccOf x.payload).2.2.2.2 == sq
  else if r.type = rtJrel then newestAmong m r fun x => x.type == rtJrel &&
      (jrelOf x.payload).1 == (jrelOf r.payload).1 && (jrelOf x.payload).2.1 == (jrelOf r.payload).2.1
  else if r.type = rtLedger then
    (ledgerEntries 32 r.payload).any fun e => newestAmong m r fun x => x.type == rtLedger &&
      (ledgerEntries 32 x.payload).any fun e' => e'.1 == e.1
  else false

/-- The live records of a pair. -/
def liveOf (m : Mortar) (p : Pair) : List Rec :=
  ((pairRecs p.recs).filter fun x => !x.2 && live m p.sseq x.1).map fun x => x.1

/-- Every live record. -/
def liveRecs (m : Mortar) : List Rec := (m.pairs.map (liveOf m)).flatten

/-- LIVE_BYTES (R388). -/
def liveSize (m : Mortar) : Nat := ((liveRecs m).map fun r => recSize r.payload.length).sum

/-- HOT_RECORDS (R397). -/
def hotRecords (m : Mortar) : Nat := ((liveRecs m).filter fun r => r.hot).length

/-- JRN_LIVE: journal records that are not obsolete (R367). -/
def journalLive (m : Mortar) : Nat :=
  ((liveRecs m).filter fun r => decide (rtJacc.toNat ≤ r.type.toNat) && decide (r.type.toNat ≤ rtRcpt.toNat)).length

-- Sectors (Table 15.1)

/-- Physical sector i lies in plane 0, which serves chain A. -/
def planeA (i : Nat) : Bool := decide (i < 64) || (decide (128 ≤ i) && decide (i < 132))

/-- The sectors of a chain with their numbers. -/
def chainSectors (m : Mortar) (a : Bool) : List (Nat × Sector) :=
  (m.sectors.zipIdx.map fun x => (x.2, x.1)).filter fun x => planeA x.1 == a

/-- Usable sectors of a chain (R399). -/
def usable (m : Mortar) (a : Bool) : Nat :=
  ((chainSectors m a).filter fun x => x.2.use != .unassigned && x.2.use != .retired).length

/-- PREPARED sectors of a chain. -/
def prepared (m : Mortar) (a : Bool) : Nat := ((chainSectors m a).filter fun x => x.2.use == .prepared).length

/-- The limit on LIVE_BYTES (R388). -/
def liveLimit (m : Mortar) : Nat := (min (usable m true) (usable m false) - 8) * 4064

/-- The erase counts of the sectors in use of a chain. -/
def eraseCounts (m : Mortar) (a : Bool) : List Nat :=
  ((chainSectors m a).filter fun x => x.2.use != .unassigned && x.2.use != .retired).map fun x => x.2.erases.toNat

/-- The largest and the smallest of a list of numbers; 0 of none. -/
def listMax (l : List Nat) : Nat := l.foldl max 0
def listMin : List Nat → Nat
  | [] => 0
  | x :: xs => xs.foldl min x

-- Byte images of the flash (Tables 15.2 and 15.4)

/-- The bytes of a record's copy (Table 15.4); `isSealed` says whether its SEAL is programmed. -/
def recordBytes (r : Rec) (isSealed : Bool) : Bytes :=
  let body := r.type :: leBytes 3 r.key ++ leBytes 4 (r.payload.length + 512 * r.gen.toNat) ++ r.payload ++
    List.replicate ((4 - r.payload.length % 4) % 4) 0
  body ++ leBytes 4 (crc32 body).toNat ++
    leBytes 4 (if isSealed then (if r.hot then 0x5EA1C300 else 0x5EA1C3A5) else 0xFFFFFFFF)

/-- A sector header with its SSEQ, SSEQ_INV, FULL and RETIRE words (Table 15.2). -/
def headerWith (chainB : Bool) (erases : Word) (sseq inv full retire : Nat) : Bytes :=
  let head := leBytes 2 0x4D4F ++ [if chainB then 0x0B else 0x0A, 0xFF] ++ leBytes 4 erases.toNat
  head ++ leBytes 4 (crc32 head).toNat ++ leBytes 4 sseq ++ leBytes 4 inv ++ leBytes 4 full ++ leBytes 4 retire ++
    leBytes 4 0xFFFFFFFF

/-- An erased word (R377). -/
def erasedWord : Nat := 0xFFFFFFFF

/-- The SSEQ of the pair whose place since the first is `n`. -/
def sseqWord (n : Nat) : Nat := (Config.firstSseq + BitVec.ofNat 32 n).toNat

/-- The header of a physical sector (Tables 15.2 and 15.3). -/
def sectorHeader (m : Mortar) (i : Nat) : Bytes :=
  let sec := nth ⟨.unassigned, 0⟩ m.sectors i
  let b := !planeA i
  match sec.use with
  | .unassigned | .dirty => List.replicate 32 0xFF
  | .prepared => headerWith b sec.erases erasedWord erasedWord erasedWord erasedWord
  | .retired => headerWith b sec.erases erasedWord erasedWord erasedWord 0
  | .inPair =>
    match m.pairs.find? fun p => p.secA == i || p.secB == i with
    | some p => headerWith b sec.erases (sseqWord p.sseq) (erasedWord - sseqWord p.sseq)
        (if p.full then 0 else erasedWord) erasedWord
    | none => List.replicate 32 0xFF

/-- The 4 KiB of a physical sector: its header, the copies of its records, and erased flash (R376, R377, R379). -/
def sectorImage (m : Mortar) (i : Nat) : Bytes :=
  let recs := match m.pairs.find? fun p => p.secA == i || p.secB == i with
    | some p => (p.recs.map fun r => recordBytes r (if planeA i then r.sealA else r.sealB)).flatten
    | none => []
  let b := sectorHeader m i ++ recs
  b ++ List.replicate (4096 - b.length) 0xFF

/-- The states of Table 15.3. -/
inductive SectorState where
  | retired | prepared | active | closed | dirty
  deriving DecidableEq, Repr

/-- Zero bits of a 32-bit word. -/
def zeroBits (w : Nat) : Nat := ((List.range 32).filter fun i => !bit w i).length

/-- The state that a sector takes from its header at mount: the first of Table 15.3 that applies (R378). -/
def headerState (h : Bytes) : SectorState :=
  let word := fun (i : Nat) => leNat ((h.drop i).take 4)
  let good := leNat (h.take 2) == 0x4D4F && word 8 == (crc32 (h.take 8)).toNat
  let valid := good && word 12 + word 16 == erasedWord
  if 16 ≤ zeroBits (word 24) then .retired
  else if good && word 12 == erasedWord && word 16 == erasedWord then .prepared
  else if valid && word 20 == erasedWord then .active
  else if valid && word 20 == 0 then .closed
  else .dirty

-- The event log (R466) and the events that it keeps

/-- Stage an event in the log: an ELOG record at source 4 of R383. -/
def logEvent (code tag : Half) (arg : Word) (s : State) : State :=
  let ev := leBytes 2 code.toNat ++ leBytes 2 tag.toNat ++ leBytes 6 (s.timer.time.setWidth 48).toNat ++
    leBytes 4 arg.toNat ++ leBytes 2 0
  { s with
    mortar := { s.mortar with waiting4 := s.mortar.waiting4 ++
      [⟨rtElog, s.repair.elogNext, ev ++ leBytes 2 (seqEpoch s.mortar).toNat ++ leBytes 2 0⟩] }
    repair := { s.repair with elogNext := (s.repair.elogNext + 1) % 64 } }

/-- Post an event that the log keeps. -/
def postLogged (code tag : Half) (arg : Word) (s : State) : State := post code tag arg (logEvent code tag arg s)

/-- REPAIR with its tag and argument (R465). -/
def postRepair (tag arg : Nat) (s : State) : State :=
  postLogged evRepair (BitVec.ofNat 16 tag) (BitVec.ofNat 32 arg)
    { s with repair := { s.repair with repairCount := inc s.repair.repairCount } }

/-- A write of a different value to a locked w1 entry or field: the flag and the event (R176, R177). -/
def lockViolation (addr sub : Nat) (dict : Bool) (source : Nat) (s : State) : State :=
  postLogged evLockViol 0 (BitVec.ofNat 32 (addr + 2 ^ 16 * sub + 2 ^ 24 + 2 ^ 25 * b2n dict + 2 ^ 26 * source))
    { s with sys := { s.sys with lockviol := true } }

/-- The RMAP payload of a map (Table 18.2). -/
def mapPayload (gen : Word) (l : List MapEntry) : Bytes :=
  leBytes 4 gen.toNat ++ [BitVec.ofNat 8 l.length, 0, 0, 0] ++ (l.map fun e => [e.kind, e.b1, e.b2, e.b3]).flatten

/-- The two RMAP records of a map. -/
def mapRecs (gen : Word) (l : List MapEntry) : List NewRec :=
  [⟨rtRmap, 0, mapPayload gen l⟩, ⟨rtRmap, 1, mapPayload gen l⟩]

/-- Put a new map in force and stage its two copies (R464). While both copies of the map before still wait for their seal,
they take the new map under its MAP_GEN (R468). -/
def stageMap (l : List MapEntry) (s : State) : State :=
  let old := mapRecs s.repair.mapGen s.repair.map
  let w := s.mortar.waiting4
  if old.all w.contains then
    let renew := fun (r : NewRec) => if old.contains r then { r with payload := mapPayload s.repair.mapGen l } else r
    { s with
      repair := { s.repair with map := l }
      mortar := { s.mortar with waiting4 := w.map renew } }
  else
    let gen := inc s.repair.mapGen
    { s with
      repair := { s.repair with map := l, mapGen := gen }
      mortar := { s.mortar with waiting4 := w ++ mapRecs gen l } }

/-- Enter a repair in the field map, dropping the entries `drop` names, and post REPAIR (R464, R465). A repair that
does not fit in 62 entries is in force without being entered. -/
def enterRepair (tag arg : Nat) (e : MapEntry) (drop : MapEntry → Bool) (s : State) : State :=
  let kept := s.repair.map.filter fun x => !drop x
  if kept.length < 62 then stageMap (kept ++ [e]) (postRepair tag arg s)
  else postRepair tag (arg + 2 ^ 31)
    { s with repair := { s.repair with mapUnsaved := inc8 s.repair.mapUnsaved } }

end Sys2Proof.Machine
end

