-- ==== Sys2Proof/Machine/Mortar.lean ====
section
/-! DEFINITION. The writer of Mortar: appending, opening and closing pairs, compaction, erase, retirement, refresh
and the mount (R378, R383 to R402).
What the manual leaves open here and how the model reads it, with its mark: log entries 87 to 91. -/

namespace Sys2Proof.Machine

/-- The PREPARED sector of lowest ERASES in a chain, the lowest number first (R384). -/
def pickPrepared (m : Mortar) (a : Bool) : Option Nat :=
  let l := (chainSectors m a).filter fun x => x.2.use == .prepared
  let least := listMin (l.map fun x => x.2.erases.toNat)
  (l.find? fun x => x.2.erases.toNat == least).map fun x => x.1

/-- A sector with another use. -/
def setUse (i : Nat) (u : SectorUse) (m : Mortar) : Mortar :=
  { m with sectors := setNth m.sectors i { nth ⟨.unassigned, 0⟩ m.sectors i with use := u } }

/-- Close the ACTIVE pair in both chains (R384). -/
def closePair (m : Mortar) : Mortar :=
  { m with pairs := m.pairs.map fun p => { p with full := true } }

/-- Open a new pair, if both chains have more than `limit` PREPARED sectors (R384, R387). -/
def openPair (limit : Nat) (m : Mortar) : Option Mortar :=
  if limit < prepared m true ∧ limit < prepared m false then
    match pickPrepared m true, pickPrepared m false with
    | some a, some b =>
      let m := setUse b .inPair (setUse a .inPair (closePair m))
      some { m with
        pairs := m.pairs ++ [⟨m.nextSseq, a, b, false, []⟩]
        nextSseq := m.nextSseq + 1 }
    | _, _ => none
  else none

/-- Bytes left for records in the ACTIVE pair; 0 when no pair is ACTIVE. -/
def roomLeft (m : Mortar) : Nat :=
  match m.pairs.getLast? with
  | some p => if p.full then 0 else 4064 - (p.recs.map fun r => recSize r.payload.length).sum
  | none => 0

/-- The payload as programmed: an FCLR takes its own GEN as CUTOFF at its first writing (Table 15.5). -/
def programmed (m : Mortar) (r : NewRec) : Bytes :=
  if r.type = rtFclr ∧ r.payload = [] then leBytes 4 m.nextGen.toNat else r.payload

/-- Add a record to the ACTIVE pair, with its GEN and the seals that were programmed. FOOTING_GEN counts every FOOT and
FTAB record so written, the copies of compaction, refresh and repair too, and no FCLR record (R179; DESIGN CHOICE, log
entry 117). -/
def addRec (isHot : Bool) (r : NewRec) (sealA sealB : Bool) (m : Mortar) : Mortar :=
  let rec' : Rec := ⟨r.type, r.key, m.nextGen, programmed m r, isHot, sealA, sealB, true, true⟩
  { m with
    pairs := m.pairs.dropLast ++ (m.pairs.getLast?.toList.map fun p => { p with recs := p.recs ++ [rec'] })
    nextGen := m.nextGen + 1
    footingGen := if sealB && (r.type == rtFoot || r.type == rtFtab) then inc m.footingGen else m.footingGen }

/-- Append records in order; a record that does not fit closes the pair and opens the next (R384). The first record
for which no pair may be opened, and every later one, stays unwritten. `seals i` says which seals of record i are
programmed. -/
def appendFrom (limit : Nat) (isHot : Bool) (seals : Nat → Bool × Bool) :
    Nat → List NewRec → Mortar → Mortar × List NewRec
  | _, [], m => (m, [])
  | i, r :: rs, m =>
    if recSize (programmed m r).length ≤ roomLeft m then
      appendFrom limit isHot seals (i + 1) rs (addRec isHot r (seals i).1 (seals i).2 m)
    else
      match openPair limit m with
      | some m' => appendFrom limit isHot seals (i + 1) rs (addRec isHot r (seals i).1 (seals i).2 m')
      | none => (m, r :: rs)

/-- Append records that are all sealed. -/
def appendAll (limit : Nat) (isHot : Bool) (rs : List NewRec) (m : Mortar) : Mortar × List NewRec :=
  appendFrom limit isHot (fun _ => (true, true)) 0 rs m

/-- The die temperature exceeds 110 °C: records are hot-written (R65, R397). -/
def hotWrite (s : State) : Bool := decide (1100 < s.sup.temp.toInt)

/-- Append at source 1 of R383: it may open sectors to the last one, and seals what it can (R387, R511). Copies of torn
records that still wait come first (R390). -/
def commitRecs (rs : List NewRec) (s : State) : State :=
  let x := appendAll 0 (hotWrite s) (s.mortar.repairs ++ rs) s.mortar
  { s with mortar := { x.1 with
    repairs := []
    copyRepairs := incBy (min s.mortar.repairs.length (s.mortar.repairs.length + rs.length - x.2.length))
      x.1.copyRepairs } }

/-- The append would raise LIVE_BYTES above its limit (R388). -/
def overLimit (s : State) (rs : List NewRec) : Bool :=
  let m := (appendAll 0 (hotWrite s) rs s.mortar).1
  decide (liveSize s.mortar < liveSize m) && decide (liveLimit s.mortar < liveSize m)

/-- The ending of an append, as the seals it leaves: a torn one programs the first seals only (R380, R383). -/
def sealsOf (ending : AppendEnd) (n : Nat) : Nat → Bool × Bool :=
  match ending with
  | .torn a b => fun i => (decide (i < a), decide (n ≤ a) && decide (i < b))
  | _ => fun _ => (true, true)

/-- The sector of a chain in the ACTIVE pair. -/
def activeSector (m : Mortar) (chainB : Bool) : Option Nat :=
  m.pairs.getLast?.map fun p => if chainB then p.secB else p.secA

/-- A program of record `r` fails its verify: the sector it was programmed in is closed in both chains, and is retired
after its pair's compaction (R398). Without a sector to program nothing fails. -/
def failProgram (limit : Nat) (chainB : Bool) (r : NewRec) (m : Mortar) : Mortar :=
  let at_ := if recSize (programmed m r).length ≤ roomLeft m then some m else openPair limit m
  match at_ with
  | some m1 => { closePair m1 with failing := m1.failing ++ (activeSector m1 chainB).toList }
  | none => m

/-- How many of the records fit in the ACTIVE pair. -/
def fitting : Nat → List NewRec → Mortar → Nat
  | _, [], _ => 0
  | room, r :: rs, m =>
    let n := recSize (programmed m r).length
    if n ≤ room then 1 + fitting (room - n) rs m else 0

/-- The supply is lost while a pair is opened in the middle of a batch (R377, R378, R383). In chain A no seal has been
programmed; in chain B the batch is sealed in chain A. The header that the torn program leaves gives the sector its
state; a sector whose partner was not opened makes no pair, and is erased and prepared like a DIRTY one (DESIGN CHOICE,
log entry 137). -/
def tornOpening (limit : Nat) (isHot chainB : Bool) (sseq inv : Word) (rs : List NewRec) (m : Mortar) : Mortar :=
  let n := fitting (roomLeft m) rs m
  let part := (appendFrom limit isHot (fun _ => (chainB, false)) 0 (rs.take n) m).1
  if n = rs.length then part
  else
    match pickPrepared part true, pickPrepared part false, openPair limit part with
    | some a, some b, some opened =>
      let torn := if chainB then b else a
      let sec := nth ⟨.unassigned, 0⟩ part.sectors torn
      let use := fun st => if st = SectorState.prepared then SectorUse.prepared else .dirty
      match headerState (headerWith chainB sec.erases sseq.toNat inv.toNat erasedWord erasedWord) with
      | .active =>
        if chainB then (appendFrom limit isHot (fun _ => (true, false)) n (rs.drop n) opened).1
        else setUse a .dirty (closePair part)
      | st =>
        let closed := setUse torn (use st) (closePair part)
        if chainB then setUse a .dirty closed else closed
    | _, _, _ => part

/-- The store as a failing program of the batch leaves it, before the batch is appended again. -/
def failedFirst (limit : Nat) (ending : AppendEnd) (rs : List NewRec) (m : Mortar) : Mortar :=
  match ending, rs with
  | .progFail chainB, r :: _ => failProgram limit chainB r m
  | _, _ => m

/-- A batch of one source, with the ending given. A failing program closes the sector in both chains and appends the
batch again in a new pair (R398). -/
def appendBatch (limit : Nat) (isHot : Bool) (ending : AppendEnd) (rs : List NewRec) (m : Mortar) :
    Mortar × List NewRec :=
  match ending with
  | .tornOpen chainB sseq inv => (tornOpening limit isHot chainB sseq inv rs m, [])
  | _ => appendFrom limit isHot (sealsOf ending rs.length) 0 rs (failedFirst limit ending rs m)

/-- A commit in which programs fail their verify (R398, R402, R511): the records before each stay, and the commit goes
on from it in the next PREPARED sector. The sectors are retired later. -/
def commitFail : List (Nat × Bool) → List NewRec → State → State
  | [], rs, s => commitRecs rs s
  | (i, chainB) :: l, rs, s =>
    match rs.drop i with
    | [] => commitRecs rs s
    | r :: later =>
      let s := commitRecs (rs.take i) s
      commitFail l (r :: later)
        { s with mortar := failProgram 0 chainB r s.mortar }

-- Retirement (R398, R399)

/-- The unassigned spare of lowest number in a chain's plane. -/
def pickSpare (m : Mortar) (a : Bool) : Option Nat :=
  ((chainSectors m a).find? fun x => x.2.use == .unassigned).map fun x => x.1

/-- An erased and prepared sector: ERASES one above the highest of its chain (R378). -/
def prepareDirty (i : Nat) (m : Mortar) : Mortar :=
  let e := BitVec.ofNat 32 (listMax (eraseCounts m (planeA i)) + 1)
  { m with sectors := setNth m.sectors i ⟨.prepared, e⟩ }

/-- The store is read-only while either chain has fewer than 16 usable sectors (R399). -/
def judgeReadOnly (m : Mortar) : Mortar :=
  if m.state = 1 ∧ (usable m true < 16 ∨ usable m false < 16) then { m with state := 2 } else m

/-- Retire a sector: a spare of its plane takes its place, the field map and REPAIR record it. -/
def retireSector (i : Nat) (s : State) : State :=
  let m := setUse i .retired s.mortar
  let spare := pickSpare m (planeA i)
  let m' := match spare with
    | some j => prepareDirty j m
    | none => m
  let spareByte := spare.getD 0xFF
  let s := { s with mortar := judgeReadOnly { m' with failing := m'.failing.filter fun x => x != i } }
  enterRepair 0x06 (i + 256 * spareByte) ⟨0x06, BitVec.ofNat 8 i, BitVec.ofNat 8 spareByte, 0xFF⟩ (fun _ => false) s

/-- A sector whose erase has ended: prepared with ERASES advanced, or retired when the erase failed its verify, the
sector is marked to fail, or its ERASES had reached 20 000 before this compaction (R393, R398). -/
def endErase (i : Nat) (ok : Bool) (s : State) : State :=
  let sec := nth ⟨.unassigned, 0⟩ s.mortar.sectors i
  let e := inc sec.erases
  let s' := { s with mortar := { s.mortar with sectors := setNth s.mortar.sectors i ⟨.prepared, e⟩ } }
  if ok && !s.mortar.failing.contains i && decide (sec.erases.toNat < 20000) then s' else retireSector i s'

-- Compaction and refresh (R393 to R397)

/-- The live ledger entries of a record: the newest sealed of their queue. -/
def liveLedger (m : Mortar) (r : Rec) : List (Nat × Bool × Word) :=
  (ledgerEntries 32 r.payload).filter fun e => newestAmong m r fun x => x.type == rtLedger &&
    (ledgerEntries 32 x.payload).any fun e' => e'.1 == e.1

/-- A LEDGER entry's bytes (Table 14.3). -/
def ledgerEntryBytes (e : Nat × Bool × Word) : Bytes :=
  leBytes 2 e.1 ++ [if e.2.1 then 1 else 0, 0] ++ leBytes 4 e.2.2.toNat

/-- LEDGER records of up to 32 entries each. -/
def ledgerRecs : Nat → List (Nat × Bool × Word) → List NewRec
  | 0, _ => []
  | _, [] => []
  | fuel + 1, e :: es =>
    ⟨rtLedger, 0, (((e :: es).take 32).map ledgerEntryBytes).flatten⟩ :: ledgerRecs fuel ((e :: es).drop 32)

/-- The copies that a compaction of a pair appends (R393). -/
def copiesOf (m : Mortar) (p : Pair) : List NewRec :=
  let l := liveOf m p
  let others := (l.filter fun r => r.type != rtLedger).map fun r => (⟨r.type, r.key, r.payload⟩ : NewRec)
  let entries := ((l.filter fun r => r.type == rtLedger).map (liveLedger m)).flatten
  others ++ ledgerRecs entries.length entries

-- Reset and mount

/-- A reset, or the loss of the supply, abandons an erase and everything that waits for the writer (R385, R400). -/
def dropWaiting (m : Mortar) : Mortar :=
  { m with erasing := none, waiting2 := [], waiting4 := [], stalled3 := false, stalled4 := false, state := 0 }

/-- The records sealed in chain A whose chain-B copy is not, in log order: what R390 repairs. A record that one sealed in
chain B follows was torn before an earlier mount, which has repaired it. -/
def tornRecs (m : Mortar) : List NewRec :=
  let l := (logRecs m).map fun x => x.1
  (l.filter fun r => r.goodA && !r.sealB && l.all fun y => !y.goodB || !genNewer y.gen r.gen).map
    fun r => ⟨r.type, r.key, r.payload⟩

/-- The scan of a pair (R389): each copy up to its first record that is not sealed. Where both scans end at one record
and a later one is sealed, or it is sealed and fails its CRC in both copies, it is damaged (R391). A pair with a record
that is not sealed in both chains takes no more records, so that no sealed record follows an unsealed one (R383; log
entry 130). -/
def scanPair (p : Pair) : Pair :=
  let n := max (p.recs.takeWhile Rec.goodA).length (p.recs.takeWhile Rec.goodB).length
  let full := p.full || p.recs.any fun r => !r.sealA || !r.sealB
  match p.recs.drop n with
  | [] => { p with full := full }
  | r :: later =>
    if !r.counts && (r.sealA || r.sealB || later.any Rec.counts) then
      { p with full := true, recs := p.recs.take n ++ [{ r with sealA := true, okA := false, okB := false }] }
    else { p with full := true, recs := p.recs.take n }

/-- The pairs as a mount finds them: only the newest may be ACTIVE, an older one that is not FULL is treated as CLOSED
(R378), and each holds what its scan finds. -/
def classify (m : Mortar) : Mortar :=
  let older := m.pairs.dropLast.map fun p => { p with full := true }
  { m with pairs := (older ++ m.pairs.getLast?.toList).map scanPair }

/-- The newest GEN found, plus one (R381). -/
def mountGen (m : Mortar) : BitVec 23 :=
  match newestOf (logRecs m) with
  | some (r, _) => r.gen + 1
  | none => m.nextGen

/-- The damaged records: REPAIR tag 0x08 (R391). -/
def damagedRecs (m : Mortar) : List Rec := ((logRecs m).filter fun x => x.2).map fun x => x.1

/-- DIRTY sectors other than those of an erase in progress. -/
def dirtySectors (m : Mortar) : List Nat :=
  ((m.sectors.zipIdx.filter fun x => x.1.use == .dirty).map fun x => x.2).filter fun i =>
    !m.erasing.any fun e => e.1 == i || e.2 == i

/-- What a mount has to program and erase before the first new append: DIRTY sectors are prepared, or retired where a
program in them has failed, and copies of torn records are appended in a new pair. HOT defers it (R397). -/
def tidyFlash (s : State) : State :=
  if hot s || (s.mortar.state != 1 && s.mortar.state != 2) then s
  else
    let s := (dirtySectors s.mortar).foldl (fun t i =>
      if t.mortar.failing.contains i then retireSector i t
      else { t with mortar := prepareDirty i t.mortar }) s
    if s.mortar.repairs = [] then s
    else
      let m := (openPair 0 s.mortar).getD (closePair s.mortar)
      commitRecs [] { s with mortar := m }

/-- The mount of boot phase 3 (R389 to R391, R395): classify and scan, report damaged records and images, prepare dirty
sectors and repair torn records. `written` is false in a boot that leaves Mortar unwritten (R123). -/
def mount (us : Word) (written : Bool) (s : State) : State :=
  let m := classify s.mortar
  let m := { m with nextGen := mountGen m, mountUs := us, repairs := [] }
  if !written then { s with mortar := { m with state := 3 } }
  else
    let m := judgeReadOnly { m with state := 1 }
    let torn := tornRecs m
    let m := if torn = [] then m else { closePair m with repairs := torn }
    let s := tidyFlash { s with mortar := m }
    let s := (damagedRecs m).foldl (fun t r => postRepair 0x08 (2 ^ 24 * r.type.toNat + r.key % 2 ^ 24) t) s
    (badImages m).foldl (fun t c => postRepair 0x08 (2 ^ 24 * rtCcmt.toNat + c) t) s

end Sys2Proof.Machine
end

