-- ==== Sys2Proof/Machine/Queue.lean ====
section
/-! DEFINITION. Queues: classes, segments, stones, the journal stage, and the operations that append frames to a
chain and take them from it (files 13 and 14).
What the manual leaves open here and how the model reads it, with its mark: log entries 80 to 86. -/

namespace Sys2Proof.Machine

/-- An empty queue (R326): ACC_SEQ as the last boot that did not keep Ashlar set it (R357). -/
def emptyQueue (accBase : Word) : Queue := ⟨[], [], accBase, 0, 0, 0, false, false⟩

/-- The queue of number `q`. -/
def getQueue (s : State) (q : Nat) : Queue := tabGet (emptyQueue s.qe.accBase) q s.qe.queues

/-- The state with a queue replaced. -/
def setQueue (q : Nat) (v : Queue) (s : State) : State :=
  { s with qe := { s.qe with queues := tabSet (emptyQueue s.qe.accBase) q v s.qe.queues } }

-- Attributes (R327, Table 13.2)

/-- The attributes in force: the queue's own while SET is 1, else DEF_ATTR. -/
def attrOf (s : State) (q : Nat) : Nat :=
  let a := (getQueue s q).attr.toNat
  if bit a 15 then a else liveNat s K.defAttr

def guarded (s : State) (q : Nat) : Bool := bit (attrOf s q) 0
def durable (s : State) (q : Nat) : Bool := bit (attrOf s q) 1
def xspiClass (s : State) (q : Nat) : Bool := bit (attrOf s q) 3 && !guarded s q
def notice (s : State) (q : Nat) : Bool := bit (attrOf s q) 5
def groupOf (s : State) (q : Nat) : Nat := field (attrOf s q) 8 4

/-- LOCAL in force (R322). -/
def isLocal (s : State) (q : Nat) : Bool :=
  bit (attrOf s q) 2 || (if s.sys.role = .coordinator then q == 0 || q == 0xFFFF else q != 0)

/-- PIN in force (R327): by role for Q.0x0000 of a node or relay, else by the queue's own attributes. -/
def pinned (s : State) (q : Nat) : Bool :=
  if s.sys.role ≠ .coordinator ∧ q = 0 then true
  else bit (getQueue s q).attr.toNat 15 && bit (getQueue s q).attr.toNat 4

/-- The queues that have PIN in force, counted as R337 counts them. -/
def pinCount (s : State) : Nat :=
  (s.qe.queues.filter fun x => bit x.2.attr.toNat 15 && bit x.2.attr.toNat 4 &&
    (s.sys.role == .coordinator || x.1 != 0)).length + (if s.sys.role = .coordinator then 0 else 1)

-- Segments (R329 to R336, R343)

/-- Indices of Ashlar, and of each half. -/
def ashlarPlaces : Nat := 96256
def ashlarHalf : Nat := 48128

/-- Segments a frame of L payload bytes occupies (R331). -/
def segsFor (len : Nat) : Nat := 1 + (len - 40 + 51) / 52

/-- The indices a frame occupies, mirrors too. -/
def frameSegs (f : Frame) : List Nat := f.segs ++ (if f.mirrored then f.segs.map (· + ashlarHalf) else [])

/-- Every allocated segment index. -/
def usedSegs (s : State) : List Nat :=
  ((s.qe.queues.map fun x => ((x.2.inCh ++ x.2.outCh).map frameSegs).flatten).flatten) ++ s.swarm.bufSegs

/-- The bank that holds the mirrors or partners of bank b of 32–125. -/
def partnerBank (b : Nat) : Nat := if b < 79 then b + 47 else b - 47

/-- Segment banks whose indices have left the free pool: retired ones and their partners (R460). -/
def goneBanks (s : State) : List Nat :=
  let l := s.repair.banksLost.filter fun b => decide (32 ≤ b) && decide (b ≤ 125)
  distinctKeys (l ++ l.map partnerBank)

/-- The index lies in a bank that has left the free pool. -/
def bankGone (s : State) (i : Nat) : Bool := (goneBanks s).contains (32 + i / 1024)

/-- The index can be allocated. -/
def segFree (s : State) (used : List Nat) (i : Nat) : Bool := !used.contains i && !bankGone s i

/-- The Ashlar indices in use, xSPI ones left out. -/
def usedAshlar (s : State) : List Nat := (usedSegs s).filter fun i => decide (i < ashlarPlaces)

/-- FREE_SINGLES (R334). -/
def freeSingles (s : State) : Nat :=
  ashlarPlaces - ((usedAshlar s).filter fun i => !bankGone s i).length - 1024 * (goneBanks s).length

/-- FREE_PAIRS: indices below 48,128 that are free with their mirror (R334). -/
def freePairs (s : State) : Nat :=
  let used := distinctKeys ((usedAshlar s).map fun i => if i < ashlarHalf then i else i - ashlarHalf)
  ashlarHalf - 1024 * ((goneBanks s).length / 2) - (used.filter fun i => !bankGone s i).length

/-- Places of the xSPI tier (R342); none while its bank is unpowered (R17). -/
def xspiPlaces (s : State) : Nat :=
  if liveBool s K.xsEn && decide (1 ≤ liveNat s K.xsSize) && s.pins.bankA then
    8 * 1024 * 1024 * 2 ^ (liveNat s K.xsSize - 1) / 64
  else 0

/-- XS_FREE (R343). -/
def xspiFree (s : State) : Nat := xspiPlaces s - ((usedSegs s).filter fun i => decide (2 ^ 23 ≤ i)).length

/-- The lowest index from `i` on that satisfies `ok`, looking at `fuel` of them. -/
def firstFree (ok : Nat → Bool) : Nat → Nat → Option Nat
  | 0, _ => none
  | fuel + 1, i => if ok i then some i else firstFree ok fuel (i + 1)

/-- The place a new segment may take, `taken` being those that the frame has taken already: `mirror` for a guarded frame,
`middle` for a middle segment of an XSPI queue. The segments taken count in FREE_SINGLES (R343). -/
def pickSegment (s : State) (used taken : List Nat) (mirror middle : Bool) : Option Nat :=
  let used := taken ++ used
  let ashlar :=
    if mirror then firstFree (fun i => segFree s used i && segFree s used (i + ashlarHalf)) ashlarHalf 0
    else firstFree (segFree s used) ashlarPlaces 0
  if !middle then ashlar
  else
    let free := freeSingles s - (taken.filter fun i => decide (i < ashlarPlaces)).length
    if free * 100 < liveNat s K.xsLow * ashlarPlaces ∨ ashlar = none then
      match firstFree (fun i => !used.contains (2 ^ 23 + i)) (xspiPlaces s) 0 with
      | some j => some (2 ^ 23 + j)
      | none => ashlar
    else ashlar

/-- Indices for the `n` segments of a new frame that are still to be chosen, after those of `acc`; it ends early when the
class can find no more. -/
def pickSegments (s : State) (mirror xspi : Bool) (used : List Nat) : Nat → List Nat → List Nat
  | 0, acc => acc
  | n + 1, acc =>
    let taken := acc ++ (if mirror then acc.map (· + ashlarHalf) else [])
    match pickSegment s used taken mirror (xspi && decide (acc ≠ []) && decide (n ≠ 0)) with
    | some i => pickSegments s mirror xspi used n (acc ++ [i])
    | none => acc

/-- The indices that a frame of `len` bytes in queue `q` finds, perhaps too few. -/
def segmentsFor (s : State) (q len : Nat) : List Nat :=
  pickSegments s (guarded s q) (xspiClass s q) (usedSegs s) (segsFor len) []

/-- Indices for a frame of `len` bytes in queue `q`. -/
def allocate (s : State) (q len : Nat) : Option (List Nat) :=
  let l := segmentsFor s q len
  if l.length = segsFor len then some l else none

-- Segments as bytes (R330, R331)

/-- A segment (Table 13.4): NEXT, FLAGS, 52 data bytes, and the GEN of its write. -/
def segmentBytes (next flags : Nat) (gen : BitVec 12) (data : Bytes) : Bytes :=
  let body := leBytes 3 next ++ [BitVec.ofNat 8 flags] ++ data.take 26 ++ leBytes 2 gen.toNat ++
    (data.drop 26).take 26 ++ leBytes 2 (gen.toNat + 4096)
  body ++ leBytes 4 (crc32 body).toNat

/-- The segment is valid (R330). -/
def segmentValid (b : Bytes) : Bool :=
  let tag := fun (i : Nat) => leNat ((b.drop i).take 2)
  b.length == 64 && tag 30 / 4096 == 0 && tag 58 / 4096 == 1 && tag 30 % 4096 == tag 58 % 4096 &&
    leNat (b.drop 60) == (crc32 (b.take 60)).toNat

/-- The null index (R329). -/
def nullIndex : Nat := 0x7FFFFF

/-- The 52 bytes that segment `k` holds of what a frame stores; unused ones are zero (R331). -/
def segmentData (stored : Bytes) (k : Nat) : Bytes :=
  let d := (stored.drop (52 * k)).take 52
  d ++ List.replicate (52 - d.length) 0

/-- The segments of a frame that stores `stored` at the indices `segs`, each with NEXT, FIRST and LAST; `next` follows the
last one (R331). -/
def layFrame (stored : Bytes) (segs : List Nat) (next : Nat) (gen : BitVec 12) : List Bytes :=
  (List.range segs.length).map fun k =>
    segmentBytes (if k + 1 = segs.length then next else segs.getD (k + 1) nullIndex)
      (b2n (k == 0) + 2 * b2n (k + 1 == segs.length)) gen (segmentData stored k)

/-- The data bytes of valid segments, joined: what a reader of a frame gets. -/
def readSegments : List Bytes → Option Bytes
  | [] => some []
  | b :: l =>
    if segmentValid b then (readSegments l).map fun d => ((b.drop 4).take 26 ++ (b.drop 32).take 26) ++ d else none

-- Stones (R338 to R341)

/-- Places for stones in the usable slices. -/
def stonePlaces (s : State) : List Nat := (List.range 512).filter fun p => bit s.repair.slicesOk.toNat (p / 64)

/-- Nothing dirty, and the segment writes that the write-back of dirty parts makes (R340). -/
def Parts.clean : Parts := ⟨false, false, false⟩
def tailWrites (p : Parts) : Nat := b2n p.inTail + b2n p.outTail

/-- The next GENs after `n` segment writes (R330). -/
def advanceGen (n : Nat) (s : State) : State :=
  { s with qe := { s.qe with segGen := s.qe.segGen + BitVec.ofNat 12 n } }

/-- An eviction entry retires: its write-backs are done and acknowledged (R340). -/
def retireEntry (i : Nat) (s : State) : State :=
  match nth none s.qe.evb i with
  | none => s
  | some e =>
    advanceGen (tailWrites e.dirty)
      { s with qe := { s.qe with evb := setNth s.qe.evb i none } }

/-- An operation of the queue is in progress: a frame from the air is being committed. -/
def inProgress (s : State) (q : Nat) : Bool := s.radio.commits.any fun c => c.queue == q

/-- The stone to evict: least recently used without PIN and with no operation in progress. Where there is none, an
operation ends, within the wait of the operation that needs one, and its stone can be evicted; with PIN in force on every stone, the least recently used (R340). -/
def victim (s : State) : Option Stone :=
  ((s.qe.stones.find? fun t => !pinned s t.queue && !inProgress s t.queue).orElse fun _ =>
    s.qe.stones.find? fun t => !pinned s t.queue).orElse fun _ => s.qe.stones.head?

/-- Copy a stone into a free entry of the eviction buffer and free it (R340). -/
def evictStone (t : Stone) (s : State) : State :=
  match s.qe.evb.findIdx? fun e => e.isNone with
  | none => s
  | some i => { s with qe := { s.qe with
      evb := setNth s.qe.evb i (some ⟨t.queue, t.dirty⟩)
      stones := s.qe.stones.filter fun u => u.queue != t.queue
      evictions := inc s.qe.evictions } }

/-- Make one stone free. While every entry is busy the eviction waits (R340); the wait ends inside the operation, and
the first entry retires. -/
def freeStone (s : State) : State :=
  match victim s with
  | none => s
  | some t =>
    let s := if s.qe.evb.any (fun e => e.isNone) then s else retireEntry 0 s
    evictStone t s

/-- STONE_EVICTION: no stone is free, and an eviction entry is. -/
def stoneEviction (s : State) : State :=
  if s.qe.stones.length < (stonePlaces s).length then s
  else
    match victim s with
    | none => s
    | some t => evictStone t s

/-- The queue takes a stone, or keeps the one it has, as the most recently used (R339). A stone loaded while the
queue's contents are in an eviction entry takes them from it, with its dirty marks (R341). -/
def touch (q : Nat) (s : State) : State :=
  match s.qe.stones.find? fun t => t.queue == q with
  | some t => { s with qe := { s.qe with stones := (s.qe.stones.filter fun u => u.queue != q) ++ [t] } }
  | none =>
    let s := if (stonePlaces s).length ≤ s.qe.stones.length then freeStone s else s
    let entry := s.qe.evb.find? fun e => e.any fun x => x.queue == q
    let dirty := ((entry.bind id).map fun x => x.dirty).getD .clean
    let s := if entry.isSome then { s with qe := { s.qe with evbHits := inc s.qe.evbHits } } else s
    match (stonePlaces s).find? fun p => s.qe.stones.all fun t => t.place != p with
    | none => s
    | some p => { s with qe := { s.qe with
        stones := s.qe.stones ++ [⟨q, p, dirty⟩]
        slicesOn := s.qe.slicesOn ||| BitVec.ofNat 8 (2 ^ (p / 64)) } }

/-- The stone of an unguarded queue changes in some parts, which Ashlar does not hold then (R339). -/
def markParts (q : Nat) (change : Parts → Parts) (s : State) : State :=
  if guarded s q then s
  else { s with qe := { s.qe with
    stones := s.qe.stones.map fun t => if t.queue = q then { t with dirty := change t.dirty } else t } }

/-- The parts after an append to a chain: the descriptor and the new tail (Table 13.6). -/
def appended (inCh : Bool) (p : Parts) : Parts :=
  if inCh then { p with desc := true, inTail := true } else { p with desc := true, outTail := true }

/-- The parts after frames have left the head of a chain: the tail is gone with the last of them. -/
def headTaken (v : Queue) (p : Parts) : Parts :=
  ⟨true, p.inTail && !v.inCh.isEmpty, p.outTail && !v.outCh.isEmpty⟩

/-- The parts after the tail of a chain has been cut off: its new tail is a segment that the tier holds. -/
def tailCut (inCh : Bool) (p : Parts) : Parts :=
  if inCh then { p with desc := true, inTail := false } else { p with desc := true, outTail := false }

-- The journal stage (R364 to R366)

/-- A staged JREL entry, of one chain. -/
def isRel (r : NewRec) : Bool := r.type == rtJrel
def isRelOf (q : Nat) (inCh : Bool) (r : NewRec) : Bool :=
  isRel r && (jrelOf r.payload).1 == q && (jrelOf r.payload).2.1 == inCh

/-- JREL entries in the stage. -/
def relCount (j : Journal) : Nat := (j.stage.filter isRel).length

/-- Payload bytes in the JACC and EPOCH area. -/
def stageBytes (j : Journal) : Nat := ((j.stage.filter fun r => !isRel r).map fun r => r.payload.length).sum

/-- JRN_STAGED (R365). -/
def jrnStaged (j : Journal) : Nat := stageBytes j + 8 * relCount j

/-- The header of a frame (Table 6.4). -/
def frameHeader (f : Frame) : Bytes :=
  leBytes 4 f.seq.toNat ++ leBytes 2 f.payload.length ++ [f.src, 0] ++ leBytes 4 f.time.toNat

/-- JACC records of a frame: fragment k onward, of `n` in all (Table 14.3). -/
def jaccFrom (q : Nat) (inCh : Bool) (f : Frame) (n : Nat) : Nat → Nat → List NewRec
  | 0, _ => []
  | fuel + 1, k =>
    ⟨rtJacc, q, leBytes 2 q ++ [BitVec.ofNat 8 (b2n inCh + 2 * k + 16 * b2n (k + 1 == n)), 0] ++ frameHeader f ++
      (f.payload.drop (240 * k)).take 240⟩ :: jaccFrom q inCh f n fuel (k + 1)

/-- The JACC records of a frame. -/
def jaccRecs (q : Nat) (inCh : Bool) (f : Frame) : List NewRec :=
  let n := max 1 ((f.payload.length + 239) / 240)
  jaccFrom q inCh f n n 0

/-- The stage has room for the records (R365, R386). -/
def stageFits (j : Journal) (rs : List NewRec) : Bool :=
  decide (stageBytes j + (rs.map fun r => r.payload.length).sum ≤ 2048) &&
  decide (j.stage.length + rs.length ≤ 128)

/-- A JREL entry finds room: one of its chain is merged, else there must be a place (R366). -/
def relFits (j : Journal) (q : Nat) (inCh : Bool) : Bool :=
  j.stage.any (isRelOf q inCh) || (decide (relCount j < 32) && decide (j.stage.length < 128))

/-- The entries that wait, with one chain's entry merged in. -/
def mergeRel (q : Nat) (inCh : Bool) (seq : Word) (l : List (Nat × Bool × Word)) : List (Nat × Bool × Word) :=
  if l.any fun e => e.1 == q && e.2.1 == inCh then
    l.map fun e => if e.1 = q ∧ e.2.1 = inCh then (q, inCh, seq) else e
  else l ++ [(q, inCh, seq)]

/-- The JREL record of an entry (Table 14.3). -/
def jrelRec (e : Nat × Bool × Word) : NewRec :=
  ⟨rtJrel, e.1, leBytes 2 e.1 ++ [BitVec.ofNat 8 (b2n e.2.1), 0] ++ leBytes 4 e.2.2.toNat⟩

/-- The stage with a JREL entry: merged into that of its chain, which keeps its place, or added (R366; DESIGN CHOICE, log
entry 148). -/
def mergeStage (q : Nat) (inCh : Bool) (seq : Word) (l : List NewRec) : List NewRec :=
  if l.any (isRelOf q inCh) then l.map fun r => if isRelOf q inCh r then jrelRec (q, inCh, seq) else r
  else l ++ [jrelRec (q, inCh, seq)]

/-- Stage a JREL entry; without room it waits (R366). -/
def stageRel (q : Nat) (inCh : Bool) (seq : Word) (s : State) : State :=
  if relFits s.jrn q inCh then { s with jrn := { s.jrn with stage := mergeStage q inCh seq s.jrn.stage } }
  else { s with jrn := { s.jrn with relWait := mergeRel q inCh seq s.jrn.relWait } }

/-- Stage what frames leaving a chain release: up to sequence `seq`, and the frames lost behind them once no older frame
of the chain stays. A JREL entry releases every older frame too, so that of a lost frame waits (R366; log entry 132). -/
def stageRelease (q : Nat) (inCh : Bool) (seq : Word) (s : State) : State :=
  let chain := if inCh then (getQueue s q).inCh else (getQueue s q).outCh
  let ripe := fun (e : Nat × Bool × Word) => e.1 == q && e.2.1 == inCh && chain.all fun f => !seqLe f.seq e.2.2
  let top := (s.jrn.lost.filter ripe).foldl (fun a e => if seqLe a e.2.2 then e.2.2 else a) seq
  stageRel q inCh top { s with jrn := { s.jrn with lost := s.jrn.lost.filter fun e => !ripe e } }

/-- Stage the entries that waited for room. -/
def stageWaiting (s : State) : State :=
  let l := s.jrn.relWait
  l.foldl (fun t e => stageRel e.1 e.2.1 e.2.2 t) { s with jrn := { s.jrn with relWait := [] } }

/-- The epoch field of an acceptance sequence (R357). -/
def epochOf (seq : Word) : BitVec 12 := (seq >>> 20).setWidth 12

/-- The sequence's epoch field lies beyond the sealed SEQ_EPOCH (R358). -/
def beyondEpoch (s : State) (seq : Word) : Bool :=
  let d := (epochOf seq - seqEpoch s.mortar).toNat
  decide (1 ≤ d) && decide (d < 2048)

/-- The EPOCH record that seals an epoch (Table 14.3). -/
def epochRec (e : BitVec 12) : NewRec := ⟨rtEpoch, 0, leBytes 2 e.toNat ++ [0, 0]⟩

/-- EPOCH_SEAL_REQUEST (R358): stage SEQ_EPOCH + 1 once a count reaches 0xC0000 in the present epoch. -/
def stageEpoch (seq : Word) (s : State) : State :=
  let r := epochRec (seqEpoch s.mortar + 1)
  if 0xC0000 ≤ (seq &&& 0xFFFFF#32).toNat ∧ epochOf seq = seqEpoch s.mortar ∧
      (s.jrn.stage.all fun x => x.type != rtEpoch) ∧ stageFits s.jrn [r] then
    { s with jrn := { s.jrn with stage := s.jrn.stage ++ [r] } }
  else s

/-- JRN_STALLS counts. -/
def stall (s : State) : State := { s with jrn := { s.jrn with stalls := inc s.jrn.stalls } }

-- The ledger (R359 to R361)

/-- The window differs from its newest sealed entry. -/
def dirtyWindow (s : State) (q : Nat) : Bool :=
  let v := getQueue s q
  (v.valid, v.lastSeq) != (sealedWindow s.mortar q).getD (false, 0)

/-- The queues whose window is dirty, in ascending number. -/
def dirtyQueues (s : State) : List Nat := (s.qe.queues.map fun x => x.1).filter (dirtyWindow s)

/-- A clearing of the window waits for its seal: the window is not counted in LEDGER_DIRTY (R362). -/
def clearing (s : State) (q : Nat) : Bool :=
  s.mortar.waiting2.any fun a => a.recs.any fun r =>
    r.type == rtLedger && (ledgerEntries 32 r.payload).any fun e => e.1 == q

/-- LEDGER_DIRTY (R361). -/
def ledgerDirty (s : State) : Nat := ((dirtyQueues s).filter fun q => !clearing s q).length

/-- The judgement of R360: a duplicate. -/
def isDuplicate (v : Queue) (seq : Word) : Bool := v.valid && seqLe seq v.lastSeq

/-- Making this window dirty would pass LEDGER_DIRTY_MAX (R361). -/
def ledgerFullFor (s : State) (q : Nat) : Bool :=
  !dirtyWindow s q && decide (liveNat s K.ledgerDirtyMax ≤ ledgerDirty s)

-- Appending (Tables 13.6, 13.7)

/-- TIME / 1000, low 16 bits (Table 13.1). -/
def nowMs (s : State) : Half := BitVec.ofNat 16 (s.timer.time.toNat / 1000)

/-- The frame that the next acceptance into queue `q` makes of a payload. -/
def nextFrame (s : State) (q : Nat) (src : Byte) (payload : Bytes) (segs : List Nat) : Frame :=
  ⟨(getQueue s q).accSeq, src, s.timer.time.setWidth 32, payload, segs, guarded s q⟩

/-- Why a queue cannot take a frame into a chain. -/
inductive NoRoom where
  | segments | count | classChange | epoch | stage
  deriving DecidableEq, Repr

/-- The first reason the queue cannot take the frame, in the order of R143; none when it can. -/
def noRoom (s : State) (q : Nat) (inCh : Bool) (src : Byte) (payload : Bytes) : Option NoRoom :=
  let v := getQueue s q
  match allocate s q payload.length with
  | none => some .segments
  | some segs =>
    if 65535 ≤ (if inCh then v.inCh else v.outCh).length then some .count
    else if s.qe.classChange = some q then some .classChange
    else if beyondEpoch s v.accSeq then some .epoch
    else if durable s q && !stageFits s.jrn (jaccRecs q inCh (nextFrame s q src payload segs)) then some .stage
    else none

/-- Segment writes of `n` new segments (Table 13.6): both copies of a guarded one; the last of an unguarded frame goes to
the stone. -/
def newWrites (s : State) (q n : Nat) : Nat := if guarded s q then 2 * n else n - 1

/-- Segment writes of an append: the new segments, and the previous tail. -/
def appendWrites (s : State) (q : Nat) (inCh : Bool) (n : Nat) : Nat :=
  let v := getQueue s q
  let tail := b2n (!(if inCh then v.inCh else v.outCh).isEmpty)
  newWrites s q n + (if guarded s q then 2 * tail else tail)

/-- A push that is refused after streaming has taken a stone and written the segments it had found (R345). That it is one
refused for CRC or FULL, the manual does not say (DESIGN CHOICE, log entry 136). -/
def streamed (q len : Nat) (s : State) : State :=
  advanceGen (newWrites s q (segmentsFor s q len).length) (touch q s)

/-- PKT_NOTICE for a frame committed to an in chain (R348). -/
def postNotice (q : Nat) (seq : Word) (s : State) : State :=
  if notice s q then
    post evPktNotice (BitVec.ofNat 16 q) seq { s with qe := { s.qe with notices := inc s.qe.notices } }
  else s

/-- Accept a frame into a chain of a queue: every step of Table 13.6. The caller has judged that there is room. -/
def accept (q : Nat) (inCh : Bool) (src : Byte) (payload : Bytes) (s : State) : State :=
  let segs := (allocate s q payload.length).getD []
  let f := nextFrame s q src payload segs
  let recs := if durable s q then jaccRecs q inCh f else []
  let s := advanceGen (appendWrites s q inCh segs.length) (touch q s)
  let v := getQueue s q
  let v' : Queue :=
    if inCh then
      { v with
        inCh := v.inCh ++ [f]
        accSeq := v.accSeq + 1
        readMs := if v.inCh.isEmpty then nowMs s else v.readMs
        qto := if v.inCh.isEmpty then false else v.qto }
    else { v with outCh := v.outCh ++ [f], accSeq := v.accSeq + 1 }
  let s := markParts q (appended inCh) (setQueue q v' s)
  stageEpoch v'.accSeq { s with
    jrn := { s.jrn with stage := s.jrn.stage ++ recs }
    qe := { s.qe with xsBad := s.qe.xsBad.filter fun i => !segs.contains i } }

/-- Remove the head of an in chain at the host's pop (R148). -/
def popHead (q : Nat) (s : State) : State :=
  match (getQueue s q).inCh with
  | [] => s
  | f :: rest =>
    let d := durable s q
    let v := { getQueue s q with inCh := rest, readMs := nowMs s, qto := false }
    let s := markParts q (headTaken v) (setQueue q v s)
    if d then stageRelease q true f.seq s else s

/-- Retire the head of an out chain (R286, R306, R317). -/
def retireHead (q : Nat) (s : State) : State :=
  match (getQueue s q).outCh with
  | [] => s
  | f :: rest =>
    let s := touch q s
    let d := durable s q
    let v := { getQueue s q with outCh := rest }
    let s := markParts q (headTaken v) (setQueue q v s)
    if d then stageRelease q false f.seq s else s

/-- Remove every frame of both chains (R325). -/
def purge (q : Nat) (s : State) : State :=
  let v := getQueue s q
  let d := durable s q
  let v' := { v with inCh := [], outCh := [] }
  let s := markParts q (headTaken v') (setQueue q v' s)
  if d then
    let s := match v.inCh.getLast? with
      | some f => stageRelease q true f.seq s
      | none => s
    match v.outCh.getLast? with
    | some f => stageRelease q false f.seq s
    | none => s
  else s

/-- Frames of queue `q` are counted as lost (R344). -/
def countLost (q n : Nat) (s : State) : State :=
  postRepair 0x07 (q + 65536 * min n 65535) { s with qe := { s.qe with framesLost := incBy n s.qe.framesLost } }

/-- The JREL entry for frames of a durable chain removed as lost, the newest of them of sequence `seq`: staged when no
older frame stays, else when the last of those leaves (R366). -/
def releaseLost (q : Nat) (inCh : Bool) (seq : Word) (s : State) : State :=
  let s := { s with jrn := { s.jrn with lost := s.jrn.lost ++ [(q, inCh, seq)] } }
  if (if inCh then (getQueue s q).inCh else (getQueue s q).outCh).isEmpty then stageRelease q inCh seq s else s

/-- Remove the frames of a chain from place `keep` on as lost. `forGood` is false for a fault of the arrays: the journal
still holds a durable frame, which returns at the next cold boot (R350, Table 14.4; log entry 132). -/
def loseFrames (q : Nat) (inCh : Bool) (keep : Nat) (forGood : Bool) (s : State) : State :=
  let v := getQueue s q
  let chain := if inCh then v.inCh else v.outCh
  let n := chain.length - keep
  if n = 0 then s
  else
    let v' := if inCh then { v with inCh := chain.take keep } else { v with outCh := chain.take keep }
    let d := durable s q
    let s := markParts q (tailCut inCh) (setQueue q v' s)
    countLost q n (match chain.getLast? with
      | some f => if d && forGood then releaseLost q inCh f.seq s else s
      | none => s)

-- Reading a frame (R339, R344)

/-- A segment cannot be read: xSPI has lost its contents, or its bank has no supply (R17, R344; DEDUCED, log entry 134).
-/
def segmentLost (s : State) (i : Nat) : Bool := s.qe.xsBad.contains i || (decide (2 ^ 23 ≤ i) && !s.pins.bankA)

/-- Remove the frames that an unreadable segment of the frame at place `i` of a chain loses (R344). -/
def dropUnreadable (q : Nat) (inCh : Bool) (i : Nat) (s : State) : State :=
  match (if inCh then (getQueue s q).inCh else (getQueue s q).outCh)[i]? with
  | some f => if f.segs.any (segmentLost s) then loseFrames q inCh i true s else s
  | none => s

/-- The MAC reads the head of an out chain: the queue takes a stone, and a frame that cannot be read is lost with those
behind it (R339, R344). A look at an empty chain takes no stone (DESIGN CHOICE, log entry 135). -/
def macRead (q : Nat) (s : State) : State :=
  if isLocal s q || (getQueue s q).outCh.isEmpty then s else dropUnreadable q false 0 (touch q s)

/-- Some queue holds a frame. -/
def anyFrame (s : State) : Bool := s.qe.queues.any fun x => !x.2.inCh.isEmpty || !x.2.outCh.isEmpty

/-- A volatile queue holds a frame (R41). -/
def volatileFrame (s : State) : Bool :=
  s.qe.queues.any fun x => (!x.2.inCh.isEmpty || !x.2.outCh.isEmpty) && !durable s x.1

-- Commits (R368)

/-- The RCPT record (Table 14.3). -/
def rcptRec (s : State) : NewRec :=
  ⟨rtRcpt, 0, leBytes 2 s.spi.rcptQ.toNat ++ [0, 0] ++ leBytes 4 s.spi.rcptSeq.toNat⟩

/-- The ledger entries of the dirty windows. -/
def dirtyEntries (s : State) : List (Nat × Bool × Word) :=
  (dirtyQueues s).map fun q => (q, (getQueue s q).valid, (getQueue s q).lastSeq)

/-- The staged records, in stage order, and the dirty windows (R368). A JREL entry that has found no room is not staged
(R366). -/
def stagedRecs (s : State) : List NewRec := s.jrn.stage ++ ledgerRecs (dirtyEntries s).length (dirtyEntries s)

/-- Seal the staged records and dirty windows and `more` at source 1 of R383. JREL entries that waited find room then. -/
def commitStage (fails : List (Nat × Bool)) (more : List NewRec) (s : State) : State :=
  let s := commitFail fails (stagedRecs s ++ more) s
  stageWaiting { s with jrn := { s.jrn with stage := [] } }

-- Descriptors (Table 13.1)

/-- First segment of the oldest frame and last segment of the newest, or null. -/
def chainEnds (l : List Frame) : Bytes :=
  match l.head?, l.getLast? with
  | some f, some g => leBytes 3 (f.segs.headD 0x7FFFFF) ++ leBytes 3 (g.segs.getLastD 0x7FFFFF)
  | _, _ => leBytes 6 0

/-- The 32 bytes of a descriptor. -/
def descriptorBytes (v : Queue) : Bytes :=
  chainEnds v.inCh ++ chainEnds v.outCh ++ leBytes 2 v.inCh.length ++ leBytes 2 v.outCh.length ++
    leBytes 4 v.accSeq.toNat ++ leBytes 2 v.attr.toNat ++ leBytes 2 v.readMs.toNat ++ leBytes 4 v.lastSeq.toNat ++
    [if v.valid then 1 else 0, if v.qto then 1 else 0, 0, 0]

/-- Bytes 24 to 31 of the descriptor, as LEDGER_WIN shows them. -/
def windowBytes (v : Queue) : Bytes := (descriptorBytes v).drop 24

/-- A descriptor bank (0–31) holds a descriptor other than all zero. -/
def descBankLive (s : State) (b : Nat) : Bool :=
  s.qe.accBase != 0 || s.qe.queues.any fun x => x.1 / 2048 == b && (descriptorBytes x.2).any fun y => y != 0

/-- LIVE_MASK: bank b is live (R336). -/
def bankLive (s : State) (b : Nat) : Bool :=
  if b < 32 then descBankLive s b
  else if b < 126 then (usedAshlar s).any fun i => 32 + i / 1024 == b
  else if b = 126 then (List.range 16).any (descBankLive s)
  else if b = 127 then (List.range 16).any fun i => descBankLive s (16 + i)
  else false

/-- Q_WHERE (Table 13.10). -/
def queueWhere (s : State) (q : Nat) : Nat :=
  if s.qe.stones.any fun t => t.queue == q then 1
  else if s.qe.evb.any fun e => e.any fun x => x.queue == q then 2 else 0

/-- QTO (R349): the queue is idle-due and not yet reported. -/
def idleDue (s : State) (q : Nat) : Bool :=
  let v := getQueue s q
  let t := liveNat s (K.qtoG + groupOf s q)
  !v.inCh.isEmpty && decide (t ≠ 0) && decide (t ≤ (nowMs s - v.readMs).toNat) && !v.qto

/-- Post QTO once for a queue that is idle-due. -/
def postQto (q : Nat) (s : State) : State :=
  if idleDue s q then
    let v := getQueue s q
    post evQto (BitVec.ofNat 16 q) (BitVec.ofNat 32 (v.inCh.length + 65536 * groupOf s q))
      (setQueue q { v with qto := true } s)
  else s

/-- A frame with segment `i` moved to a free index. -/
def moveSegment (s : State) (i : Nat) (f : Frame) : Frame :=
  if (frameSegs f).contains i then
    let base := if f.mirrored && decide (ashlarHalf ≤ i) then i - ashlarHalf else i
    match pickSegment s (usedSegs s) [] f.mirrored false with
    | some j => { f with segs := f.segs.map fun k => if k = base then j else k }
    | none => f
  else f

/-- A relay buffer with segment `i` moved to a free index. -/
def moveBuffered (s : State) (i : Nat) (b : RelayCopy) : RelayCopy :=
  match pickSegment s (usedSegs s) [] false false with
  | some j => { b with segs := b.segs.map fun k => if k = i then j else k }
  | none => b

/-- A refused segment write (R341): reissued with a new GEN; after four refusals at one index the segment, be it of a
queue or of a relay buffer, moves to another free index and the index's count starts again. The bank is then suspect. -/
def refuseSegment (i : Nat) (s : State) : State × Bool :=
  let n := tabGet 0 i s.qe.refusals + 1
  let s := advanceGen 1 { s with qe := { s.qe with reissues := inc s.qe.reissues } }
  if n < 4 then ({ s with qe := { s.qe with refusals := tabSet 0 i n s.qe.refusals } }, false)
  else
    let move := moveSegment s i
    let queues := s.qe.queues.map fun x => (x.1, { x.2 with inCh := x.2.inCh.map move, outCh := x.2.outCh.map move })
    ({ s with
      qe := { s.qe with queues := queues, refusals := tabSet 0 i 0 s.qe.refusals }
      swarm := { s.swarm with buffers := s.swarm.buffers.map (moveBuffered s i) } }, true)

end Sys2Proof.Machine
end

