-- ==== Sys2Proof/Machine/Pin.lean ====
section
/-! DEFINITION. GPIO functions, the clocks of gateable blocks, and the requests that several engines make of one
another: a wake, a Course switch by a trigger (R43, R190, R417).
What the manual leaves open here and how the model reads it, with its mark: log entry 63. -/

namespace Sys2Proof.Machine

/-- The clock of a gateable block runs; blocks are numbered as in Table 4.2. -/
def blockOn (s : State) (n : Nat) : Bool :=
  if n < 32 then bit s.clk.run0.toNat n else bit s.clk.run1.toNat (n - 32)

/-- A block's enable bit, as CKEN0 and CKEN1 read. -/
def enableBit (s : State) (n : Nat) : Bool :=
  if n < 32 then bit (liveNat s K.cken0) n else bit (liveNat s K.cken1) (n - 32)

/-- A block may be used (R84, R506): a radio block while its enable bit is 1, another one while its clock runs. -/
def blockOpen (s : State) (n : Nat) : Bool := if n < 32 then blockOn s n else enableBit s n

/-- The function code of GPIOn (Table 2.3). -/
def pinFunc (s : State) (n : Nat) : Nat :=
  if n < 8 then field (liveNat s K.pinmux0) (4 * n) 4 else field (liveNat s K.pinmux1) (4 * (n - 8)) 4

/-- A function code that Table 2.3 gives pin n. -/
def pinFuncOk (n f : Nat) : Bool :=
  f == 0 || (f == 1 && (n == 0 || n == 1 || n == 6 || n == 7)) || f == 2 || f == 3 ||
    (f == 4 && (n == 9 || n == 10 || n == 11))

/-- The device sleeps. -/
def asleep (s : State) : Bool :=
  s.sup.power == .shutdown || s.sup.power == .dormant || s.sup.power == .sniff

/-- TBCLK runs: not in sleep, and XO judged started, or the PLL referenced to HFRC in DEGRADED (R94, R98, R403). -/
def tbRuns (s : State) : Bool := !asleep s && (s.clk.xoOk || s.clk.refHfrc)

/-- NTIME (R88). -/
def ntime (s : State) : Dword := s.timer.time + s.timer.ntOffset

/-- Request a wake from source `b` of Table 3.4, if WAKE_EN enables it (R43). -/
def requestWake (b : Nat) (s : State) : State :=
  if bit (liveNat s K.wakeEn) b then
    { s with sup := { s.sup with wakeReq := s.sup.wakeReq ||| BitVec.ofNat 7 (2 ^ b) } }
  else s

/-- COURSE_SWITCH that reports a trigger refused: bit 31 and the old Course in both byte fields (R180, R191). The cause
field reads 1, trigger. -/
def postRefusedSwitch (s : State) : State :=
  let a := s.courses.active.val
  post evCourseSwitch 0 (BitVec.ofNat 32 (a + 256 * a + 2 ^ 16 + 2 ^ 31)) s

/-- A Course trigger (R190, R191): of the enabled COURSE_TRIG that name a matched channel the highest is taken. None
is kept while the device boots (R195). -/
def courseTrigger (matched : List Nat) (s : State) : State :=
  if s.sys.dev = .boot ∨ s.sys.dev = .notReady then s
  else
    let hits := (List.range 8).filter fun j =>
      let t := liveNat s (K.courseTrig + j)
      bit t 15 && matched.contains (field t 0 4)
    match hits.getLast? with
    | none => s
    | some j =>
      let target := field (liveNat s (K.courseTrig + j)) 4 4
      if s.courses.cleared then postRefusedSwitch s
      else if target = 15 ∨ (target < 8 ∧ (courseImage s.mortar target).isSome) then
        { s with courses := { s.courses with pend := some (Fin.ofNat 16 target, 1) } }
      else postRefusedSwitch s

/-- A pin action on a bit of PORT.GPIOOUT: 1 set, 2 clear, 3 toggle (R417). -/
def pinAction (act pin : Nat) (s : State) : State :=
  let v := liveNat s K.gpioout
  let b := bit v pin
  let b' := if act = 1 then true else if act = 2 then false else if act = 3 then !b else b
  if act = 0 ∨ 12 ≤ pin then s else setLive s K.gpioout (leBytes 4 (withField v pin 1 (b2n b')))

end Sys2Proof.Machine
end

