-- ==== Sys2Proof/Machine/Timer.lean ====
section
/-! DEFINITION. TIME and its steps, SNAP, compare channels, STAGGER, triggers, capture and counters, and what the
triggers start: Hod requests and checkpoints (files 16 and 17).
What the manual leaves open here and how the model reads it, with its mark: log entries 13, 17, 58, 59 and 63. -/

namespace Sys2Proof.Machine

-- Configuration fields (Tables 16.2, 16.3, 16.8)

def cmpCfg (s : State) (n : Nat) : Nat := liveNat s (K.cmpCfg + n)
def cmpEn (s : State) (n : Nat) : Bool := bit (cmpCfg s n) 0
def cmpBase (s : State) (n : Nat) : Bool := bit (cmpCfg s n) 1
def cmpPeriodic (s : State) (n : Nat) : Bool := bit (cmpCfg s n) 2
def cntCfg (s : State) (n : Nat) : Nat := liveNat s (K.cntCfg + n)
def cntEn (s : State) (n : Nat) : Bool := bit (cntCfg s n) 0
def cntSrc (s : State) (n : Nat) : Nat := field (cntCfg s n) 1 2

def noCompare : Compare := ⟨0, 0, 0, false, false⟩
def getCmp (s : State) (n : Nat) : Compare := nth noCompare s.timer.cmps n
def setCmp (n : Nat) (c : Compare) (s : State) : State :=
  { s with timer := { s.timer with cmps := setNth s.timer.cmps n c } }
def getCnt (s : State) (n : Nat) : Counter := nth ⟨0, false⟩ s.timer.cnts n
def setCnt (n : Nat) (c : Counter) (s : State) : State :=
  { s with timer := { s.timer with cnts := setNth s.timer.cnts n c } }

/-- The base of a channel: the low 48 bits of TIME, or of NTIME (R408). -/
def baseOf (s : State) (n : Nat) : Time48 :=
  if cmpBase s n then (ntime s).setWidth 48 else s.timer.time.setWidth 48

/-- `v` is ahead of `y` (R410). -/
def ahead (v y : Time48) : Bool := decide (v ≠ y) && decide ((v - y).toNat < 2 ^ 47)

/-- A step from x to y crosses v (R408). -/
def crosses (v x y : Time48) : Bool := decide (1 ≤ (v - x).toNat) && decide ((v - x).toNat ≤ (y - x).toNat)

/-- Trigger codes that Table 16.4 lists. -/
def trigOk (t : Nat) : Bool :=
  t == 0 || t == 1 || (decide (0x10 ≤ t) && decide (t ≤ 0x17)) || (decide (0x20 ≤ t) && decide (t ≤ 0x27)) ||
    (decide (0x30 ≤ t) && decide (t ≤ 0x4F))

-- Arming (R411)

/-- Arm an enabled channel at the present base: LATE when VAL is not ahead of it. -/
def armCmp (n : Nat) (s : State) : State :=
  let c := getCmp s n
  if ahead c.val (baseOf s n) then s else setCmp n { c with late := true } s

/-- Set the fields of CFG; a change of EN from 0 to 1 arms the channel. -/
def setCmpCfg (n : Nat) (v : Nat) (s : State) : State :=
  let was := cmpEn s n
  let s := setLive s (K.cmpCfg + n) (leBytes 4 (v &&& 0x00FF0F3F))
  if !was && bit v 0 then armCmp n s else s

/-- Set or clear EN of a channel, as a trigger does. -/
def setCmpEn (n : Nat) (on : Bool) (s : State) : State := setCmpCfg n (withField (cmpCfg s n) 0 1 (b2n on)) s

/-- PERIODIC with PERIOD 0 (R416). -/
def cmpPeriodBad (s : State) (n : Nat) (cfg : Nat) : Bool := bit cfg 2 && (getCmp s n).period == 0

/-- PIN 12 to 15 while PINACT is not 0 (R416), with PIN in bits 11:8 and PINACT at `lo`. -/
def pinActBad (cfg lo : Nat) : Bool := field cfg lo 2 != 0 && decide (12 ≤ field cfg 8 4)

/-- A value of CMP_CFGn that a dictionary write may carry (R416). -/
def cmpCfgOk (s : State) (n : Nat) (cfg : Nat) : Bool :=
  !pinActBad cfg 4 && trigOk (field cfg 16 8) && !cmpPeriodBad s n cfg

/-- A register write of TIMER.CMPnCFG: the value in which each refused field, and each field of a refused combination
that the write would change, keeps what it was; and whether any was refused (R5, R416). -/
def cmpCfgMerge (s : State) (n : Nat) (cfg : Nat) : Nat × Bool :=
  let old := cmpCfg s n
  let v0 := cfg &&& 0x00FF0F3F
  let badPin := pinActBad v0 4
  let v1 := if badPin then withField (withField v0 8 4 (field old 8 4)) 4 2 (field old 4 2) else v0
  let badTrig := !trigOk (field v1 16 8)
  let v2 := if badTrig then withField v1 16 8 (field old 16 8) else v1
  let badPer := cmpPeriodBad s n v2
  let v3 := if badPer then withField v2 2 1 (field old 2 1) else v2
  (v3, badPin || badTrig || badPer)

-- Counter settings (R423)

/-- Counter `n` has SRC 2 in the settings `src`. -/
def chainBad (src : Nat → Nat) : Bool :=
  src 0 == 2 || (List.range 8).any fun n =>
    decide (3 ≤ n) && src n == 2 && src (n - 1) == 2 && src (n - 2) == 2 && src (n - 3) == 2

/-- SRC of counter `n` set to `v` is refused with its neighbours. -/
def srcBad (s : State) (n v : Nat) : Bool := chainBad fun k => if k = n then v else cntSrc s k

/-- A value of CNT_CFGn that a dictionary write may carry. -/
def cntCfgOk (s : State) (n cfg : Nat) : Bool :=
  !pinActBad cfg 6 && trigOk (field cfg 16 8) && !srcBad s n (field cfg 1 2) && !(bit cfg 3 && decide (4 ≤ n))

/-- A register write of TIMER.CNTnCFG, as `cmpCfgMerge`: a refused GSEL keeps SRC with it, a refused SRC keeps SRC alone
(R5, R416, R423). -/
def cntCfgMerge (s : State) (n cfg : Nat) : Nat × Bool :=
  let old := cntCfg s n
  let v0 := cfg % 2 ^ 24
  let badPin := pinActBad v0 6
  let v1 := if badPin then withField (withField v0 8 4 (field old 8 4)) 6 2 (field old 6 2) else v0
  let badTrig := !trigOk (field v1 16 8)
  let v2 := if badTrig then withField v1 16 8 (field old 16 8) else v1
  let badSel := bit v2 3 && decide (4 ≤ n)
  let v3 := if badSel then withField (withField v2 1 2 (field old 1 2)) 3 1 (field old 3 1) else v2
  let badSrc := srcBad s n (field v3 1 2)
  let v4 := if badSrc then withField v3 1 2 (field old 1 2) else v3
  (v4, badPin || badTrig || badSel || badSrc)

/-- The pin that feeds a counter with SRC 1 (Table 16.5). -/
def cntPin (s : State) (n : Nat) : Nat := if bit (cntCfg s n) 3 then n + 8 else n

/-- Set CNT_CFGn. When EN, SRC or GSEL changes, the filter starts from the level its pin holds. -/
def setCntCfg (n v : Nat) (s : State) : State :=
  let old := cntCfg s n
  let s := setLive s (K.cntCfg + n) (leBytes 4 (v % 2 ^ 24))
  if field old 0 4 = field v 0 4 then s
  else { s with timer := { s.timer with
    cntFilters := setNth s.timer.cntFilters n ⟨bit s.pins.gpio.toNat (cntPin s n), 0, 0⟩ } }

-- Capture (R420, R421)

/-- A unit that has captured nothing. -/
def noPair : CapPair := ⟨0, 0, 0, 0, false, false, false, false, false⟩
def noSingle : CapSingle := ⟨0, false, false⟩

/-- A paired unit after an accepted edge, rising or falling, at a time (R420). -/
def applyPair (c : CapPair) (e : Bool × Word) : CapPair :=
  if e.1 then
    { c with
      rise := e.2
      per := if c.seen then e.2 - c.rise else c.per
      seen := true
      rnew := true
      rovr := c.rovr || c.rnew }
  else
    { c with
      fall := e.2
      width := if c.seen then e.2 - c.rise else c.width
      fnew := true
      fovr := c.fovr || c.fnew }

/-- A single unit after a captured edge (R421). -/
def applySingle (c : CapSingle) (e : Bool × Word) : CapSingle := ⟨e.2, true, c.ovr || c.new_⟩

/-- EDGE selects the edge (R421). -/
def selects (edge : Nat) (rising : Bool) : Bool := edge == 3 || (edge == 1 && rising) || (edge == 2 && !rising)

/-- A unit as it reads: every edge of a step has been captured in that step (R404), whether or not its CAPTURE_EDGE has
come yet (DEDUCED, log entry 58). -/
def capPairNow (s : State) (u : Nat) : CapPair :=
  (nth [] s.timer.edges u).foldl applyPair (nth noPair s.timer.capPairs u)
def capSingleNow (s : State) (k : Nat) : CapSingle :=
  (nth [] s.timer.edges (8 + k)).foldl applySingle (nth noSingle s.timer.capSingles k)

/-- Write the units of number `u` as they read; no edge waits then. -/
def putPair (u : Nat) (c : CapPair) (s : State) : State :=
  { s with timer := { s.timer with capPairs := setNth s.timer.capPairs u c, edges := setNth s.timer.edges u [] } }
def putSingle (k : Nat) (c : CapSingle) (s : State) : State :=
  { s with timer := { s.timer with
    capSingles := setNth s.timer.capSingles k c, edges := setNth s.timer.edges (8 + k) [] } }

/-- Write every edge that waits to its unit: a step, or a write that could see them, finds them captured. -/
def flushEdges (s : State) : State :=
  if s.timer.edges.all fun l => l.isEmpty then s
  else
    let s := (List.range 8).foldl (fun t u => putPair u (capPairNow t u) t) s
    (List.range 4).foldl (fun t k => putSingle k (capSingleNow t k) t) s

/-- CAPTURE_EDGE: the oldest edge that the unit's filter has accepted is written to the unit. -/
def captureEdge (u : Nat) (s : State) : State :=
  match nth [] s.timer.edges u with
  | [] => s
  | e :: rest =>
    let t := if u < 8 then putPair u (applyPair (nth noPair s.timer.capPairs u) e) s
      else putSingle (u - 8) (applySingle (nth noSingle s.timer.capSingles (u - 8)) e) s
    { t with timer := { t.timer with edges := setNth t.timer.edges u rest } }

/-- Clear the NEW flags that a read of a unit clears: of RISE, of FALL. -/
def clearNew (u : Nat) (rise fall : Bool) (s : State) : State :=
  if u < 8 then
    let c := capPairNow s u
    putPair u { c with rnew := c.rnew && !rise, fnew := c.fnew && !fall } s
  else
    let c := capSingleNow s (u - 8)
    putSingle (u - 8) { c with new_ := c.new_ && !rise } s

-- Capture configuration

/-- The configuration of capture unit u: CAPPu for 0–7, CAPS(u − 8) for 8–11. -/
def capCfg (s : State) (u : Nat) : Nat :=
  if u < 8 then liveNat s (K.cappCfg + u) else liveNat s (K.capsCfg + (u - 8))

/-- CAPS: EN 1 with EDGE 0 is refused (R421). -/
def capsCfgOk (cfg : Nat) : Bool := !(bit cfg 0 && field cfg 1 2 == 0)

/-- Set a capture unit's configuration. The edges accepted before it are captured. A unit that becomes enabled, or whose INV or FILT changes, starts its filter
from the level its pin holds; one that becomes enabled has captured no rise. -/
def setCapCfg (u v : Nat) (s : State) : State :=
  let old := capCfg s u
  let s := flushEdges s
  let key := if u < 8 then K.cappCfg + u else K.capsCfg + (u - 8)
  let s := setLive s key (leBytes 4 (v &&& (if u < 8 then 0xF9 else 0xFF)))
  let new := capCfg s u
  let s := if field old 3 5 = field new 3 5 ∧ (bit old 0 ∨ !bit new 0) then s
    else { s with timer := { s.timer with
      capFilters := setNth s.timer.capFilters u ⟨xor (bit s.pins.gpio.toNat u) (bit new 3), 0, 0⟩ } }
  if !bit old 0 && bit new 0 && decide (u < 8) then
    let c := nth noPair s.timer.capPairs u
    { s with timer := { s.timer with capPairs := setNth s.timer.capPairs u { c with seen := false } } }
  else s

-- Hod (R445, R446)

def hodCfg (s : State) (n : Nat) : Nat := liveNat s (K.hodCfg + n)
def hodQueue (s : State) (n : Nat) : Nat := liveNat s (K.hodQueue + n)

/-- Count a record or a frame that Hod drops. -/
def hodDrop (s : State) : State := { s with hod := { s.hod with drops := inc s.hod.drops } }

/-- Free segments that a push of `len` bytes to queue `q` takes from FREE_SINGLES. -/
def singlesTaken (s : State) (q len : Nat) : Nat :=
  ((allocate s q len).getD []).foldl (fun n i => n + (if 2 ^ 23 ≤ i then 0 else if guarded s q then 2 else 1)) 0

/-- The push would leave FREE_SINGLES below AIR_RESERVE (R335). -/
def reserveBad (s : State) (q len : Nat) : Bool :=
  decide (freeSingles s < singlesTaken s q len + liveNat s K.airReserve)

/-- The refusals of R143 that a push shares with a Hod frame: POWER, STATE, then FULL. -/
def pushRefusal (s : State) (q : Nat) (inCh : Bool) (src : Byte) (payload : Bytes) : Option Byte :=
  if s.sup.bodWarn then some errPower
  else if s.sys.rolePending || s.sys.restore.contains q || s.sup.sleepDue.isSome then some errState
  else if reserveBad s q payload.length then some errFull
  else
    match noRoom s q inCh src payload with
    | some _ => some errFull
    | none => none

/-- A frame that the journal cannot take counts in JRN_STALLS (R358, R365, R446). -/
def journalStall (q : Nat) (inCh : Bool) (src : Byte) (payload : Bytes) (s : State) : State :=
  if pushRefusal s q inCh src payload != some errFull || reserveBad s q payload.length then s
  else
    match noRoom s q inCh src payload with
    | some .epoch | some .stage => stall s
    | _ => s

/-- Append channel n's open frame to its queue, or discard it (R446). -/
def hodAppend (n : Nat) (s : State) : State :=
  let q := hodQueue s n
  let payload := (nth [] s.hod.frames n).flatten
  let s := { s with hod := { s.hod with frames := setNth s.hod.frames n [] } }
  if payload = [] then s
  else if !s.sys.ready || decide (liveNat s K.qMaxlen < payload.length) ||
      (pushRefusal s q true 0x02 payload).isSome then
    hodDrop (if s.sys.ready then journalStall q true 0x02 payload s else s)
  else
    let seq := (getQueue s q).accSeq
    postNotice q seq (accept q true 0x02 payload s)

/-- Add a record to channel n's open frame; the frame is appended when it holds RECS records. -/
def hodRecord (n : Nat) (r : Bytes) (s : State) : State :=
  if !isLocal s (hodQueue s n) then hodDrop s
  else
    let l := nth [] s.hod.frames n ++ [r]
    let s := { s with hod := { s.hod with frames := setNth s.hod.frames n l } }
    if field (hodCfg s n) 8 5 ≤ l.length then hodAppend n s else s

-- Checkpoints (R447, R448)

def LineState.code : LineState → Nat
  | .unknown => 0 | .normal => 1 | .reversed => 2 | .open_ => 3 | .short => 4

def noPulse : PulseCh := ⟨false, false, 0, .unknown, .unknown, 0, 0, 0, false, none⟩
def getPulse (s : State) (n : Nat) : PulseCh := nth noPulse s.pulse.chans n

/-- Latch the counters, levels and line states. -/
def latchCkpt (s : State) : Checkpoint :=
  ⟨s.timer.time, s.timer.cnts.map fun c => c.val, s.pulse.chans.map fun c => c.level, s.pulse.chans.map fun c => c.line⟩

/-- The CKPT records of a checkpoint: one for each counter with EN = 1 (Table 17.5). -/
def ckptRecs (s : State) (k : Checkpoint) (seq : Word) (pf : Bool) : List NewRec :=
  ((List.range 8).filter (cntEn s)).map fun n =>
    ⟨rtCkpt, n, leBytes 2 (nth 0 k.cnts n).toNat ++
      [BitVec.ofNat 8 (b2n (nth false k.levels n) + 2 * b2n pf + 4 * (nth .unknown k.lines n).code), 0] ++
      leBytes 4 seq.toNat ++ leBytes 8 k.time.toNat⟩

/-- Stage a checkpoint's records at source 4 of R383; CKPT_SEQ advances. -/
def stageCkpt (k : Checkpoint) (s : State) : State :=
  let seq := inc s.pulse.ckptSeq
  { s with
    pulse := { s.pulse with ckptSeq := seq }
    mortar := { s.mortar with waiting4 := s.mortar.waiting4 ++ ckptRecs s k seq false } }

/-- A request to a Hod channel (Table 17.4, R445). With SRC 1 the record is the routed result, and a trigger adds
none. Reading a capture unit clears its NEW flags. There are four CAPS units; a SEL of 4 to 7 names the unit SEL less 4
(DESIGN CHOICE, log entry 151). -/
def hodRequest (n : Nat) (s : State) : State :=
  let cfg := hodCfg s n
  let sel := field cfg 4 3
  let src := field cfg 0 3
  if src = 2 then
    let c := capPairNow s sel
    let flags := b2n c.rnew + 2 * b2n c.fnew + 4 * b2n c.rovr + 8 * b2n c.fovr
    let s' := hodRecord n ([BitVec.ofNat 8 sel, BitVec.ofNat 8 flags, 0, 0] ++ leBytes 4 c.rise.toNat ++
      leBytes 4 c.fall.toNat ++ leBytes 4 c.width.toNat ++ leBytes 4 c.per.toNat) s
    if isLocal s (hodQueue s n) then putPair sel { c with rnew := false, fnew := false } s' else s'
  else if src = 3 then
    let k := sel % 4
    let c := capSingleNow s k
    let s' := hodRecord n ([BitVec.ofNat 8 sel, BitVec.ofNat 8 (b2n c.new_ + 2 * b2n c.ovr), 0, 0] ++
      leBytes 4 c.val.toNat) s
    if isLocal s (hodQueue s n) then putSingle k { c with new_ := false } s' else s'
  else if src = 4 then
    hodRecord n (leBytes 4 (s.timer.time.setWidth 32).toNat ++
      (s.timer.cnts.map fun c => leBytes 2 c.val.toNat).flatten) s
  else if src = 5 then
    if asleep s then { s with hod := { s.hod with sleepCkpt := some (latchCkpt s) } }
    else stageCkpt (latchCkpt s) s
  else s

-- Steps (R404 to R418)

/-- The periodic reload (R410): VAL plus PERIOD, and again until it is ahead of y; with the extra additions made. -/
def reloadVal (val : Time48) (period : Nat) (y : Time48) : Time48 × Nat :=
  let v := val + BitVec.ofNat 48 period
  if ahead v y then (v, 0)
  else
    let extra := (y - v).toNat / period + 1
    (v + BitVec.ofNat 48 (extra * period), extra)

/-- The effects of a match on its channel (R409, R410); `late` for a channel matched by a step of NTIME (R412). A
PERIODIC channel whose PERIOD is 0 keeps its VAL. -/
def matchCmp (y : Time48) (late : Bool) (n : Nat) (s : State) : State :=
  let c := getCmp s n
  let c := { c with matches_ := c.matches_ + 1, matched := true, late := c.late || late }
  let r := if cmpPeriodic s n && c.period != 0 then reloadVal c.val c.period.toNat y else (c.val, 0)
  let s := setCmp n { c with val := r.1 } s
  let s := { s with timer := { s.timer with skips := incBy r.2 s.timer.skips } }
  if bit (cmpCfg s n) 3 then requestWake 1 s else s

/-- Count once on counter n; an overflow carries up the chain, and its trigger may count another counter. The list
holds the counters that have overflowed, in order (R422). -/
def countOne : Nat → Nat → State × List Nat → State × List Nat
  | 0, _, x => x
  | fuel + 1, n, (s, wraps) =>
    let c := getCnt s n
    let s := setCnt n { c with val := c.val + 1, ovf := c.ovf || c.val == 0xFFFF#16 } s
    if c.val == 0xFFFF#16 then
      let s := if bit (cntCfg s n) 5 then requestWake 2 s else s
      let x := (s, wraps ++ [n])
      let x := if n < 7 ∧ cntEn x.1 (n + 1) ∧ cntSrc x.1 (n + 1) = 2 then countOne fuel (n + 1) x else x
      let t := field (cntCfg x.1 n) 16 8
      let k := t - 0x20
      if 0x20 ≤ t ∧ t ≤ 0x27 ∧ cntEn x.1 k ∧ cntSrc x.1 k = 3 then countOne fuel k x else x
    else (s, wraps)

/-- The most counts that one count can lead to, directly and through overflows, in one step. -/
def countFuel : Nat := 64

/-- A trigger to a counter (code 0x20 + k). -/
def countTrigger (x : State × List Nat) (t : Nat) : State × List Nat :=
  let k := t - 0x20
  if 0x20 ≤ t ∧ t ≤ 0x27 ∧ cntEn x.1 k ∧ cntSrc x.1 k = 3 then countOne countFuel k x else x

/-- How often `t` stands in a list. -/
def countIn (t : Nat) (l : List Nat) : Nat := (l.filter fun x => x == t).length

/-- TRIG_LOST counts. -/
def loseTriggers (n : Nat) (s : State) : State :=
  { s with timer := { s.timer with trigLost := incBy n s.timer.trigLost } }

/-- Deliver the merged triggers to one target (R418): `n` of them, `on` whether the target can take one. -/
def deliver (n : Nat) (on : Bool) (act : State → State) (s : State) : State :=
  if n = 0 then s
  else if on then act (loseTriggers (n - 1) s)
  else loseTriggers n s

/-- Deliver the triggers of a step, but those to counters (R418). In DORMANT and SNIFF, PD193 is on for a checkpoint alone
(R448), so that a request to a channel of another source is lost (DEDUCED, log entry 147). -/
def deliverTriggers (ts : List Nat) (s : State) : State :=
  let s := deliver (countIn 0x01 ts) (blockOn s 5) (fun t => { t with adc := { t.adc with trig := t.adc.trig + 1 } }) s
  let hod := fun (t : State) (n : Nat) => blockOn t 6 && (!asleep t || field (hodCfg t n) 0 3 == 5)
  let s := (List.range 8).foldl (fun t n => deliver (countIn (0x10 + n) ts) (hod t n) (hodRequest n) t) s
  (List.range 16).foldl (fun t n =>
    if ts.contains (0x40 + n) then setCmpEn n false t
    else if ts.contains (0x30 + n) then setCmpEn n true t else t) s

/-- The actions of a step: the matched channels in ascending order, the counts `counted` made by edges, then pins,
triggers and Course switches (R417, R418). -/
def stepActions (matched : List Nat) (x : State × List Nat) : State :=
  let s := x.1
  let trigs := matched.map fun n => field (cmpCfg s n) 16 8
  let (s, wraps) := trigs.foldl countTrigger (s, x.2)
  let s := matched.foldl (fun t n => pinAction (field (cmpCfg t n) 4 2) (field (cmpCfg t n) 8 4) t) s
  let sorted := ((List.range 8).map fun n => List.replicate (countIn n wraps) n).flatten
  let s := sorted.foldl (fun t n => pinAction (field (cntCfg t n) 6 2) (field (cntCfg t n) 8 4) t) s
  let s := deliverTriggers (trigs ++ wraps.map fun n => field (cntCfg s n) 16 8) s
  courseTrigger matched s

/-- The enabled channels of a base that a step from x to y crosses. -/
def matchedBy (s : State) (base : Bool) (x y : Time48) : List Nat :=
  (List.range 16).filter fun n => cmpEn s n && cmpBase s n == base && crosses (getCmp s n).val x y

/-- Step a filter with a sample (R419): the filter after it, and the accepted edge. -/
def filterStep (filt : Nat) (now : Word) (v : Bool) (f : Filter) : Filter × Option (Bool × Word) :=
  if v == f.level then ({ f with run := 0 }, none)
  else
    let first := if f.run = 0 then now else f.first
    if filt + 1 ≤ f.run + 1 then (⟨v, 0, first⟩, some (v, first))
    else (⟨f.level, f.run + 1, first⟩, none)

/-- Sample the capture inputs: an accepted edge that the unit captures waits for its CAPTURE_EDGE (R419, R421). -/
def sampleCaptures (pins : BitVec 12) (s : State) : State :=
  (List.range 12).foldl (fun t u =>
    let cfg := capCfg t u
    if bit cfg 0 && pinFunc t u == 2 then
      let (f, e) := filterStep (field cfg 4 4) (t.timer.time.setWidth 32) (xor (bit pins.toNat u) (bit cfg 3))
        (nth ⟨false, 0, 0⟩ t.timer.capFilters u)
      let t := { t with timer := { t.timer with
        capFilters := setNth t.timer.capFilters u f
        edges := setNth t.timer.edges u (nth [] t.timer.edges u ++
          e.toList.filter fun x => decide (u < 8) || selects (field cfg 1 2) x.1) } }
      if e.isSome && asleep t then requestWake 3 t else t
    else t) s

/-- Sample the counter inputs with SRC 1; a counter counts the edges that EDGE selects. -/
def sampleCounters (pins : BitVec 12) (s : State) : State × List Nat :=
  (List.range 8).foldl (fun x n =>
    let cfg := cntCfg x.1 n
    let pin := cntPin x.1 n
    if bit cfg 0 && cntSrc x.1 n == 1 && pinFunc x.1 pin == 3 then
      let (f, e) := filterStep (field cfg 12 4) (x.1.timer.time.setWidth 32) (bit pins.toNat pin)
        (nth ⟨false, 0, 0⟩ x.1.timer.cntFilters n)
      let t := { x.1 with timer := { x.1.timer with cntFilters := setNth x.1.timer.cntFilters n f } }
      match e with
      | some (rising, _) =>
        let t := if asleep t then requestWake 3 t else t
        if rising != bit cfg 4 then countOne countFuel n (t, x.2) else (t, x.2)
      | none => (t, x.2)
    else x) (s, [])

/-- The µs that one step adds, and the fraction after it (R94, R403). -/
def timeAdvance (s : State) : Nat × BitVec 24 :=
  if tbRuns s then (1, s.timer.frac)
  else
    let total := s.timer.frac.toNat + (if s.clk.lfSrc then s.clk.incLfxo else s.clk.incLfrc).toNat
    (total / 2 ^ 24, BitVec.ofNat 24 total)

/-- One µs of a fall of VCORE: 10 mV, down to where it ends (R55). -/
def fallStep (s : State) : State :=
  if s.sup.vend.toNat < s.sup.vcore.toNat then
    { s with sup := { s.sup with
      vcore := if s.sup.vcore.toNat < s.sup.vend.toNat + 10 then s.sup.vend else s.sup.vcore - 10 } }
  else s

/-- TIME_STEP: one step of TIME with the levels of the GPIO pins at it (R404). -/
def timeStep (pins : BitVec 12) (s : State) : State :=
  if s.sup.power = .off then s
  else
    let s := fallStep (flushEdges s)
    let (d, frac) := timeAdvance s
    let x := s.timer.time
    let y := x + BitVec.ofNat 64 d
    let off := s.timer.ntOffset
    let onTime := matchedBy s false (x.setWidth 48) (y.setWidth 48)
    let onNtime := matchedBy s true ((x + off).setWidth 48) ((y + off).setWidth 48)
    let matched := (List.range 16).filter fun n => onTime.contains n || onNtime.contains n
    let s := { s with timer := { s.timer with time := y, frac := frac }, pins := { s.pins with gpio := pins } }
    let s := matched.foldl (fun t n =>
      matchCmp (if cmpBase t n then (y + off).setWidth 48 else y.setWidth 48) false n t) s
    stepActions matched (sampleCounters pins (sampleCaptures pins s))

/-- A phase step of NTIME by `e` µs (R91, R412). A forward step matches the channels it spans and sets LATE for them; a
backward step matches nothing. -/
def stepNtime (e : Int) (s : State) : State :=
  let x := ntime s
  let s := { s with timer := { s.timer with ntOffset := s.timer.ntOffset + BitVec.ofInt 64 e } }
  if 0 < e then
    let y := ntime s
    let matched := matchedBy s true (x.setWidth 48) (y.setWidth 48)
    let s := matched.foldl (fun t n => matchCmp (y.setWidth 48) true n t) s
    stepActions matched (s, [])
  else s

/-- SNAP (R406, R407). -/
def snapshot (s : State) : State :=
  { s with timer := { s.timer with
    snapTime := s.timer.time
    snapNtime := ntime s
    snapCnt := s.timer.cnts.map fun c => c.val
    snapSeq := inc s.timer.snapSeq } }

-- STAGGER (R414, R415)

/-- The channels that a MASK selects, ascending. -/
def maskChans (mask : Nat) : List Nat := (List.range 16).filter (bit mask)

/-- STAGGER is refused (R415). -/
def staggerBad (mask : Nat) (base : Time48) (spacing : Nat) (s : State) : Bool :=
  let l := maskChans mask
  match l with
  | [] => true
  | n :: _ =>
    l.any (fun k => cmpBase s k != cmpBase s n) || !ahead base (baseOf s n) ||
      decide ((base - baseOf s n).toNat < 2) || decide (2 ^ 47 ≤ spacing * (l.length - 1))

/-- Execute STAGGER: VAL, PERIOD and EN of each selected channel. A PERIOD of 0 leaves PERIOD and PERIODIC alone. A
channel that was enabled already is armed afresh too. -/
def staggerGo (mask : Nat) (base : Time48) (spacing period : Nat) (s : State) : State :=
  ((maskChans mask).zipIdx).foldl (fun t (n, i) =>
    let c := getCmp t n
    let c := { c with
      val := base + BitVec.ofNat 48 (i * spacing)
      period := if period = 0 then c.period else BitVec.ofNat 32 period }
    let t := setCmp n c t
    let cfg := withField (cmpCfg t n) 0 1 1
    let cfg := if period = 0 then cfg else withField cfg 2 1 1
    armCmp n (setLive t (K.cmpCfg + n) (leBytes 4 cfg))) s

-- Register views

/-- TIMER.CMPSTAT (Table 16.7). -/
def cmpStat (s : State) : Nat :=
  (List.range 16).foldl (fun a n => a + b2n (getCmp s n).matched * 2 ^ n + b2n (getCmp s n).late * 2 ^ (16 + n)) 0

/-- Clear the bits of CMPSTAT that are written 1. -/
def clearCmpStat (w : Nat) (s : State) : State :=
  (List.range 16).foldl (fun t n =>
    let c := getCmp t n
    setCmp n { c with matched := c.matched && !bit w n, late := c.late && !bit w (16 + n) } t) s

end Sys2Proof.Machine
end

