-- ==== Sys2Proof/Machine/Pulse.lean ====
section
/-! DEFINITION. Pulse channels, line supervision, the ADC and the flush of Hod frames (file 17).
What the manual leaves open here and how the model reads it, with its mark: log entries 60 to 62. -/

namespace Sys2Proof.Machine

def pulseCfg (s : State) (n : Nat) : Nat := liveNat s (K.pulseCfg + n)
def pulseEn (s : State) (n : Nat) : Bool := bit (pulseCfg s n) 0
def pulseSup (s : State) (n : Nat) : Bool := bit (pulseCfg s n) 1

def setPulse (n : Nat) (c : PulseCh) (s : State) : State :=
  { s with pulse := { s.pulse with chans := setNth s.pulse.chans n c } }

/-- PULSE_CFG: DEB lies in 1 to 15 (R432). -/
def pulseCfgOk (v : Nat) : Bool := decide (1 ≤ field v 4 4)

/-- The comparator: threshold r = 0.55 with a hysteresis of ±0.025 about its last output; r is `num / den` (R432). -/
def comparator (out : Bool) (num den : Nat) : Bool :=
  if 575 * den < 1000 * num then true else if 1000 * num < 525 * den then false else out

/-- A measurement of channel `n` runs in the reverse polarity: the line state is REVERSED (R432, R439). -/
def reversePolarity (s : State) (n : Nat) : Bool := (getPulse s n).line == .reversed

/-- What a sample judges: its own ratio in thousandths, or, where it is due in the µs of a supervision of the channel,
the supervision's code in the polarity in force (R450, log entry 115). -/
def strobed (s : State) (n ratio : Nat) : Nat × Nat :=
  match (getPulse s n).strobe with
  | some (at_, code) => if at_ = s.timer.time then (code.toNat, 4095) else (ratio, 1000)
  | none => (ratio, 1000)

/-- Count a pulse of channel n into CNTn when its source is the pulse input (R433). -/
def countPulse (n : Nat) (s : State) : State :=
  if cntEn s n && cntSrc s n == 0 then stepActions [] (countOne countFuel n (s, [])) else s

/-- A sample of channel n with the sensed ratio (R432 to R434, R439). -/
def samplePulse (n ratio : Nat) (s : State) : State :=
  let c := getPulse s n
  let x := strobed s n ratio
  let v := comparator c.out x.1 x.2
  if c.line = .open_ ∨ c.line = .short then setPulse n { c with out := v, run := 0 } s
  else
    let run := if v == c.out then c.run + 1 else 1
    let s := setPulse n { c with out := v, run := run } s
    if field (pulseCfg s n) 4 4 ≤ run ∧ v ≠ c.level then
      let s := setPulse n { c with out := v, run := run, level := v } s
      if v then countPulse n s else s
    else s

/-- A line can be excited: bank B has its supply (R17), and VIN is not reversed (R26). -/
def exciteOk (s : State) : Bool := s.pins.bankB && !s.pins.reversed

/-- PULSE_SAMPLE: an enabled channel samples while the block is clocked, its line can be excited and no commit has stopped
the sampling. -/
def pulseSample (n ratio : Nat) (s : State) : State :=
  if pulseEn s n && blockOn s 4 && exciteOk s && !s.pulse.stopped &&
      s.sup.power != .shutdown && s.sup.power != .off then
    samplePulse n ratio s
  else s

-- Supervision (R436 to R440)

/-- The bands of Table 17.1. -/
inductive Band where
  | high | open_ | closed | low
  deriving DecidableEq, Repr

def bandOf (c : Nat) : Band :=
  if c ≤ 204 then .high else if c ≤ 2251 then .open_ else if c ≤ 3848 then .closed else .low

/-- The reading of a pair of bands (Table 17.2); none is indeterminate. -/
def readingOf (state : LineState) : Band → Band → Option LineState
  | .open_, .high => some .normal
  | .closed, .high => some .normal
  | .high, .open_ => some .reversed
  | .high, .closed => some .reversed
  | .closed, .closed => some (if state = .reversed then .reversed else .normal)
  | .high, .high => some .open_
  | .low, .low => some .short
  | _, _ => none

/-- Change the state of a line: LINE_FAULT at every change but UNKNOWN to NORMAL; it is a wake source (R440). -/
def setLine (n : Nat) (new : LineState) (s : State) : State :=
  let c := getPulse s n
  if new = c.line then setPulse n { c with repeats := 0, starting := false } s
  else
    let s' := setPulse n { c with line := new, repeats := 0, starting := false } s
    if c.line = .unknown ∧ new = .normal then s'
    else requestWake 4 (post evLineFault (BitVec.ofNat 16 n) (BitVec.ofNat 32 (c.line.code + 256 * new.code +
      2 ^ 16 * (c.forward.toNat / 16) + 2 ^ 24 * (c.reverse.toNat / 16))) s')

/-- A supervision of channel n with its two codes. -/
def supervise (n : Nat) (code : AdcCode) (s : State) : State :=
  let c := { getPulse s n with
    forward := code.forward, reverse := code.reverse
    strobe := some (s.timer.time, if reversePolarity s n then code.reverse else code.forward) }
  let s := setPulse n c s
  match readingOf c.line (bandOf code.forward.toNat) (bandOf code.reverse.toNat) with
  | none =>
    let s := { s with pulse := { s.pulse with indet := inc s.pulse.indet } }
    if c.starting then setLine n .normal s else setPulse n { c with repeats := 0 } s
  | some r =>
    if c.starting then setLine n r s
    else if r = c.line then setPulse n { c with repeats := 0 } s
    else
      let k := if r = c.reading then c.repeats + 1 else 1
      let s := setPulse n { c with reading := r, repeats := k } s
      if liveNat s K.lineConfirm ≤ k then setLine n r s else s

-- The ADC (R441 to R443)

/-- Mux codes that Table 17.3 lists. -/
def muxOk (m : Nat) : Bool := decide (m ≤ 5) || (decide (8 ≤ m) && decide (m ≤ 0x17)) || m == 0x1F

def adcEntry (s : State) (k : Nat) : Nat := liveNat s (K.adcSeq + k)

/-- A conversion result: the raw code less the offset found (R453). A code below the offset leaves a value the manual
does not state. -/
def corrected (raw : BitVec 12) (s : State) : BitVec 12 × State :=
  if s.adc.offset.toNat ≤ raw.toNat then (raw - s.adc.offset, s)
  else
    let x := freeBits 12 s
    (BitVec.ofNat 12 x.1, x.2)

/-- The next result of those given; a conversion whose result is not given reads a free value. -/
def takeCode (codes : List AdcCode) (s : State) : AdcCode × List AdcCode × State :=
  match codes with
  | c :: cs =>
    let f := corrected c.forward s
    let r := corrected c.reverse f.2
    (⟨f.1, r.1⟩, cs, r.2)
  | [] =>
    let f := freeBits 12 s
    let r := freeBits 12 f.2
    (⟨BitVec.ofNat 12 f.1, BitVec.ofNat 12 r.1⟩, [], r.2)

/-- The channel that SUPNEXT supervises: the next one with SUP = 1, round robin (Table 17.3); none while no line can be
excited (DEDUCED from R17 and R26, log entry 133). -/
def nextSup (s : State) : Option Nat :=
  if exciteOk s then ((List.range 8).map fun i => (s.adc.supNext + i) % 8).find? (pulseSup s) else none

/-- Start a channel (R439): its state is UNKNOWN, and with SUP = 1 a supervision runs at once, with the codes that the line
gives; it stays owed while the ADC or the line cannot work. The kept level stays (R434). -/
def startChannel (n : Nat) (s : State) : State :=
  let c := getPulse s n
  let s := setLine n .unknown (setPulse n { c with out := c.level, run := 0 } s)
  if !pulseSup s n then s
  else
    let s := setPulse n { getPulse s n with starting := true } s
    if blockOn s 5 && exciteOk s then
      let x := takeCode [] s
      supervise n x.1 x.2.2
    else s

/-- Set PULSE_CFGn: a channel that becomes enabled starts; one without EN and SUP owes no supervision. -/
def setPulseCfg (n v : Nat) (s : State) : State :=
  let was := pulseCfg s n
  let s := setLive s (K.pulseCfg + n) [BitVec.ofNat 8 (v &&& 0xF3)]
  if bit v 0 && !bit was 0 then startChannel n s
  else if bit v 0 && bit v 1 then s
  else setPulse n { getPulse s n with starting := false } s

/-- Hand a routed result to its Hod channel (R442, Table 17.4). -/
def routeResult (k entry : Nat) (result : Nat) (s : State) : State :=
  let h := field entry 9 3
  if bit entry 8 && field (hodCfg s h) 0 3 == 1 && blockOn s 6 && !asleep s then
    hodRecord h (leBytes 4 (s.timer.time.setWidth 32).toNat ++
      [BitVec.ofNat 8 (field entry 0 5), BitVec.ofNat 8 k] ++ leBytes 2 result) s
  else s

/-- Run entry k of the sequence. -/
def runEntry (k : Nat) (codes : List AdcCode) (s : State) : List AdcCode × State :=
  let entry := adcEntry s k
  let (result, codes, s) :=
    if field entry 0 5 = 0x1F then
      match nextSup s with
      | none => (0, codes, s)
      | some n =>
        let (c, codes, s) := takeCode codes s
        let s := supervise n c s
        (c.forward.toNat, codes, { s with adc := { s.adc with supNext := (n + 1) % 8 } })
    else
      let (c, codes, s) := takeCode codes s
      (c.forward.toNat, codes, s)
  let s := { s with adc := { s.adc with last := setNth s.adc.last k (BitVec.ofNat 16 result) } }
  (codes, routeResult k entry result s)

/-- Run entries k to `k + n - 1`. -/
def runEntries : Nat → Nat → List AdcCode → State → State
  | 0, _, _, s => s
  | n + 1, k, codes, s =>
    let (codes, s) := runEntry k codes s
    runEntries n (k + 1) codes s

/-- The supervisions still owed to channels that have started run first, outside the schedule (R439). -/
def runStarts : List Nat → List AdcCode → State → List AdcCode × State
  | [], codes, s => (codes, s)
  | n :: ns, codes, s =>
    if (getPulse s n).starting && exciteOk s then
      let (c, codes, s) := takeCode codes s
      runStarts ns codes (supervise n c s)
    else runStarts ns codes s

/-- Run a sequence with its raw results. -/
def runSequence (codes : List AdcCode) (s : State) : State :=
  let (codes, s) := runStarts (List.range 8) codes s
  runEntries (liveNat s K.adcSeqLen) 0 codes { s with adc := { s.adc with running := true } }

/-- A start: at once, or pending one deep while a sequence runs, or discarded (R443). -/
def adcBegin (codes : List AdcCode) (s : State) : State :=
  if s.adc.running then
    if s.adc.pend then { s with adc := { s.adc with overrun := inc s.adc.overrun } }
    else { s with adc := { s.adc with pend := true } }
  else runSequence codes s

/-- A start by a trigger delivered before (R418). -/
def adcTriggered (codes : List AdcCode) (s : State) : State :=
  if s.adc.trig = 0 then s
  else adcBegin codes { s with adc := { s.adc with trig := s.adc.trig - 1 } }

/-- The end of a sequence; a pending start runs. -/
def adcEnd (codes : List AdcCode) (s : State) : State :=
  if !s.adc.running then s
  else
    let p := s.adc.pend
    let s := { s with adc := { s.adc with running := false, pend := false } }
    if p then runSequence codes s else s

/-- The ADC can run a sequence: awake, and in DORMANT and SNIFF with its domain kept on (R442, Table 3.6). -/
def adcWorks (s : State) : Bool :=
  !s.boot.held && (!asleep s || ((s.sup.power == .dormant || s.sup.power == .sniff) && blockOn s 5)) &&
    s.sup.power != .off

/-- HOD_FLUSH: FLUSH ms after the first record of the open frame (R446). -/
def hodFlush (n : Nat) (s : State) : State :=
  if nth [] s.hod.frames n ≠ [] ∧ field (hodCfg s n) 16 16 ≠ 0 ∧ blockOn s 6 then hodAppend n s else s

/-- A value of HOD_CFGn that a dictionary write may carry (R444). -/
def hodCfgOk (v : Nat) : Bool :=
  let src := field v 0 3
  decide (src ≤ 5) && !(decide (1 ≤ src) && decide (src ≤ 4) && field v 8 5 == 0)

/-- A register write of HOD.CFGn: refused fields keep what they were (R5, R444). -/
def hodCfgMerge (old v : Nat) : Nat × Bool :=
  let v0 := v &&& 0xFFFF1F77
  let badSrc := decide (6 ≤ field v0 0 3)
  let v1 := if badSrc then withField v0 0 3 (field old 0 3) else v0
  let badRecs := !hodCfgOk v1
  let v2 := if badRecs then withField (withField v1 8 5 (field old 8 5)) 0 3 (field old 0 3) else v1
  (v2, badSrc || badRecs)

-- Restore (R449)

/-- The CKPT payload of counter n that is live. -/
def ckptOf (m : Mortar) (n : Nat) : Option Bytes := payloadOf m rtCkpt n

/-- Boot phase 5 after a cold reset: counters and levels from the live CKPT records, and PULSE_RESTORE. -/
def restoreCounters (s : State) : State :=
  let found := (List.range 8).filterMap fun n => (ckptOf s.mortar n).map fun p => (n, p)
  let s := found.foldl (fun t (n, p) =>
    let flags := leNat ((p.drop 2).take 1)
    let t := setCnt n { getCnt t n with val := BitVec.ofNat 16 (leNat (p.take 2)) } t
    setPulse n { getPulse t n with level := bit flags 0 } t) s
  let pf := found.all fun x => bit (leNat ((x.2.drop 2).take 1)) 1
  { s with pulse := { s.pulse with restore := if found = [] then 0 else if pf then 1 else 2 } }

end Sys2Proof.Machine
end

