-- ==== Sys2Proof/Machine/Background.lean ====
section
/-! DEFINITION. Background work and self-repair: scrubbing, row remapping, bank migration, slices, the self-test, lane
reassignment and telemetry (file 18, R233).
What the manual leaves open here and how the model reads it, with its mark: log entries 92 to 95 and 150. -/

namespace Sys2Proof.Machine

/-- Background tasks run in IDLE, RX and TX, and are suspended by BOD_WARN (R452, R468). -/
def background (s : State) : Bool :=
  (s.sup.power == .idle || s.sup.power == .rx || s.sup.power == .tx) && !s.sup.bodWarn

-- Ashlar (R452, R458 to R460)

/-- The queue's contents that a stone or an eviction entry holds besides Ashlar: the first segment of each head and
the last of each tail (R338, R341). -/
def heldAbove (s : State) (q : Nat) (chain : List Frame) (i : Nat) : Bool :=
  queueWhere s q != 0 &&
  ((chain.head?.any fun f => f.segs.head? == some i) || (chain.getLast?.any fun f => f.segs.getLast? == some i))

/-- A frame's segment i is lost for good with the segments `lost`: it is one of them, and where it has a mirror, that copy
is lost too or lies in a retired bank (R350, R460, R468). -/
def copiesLost (s : State) (f : Frame) (lost : Nat → Bool) (i : Nat) : Bool :=
  let gone := fun j => lost j || s.repair.banksLost.contains (32 + j / 1024)
  if f.mirrored then gone i && gone (i + ashlarHalf) else lost i

/-- The place of the first frame of a chain that loses one of the segments `lost` for good. -/
def cutPlace (s : State) (q : Nat) (chain : List Frame) (lost : Nat → Bool) : Option Nat :=
  chain.findIdx? fun f => f.segs.any fun i => copiesLost s f lost i && !heldAbove s q chain i

/-- Cut every chain that loses a segment for good (R350). -/
def cutChains (lost : Nat → Bool) (s : State) : State :=
  (s.qe.queues.map fun x => x.1).foldl (fun t q =>
    let t := match cutPlace t q (getQueue t q).inCh lost with
      | some k => loseFrames q true k false t
      | none => t
    match cutPlace t q (getQueue t q).outCh lost with
    | some k => loseFrames q false k false t
    | none => t) s

/-- The segment index lies in a row of 256 bytes of a bank. -/
def inRow (bank row i : Nat) : Bool := 32 + i / 1024 == bank && i % 1024 / 4 == row

/-- The spare rows used in a bank, the factory map's among them. -/
def rowsUsedIn (s : State) (bank : Nat) : Nat :=
  tabGet 0 bank s.repair.rowsUsed +
    (s.repair.factory.filter fun e => e.kind == 0x01 && e.b1.toNat == bank).length

/-- Spare bank k is free: neither map has assigned it, no bank migrates to it, and it has not failed itself (log entry
150). -/
def spareFree (s : State) (k : Nat) : Bool :=
  nth none s.repair.spareOf k == none && !s.repair.banksLost.contains (128 + k) &&
    !(s.repair.factory.any fun e => e.kind == 0x02 && e.b2.toNat == k) &&
    !(s.repair.migrating.any fun x => x.2 == k)

/-- The lowest free spare bank. -/
def freeSpare (s : State) : Option Nat := (List.range 4).find? (spareFree s)

/-- Spare k takes the number of a bank (R459). A spare that held the number has failed, and is not free again (log entry
150). -/
def takeSpare (bank k : Nat) (s : State) : State :=
  let failed := (List.range 4).filter fun j => j != k && nth none s.repair.spareOf j == some bank
  { s with repair := { s.repair with
    banksLost := s.repair.banksLost ++ failed.map fun j => 128 + j
    spareOf := setNth (s.repair.spareOf.map fun x => if x = some bank then none else x) k (some bank) } }

/-- A failed bank starts migrating to the lowest free spare, also while another one migrates, or is retired (R459, R460). -/
def bankFailed (bank : Nat) (s : State) : State :=
  if s.repair.migrating.any (fun x => x.1 == bank) ∨ s.repair.banksLost.contains bank ∨ 128 ≤ bank then s
  else
    match freeSpare s with
    | some k => { s with repair := { s.repair with migrating := s.repair.migrating ++ [(bank, k)] } }
    | none =>
      let s := { s with repair := { s.repair with banksLost := s.repair.banksLost ++ [bank] } }
      let s := if 32 ≤ bank ∧ bank ≤ 125 then cutChains (fun i => 32 + i / 1024 == bank) s else s
      enterRepair 0x02 (bank + 256 * 0xFF) ⟨0x02, BitVec.ofNat 8 bank, 0xFF, 0⟩ (fun _ => false) s

/-- Remap a row to the next free spare row of its bank; without one the bank has failed (R458, R459). -/
def remapRow (bank row : Nat) (s : State) : State :=
  let k := rowsUsedIn s bank
  if 8 ≤ k then bankFailed bank s
  else
    let s := { s with repair := { s.repair with
      rowsUsed := tabSet 0 bank (tabGet 0 bank s.repair.rowsUsed + 1) s.repair.rowsUsed
      watch := s.repair.watch.filter fun w => !(w.1 == bank && w.2.1 == row) } }
    enterRepair 0x01 (bank + 256 * row + 65536 * k)
      ⟨0x01, BitVec.ofNat 8 bank, BitVec.ofNat 8 row, BitVec.ofNat 8 k⟩ (fun _ => false) s

/-- Count a correction in the watch table of the 16 rows most recently corrected: the table and the row's count. -/
def watchRow (bank row : Nat) (w : List (Nat × Nat × Nat)) : List (Nat × Nat × Nat) × Nat :=
  let n := ((w.find? fun x => x.1 == bank && x.2.1 == row).map fun x => x.2.2).getD 0 + 1
  let rest := w.filter fun x => !(x.1 == bank && x.2.1 == row)
  ((if 16 ≤ rest.length then rest.tail else rest) ++ [(bank, row, n)], n)

/-- A reader finds an uncorrectable word in a row: its contents are made good, or an unguarded queue loses them; the
row is remapped; a second row fails the bank. -/
def uncorrectableRow (bank row : Nat) (s : State) : State :=
  let s := { s with repair := { s.repair with eccUncorrected := inc s.repair.eccUncorrected } }
  let s := if 32 ≤ bank ∧ bank ≤ 125 then cutChains (inRow bank row) s else s
  let second := s.repair.badRows.any fun x => x.1 == bank && x.2 != row
  let s := { s with repair := { s.repair with badRows := s.repair.badRows ++ [(bank, row)] } }
  if second then bankFailed bank s else remapRow bank row s

/-- ASHLAR_SCRUB: a bubble reads a segment's row. -/
def ashlarScrub (bank row : Nat) (found : Ecc) (s : State) : State :=
  if !background s ∨ bankLive s bank = false then s
  else
    match found with
    | .clean => s
    | .corrected =>
      let x := watchRow bank row s.repair.watch
      let s := { s with repair := { s.repair with
        eccCorrected := inc s.repair.eccCorrected, watch := x.1 } }
      if liveNat s K.rowLimit ≤ x.2 then remapRow bank row s else s
    | .uncorrectable => uncorrectableRow bank row s

/-- MIGRATION_END, of the oldest migration: the spare takes the bank number, the failed bank's domain is switched off
(R459), and the bank's row entries leave the map (R464). -/
def migrationEnd (s : State) : State :=
  match s.repair.migrating with
  | [] => s
  | (bank, k) :: rest =>
    let s := takeSpare bank k { s with repair := { s.repair with
      migrating := rest
      rowsUsed := tabSet 0 bank 0 s.repair.rowsUsed
      badRows := s.repair.badRows.filter fun x => x.1 != bank
      suspects := s.repair.suspects.filter fun x => x != bank } }
    enterRepair 0x02 (bank + 256 * k) ⟨0x02, BitVec.ofNat 8 bank, BitVec.ofNat 8 k, 0⟩
      (fun e => e.kind == 0x01 && e.b1.toNat == bank) s

/-- SEGMENT_REFUSED: a refused write is reissued; the second report of a bank as suspect fails it (R341, R459). -/
def segmentRefused (i : Nat) (s : State) : State :=
  if 2 ^ 23 ≤ i ∨ ashlarPlaces ≤ i then s
  else
    let x := refuseSegment i s
    if x.2 then
      let bank := 32 + i / 1024
      let again := x.1.repair.suspects.contains bank
      let s := { x.1 with repair := { x.1.repair with suspects := x.1.repair.suspects ++ [bank] } }
      if again then bankFailed bank s else s
    else x.1

-- Keystone (R452, R461)

/-- A failed slice is removed: guarded stones are dropped, a chain whose tail only a stone held is cut there, and Keystone
holds 64 fewer stones (R350, R461). -/
def sliceFailed (slice : Nat) (s : State) : State :=
  let gone := s.qe.stones.filter fun t => t.place / 64 == slice
  let s := { s with
    repair := { s.repair with slicesOk := s.repair.slicesOk &&& ~~~(BitVec.ofNat 8 (2 ^ slice)) }
    qe := { s.qe with
      stones := s.qe.stones.filter fun t => t.place / 64 != slice
      slicesOn := if slice = 0 then s.qe.slicesOn else s.qe.slicesOn &&& ~~~(BitVec.ofNat 8 (2 ^ slice)) } }
  let s := gone.foldl (fun u t =>
    let v := getQueue u t.queue
    let u := if t.dirty.inTail then loseFrames t.queue true (v.inCh.length - 1) false u else u
    if t.dirty.outTail then loseFrames t.queue false (v.outCh.length - 1) false u else u) s
  enterRepair 0x03 slice ⟨0x03, BitVec.ofNat 8 slice, 0xFF, 0xFF⟩ (fun _ => false) s

/-- KEYSTONE_SCRUB: a bubble reads a stone; uncorrectable words at two stones of a slice fail it. -/
def keystoneScrub (slice stone : Nat) (found : Ecc) (s : State) : State :=
  if !background s ∨ (slice ≠ 0 ∧ bit s.qe.slicesOn.toNat slice = false) then s
  else
    match found with
    | .clean => s
    | .corrected => { s with repair := { s.repair with eccCorrected := inc s.repair.eccCorrected } }
    | .uncorrectable =>
      let two := s.repair.badStones.any fun x => x.1 == slice && x.2 != stone
      let s := { s with repair := { s.repair with
        eccUncorrected := inc s.repair.eccUncorrected
        badStones := s.repair.badStones ++ [(slice, stone)] } }
      if two && bit s.repair.slicesOk.toNat slice then sliceFailed slice s else s

/-- SLICE_IDLE_OFF: a slice that holds no stone is switched off (R338). -/
def sliceIdleOff (slice : Nat) (s : State) : State :=
  if s.qe.stones.any fun t => t.place / 64 == slice then s
  else { s with qe := { s.qe with slicesOn := s.qe.slicesOn &&& ~~~(BitVec.ofNat 8 (2 ^ slice)) } }

-- Lanes (R233)

/-- The lane's configuration enables it. -/
def laneEn (s : State) (n : Nat) : Bool := bit (phyNat s (K.laneMap + n)) 15

/-- SPARES_LEFT: spare physical lanes 32 and 33 that are neither in use nor failed. -/
def sparesLeft (s : State) : List Nat :=
  [32, 33].filter fun p => !s.scarab.lanePhys.contains p && !s.scarab.physFail.contains p

/-- Replace a failed physical lane (R233): the lane map after it, the replacement, and the logical lane left without
one; 255 for none. -/
def replaceLane (s : State) (p : Nat) : List Nat × Nat × Nat :=
  match s.scarab.lanePhys.findIdx? fun x => x == p with
  | none => (s.scarab.lanePhys, 255, 255)
  | some n =>
    match sparesLeft s with
    | r :: _ => (setNth s.scarab.lanePhys n r, r, 255)
    | [] =>
      let donors := (List.range 32).filter fun k => laneEn s k && nth 255 s.scarab.lanePhys k != 255
      match donors.getLast? with
      | none => (setNth s.scarab.lanePhys n 255, 255, n)
      | some k =>
        if k = n then (setNth s.scarab.lanePhys n 255, 255, n)
        else (setNth (setNth s.scarab.lanePhys n (nth 255 s.scarab.lanePhys k)) k 255, nth 255 s.scarab.lanePhys k, k)

/-- Put a lane failure in force, without its event: the map of the boot applies entries so (R464). -/
def applyLaneFail (p : Nat) (s : State) : State :=
  let s := { s with scarab := { s.scarab with physFail := s.scarab.physFail.filter (fun x => x != p) ++ [p] } }
  { s with scarab := { s.scarab with lanePhys := (replaceLane s p).1 } }

/-- The lane that a detection names is a lane of Scarab, and has logical number `n`. -/
def namesLane (n : Nat) (d : Det) : Bool := d.seen.sf.val != 7 && d.seen.lane.val == n

/-- LANE_REASSIGN: the oldest failed lane is replaced once no detection is pending on its logical lane, nor on the one
that gives up its physical lane. -/
def laneReassign (s : State) : State :=
  match s.scarab.laneDue with
  | [] => s
  | p :: rest =>
    let r := replaceLane { s with scarab := { s.scarab with physFail := s.scarab.physFail ++ [p] } } p
    let busy := s.scarab.dets.any fun d => namesLane r.2.2 d ||
      (d.seen.sf.val != 7 && nth 255 s.scarab.lanePhys d.seen.lane.val == p)
    if busy then s
    else
      enterRepair 0x04 (p + 256 * r.2.1 + 65536 * r.2.2) ⟨0x04, BitVec.ofNat 8 p, 0xFF, 0xFF⟩ (fun _ => false)
        (applyLaneFail p { s with scarab := { s.scarab with laneDue := rest } })

-- Paths and the self-test (R213, R455 to R457)

/-- A receive path is removed from use. -/
def pathFailed (p : Nat) (s : State) : State :=
  enterRepair 0x05 p ⟨0x05, BitVec.ofNat 8 p, 0xFF, 0xFF⟩ (fun _ => false)
    { s with rx := { s.rx with pathsOk := s.rx.pathsOk &&& ~~~(BitVec.ofNat 2 (2 ^ p)) } }

/-- The unit under test can be tested now (R455). -/
def testable (s : State) : Bool :=
  let u := s.repair.bistUnit.val
  background s &&
  (if u < 34 then !s.scarab.dets.any (fun d => d.seen.sf.val != 7 && nth 255 s.scarab.lanePhys d.seen.lane.val == u)
   else if u < 36 then
     s.radio.state == .idle || (s.radio.state == .rx && phyNat s K.rxMode == 2 && s.scarab.dets.isEmpty)
   else s.radio.state == .idle)

/-- The rotation moves on. -/
def nextUnit (s : State) : State :=
  { s with repair := { s.repair with bistUnit := Fin.ofNat 37 (s.repair.bistUnit.val + 1) } }

/-- SELF_TEST: the next unit is tested; two failures in a row declare it failed. While a reassignment waits, a lane's
turn is skipped. -/
def selfTest (pass : Bool) (s : State) : State :=
  let u := s.repair.bistUnit.val
  if !testable s then s
  else if u < 34 ∧ s.scarab.laneDue ≠ [] then nextUnit s
  else if pass then
    nextUnit { s with repair := { s.repair with bistOnce := s.repair.bistOnce.filter fun x => x != u } }
  else
    let s := { s with repair := { s.repair with bistFails := inc s.repair.bistFails } }
    if s.repair.bistOnce.contains u then
      let s := { s with repair := { s.repair with bistOnce := s.repair.bistOnce.filter fun x => x != u } }
      if u < 34 then
        if s.scarab.physFail.contains u then nextUnit s
        else nextUnit { s with scarab := { s.scarab with laneDue := s.scarab.laneDue ++ [u] } }
      else if u < 36 then
        if bit s.rx.pathsOk.toNat (u - 34) then nextUnit (pathFailed (u - 34) s) else nextUnit s
      else nextUnit (postRepair 0x09 0 s)
    else nextUnit { s with repair := { s.repair with bistOnce := s.repair.bistOnce ++ [u] } }

/-- BIST_SKIP: a test that has waited too long is skipped (R456). -/
def bistSkip (s : State) : State :=
  nextUnit { s with repair := { s.repair with bistSkips := inc s.repair.bistSkips } }

-- Telemetry, the ADC offset and the canaries (R453, R454)

/-- TELEM_SAMPLE: the extremes take in the present die temperature, VIN and VHOLD. -/
def telemSample (vin vhold : Half) (s : State) : State :=
  if !background s then s
  else
    let r := s.repair
    let t := s.sup.temp
    let r := if r.telemSeen then
        { r with
          tempMin := if t.toInt < r.tempMin.toInt then t else r.tempMin
          tempMax := if r.tempMax.toInt < t.toInt then t else r.tempMax
          vinMin := if vin.toNat < r.vinMin.toNat then vin else r.vinMin
          vholdMin := if vhold.toNat < r.vholdMin.toNat then vhold else r.vholdMin }
      else { r with tempMin := t, tempMax := t, vinMin := vin, vholdMin := vhold, telemSeen := true }
    { s with repair := r, sup := { s.sup with vinMv := vin, vholdMv := vhold } }

/-- TELEM_CLEAR with 0x01. -/
def telemClear (s : State) : State :=
  { s with repair := { s.repair with
    tempMin := 0, tempMax := 0, vinMin := 0, vholdMin := 0, telemSeen := false } }

/-- ADC_OFFSET: between sequences, the code of the internal ground is the offset (R453). -/
def adcOffset (code : BitVec 12) (s : State) : State :=
  if background s && blockOn s 5 && !s.adc.running then { s with adc := { s.adc with offset := code } } else s

/-- A sector that the map retires, and the spare that takes its place, erased and prepared if it was not yet (R378, R398). -/
def applySector (i spare : Nat) (s : State) : State :=
  let m := setUse i .retired s.mortar
  { s with mortar := if (m.sectors.getD spare ⟨.retired, 0⟩).use = .unassigned then prepareDirty spare m else m }

/-- The field map's entries as the boot puts them in force, after the factory map (R464). -/
def applyEntry (e : MapEntry) (s : State) : State :=
  if e.kind = 0x01 then { s with repair := { s.repair with
    rowsUsed := tabSet 0 e.b1.toNat (tabGet 0 e.b1.toNat s.repair.rowsUsed + 1) s.repair.rowsUsed } }
  else if e.kind = 0x02 then
    if e.b2 = 0xFF then { s with repair := { s.repair with banksLost := s.repair.banksLost ++ [e.b1.toNat] } }
    else takeSpare e.b1.toNat e.b2.toNat s
  else if e.kind = 0x03 then { s with repair := { s.repair with
    slicesOk := s.repair.slicesOk &&& ~~~(BitVec.ofNat 8 (2 ^ e.b1.toNat)) } }
  else if e.kind = 0x04 then applyLaneFail e.b1.toNat s
  else if e.kind = 0x05 then { s with rx := { s.rx with
    pathsOk := s.rx.pathsOk &&& ~~~(BitVec.ofNat 2 (2 ^ e.b1.toNat)) } }
  else if e.kind = 0x06 then applySector e.b1.toNat e.b2.toNat s
  else s

end Sys2Proof.Machine
end

