-- ==== Sys2Proof/Machine/Aes.lean ====
section
/-! DEFINITION. AES-128 encryption (FIPS 197) and CCM (NIST SP 800-38C), which file 19 names. -/

namespace Sys2Proof.Machine

/-- The substitution table of AES. -/
def sboxTable : List Nat :=
  [0x63, 0x7C, 0x77, 0x7B, 0xF2, 0x6B, 0x6F, 0xC5, 0x30, 0x01, 0x67, 0x2B, 0xFE, 0xD7, 0xAB, 0x76] ++
  [0xCA, 0x82, 0xC9, 0x7D, 0xFA, 0x59, 0x47, 0xF0, 0xAD, 0xD4, 0xA2, 0xAF, 0x9C, 0xA4, 0x72, 0xC0] ++
  [0xB7, 0xFD, 0x93, 0x26, 0x36, 0x3F, 0xF7, 0xCC, 0x34, 0xA5, 0xE5, 0xF1, 0x71, 0xD8, 0x31, 0x15] ++
  [0x04, 0xC7, 0x23, 0xC3, 0x18, 0x96, 0x05, 0x9A, 0x07, 0x12, 0x80, 0xE2, 0xEB, 0x27, 0xB2, 0x75] ++
  [0x09, 0x83, 0x2C, 0x1A, 0x1B, 0x6E, 0x5A, 0xA0, 0x52, 0x3B, 0xD6, 0xB3, 0x29, 0xE3, 0x2F, 0x84] ++
  [0x53, 0xD1, 0x00, 0xED, 0x20, 0xFC, 0xB1, 0x5B, 0x6A, 0xCB, 0xBE, 0x39, 0x4A, 0x4C, 0x58, 0xCF] ++
  [0xD0, 0xEF, 0xAA, 0xFB, 0x43, 0x4D, 0x33, 0x85, 0x45, 0xF9, 0x02, 0x7F, 0x50, 0x3C, 0x9F, 0xA8] ++
  [0x51, 0xA3, 0x40, 0x8F, 0x92, 0x9D, 0x38, 0xF5, 0xBC, 0xB6, 0xDA, 0x21, 0x10, 0xFF, 0xF3, 0xD2] ++
  [0xCD, 0x0C, 0x13, 0xEC, 0x5F, 0x97, 0x44, 0x17, 0xC4, 0xA7, 0x7E, 0x3D, 0x64, 0x5D, 0x19, 0x73] ++
  [0x60, 0x81, 0x4F, 0xDC, 0x22, 0x2A, 0x90, 0x88, 0x46, 0xEE, 0xB8, 0x14, 0xDE, 0x5E, 0x0B, 0xDB] ++
  [0xE0, 0x32, 0x3A, 0x0A, 0x49, 0x06, 0x24, 0x5C, 0xC2, 0xD3, 0xAC, 0x62, 0x91, 0x95, 0xE4, 0x79] ++
  [0xE7, 0xC8, 0x37, 0x6D, 0x8D, 0xD5, 0x4E, 0xA9, 0x6C, 0x56, 0xF4, 0xEA, 0x65, 0x7A, 0xAE, 0x08] ++
  [0xBA, 0x78, 0x25, 0x2E, 0x1C, 0xA6, 0xB4, 0xC6, 0xE8, 0xDD, 0x74, 0x1F, 0x4B, 0xBD, 0x8B, 0x8A] ++
  [0x70, 0x3E, 0xB5, 0x66, 0x48, 0x03, 0xF6, 0x0E, 0x61, 0x35, 0x57, 0xB9, 0x86, 0xC1, 0x1D, 0x9E] ++
  [0xE1, 0xF8, 0x98, 0x11, 0x69, 0xD9, 0x8E, 0x94, 0x9B, 0x1E, 0x87, 0xE9, 0xCE, 0x55, 0x28, 0xDF] ++
  [0x8C, 0xA1, 0x89, 0x0D, 0xBF, 0xE6, 0x42, 0x68, 0x41, 0x99, 0x2D, 0x0F, 0xB0, 0x54, 0xBB, 0x16]

/-- A byte substituted. -/
def sbox (x : Nat) : Nat := sboxTable.getD x 0

/-- Multiplication by x in the field of AES. -/
def xtime (x : Nat) : Nat := if x < 128 then 2 * x else (2 * x - 256) ^^^ 0x1B

/-- Exclusive-or of two strings, byte by byte. -/
def xorBytes (a b : List Nat) : List Nat := List.zipWith (· ^^^ ·) a b

/-- The next word of the key schedule from the word before and the one four before. -/
def scheduleWord (i rcon : Nat) (prev four : List Nat) : List Nat :=
  if i % 4 = 0 then
    let r := (prev.drop 1 ++ prev.take 1).map sbox
    xorBytes four (xorBytes r [rcon, 0, 0, 0])
  else xorBytes four prev

/-- The key schedule: `fuel` more words after those in `w`, which holds the last four, newest first. -/
def schedule : Nat → Nat → Nat → List (List Nat) → List (List Nat)
  | 0, _, _, w => w
  | fuel + 1, i, rcon, w =>
    let next := scheduleWord i rcon (w.getD 0 []) (w.getD 3 [])
    schedule fuel (i + 1) (if i % 4 = 0 then xtime rcon else rcon) (next :: w)

/-- The four words of a string of 16 bytes. -/
def words4 (k : List Nat) : List (List Nat) := [k.take 4, (k.drop 4).take 4, (k.drop 8).take 4, (k.drop 12).take 4]

/-- The eleven round keys, first to last. -/
def roundKeys (key : List Nat) : List (List Nat) :=
  let w := (schedule 40 4 1 (words4 key).reverse).reverse
  (List.range 11).map fun r => ((w.drop (4 * r)).take 4).flatten

/-- ShiftRows on a block in column order. -/
def shiftRows (b : List Nat) : List Nat := (List.range 16).map fun i => b.getD ((i + 4 * (i % 4)) % 16) 0

/-- MixColumns on one column. -/
def mixColumn (c : List Nat) : List Nat :=
  let a := c.getD 0 0
  let b := c.getD 1 0
  let d := c.getD 2 0
  let e := c.getD 3 0
  let t := a ^^^ b ^^^ d ^^^ e
  [a ^^^ t ^^^ xtime (a ^^^ b), b ^^^ t ^^^ xtime (b ^^^ d), d ^^^ t ^^^ xtime (d ^^^ e), e ^^^ t ^^^ xtime (e ^^^ a)]

/-- MixColumns. -/
def mixColumns (b : List Nat) : List Nat := ((words4 b).map mixColumn).flatten

/-- The middle rounds and the last. -/
def rounds : List (List Nat) → List Nat → List Nat
  | [], b => b
  | [k], b => xorBytes (shiftRows (b.map sbox)) k
  | k :: ks, b => rounds ks (xorBytes (mixColumns (shiftRows (b.map sbox))) k)

/-- AES-128 of one block of 16 bytes. -/
def aes (key block : Bytes) : Bytes :=
  let ks := roundKeys (key.map BitVec.toNat)
  (rounds (ks.drop 1) (xorBytes (block.map BitVec.toNat) (ks.headD []))).map (BitVec.ofNat 8)

/-- A string padded with zeros to a whole number of blocks. -/
def padBlock (b : Bytes) : Bytes := b ++ List.replicate ((16 - b.length % 16) % 16) 0

/-- The blocks of a padded string. -/
def blocksOf : Nat → Bytes → List Bytes
  | 0, _ => []
  | n + 1, b => b.take 16 :: blocksOf n (b.drop 16)

/-- Exclusive-or of byte strings. -/
def xorOctets (a b : Bytes) : Bytes := List.zipWith (· ^^^ ·) a b

/-- The CBC-MAC of CCM: tag length `t`, nonce of 13 bytes, additional data, message. -/
def ccmMac (key : Bytes) (t : Nat) (nonce ad msg : Bytes) : Bytes :=
  let flags : Byte := BitVec.ofNat 8 (64 * b2n (!ad.isEmpty) + 8 * ((t - 2) / 2) + 1)
  let b0 := flags :: nonce ++ (leBytes 2 msg.length).reverse
  let a := if ad.isEmpty then [] else padBlock ((leBytes 2 ad.length).reverse ++ ad)
  let data := a ++ padBlock msg
  (blocksOf (data.length / 16) data).foldl (fun x b => aes key (xorOctets x b)) (aes key b0)

/-- Key-stream block i of CCM. -/
def ccmStream (key nonce : Bytes) (i : Nat) : Bytes := aes key (1 :: nonce ++ (leBytes 2 i).reverse)

/-- Encrypt or decrypt a message. -/
def ccmCrypt (key nonce msg : Bytes) : Bytes :=
  let n := (msg.length + 15) / 16
  xorOctets msg ((List.range n).map fun i => ccmStream key nonce (i + 1)).flatten

/-- The MIC. -/
def ccmTag (key : Bytes) (t : Nat) (nonce ad msg : Bytes) : Bytes :=
  (xorOctets (ccmMac key t nonce ad msg) (ccmStream key nonce 0)).take t

end Sys2Proof.Machine
end

