-- ==== Sys2Proof/Machine/Radio.lean ====
section
/-! DEFINITION. Channels, synthesizer, levels and durations (file 08, §10.3, §10.7), the accountant (§11.3), detections
and receptions (file 09), and the radio sequencer's moves between its states (file 11).
What the manual leaves open here and how the model reads it, with its mark: log entries 64, 65 and 68 to 73. -/

namespace Sys2Proof.Machine

-- Channels (R196 to R201)

/-- The bands of Table 8.1: lowest centre, highest centre, output divider. -/
def bands : List (Nat × Nat × Nat) :=
  [(169400000, 169812500, 16), (433050000, 434790000, 8), (863000000, 870000000, 4), (902000000, 928000000, 4),
   (915900000, 929700000, 4)]

/-- REGION in force, 0 while unwritten. -/
def regionCode (s : State) : Nat := (s.id.region.getD 0).toNat

/-- The bands that REGION allows (Table 8.2). -/
def allowedBands (s : State) : List (Nat × Nat × Nat) :=
  match regionCode s with
  | 1 => bands.take 3
  | 2 => (bands.drop 3).take 1
  | 3 => bands.drop 4
  | _ => bands

/-- A channel centre that CHAN_A_HZ or CHAN_B_HZ may take. -/
def centreOk (s : State) (f : Nat) : Bool := (allowedBands s).any fun b => decide (b.1 ≤ f) && decide (f ≤ b.2.1)

/-- The chip rate in chip/s, and the chip period in µs (R220). -/
def chipRateHz (code : Nat) : Nat := 12500 * 2 ^ code
def chipUs (code : Nat) : Nat := 80 / 2 ^ code

/-- The whole channel lies inside one allowed band (R198). -/
def channelOk (s : State) (f : Nat) (mosaic : Bool) : Bool :=
  let b := if mosaic then 100000 else chipRateHz (phyNat s K.chipRate) * 135 / 100
  (allowedBands s).any fun x => decide (2 * x.1 + b ≤ 2 * f) && decide (2 * f + b ≤ 2 * x.2.1)

/-- CHAN_A_HZ, or CHAN_B_HZ. -/
def chanHz (s : State) (b : Bool) : Nat := phyNat s (if b then K.chanBHz else K.chanAHz)

/-- The divider that places the VCO of an LO frequency (R196), and its code in SYNTH.STATUS. -/
def dividerOf (lo : Nat) : Nat := if lo < 300000000 then 16 else if lo < 600000000 then 8 else 4
def dividerCode (lo : Nat) : Nat := if lo < 300000000 then 3 else if lo < 600000000 then 2 else 0

/-- The band of Table 8.1 that an LO frequency serves under the REGION in force (R196, R203). -/
def bandIndex (s : State) (lo : Nat) : Nat :=
  if lo < 300000000 then 0 else if lo < 600000000 then 1 else if lo < 886000000 then 2
  else if regionCode s = 2 then 3 else if regionCode s = 3 then 4
  else if lo < 915600000 then 3 else 4

/-- A receive path can be used: it has not failed, and the board connects its port (R209, R213). -/
def pathUsable (s : State) : Path → Bool
  | .a => bit s.rx.pathsOk.toNat 0
  | .b => bit s.rx.pathsOk.toNat 1 && liveBool s K.antBFitted

/-- RX_MODE_EFF (R209, R213): 0 while ANT_B_FITTED is 0; single on the remaining path when one has failed. -/
def modeEff (s : State) : Nat :=
  let m := phyNat s K.rxMode
  if !liveBool s K.antBFitted then 0
  else
    match pathUsable s .a, pathUsable s .b with
    | true, true => m
    | true, false => 0
    | false, true => 1
    | false, false => if m = 1 then 1 else 0

/-- The paths that receive a channel (Table 8.5); a failed one is not used, nor the second channel while HOT has ended its
reception (R67). -/
def pathsOf (s : State) : Path → List Path
  | .a => (if modeEff s = 1 then [Path.b] else if modeEff s = 2 then [Path.a, Path.b] else [Path.a]).filter (pathUsable s)
  | .b => if modeEff s = 3 ∧ !s.rx.second then [.b] else []

/-- The receive mode is one that the role and the board allow, with its channels in range (R209). -/
def modeLegal (s : State) : Bool :=
  let m := phyNat s K.rxMode
  let a := chanHz s false
  let b := chanHz s true
  let d := if a ≤ b then b - a else a - b
  (m != 3 || (s.sys.role == .coordinator && decide (500000 ≤ d) && decide (d ≤ 1600000))) &&
    (liveBool s K.antBFitted || (m != 1 && m != 3))

/-- The receive mode may be used for reception: some path is left to receive (R209, R213). -/
def modeOk (s : State) : Bool := modeLegal s && !(pathsOf s .a ++ pathsOf s .b).isEmpty

/-- The LO of reception, and of transmission on f (R201). -/
def rxLo (s : State) : Nat :=
  if modeEff s = 3 then (chanHz s false + chanHz s true) / 2 else chanHz s false - 250000

/-- The LO of reception on the channel of a job, while the device listens or waits for an ACK there (R201, R277, R286).
-/
def listenLo (s : State) (j : TxJob) : Nat := if modeEff s = 3 then rxLo s else j.freq - 250000

/-- The channel of Table 8.5 on which a job is heard: the second one in dual-channel receive alone. -/
def jobChan (s : State) (j : TxJob) : Path := if modeEff s = 3 ∧ j.chanB = true then .b else .a

/-- The radio receives: RX, CCA or ACK_WAIT. -/
def receiving (s : State) : Bool := s.radio.state == .rx || s.radio.state == .cca || s.radio.state == .ackWait

/-- The channels that change to Mosaic reception for a frame on a channel: that one in dual-channel, the one channel
there is in the other modes. -/
def mosaicMask (s : State) (b : Bool) : BitVec 2 := if modeEff s = 3 ∧ b = true then 2 else 1

/-- A path receives in Mosaic mode (R263): the path of that channel in dual-channel, every path in use otherwise. -/
def pathMosaic (s : State) (b : Bool) : Bool := bit s.rx.mosaic.toNat (if modeEff s = 3 then b2n b else 0)

/-- Bits of LANES_ACTIVE (R231). -/
def lanesActive (s : State) : Nat :=
  let used := pathsOf s .a ++ pathsOf s .b
  (List.range 32).foldl (fun m n =>
    let p := bit (phyNat s (K.laneMap + n)) 12
    m + b2n (blockOn s 36 && laneEn s n && nth 255 s.scarab.lanePhys n != 255 &&
      used.contains (if p then .b else .a) && !pathMosaic s p) * 2 ^ n) 0

/-- How many bits of a number of at most 32 bits are set. -/
def popCount (x : Nat) : Nat := ((List.range 32).filter (bit x)).length

-- Blocks that a radio command needs (R84)

/-- The blocks that every frame needs are enabled, with those of Table 1.1 that they depend on: MAC and its SEC, SYNTH,
CODEC, and for MODEM both receive paths, TX and SCARAB (R84, log entry 112). -/
def frameBlocks (s : State) : Bool :=
  [1, 7, 32, 33, 34, 35, 36, 39].all (blockOpen s)

/-- The blocks that reception needs, with the modem of spread mode (R84). -/
def rxBlocks (s : State) : Bool := frameBlocks s && blockOpen s 37

/-- The blocks that a transmission needs, with its modem (R84). -/
def txBlocks (s : State) (mosaic : Bool) : Bool := frameBlocks s && blockOpen s (if mosaic then 38 else 37)

-- Levels (R204, R205)

/-- The code of the effective level of the next frame, and after a failed antenna test. -/
def effectiveLevel (s : State) : Nat :=
  let p := liveNat s K.txPower
  let th := if 2 ≤ s.sup.therm.val then min (p - 6) 48 else if s.sup.therm = 1 then p - 6 else p
  min (min p (liveNat s K.txLimit)) th

/-- VPA in mV (Table 8.4). -/
def vpaOf (code : Nat) : Nat := if code ≤ 40 then 1800 else if code ≤ 48 then 2200 else if code ≤ 54 then 2700 else 3300

-- Durations (R225, R249, R253, R259, R289)

/-- A symbol in µs. -/
def symbolUs (s : State) (sf : Nat) : Nat := chipsOf sf * chipUs (phyNat s K.chipRate)

/-- T of a spread-mode frame, in µs. -/
def spreadUs (s : State) (sf len : Nat) : Nat :=
  (phyNat s K.preambleSym + syncSymbols sf + headerSymbols sf + codedBits len / bitsPer sf) * symbolUs s sf

/-- T of a Mosaic frame in units of 0.5 µs (R259). -/
def mosaicHalfUs (mcs len : Nat) : Nat :=
  5375 + 1125 * mosaicSymbols mcs len

/-- Tb of a wake block, in µs, and the number of blocks of a wake preamble. -/
def wakeBlockUs (s : State) : Nat :=
  let sf := liveNat s K.ffSf
  (4 + 16 / bitsPer sf) * symbolUs s sf
def wakeBlocks (s : State) : Nat :=
  let t := liveNat s K.ffTxInt * 1000 + liveNat s K.ffWin
  (t + wakeBlockUs s - 1) / wakeBlockUs s + 1

/-- LENGTH of a MAC frame as sent. -/
def MacFrame.size (f : MacFrame) : Nat :=
  5 + (if f.flood.isSome then 5 else 0) + (if f.aux.isSome then 5 else 0) + f.body.length

/-- The MIC length of a code (Table 19.1). -/
def micBytes (code : Nat) : Nat := if code = 1 then 4 else if code = 2 then 8 else 16

/-- TX_SLOT secures what the device originates. -/
def secures (s : State) : Bool := liveNat s K.txSlot != 0xFF

/-- LENGTH of the frame of a job: what security adds at the start is counted until it has been added. -/
def TxJob.length (s : State) (j : TxJob) : Nat :=
  if j.kind = .ack then 0
  else if j.kind = .copy ∨ j.frame.aux.isSome = true then j.frame.size
  else j.frame.size + (if secures s then 5 + micBytes (liveNat s K.txMic) else 0)

/-- The frame duration of a job in µs, rounded up (R253, R259), and its airtime, with its wake preamble and the ramps
(R281). -/
def TxJob.frameUs (s : State) (j : TxJob) : Nat :=
  if j.mosaic then (mosaicHalfUs j.mcs (j.length s) + 1) / 2 else spreadUs s j.sf (j.length s)
def TxJob.airtime (s : State) (j : TxJob) : Nat :=
  j.wake * wakeBlockUs s + j.frameUs s + 2 * 2 ^ (liveNat s K.txRamp + 1)

-- The accountant (R281, R282)

/-- Used time of a sub-band, in µs. -/
def usedUs (s : State) (i : Nat) : Nat := (nth [] s.radio.bins i).sum

/-- The sub-bands that count a transmission on f. -/
def subBands (s : State) (f : Nat) : List Nat :=
  (List.range 8).filter fun i => liveNat s (K.dutyBudget + i) != 0 &&
    decide (liveNat s (K.dutyLoHz + i) ≤ f) && decide (f ≤ liveNat s (K.dutyHiHz + i))

/-- The sub-band has room for a job: 95 % of the budget, or all of it for an ACK. -/
def budgetOk (s : State) (j : TxJob) (used i : Nat) : Bool :=
  let b := liveNat s (K.dutyBudget + i) * 1000
  if j.kind = .ack then decide (used + j.airtime s ≤ b) else decide (100 * (used + j.airtime s) ≤ 95 * b)

/-- Why the accountant refuses a job: a sub-band and reason 1, or reason 2 for the on-time. -/
def dutyRefusal (s : State) (j : TxJob) : Option (Option Nat × Nat) :=
  match (subBands s j.freq).find? fun i => !budgetOk s j (usedUs s i) i with
  | some i => some (some i, 1)
  | none =>
    let m := liveNat s K.txMaxOn
    if m ≠ 0 ∧ m * 1000 < j.frameUs s then some (none, 2) else none

/-- ms until the bins that leave the window let a job pass in sub-band i; none when they never do. -/
def dutyWait (s : State) (j : TxJob) (i : Nat) : Option Nat :=
  let l := nth [] s.radio.bins i
  let t := s.timer.time.toNat
  let opened := t / 10000000 * 10000000
  ((List.range l.length).reverse.find? fun k => budgetOk s j ((l.take k).sum) i).map fun k =>
    (opened + 3600000000 - k * 10000000 - t + 999) / 1000

/-- DUTY_BLOCK (R282). The time of a frame that can never pass, and the sub-band of an on-time refusal, are not
stated. -/
def postDutyBlock (j : TxJob) (why : Option Nat × Nat) (s : State) : State :=
  let s := { s with radio := { s.radio with dutyBlocks := inc s.radio.dutyBlocks } }
  match why with
  | (some i, r) =>
    match dutyWait s j i with
    | some ms => post evDutyBlock 0 (BitVec.ofNat 32 (i + 16 * r + 256 * (ms % 2 ^ 24))) s
    | none =>
      let x := freeBits 24 s
      post evDutyBlock 0 (BitVec.ofNat 32 (i + 16 * r + 256 * x.1)) x.2
  | (none, r) =>
    let x := freeBits 4 s
    post evDutyBlock 0 (BitVec.ofNat 32 (x.1 + 16 * r)) x.2

/-- Enter the airtime of a transmission that starts. -/
def enterAirtime (j : TxJob) (s : State) : State :=
  { s with radio := { s.radio with bins := (subBands s j.freq).foldl (fun bs i =>
      match nth [] bs i with
      | [] => setNth bs i [j.airtime s]
      | x :: xs => setNth bs i ((x + j.airtime s) :: xs)) s.radio.bins } }

/-- DUTY_BIN_ROLL. -/
def rollBins (s : State) : State :=
  { s with radio := { s.radio with bins := s.radio.bins.map fun l => if l = [] then [] else (0 :: l).take 360 } }

-- Clear-channel thresholds (R276)

/-- The floor of a path, −120 dBm while not valid, and its threshold. -/
def floorOf (s : State) (b : Bool) : Int :=
  if bit s.rx.nfValid.toNat (b2n b) then (if b then s.rx.nfB else s.rx.nfA).toInt else -240
def ccaThr (s : State) (b : Bool) : Int :=
  min (max (floorOf s b + liveNat s K.lbtMargin) (liveInt s 16 K.lbtThrMin)) (liveInt s 16 K.lbtThrMax)

-- Receptions and detections (R215, R216, R234 to R240)

def reception (s : State) : Path → Option Reception
  | .a => s.rx.recA
  | .b => s.rx.recB

def setReception (c : Path) (r : Option Reception) (s : State) : State :=
  match c with
  | .a => { s with rx := { s.rx with recA := r } }
  | .b => { s with rx := { s.rx with recB := r } }

/-- A frame is confirmed on some channel. -/
def confirmed (s : State) : Bool := s.rx.recA.isSome || s.rx.recB.isSome

/-- Pending detections of a channel. -/
def detsOn (s : State) (c : Path) : List Det := s.scarab.dets.filter fun d => d.seen.chan == c

/-- A detection of the channel is pending or confirmed. -/
def detected (s : State) (c : Path) : Bool := !(detsOn s c).isEmpty || (reception s c).isSome

/-- The channel on which a path receives. -/
def chanOfPath (s : State) (p : Path) : Path := if modeEff s = 3 then p else .a

/-- Freeze the gain of the paths of a channel; manual mode does nothing. The gain the loop has reached is measured by
nothing the block is told. -/
def freezeGain (c : Path) (s : State) : State :=
  if liveNat s K.agcMode = 1 then s
  else (pathsOf s c).foldl (fun t p =>
    let x := freeBits 16 t
    let g : Byte := BitVec.ofNat 8 (2 * (x.1 % 37))
    match p with
    | .a => if t.rx.gainA.isSome then t else { x.2 with rx := { t.rx with gainA := some g } }
    | .b => if t.rx.gainB.isSome then t else { x.2 with rx := { t.rx with gainB := some g } }) s

/-- Release the gain of every path whose channel no detection holds (R215). -/
def releaseGain (s : State) : State :=
  { s with rx := { s.rx with
    gainA := if detected s (chanOfPath s .a) then s.rx.gainA else none
    gainB := if detected s (chanOfPath s .b) then s.rx.gainB else none } }

/-- RSSI clipped to its range (R216). -/
def clipRssi (x : Int) : Half := BitVec.ofInt 16 (max (-300) (min 20 x))

/-- The argument of EARLY_SYNC (Table 9.5). -/
def detArg (e : Early) : Nat :=
  e.lane.val + 32 * e.sf.val + 256 * b2n e.pathA + 512 * b2n e.pathB + 1024 * e.bin.toNat

/-- The provisional RSSI of the paths of a cancelled detection (Table 8.7): the value of the newest detection that is
left on the path, or of the frame in reception there that the detection came before; with none left it is discarded, and
what it then reads no rule states. -/
def discardProv (d : Det) (s : State) : State :=
  let e := d.seen
  let left := fun (f : Early → Bool) => (s.scarab.dets.filter fun d => f d.seen).getLast?.map fun d => d.seen
  let held := fun (f : Early → Bool) => !d.late && (s.rx.recA.any (fun r => f r.seen) || s.rx.recB.any (fun r => f r.seen))
  let s := if !e.pathA then s else
    match left fun d => d.pathA with
    | some d => { s with rx := { s.rx with provA := clipRssi d.rssiA } }
    | none =>
      if held fun d => d.pathA then s
      else
        let x := freeBits 16 s
        { x.2 with rx := { x.2.rx with provA := BitVec.ofNat 16 x.1 } }
  if !e.pathB then s else
    match left fun d => d.pathB with
    | some d => { s with rx := { s.rx with provB := clipRssi d.rssiB } }
    | none =>
      if held fun d => d.pathB then s
      else
        let x := freeBits 16 s
        { x.2 with rx := { x.2.rx with provB := BitVec.ofNat 16 x.1 } }

/-- Cancel a pending detection with a reason of Table 9.6 (R238). -/
def cancelDet (reason : Nat) (d : Det) (s : State) : State :=
  let s := { s with scarab := { s.scarab with
    dets := s.scarab.dets.filter fun x => x.tag != d.tag
    cancelCount := inc s.scarab.cancelCount } }
  releaseGain (discardProv d (post evSyncCancel d.tag (BitVec.ofNat 32 (detArg d.seen + 65536 * reason)) s))

/-- Cancel every pending detection that satisfies a test. -/
def cancelDets (reason : Nat) (p : Det → Bool) (s : State) : State :=
  (s.scarab.dets.filter p).foldl (fun t d => cancelDet reason d t) s

/-- Cancel the detection with a tag, for the end of its window. -/
def cancelTag (reason : Nat) (tag : Half) (s : State) : State :=
  match s.scarab.dets.find? fun d => d.tag == tag with
  | some d => cancelDet reason d s
  | none => s

/-- The next tag: 0x0000 is skipped. -/
def nextTag (t : Half) : Half := if t = 0xFFFF then 1 else t + 1

/-- Raise a detection as a new one (R236). -/
def raiseDet (e : Early) (s : State) : State :=
  let tag := s.scarab.nextTag
  let s := freezeGain e.chan { s with
    scarab := { s.scarab with
      nextTag := nextTag tag
      lastTag := tag
      dets := s.scarab.dets ++ [⟨tag, e, (reception s e.chan).isSome⟩]
      earlyCount := inc s.scarab.earlyCount }
    rx := { s.rx with
      provA := if e.pathA then clipRssi e.rssiA else s.rx.provA
      provB := if e.pathB then clipRssi e.rssiB else s.rx.provB } }
  post evEarlySync tag (BitVec.ofNat 32 (detArg e)) s

/-- The two detections are one (R235). Chip timing is a plain number, not one modulo a symbol (DESIGN CHOICE, log entry
145). -/
def sameDet (x y : Early) : Bool :=
  x.chan == y.chan && x.sf == y.sf && decide (-2 ≤ x.timing - y.timing) && decide (x.timing - y.timing ≤ 2)

/-- Merge a detection into one that is pending: the higher q names it, with equal q the earlier one (R235; DESIGN CHOICE,
log entry 143). -/
def mergeDet (old new : Early) : Early :=
  { (if old.q < new.q then new else old) with
    pathA := old.pathA || new.pathA, pathB := old.pathB || new.pathB
    rssiA := if new.pathA then new.rssiA else old.rssiA
    rssiB := if new.pathB then new.rssiB else old.rssiB }

/-- The pending detection of lowest q of a channel; of several, the oldest (R235; DESIGN CHOICE, log entry 143). -/
def weakest : List Det → Option Det
  | [] => none
  | d :: ds =>
    match weakest ds with
    | none => some d
    | some e => if d.seen.q ≤ e.seen.q then some d else some e

/-- The symbols that raise an early sync (R234): EARLY_N in a row with q at `thr` or above, at one chip timing within
±1 chip, each after the first turned by at most an eighth of a turn from the one before. -/
def runOver (s : State) (thr timing : Int) (run : List SymbolQ) : Bool :=
  run.length == phyNat s K.earlyN &&
    run.all (fun x => decide (thr ≤ x.q) && decide (-1 ≤ x.timing - timing) && decide (x.timing - timing ≤ 1)) &&
    run.tail.all fun x => decide (-8192 ≤ x.turn) && decide (x.turn ≤ 8192)

/-- The run of a detection; its q is that of the last symbol (DESIGN CHOICE, log entry 127). -/
def runOk (s : State) (e : Early) : Bool :=
  (e.run.getLast?.any fun x => x.q == e.q) && runOver s (phyNat s K.earlyThr) e.timing e.run

/-- The detection is that of its lane: the lane is active, and its map names the factor, the bin and the path (R229,
R231). -/
def laneSees (s : State) (e : Early) : Bool :=
  let m := phyNat s (K.laneMap + e.lane.val)
  bit (lanesActive s) e.lane.val && field m 8 3 == e.sf.val && field m 0 4 == e.bin.toNat && bit m 12 == e.pathB &&
    bit m 12 != e.pathA && (e.chan == .b) == (decide (modeEff s = 3) && bit m 12)

/-- The detection is that of the Mosaic detector (R263): two windows in a row above MOSAIC_DET_THR, lane 0, bin 0 and
the paths in use. -/
def mosaicSees (s : State) (e : Early) : Bool :=
  let ps := pathsOf s e.chan
  pathMosaic s (e.chan == .b) && e.lane == 0 && e.bin == 0 && e.pathA == ps.contains .a && e.pathB == ps.contains .b &&
    e.corr.length == 2 && e.corr.all fun x => decide (phyNat s K.mosaicDetThr < x)

/-- A detection is possible: the channel is received, and its lane or the Mosaic modem works and has seen it. -/
def canDetect (s : State) (e : Early) : Bool :=
  receiving s && !(pathsOf s e.chan).isEmpty &&
  (if e.sf = 7 then blockOn s 38 && mosaicSees s e else blockOn s 37 && runOk s e && laneSees s e)

/-- A detection joins one that is pending on its channel, is raised, or displaces the weakest of four (R235, R236). A
merge renames a detection that EARLY_SYNC has reported, and RSSI_PROV follows it (DESIGN CHOICE, log entry 144). -/
def oneEarly (e : Early) (s : State) : State :=
  match s.scarab.dets.find? fun d => sameDet d.seen e with
  | some d =>
    { s with
      scarab := { s.scarab with
        dets := s.scarab.dets.map fun x => if x.tag = d.tag then { x with seen := mergeDet x.seen e } else x }
      rx := { s.rx with
        provA := if e.pathA then clipRssi e.rssiA else s.rx.provA
        provB := if e.pathB then clipRssi e.rssiB else s.rx.provB } }
  | none =>
    if (detsOn s e.chan).length < 4 then raiseDet e s
    else
      match weakest (detsOn s e.chan) with
      | some d => if d.seen.q < e.q then raiseDet e (cancelDet 4 d s) else s
      | none => s

/-- Merge a detection into those of the same cycle (R239). -/
def mergeAmong (e : Early) : List Early → List Early
  | [] => [e]
  | x :: l => if sameDet x e then mergeDet x e :: l else x :: mergeAmong e l

/-- Detections in rising order of logical lane. -/
def insertLane (e : Early) : List Early → List Early
  | [] => [e]
  | x :: l => if e.lane ≤ x.lane then e :: x :: l else x :: insertLane e l

/-- EARLY_SYNC: the detections of one DSPCLK cycle (R234 to R236, R239). Those that are one merge first; the others take
their tags in rising order of logical lane. -/
def earlySync (l : List Early) (s : State) : State :=
  (((l.filter (canDetect s)).foldl (fun a e => mergeAmong e a) []).foldr insertLane []).foldl (fun t e => oneEarly e t) s

-- Diversity (R210)

/-- The paths whose soft values count on a channel: both in diversity, save that a path whose latched RSSI is 20 dB or
more below the other's has weight zero. RSSI is in units of 0.5 dB. -/
def weighs (s : State) (c : Path) (f : Confirm) : Bool × Bool :=
  let ps := pathsOf s c
  let both := ps.contains .a && ps.contains .b
  let a := (clipRssi f.rssiA).toInt
  let b := (clipRssi f.rssiB).toInt
  (ps.contains .a && !(both && decide (a + 40 ≤ b)), ps.contains .b && !(both && decide (b + 40 ≤ a)))

/-- The combined soft values of a signal with `per` coded bits to a subcarrier (R210). -/
def combine (w : Bool × Bool) (per : Nat) (wa wb : List Nat) (a b : List Int) : List Int :=
  match w with
  | (true, true) => combined per wa wb a b
  | (true, false) => a
  | _ => b

-- Events of the sequencer (R285, R287)

/-- RX_DONE. -/
def postRxDone (tag : Half) (outcome type : Nat) (dr : Bool) (src : Half) (s : State) : State :=
  post evRxDone tag (BitVec.ofNat 32 (outcome + 16 * type + 256 * b2n dr + 65536 * src.toNat)) s

/-- ACK_SUPPRESSED. -/
def suppressAck (reason : Nat) (a : AckDue) (s : State) : State :=
  post evAckSuppressed 0 (BitVec.ofNat 32 (reason + 65536 * a.queue.toNat))
    { s with radio := { s.radio with ackSupp := inc s.radio.ackSupp } }

/-- An ACK that is not sent for a cause to which R285 gives no reason: the reason that is reported is free (log entry
128). -/
def suppressOther (a : AckDue) (s : State) : State :=
  let x := freeBits 8 s
  suppressAck x.1 a x.2

/-- RX_DONE of a frame that ends undecoded: its TYPE and SRC are not known, unless it is header-only. -/
def loseReception (outcome : Nat) (c : Path) (s : State) : State :=
  match reception s c with
  | none => s
  | some r =>
    let headerOnly := leNat (r.conf.header.take 1) == 0 && (r.seen.sf != 7 || leNat (r.conf.header.take 2) % 1024 == 0)
    let x := freeBits 4 s
    let y := freeBits 16 x.2
    let s' := if headerOnly then postRxDone r.tag outcome 0 false 0 s
      else postRxDone r.tag outcome x.1 false (BitVec.ofNat 16 y.1) y.2
    releaseGain (setReception c none s')

/-- Commits under way that are cut off: outcome 7. -/
def loseCommits (s : State) : State :=
  s.radio.commits.foldl (fun t c => postRxDone c.done.1 7 c.done.2.1 c.done.2.2.1 c.done.2.2.2 t)
    { s with radio := { s.radio with commits := [] } }

/-- Every frame in reception is discarded without commit; a frame received whole is committed all the same. -/
def loseReceptions (s : State) : State := loseReception 7 .b (loseReception 7 .a s)

/-- The frame, and the ACK, that SYNTH_UP leads to. -/
def upFrame (s : State) : Option TxJob :=
  match s.radio.state, s.radio.up with
  | .synthUp, .tx j => some j
  | _, _ => none
def upAck (s : State) : Option TxJob :=
  match s.radio.state, s.radio.up with
  | .synthUp, .ack j => some j
  | _, _ => none

/-- An ACK in hand as one that was due. -/
def ackInHand (j : TxJob) : AckDue := ⟨j, BitVec.ofNat 16 ((j.item.map fun x => x.1).getD 0), true, 0⟩

/-- The ACKs that are due or being sent are suppressed with reason 4. -/
def abandonAcks (s : State) : State :=
  let now := (upAck s).toList ++ (if s.radio.state == .ackTx then s.radio.tx.toList else [])
  (now.map ackInHand ++ s.radio.acks).foldl (fun t a => suppressAck 4 a t) { s with radio := { s.radio with acks := [] } }

-- Calibration of the VCO (R203)

/-- How far the die temperature has moved from `t`, in 0.1 °C. -/
def movedFrom (t : Half) (s : State) : Nat := (signed 16 t.toNat - signed 16 s.sup.temp.toNat).natAbs

/-- The setting of a VCO band is valid: the die has moved by 20 °C at most since its calibration. -/
def vcoValid (s : State) (band : Nat) : Bool :=
  match nth none s.radio.vcoAt band with
  | none => false
  | some t => decide (movedFrom t s ≤ 200)

/-- Calibrate a VCO band. -/
def calibrateVco (band : Nat) (setting : Byte) (s : State) : State :=
  { s with radio := { s.radio with
      vco := setNth s.radio.vco band setting, vcoAt := setNth s.radio.vcoAt band (some s.sup.temp) } }

/-- The calibration that a start or a retune in a band without a valid setting makes before it declares lock; nothing
the block is told measures the setting that it finds. -/
def calibrateOnLock (s : State) : State :=
  if vcoValid s (bandIndex s s.radio.lo) then s
  else
    let x := freeBits 8 s
    calibrateVco (bandIndex s s.radio.lo) (BitVec.ofNat 8 x.1) x.2

-- The end of a transmission

/-- ANT_FAULT of a frame with a bad verdict, once the frame has ended (R208). -/
def postAntFault (s : State) : State :=
  match s.radio.antPost with
  | none => s
  | some (c, rl) => post evAntFault 0 (BitVec.ofNat 32 (c.val + 256 * rl.toNat))
      { s with radio := { s.radio with antPost := none, antBad := false } }

/-- The PA is off: nothing is on the air, VPA is discharged (Table 3.2), and a bad verdict of the frame that has ended
is reported (R30, R208). -/
def paOff (s : State) : State :=
  postAntFault { s with radio := { s.radio with onAir := none, vpa := 0 } }

-- Moves of the sequencer (Table 11.1)

/-- The device permits the radio (state OFF of Table 11.1 otherwise): ready, not after an XO failure, not after a boot
that skipped phases 4 to 6 (R123), and with the synthesizer enabled. -/
def radioPermitted (s : State) : Bool :=
  s.sys.ready && s.sys.dev != .boot && s.sys.dev != .notReady && !s.clk.xoFailed && !s.sys.skipped && blockOn s 32

/-- The power state that the radio state calls for. -/
def powerOf : RadioState → PowerState
  | .rx | .ackWait => .rx
  | .tx | .ackTx => .tx
  | _ => .idle

/-- Enter a radio state; RX and TX power states follow it (Table 3.3). -/
def goto (r : RadioState) (s : State) : State :=
  { s with
    radio := { s.radio with state := r, lock := s.radio.lock && r != .idle && r != .off && r != .sleep }
    sup := { s.sup with power := if asleep s || s.sup.power == .off then s.sup.power else powerOf r } }

/-- Enter IDLE, or OFF while the radio is not permitted. Both paths go off: what is still pending ends, with reason 7 where
Table 9.6 gives none (R238; DESIGN CHOICE, log entry 146). -/
def gotoIdle (s : State) : State :=
  let s := cancelDets 7 (fun _ => true) s
  let s := { s with
    rx := { s.rx with mosaic := 0 }
    radio := { s.radio with rxOn := false, stopping := false, temp := false } }
  if radioPermitted s then goto .idle s else goto .off s

/-- Tune the synthesizer. -/
def tune (lo : Nat) (s : State) : State := { s with radio := { s.radio with lo := lo } }

/-- Both paths go off for a transmission (R212): frames in reception are lost. The detections that are pending end at its
first chip (R240, R279). RXB_PREEMPT counts a frame of channel B, or one that path B alone receives: not a diversity frame
that path A holds too, and no pending detection (R212; DESIGN CHOICE, log entry 141). -/
def stopReceiving (s : State) : State :=
  let b := s.rx.recB.isSome || s.rx.recA.any fun _ => modeEff s == 1
  let s := loseReception 7 .b (loseReception 7 .a s)
  if b then { s with rx := { s.rx with preempt := inc s.rx.preempt } } else s

/-- The channels of reception lie in allowed bands, each in the mode in which it is received (R198). -/
def rxChannelsOk (s : State) : Bool :=
  channelOk s (chanHz s false) (pathMosaic s false) &&
    (modeEff s != 3 || channelOk s (chanHz s true) (pathMosaic s true))

/-- SYNTH_UP towards a purpose. Both receive paths go off as the radio leaves RX for a transmission (Table 8.8). -/
def startUp (u : UpFor) (s : State) : State :=
  let s := match u with
    | .tx _ => stopReceiving s
    | .ack _ => stopReceiving s
    | _ => s
  let lo := match u with
    | .tx j => j.freq
    | .ack j => j.freq
    | .cca => (s.radio.cca.map fun a => listenLo s a.job).getD (rxLo s)
    | .rx => rxLo s
  let s := { s with radio := { s.radio with up := u, lock := false } }
  goto .synthUp (tune lo s)

/-- Reception may start: the blocks it needs, the receive mode and its channels (R84, R198, R209). -/
def rxReady (s : State) : Bool := rxBlocks s && modeOk s && rxChannelsOk s

/-- Receive: the synthesizer is back on the receive frequency, in a band whose setting is valid (R203), and the channel
and the receive mode are checked (R198, R209). -/
def resumeRx (s : State) : State :=
  if modeOk s && rxChannelsOk s then goto .rx (calibrateOnLock (tune (rxLo s) s)) else gotoIdle s

/-- HOT ends the second-channel reception at the end of the current frame while the floor is OP3 (R67). -/
def endSecond (s : State) : State :=
  if hot s && modeEff s == 3 && s.rx.mosaic != 0 && s.rx.recB.isNone && !s.rx.second then
    let s := cancelDets 7 (fun d => d.seen.chan == .b) s
    { s with rx := { s.rx with second := true } }
  else s

/-- Set the channels that receive in Mosaic mode. -/
def setMosaic (m : BitVec 2) (s : State) : State := endSecond { s with rx := { s.rx with mosaic := m } }

/-- Return to the receive state there was: RX when reception was on, in the mode that an exchange asked for, else IDLE. A
frame that has been confirmed is received to its end first, and the receiver stays on through a back-off (R278). -/
def goReturn (s : State) : State :=
  let mosaic := match s.net.exch with
    | some e => if e.sent && e.mosaic then mosaicMask s e.chanB else 0
    | none => 0
  let s := setMosaic mosaic { s with radio := { s.radio with tx := none, up := .rx } }
  if (s.radio.rxOn && !s.radio.stopping) || confirmed s || s.radio.cca.isSome then resumeRx s else gotoIdle s

/-- The frequency of reception has changed while the radio receives, or is about to: it retunes between frames (R189,
R201). Pending detections stay (R241). A receive mode or a channel that is not allowed ends reception (R198, R209). -/
def retuneRx (s : State) : State :=
  let listen := (s.radio.cca.map fun a => listenLo s a.job).getD (rxLo s)
  let toRx := s.radio.state == .rx || (s.radio.state == .synthUp && s.radio.up == .rx)
  let toCca := s.radio.state == .cca || (s.radio.state == .synthUp && s.radio.up == .cca)
  if toRx && !confirmed s then
    if !modeOk s || !rxChannelsOk s then gotoIdle s else if rxLo s != s.radio.lo then startUp .rx s else s
  else if toCca && listen != s.radio.lo then startUp .cca s
  else s

/-- A Firefly window closes: the radio returns to SLEEP. -/
def closeWindow (s : State) : State :=
  { s with
    clk := { s.clk with xoOk := false, lock := false }
    radio := { s.radio with state := .sleep, lock := false } }

/-- All radio activity ends at once, with the given reason for pending detections (R275, R50, R97, R100). -/
def halt (reason : Nat) (s : State) : State :=
  let s := cancelDets reason (fun _ => true) (loseReceptions (abandonAcks (paOff s)))
  let s := { s with
    radio := { s.radio with tx := none, cca := none, rxOn := false, temp := false, stopping := false, ffStay := false }
    net := { s.net with reply := none, exch := none } }
  if s.radio.state == .off || s.radio.state == .sleep then s
  else if s.radio.state == .sniff then closeWindow s
  else gotoIdle s

/-- The PA stops without TX_DONE (R62): a transmission and its attempt end, ACKs that were due are not sent; reception
goes on. -/
def stopPa (s : State) : State :=
  let s := abandonAcks (paOff s)
  let sending := s.radio.state == .tx || s.radio.state == .ackTx || (upFrame s).isSome || (upAck s).isSome
  let waiting := s.radio.cca.isSome
  let s := { s with
    radio := { s.radio with cca := none }
    net := { s.net with reply := none } }
  if sending || (waiting && s.radio.state == .cca) then goReturn s else s

/-- Whether the radio is at a frame boundary (R189). -/
def atBoundary (s : State) : Bool :=
  s.radio.state != .tx && s.radio.state != .ackWait && s.radio.state != .ackTx && !confirmed s

-- Lintel's floor and target (R53, Tables 3.8 and 3.10)

/-- The activity floor of the radio (Table 3.8): Mosaic in dual-channel receive, in either direction, needs OP3 (Table
3.9, R211). -/
def activityFloor (s : State) : Nat :=
  let up := s.radio.state == .synthUp || s.radio.state == .cca || s.radio.state == .rx || s.radio.state == .tx ||
    s.radio.state == .ackWait || s.radio.state == .ackTx
  if !up then 0
  else
    let base := if 16 < popCount (lanesActive s) ∨ 2 ≤ (pathsOf s .a ++ pathsOf s .b).length then 2 else 1
    let sends := (s.radio.tx.toList ++ (upFrame s).toList ++ (upAck s).toList).any fun j => j.mosaic
    if s.rx.mosaic = 0#2 ∧ sends = false then base else if (pathsOf s .b) ≠ [] then 3 else 2

/-- The cap: thermal, XO failure, BOD_WARN, and OP0 with the PLL stopped or DSPCLK stopped. -/
def opCap (s : State) : Nat :=
  if s.clk.stopped then 0 else if s.clk.xoFailed || s.sup.bodWarn then 1 else if hot s then 2 else 3

/-- Lintel's target point. -/
def opTarget (s : State) : Nat := min (opCap s) (max (liveNat s K.opReq) (activityFloor s))

-- Background calibration (R203, R453)

/-- VCO_CALIBRATION: in radio IDLE a band without a valid setting is calibrated in the background. The synthesizer does
not start without XO, nor while the PLL is referenced to HFRC (R81). -/
def vcoCalibration (band : Nat) (setting : Byte) (s : State) : State :=
  if !background s || s.radio.state != .idle || !s.clk.xoOk || s.clk.refHfrc || vcoValid s band then s
  else calibrateVco band setting s

/-- The number of a receive path, and the centre of the channel on which it receives. -/
def pathIndex : Path → Nat
  | .a => 0
  | .b => 1
def pathCentre (s : State) (p : Path) : Nat := chanHz s (decide (modeEff s = 3) && pathIndex p == 1)

/-- The IQ and image calibration of a path is due: the channel has changed, or the die has moved by 20 °C. -/
def iqDue (s : State) (p : Path) : Bool :=
  match nth none s.rx.iqAt (pathIndex p) with
  | none => true
  | some (hz, t) => hz != pathCentre s p || decide (200 ≤ movedFrom t s)

/-- IQ_IMAGE_CALIBRATION: in radio IDLE the calibration that is due runs. The values it finds are named by no entry and
no register. -/
def iqImageCalibration (p : Path) (s : State) : State :=
  if !background s || s.radio.state != .idle || !bit s.rx.pathsOk.toNat (pathIndex p) || !iqDue s p then s
  else { s with rx := { s.rx with iqAt := setNth s.rx.iqAt (pathIndex p) (some (pathCentre s p, s.sup.temp)) } }

end Sys2Proof.Machine
end

