-- ==== Sys2Proof/Machine/Mac.lean ====
section
/-! DEFINITION. MAC frames and frame security (files 12 and 19), what the device sends, channel access, and the start
and the end of a transmission (file 11).
What the manual leaves open here and how the model reads it, with its mark: log entries 68 to 71 and 79. -/

namespace Sys2Proof.Machine

-- Frame types (Table 12.2)

def tyBeacon : Nat := 1
def tyPoll   : Nat := 2
def tyData   : Nat := 3
def tyNull   : Nat := 4
def tyJoin   : Nat := 5
def tyFack   : Nat := 6

/-- The AR bit that Table 12.2 gives a frame. -/
def arOf (type : Nat) (flooded : Bool) : Bool := type == tyJoin || (type == tyData && !flooded)

/-- FCTL. -/
def MacFrame.fctl (f : MacFrame) : Nat :=
  f.type + 16 * b2n f.ar + 32 * b2n f.aux.isSome + 64 * b2n f.flood.isSome + 128 * b2n f.pend

/-- The PSDU of a frame (R294, R313, R469). -/
def MacFrame.bytes (f : MacFrame) : Bytes :=
  BitVec.ofNat 8 f.fctl :: leBytes 2 f.dst.toNat ++ leBytes 2 f.src.toNat ++
    (match f.flood with
     | some (o, q, ttl, hop) => leBytes 2 o.toNat ++ leBytes 2 q.toNat ++ [BitVec.ofNat 8 (ttl + 16 * hop)]
     | none => []) ++
    (match f.aux with
     | some (sctl, fcnt) => sctl :: leBytes 4 fcnt.toNat
     | none => []) ++ f.body

/-- A PSDU as a frame; none when it is too short for its headers. -/
def parseMac (p : Bytes) : Option MacFrame :=
  let c := leNat (p.take 1)
  let fl := bit c 6
  let sec := bit c 5
  let rest := p.drop 5
  let n := if fl then 5 else 0
  let m := if sec then 5 else 0
  if p.length < 5 + n + m then none
  else
    let fh := rest.take n
    let ah := (rest.drop n).take m
    some {
      type := c % 16
      ar := bit c 4
      pend := bit c 7
      dst := BitVec.ofNat 16 (leNat ((p.drop 1).take 2))
      src := BitVec.ofNat 16 (leNat ((p.drop 3).take 2))
      flood := if fl then some (BitVec.ofNat 16 (leNat (fh.take 2)), BitVec.ofNat 16 (leNat ((fh.drop 2).take 2)),
        leNat (fh.drop 4) % 16, leNat (fh.drop 4) / 16) else none
      aux := if sec then some (BitVec.ofNat 8 (leNat (ah.take 1)), BitVec.ofNat 32 (leNat (ah.drop 1))) else none
      body := rest.drop (n + m) }

/-- The originator of a frame (R470). -/
def MacFrame.origin (f : MacFrame) : Half :=
  match f.flood with
  | some (o, _) => o
  | none => f.src

-- Keys and counters (R471, R473, R477)

/-- The key of a slot, if it is written. -/
def keyOf (s : State) (n : Nat) : Option Bytes :=
  match onceValue s.mortar (K.key + n) with
  | some k => if k.length = 16 then some k else none
  | none => none

/-- KEY_USE of a slot. -/
def keyUse (s : State) (n : Nat) : Nat := leNat ((onceValue s.mortar (K.keyUse + n)).getD [])

/-- FP_WRITE_LOCK. -/
def fpLock (s : State) : Bool := leNat ((onceValue s.mortar K.fpWriteLock).getD []) == 1

/-- The slot secures and verifies frames. -/
def slotOk (s : State) (n : Nat) : Bool := (keyOf s n).isSome && bit (keyUse s n) 0

/-- The epoch and count of the next secured frame: the count restarts once the next epoch is sealed. -/
def nextCount (s : State) : BitVec 12 × Nat :=
  if 0xC0000 ≤ s.sec.count ∧ seqEpoch s.mortar ≠ s.sec.epoch then (seqEpoch s.mortar, 0) else (s.sec.epoch, s.sec.count)

/-- TX_FCNT. -/
def txFcnt (s : State) : Word := BitVec.ofNat 32 ((nextCount s).1.toNat * 2 ^ 20 + (nextCount s).2)

/-- Security stops what the device would originate (R471, R473). -/
def txBlocked (s : State) : Bool :=
  secures s && (!slotOk s (liveNat s K.txSlot) || decide (0xFFFFF < (nextCount s).2))

/-- The nonce, and the additional data of a frame with its auxiliary header (R470). -/
def nonceOf (f : MacFrame) (sctl : Byte) (fcnt : Word) : Bytes :=
  leBytes 2 f.origin.toNat ++ leBytes 4 fcnt.toNat ++ sctl :: List.replicate 6 0
def addData (f : MacFrame) (sctl : Byte) (fcnt : Word) (body : Bytes) : Bytes :=
  BitVec.ofNat 8 f.fctl :: leBytes 2 f.dst.toNat ++
    (match f.flood with
     | some (o, q, _) => leBytes 2 o.toNat ++ leBytes 2 q.toNat
     | none => []) ++ sctl :: leBytes 4 fcnt.toNat ++
    (if f.type = tyBeacon then (body.drop 6).take 6 ++ (body.drop 13).take 9 else [])

/-- Secure a frame with a slot's key. -/
def secureFrame (key : Bytes) (slot mic : Nat) (fcnt : Word) (f : MacFrame) : MacFrame :=
  let sctl : Byte := BitVec.ofNat 8 (slot + 8 * mic)
  let g := { f with aux := some (sctl, fcnt) }
  let n := nonceOf g sctl fcnt
  let msg := if f.type = tyBeacon then [] else f.body
  let tag := ccmTag key (micBytes mic) n (addData g sctl fcnt f.body) msg
  { g with body := (if f.type = tyBeacon then f.body else ccmCrypt key n msg) ++ tag }

/-- Open a secured frame: its body in clear, if the MIC verifies. -/
def openFrame (key : Bytes) (f : MacFrame) (sctl : Byte) (fcnt : Word) : Option MacFrame :=
  let t := micBytes (field sctl.toNat 3 2)
  if f.body.length < t then none
  else
    let ct := f.body.take (f.body.length - t)
    let n := nonceOf f sctl fcnt
    let body := if f.type = tyBeacon then ct else ccmCrypt key n ct
    let msg := if f.type = tyBeacon then [] else body
    if ccmTag key t n (addData f sctl fcnt body) msg = f.body.drop (f.body.length - t) then some { f with body := body }
    else none

/-- Count a secured transmission; at 0xC0000 the next epoch is staged as R358 stages it. -/
def countFcnt (s : State) : State :=
  let x := nextCount s
  let s := { s with sec := { s.sec with epoch := x.1, count := x.2 + 1 } }
  let r := epochRec (seqEpoch s.mortar + 1)
  if 0xC0000 ≤ s.sec.count ∧ s.sec.epoch = seqEpoch s.mortar ∧ (s.jrn.stage.all fun y => y.type != rtEpoch) ∧
      stageFits s.jrn [r] then
    { s with jrn := { s.jrn with stage := s.jrn.stage ++ [r] } }
  else s

/-- Judge a frame counter against RX_WIN0 (R474): accepted, with the window after it. -/
def windowJudge (sec : Security) (f : Word) : Bool × Security :=
  if !sec.valid then (true, { sec with high := f, map := 0, valid := true })
  else
    let d := (f - sec.high).toNat
    if 1 ≤ d ∧ d < 2 ^ 31 then
      let m := if d < 32 then sec.map <<< d ||| BitVec.ofNat 32 (2 ^ (d - 1))
        else if d = 32 then BitVec.ofNat 32 (2 ^ 31) else 0
      (true, { sec with map := m, high := f })
    else
      let b := (sec.high - f).toNat
      if b = 0 ∨ 32 < b ∨ bit sec.map.toNat (b - 1) then (false, sec)
      else (true, { sec with map := sec.map ||| BitVec.ofNat 32 (2 ^ (b - 1)) })

/-- Judge and record the counter of a frame that is not committed. -/
def replayJudge (origin : Half) (f : Word) (s : State) : Bool × State :=
  if s.sys.role = .coordinator then
    match tabGet none origin.toNat s.net.newest with
    | none => (true, { s with net := { s.net with newest := tabSet none origin.toNat (some f) s.net.newest } })
    | some v =>
      let d := (f - v).toNat
      if 1 ≤ d ∧ d < 2 ^ 31 then
        (true, { s with net := { s.net with newest := tabSet none origin.toNat (some f) s.net.newest } })
      else (false, s)
  else if origin = 0 then
    let x := windowJudge s.sec f
    (x.1, { s with sec := x.2 })
  else (true, s)

/-- The receive checks of Table 19.2: the frame in clear, or none once the first failure is counted. -/
def securityCheck (f : MacFrame) (s : State) : Option MacFrame × State :=
  let policy := (none, { s with sec := { s.sec with failPolicy := inc s.sec.failPolicy } })
  match f.aux with
  | none => if liveBool s K.rxRequire then policy else (some f, s)
  | some (sctl, fcnt) =>
    let slot := sctl.toNat % 8
    if !slotOk s slot || field sctl.toNat 3 2 == 0 || field sctl.toNat 5 3 != 0 then policy
    else
      match openFrame ((keyOf s slot).getD []) f sctl fcnt with
      | none => (none, { s with sec := { s.sec with failMic := inc s.sec.failMic } })
      | some g =>
        if f.type = tyData then (some g, s)
        else
          let x := replayJudge f.origin fcnt s
          if x.1 then (some g, x.2)
          else (none, { x.2 with sec := { x.2.sec with failReplay := inc x.2.sec.failReplay } })

-- What the device sends

/-- The node address (Table 12.3). -/
def myAddr (s : State) : Half :=
  if s.sys.role = .coordinator then 0 else BitVec.ofNat 16 (liveNat s K.addr)

/-- A job in spread mode at TX_SF on CHAN_A_HZ. -/
def plainJob (s : State) (kind : TxKind) (f : MacFrame) (cls : Option Nat) : TxJob :=
  { kind := kind, frame := f, mosaic := false, sf := phyNat s K.txSf, mcs := 0, chanB := false,
    freq := chanHz s false, wake := 0, item := none, hdata := 0, cls := cls }

/-- The largest LENGTH of a mode (R243). -/
def lengthLimit (mosaic : Bool) : Nat := if mosaic then 1023 else 255

/-- The job fits LENGTH. -/
def TxJob.fits (s : State) (j : TxJob) : Bool := decide (j.length s ≤ lengthLimit j.mosaic)

/-- The oldest host-pushed frame of a queue that the MAC sends; a LOCAL queue sends none (R297, R322). -/
def outHead (s : State) (q : Nat) : Option Frame := if isLocal s q then none else (getQueue s q).outCh.head?

/-- A DATA frame sent by command TX (R275): the head of a queue, to the coordinator. -/
def dataJob (s : State) (q : Nat) (f : Frame) : TxJob :=
  let body := (0 : Byte) :: leBytes 4 f.seq.toNat ++ f.payload
  { plainJob s .data ⟨tyData, true, decide (1 < (getQueue s q).outCh.length), 0, myAddr s, none, none, body⟩ none with
    item := some (q, f.seq) }

/-- POLL_ATTR of an address. -/
def pollAttrOf (s : State) (a : Half) : Byte := tabGet 0 a.toNat s.net.polls

/-- The RMODE that a POLL to an address carries (R304): a node replies in spread mode. -/
def pollMode (s : State) (a : Half) : Nat :=
  let m := field (pollAttrOf s a).toNat 4 3
  let node := (tabGet none a.toNat s.net.stations).any fun x => x.role == 1
  if m = 6 ∧ node then phyNat s K.txSf else m

/-- A POLL to an address (R302), with its dictionary request and its downlink frame where they fit. -/
def pollJob (s : State) (a : Half) : TxJob × Exchange :=
  let attr := (pollAttrOf s a).toNat
  let m := pollMode s a
  let fl := bit attr 2
  let flood := if fl then some ((0 : Half), s.swarm.fseq + 1, liveNat s K.swTtl, 0) else none
  let dq := match s.net.dreq with
    | some (b, pdu) => if b = a then some pdu else none
    | none => none
  let mk := fun (dq : Option Bytes) (dl : Option Frame) =>
    let flags := m + 8 * b2n (bit attr 3) + 16 * b2n dq.isSome + 32 * b2n (bit attr 1) + 64 * b2n dl.isSome
    let body := BitVec.ofNat 8 flags ::
      (match dq with
       | some p => BitVec.ofNat 8 p.length :: p
       | none => []) ++
      (match dl with
       | some f => leBytes 4 f.seq.toNat ++ f.payload
       | none => [])
    { plainJob s .poll ⟨tyPoll, false, false, a, 0, flood, none, body⟩ none with
      wake := if bit attr 1 then wakeBlocks s else 0
      item := dl.map fun f => (a.toNat, f.seq) }
  let dq := if (mk dq none).fits s then dq else none
  let dl := outHead s a.toNat
  let j := if (mk dq dl).fits s then mk dq dl else mk dq none
  let sf := if m ≤ 5 then m else phyNat s K.txSf
  (j, ⟨a, fl, decide (m = 6), bit attr 3, sf, j.item.map fun x => x.2, 1, false⟩)

/-- The BEACON of cycle k (R298); `opened` says that it may announce admission open. -/
def beaconJob (s : State) (k : Nat) (opened : Bool) : TxJob :=
  let body := leBytes 6 (ntime s).toNat ++ leBytes 4 k ++ leBytes 2 (liveNat s K.beaconPeriod) ++
    [0, BitVec.ofNat 8 (b2n opened)] ++ leBytes 2 (liveNat s K.jstart) ++
    [BitVec.ofNat 8 (liveNat s K.jslots), BitVec.ofNat 8 (liveNat s K.jlen)] ++ leBytes 4 0
  plainJob s .beacon ⟨tyBeacon, false, false, 0xFFFF, 0, some (0, BitVec.ofNat 16 k, liveNat s K.beaconTtl, 0), none,
    body⟩ (some 3)

/-- The JOIN (R309), whose listen must end within the join slot. -/
def joinJob (s : State) : TxJob :=
  let depth := match s.tb.ref with
    | some _ => s.tb.refDepth + 1
    | none => 0
  { plainJob s .join ⟨tyJoin, true, false, 0, myAddr s, none, none,
      leBytes 8 s.id.serial.toNat ++ [BitVec.ofNat 8 s.sys.role.code, BitVec.ofNat 8 depth]⟩ none with
    latest := s.net.slot.map fun x => x.2 }

/-- The FACK of a flooded DATA (R317), on the channel of the frame it answers (R211). -/
def fackJob (s : State) (orig : Half) (seq : Word) (ttl : Nat) (chanB : Bool) : TxJob :=
  { plainJob s .fack ⟨tyFack, false, false, orig, 0, some (0, s.swarm.fseq + 1, ttl, 0), none, leBytes 4 seq.toNat⟩ none with
    chanB := chanB, freq := chanHz s chanB }

/-- The ACK of a frame (R283): header-only, on the frame's channel. -/
def ackJob (s : State) (r : Reception) : TxJob :=
  let mosaic := r.seen.sf == 7
  { kind := .ack, frame := ⟨0, false, false, 0, 0, none, none, []⟩, mosaic := mosaic, sf := liveNat s K.ackSf, mcs := 0,
    chanB := r.chanB, freq := chanHz s r.chanB, wake := 0, item := none
    hdata := BitVec.ofNat 8 (leNat ((r.conf.header.drop (if mosaic then 2 else 1)).take 1)), cls := some 0 }

-- Channel access (R277 to R282)

/-- The frame is exempt from listening. -/
def exempt (s : State) (j : TxJob) : Bool :=
  !liveBool s K.lbtEn || (match j.cls with
    | some b => b == 0 || bit (liveNat s K.lbtExempt) b
    | none => false)

/-- Draw the length of a listen (R277). -/
def drawListen (s : State) : Nat × State :=
  let x := draw (liveNat s K.lbtRand) s
  (liveNat s K.lbtListen + x.1 * 500, x.2)

/-- The device acknowledges frames from the air: RUN or MAINT, and no role about to end (R12, R171). -/
def acknowledges (s : State) : Bool := (s.sys.dev == .run || s.sys.dev == .maint) && !s.sys.rolePending

/-- The device state and the role let a job be sent (R12, R125, R171): in CONFIG the response to a dictionary request
alone, and no ACK or FACK once a role is about to end. -/
def permits (s : State) (j : TxJob) : Bool :=
  match s.sys.dev with
  | .run | .maint => !(s.sys.rolePending && (j.kind == .ack || j.kind == .fack))
  | .config => j.kind == .null && bit (leNat (j.frame.body.take 1)) 1
  | _ => false

/-- What is checked before every transmission: the device state, its blocks, the receive mode and its channel (R84, R171,
R198, R209). -/
def maySend (s : State) (j : TxJob) : Bool :=
  permits s j && txBlocks s j.mosaic && modeLegal s && channelOk s j.freq j.mosaic

/-- The radio can begin an attempt or an exempt transmission. -/
def canStart (s : State) (j : TxJob) : Bool :=
  (s.radio.state == .idle || (s.radio.state == .rx && !confirmed s)) && s.radio.cca.isNone && s.radio.acks.isEmpty &&
    radioPermitted s && !s.sup.bodWarn && decide (s.sup.therm.val < 3) && s.sup.sleepDue.isNone &&
    maySend s j && (j.kind == .copy || !txBlocked s)

/-- A listen of `us` µs that starts now ends in time: within the join slot of a JOIN (R309). -/
def listenFits (s : State) (j : TxJob) (us : Nat) : Bool := j.latest.all fun e => decide ((ntime s).toNat + us ≤ e)

/-- Begin channel access: the accountant, then a listen, or SYNTH_UP at once for an exempt frame. -/
def beginAccess (j : TxJob) (s : State) : State :=
  match dutyRefusal s j with
  | some why => postDutyBlock j why s
  | none =>
    if exempt s j then startUp (.tx j) s
    else
      let x := drawListen s
      if listenFits s j x.1 then
        startUp .cca { x.2 with radio := { x.2.radio with cca := some ⟨j, 0, true, false, x.1⟩ } }
      else x.2

/-- What the radio was about to send is not sent: an exchange that has not begun ends, a relay copy is discarded, an ACK is
suppressed (R278, R285, R315). -/
def dropAttempt (s : State) : State :=
  let jobs := (s.radio.cca.map fun a => a.job).toList ++ (upFrame s).toList
  let lost := jobs.any fun j => j.kind == .copy
  let s := match upAck s with
    | some j => suppressOther (ackInHand j) s
    | none => s
  { s with
    radio := { s.radio with cca := none, up := .rx }
    net := { s.net with exch := s.net.exch.filter fun e => e.sent }
    swarm := if lost then { s.swarm with drops := inc s.swarm.drops } else s.swarm }

/-- The attempt ends without a transmission. -/
def endAttempt (s : State) : State := goReturn (dropAttempt s)

/-- A listen turns busy (R278), with the RSSI that reached the threshold, or none for a detection. The busy listen
that spends LBT_TRIES posts once, with bit 8 set, and ends the attempt. -/
def busyListen (rssi : Option Int) (s : State) : State :=
  match s.radio.cca with
  | none => s
  | some a =>
    if !a.listen then s
    else
      let n := a.busy + 1
      let last := decide (liveNat s K.lbtTries ≤ n)
      let level : Half := match rssi with
        | some x => clipRssi x
        | none => 0x8000
      let s := { s with radio := { s.radio with
        ccaBusy := inc s.radio.ccaBusy
        ccaLast := if rssi.isSome then level else s.radio.ccaLast } }
      let s := post evCcaBusy 0 (BitVec.ofNat 32 (n % 256 + 256 * b2n last + 65536 * level.toNat)) s
      if last then (if s.radio.state == .cca then endAttempt s else { s with radio := { s.radio with cca := none } })
      else
        let x := draw (liveNat s K.lbtBoSlots - 1) s
        { x.2 with radio := { x.2.radio with
          cca := some { a with busy := n, listen := false, ready := false, us := (1 + x.1) * liveNat s K.lbtBoSlot } } }

/-- The paths that listen on the channel of a job (R277). -/
def listenPaths (s : State) (j : TxJob) : List Path :=
  if jobChan s j = .b then [.b] else pathsOf s .a

/-- CCA_BUSY: a sample of a path reaches its threshold, or a detection on the channel holds it (R277). -/
def ccaBusy (rssi : Option Int) (s : State) : State :=
  match s.radio.cca with
  | none => s
  | some a =>
    let busy := match rssi with
      | some x => (listenPaths s a.job).any fun p => decide (ccaThr s (p == .b) ≤ x)
      | none => detected s (jobChan s a.job)
    if busy && s.radio.state == .cca then busyListen rssi s else s

/-- A listen is busy as soon as a detection on its channel is pending or confirmed (R277). -/
def listenNow (s : State) : State := ccaBusy none s

/-- EARLY_SYNC, and what it does to a listen on the channel (R236, R277). -/
def earlyHeard (l : List Early) (s : State) : State := listenNow (earlySync l s)

/-- Begin the next listen of an attempt: from CCA at once, from RX or IDLE through SYNTH_UP (Table 11.1). -/
def nextListen (a : Attempt) (s : State) : State :=
  let x := drawListen s
  if !maySend s a.job || !listenFits s a.job x.1 then endAttempt x.2
  else
    let s := { x.2 with radio := { x.2.radio with cca := some { a with listen := true, ready := false, us := x.1 } } }
    if s.radio.state == .cca then listenNow s else startUp .cca s

/-- The next listen starts when the back-off, any frame and any ACK have ended (R291); until then the receiver stays on
(R278). -/
def resumeAttempt (s : State) : State :=
  match s.radio.cca with
  | none => s
  | some a =>
    if a.ready && (s.radio.state == .cca || s.radio.state == .rx || s.radio.state == .idle) && !confirmed s &&
        s.radio.acks.isEmpty && s.radio.commits.isEmpty then
      nextListen a s
    else s

/-- An exchange keeps a temporary reception on. -/
def exchanging (s : State) : Bool :=
  s.net.reply.isSome || (s.net.exch.any fun e => e.sent) || s.net.fackWait.isSome || s.radio.ffStay

/-- What the end of a frame, of an ACK or of an exchange lets the radio do: reception ends where STOP asked for it, or
where it was on for one exchange only; else an attempt that waited goes on. -/
def settle (s : State) : State :=
  if s.radio.state == .rx && !confirmed s && s.radio.acks.isEmpty && s.radio.commits.isEmpty && s.radio.cca.isNone &&
      (s.radio.stopping || !s.radio.rxOn || (s.radio.temp && !exchanging s)) then gotoIdle s
  else resumeAttempt s

/-- BACKOFF_END. -/
def backoffEnd (s : State) : State :=
  match s.radio.cca with
  | none => s
  | some a =>
    if a.listen then s
    else resumeAttempt { s with radio := { s.radio with cca := some { a with ready := true } } }

/-- LISTEN_END (R279): busy if a detection holds the channel, else the accountant again and SYNTH_UP. -/
def listenEnd (s : State) : State :=
  match s.radio.cca with
  | none => s
  | some a =>
    if !a.listen || s.radio.state != .cca then s
    else if detected s (jobChan s a.job) then busyListen none s
    else if !maySend s a.job then endAttempt s
    else
      match dutyRefusal s a.job with
      | some why => endAttempt (postDutyBlock a.job why s)
      | none => startUp (.tx a.job) { s with radio := { s.radio with cca := none } }

-- Transmission (R202 to R208, R240, R279, R286)

/-- NTIME at the first sync-word chip of a frame that starts now (Table 12.4). -/
def stampOf (s : State) (sf : Nat) : Nat :=
  (ntime s).toNat + 2 ^ (liveNat s K.txRamp + 1) + phyNat s K.preambleSym * symbolUs s sf

/-- A reply without the DLSEQ that acknowledges a downlink frame: a role that is about to end acknowledges nothing
(R12). -/
def unanswered (body : Bytes) : Bytes :=
  let f := leNat (body.take 1)
  if bit f 0 then BitVec.ofNat 8 (f - 1) :: body.drop 5 else body

/-- The frame as it leaves: a BEACON takes its STAMP and HASH, and announces admission open if it may and the state at
its start allows it (R128, R308); an originated frame takes its security. -/
def finalFrame (hash : Word) (j : TxJob) (s : State) : MacFrame × State :=
  let depth : Byte := BitVec.ofNat 8 (s.tb.refDepth + 1)
  let adm := bit (leNat ((j.frame.body.drop 13).take 1)) 0 && liveBool s K.admEn && s.sys.restore.isEmpty
  let f := if j.kind = .beacon then { j.frame with
      body := leBytes 6 (stampOf s j.sf) ++ (j.frame.body.drop 6).take 7 ++ [BitVec.ofNat 8 (b2n adm)] ++
        (j.frame.body.drop 14).take 4 ++ leBytes 4 hash.toNat }
    else if j.kind = .copy ∧ j.frame.type = tyBeacon then { j.frame with
      body := leBytes 6 (stampOf s j.sf) ++ (j.frame.body.drop 6).take 6 ++ [depth] ++ j.frame.body.drop 13 }
    else if s.sys.rolePending = true ∧ (j.kind = .data ∨ j.kind = .null) then
      { j.frame with body := unanswered j.frame.body }
    else j.frame
  if j.kind = .copy ∨ !secures s then (f, s)
  else
    let slot := liveNat s K.txSlot
    (secureFrame ((keyOf s slot).getD []) slot (liveNat s K.txMic) (txFcnt s) f, countFcnt s)

/-- The signal of a frame that starts now: its parameters as they stand (files 09 and 10, R289). -/
def signalOf (j : TxJob) (s : State) : OnAir := {
  mosaic := j.mosaic, sf := j.sf, mcs := j.mcs, netCode := phyNat s K.netCode, chipRate := phyNat s K.chipRate
  preamble := phyNat s K.preambleSym, syncWord := BitVec.ofNat 16 (phyNat s K.syncWord), wake := j.wake
  wakeSf := liveNat s K.ffSf, wakeWord := 0xA000 + (j.frame.dst &&& 0x0FFF), hdata := j.hdata
  psdu := if j.kind = .ack then [] else j.frame.bytes }

/-- Start of ramp-up of a frame or an ACK: every pending detection is cancelled with reason 5 (R240, R279). -/
def startPa (j : TxJob) (s : State) : State :=
  let s := cancelDets 5 (fun _ => true) s
  let code := effectiveLevel s
  enterAirtime j { s with radio := { s.radio with
    tx := some j, onAir := some (signalOf j s), effective := code, vpa := vpaOf code, antBad := false, lock := true } }

/-- POLL_HASH (R300). -/
def pollHash (s : State) : Word :=
  crc32 ((List.range 65536).map fun a => if a = 0 then 0 else tabGet 0 a s.net.polls)

/-- The admission window that a BEACON body announces, from its start to its end in NTIME (R308). -/
def announced (body : Bytes) : Option (Nat × Nat) :=
  let at_ := fun (i n : Nat) => leNat ((body.drop i).take n)
  let b := at_ 6 4 * at_ 10 2 * 1000 + at_ 14 2 * 1000
  if bit (at_ 13 1) 0 then some (b, b + at_ 16 1 * at_ 17 1 * 1000) else none

/-- What starting a frame records: the poll order moves on and a burst is taken (R301, R305), a window is announced
(R308), a response leaves with its reply (R307), a copy counts (R315), a flooded DATA waits for its FACK (R317). `f` is
the frame as it leaves. -/
def recordStart (j : TxJob) (f : MacFrame) (s : State) : State :=
  let n := s.net
  let poll := j.kind == .poll
  let replies := (j.kind == .data || j.kind == .null) && bit (leNat (j.frame.body.take 1)) 1
  let n := { n with
    exch := if poll then n.exch.map fun e => { e with sent := true } else n.exch
    again := if poll then none else n.again
    pollNext := if poll then (if j.frame.dst = 0xFFFF then 1 else j.frame.dst + 1) else n.pollNext
    held := if replies then none else n.held
    fackWait := if j.kind = .data && j.frame.flood.isSome then j.item else n.fackWait
    open_ := if j.kind = .beacon then announced f.body else n.open_ }
  let w := s.swarm
  { s with net := n, swarm := if j.kind = .copy then { w with relayed := inc w.relayed } else w }

/-- A frame other than an ACK starts: it takes the next MSEQ (R295). -/
def startFrame (j : TxJob) (s : State) : State :=
  let x := finalFrame (if j.kind = .beacon then pollHash s else 0) j s
  let s := recordStart j x.1 x.2
  let mseq := s.net.mseq + 1
  goto .tx (startPa { j with frame := x.1, hdata := mseq } { s with net := { s.net with mseq := mseq } })

/-- An ACK starts. -/
def startAck (j : TxJob) (s : State) : State := goto .ackTx (startPa j s)

/-- The radio leaves SYNTH_UP once lock is declared and Lintel's step is complete (R56, R203); while the root PLL is out
of lock DSPCLK is stopped, and the radio waits (R100). What it may no longer do then it does not do (R12, R84, R171,
R198). -/
def leaveSynthUp (s : State) : State :=
  if s.radio.state != .synthUp || !s.radio.lock || !s.clk.lock || decide (s.sup.op.val < opTarget s) then s
  else
    match s.radio.up with
    | .rx => if rxReady s then goto .rx { s with radio := { s.radio with rxOn := true } } else gotoIdle s
    | .cca => listenNow (goto .cca s)
    | .tx j => if maySend s j then startFrame j s else settle (endAttempt s)
    | .ack j => if maySend s j then startAck j s else settle (goReturn (suppressOther (ackInHand j) s))

/-- SYNTH_LOCK. -/
def synthLock (s : State) : State :=
  if s.radio.state != .synthUp then s
  else
    let s := calibrateOnLock s
    leaveSynthUp { s with radio := { s.radio with lock := true } }

/-- Start continuous reception. -/
def startRx (s : State) : State := startUp .rx s

/-- ACK_WAIT: the receiver is on the transmit channel, in the mode of the frame (R201, R286). The channel was checked as
that frame started, and no setting changes before ACK_WAIT ends (R189). -/
def awaitAck (j : TxJob) (s : State) : State :=
  let s := if j.mosaic then setMosaic (mosaicMask s j.chanB) s else s
  goto .ackWait (calibrateOnLock (tune (listenLo s j) s))

/-- SYNTH_UNLOCK (R202): the frame is abandoned or discarded, and the synthesizer retunes. -/
def synthUnlock (s : State) : State :=
  if !s.radio.lock then s
  else
    let on := s.radio.rxOn
    let s := halt 7 { s with radio := { s.radio with unlocks := inc s.radio.unlocks } }
    if on && radioPermitted s && rxReady s then startRx { s with radio := { s.radio with rxOn := true } } else s

/-- TX_DONE of a frame that comes from no queue. -/
def postTxDonePlain (j : TxJob) (s : State) : State :=
  post evTxDone 0xFFFF (BitVec.ofNat 32 (j.frame.type + 256 * j.hdata.toNat)) s

/-- The radio stays on for an answer: the reply to a POLL, or the FACK of a flooded DATA. -/
def awaitReply (s : State) : State :=
  { s with radio := { s.radio with rxOn := true, temp := s.radio.temp || !s.radio.rxOn } }

/-- TX_END (R286). -/
def txEnd (s : State) : State :=
  match s.radio.tx with
  | none => s
  | some j =>
    let s := { s with radio := { s.radio with endedAt := s.timer.time.toNat } }
    if s.radio.state == .ackTx then
      settle (goReturn (paOff { s with radio := { s.radio with ackSent := inc s.radio.ackSent } }))
    else if s.radio.state != .tx then s
    else
      let s := paOff s
      if j.frame.ar then awaitAck j s
      else if j.kind = .data then goReturn (awaitReply s)
      else if j.kind = .poll then goReturn (awaitReply (postTxDonePlain j s))
      else settle (goReturn (postTxDonePlain j s))

/-- ANT_VERDICT (R207, R208): return loss in 0.25 dB units, reflection phase in degrees. -/
def antVerdict (rl : Byte) (phase : Int) (s : State) : State :=
  if s.radio.state != .tx && s.radio.state != .ackTx then s
  else
    let p := phase % 360
    let cls : Fin 4 := if 12 ≤ rl.toNat then 0 else if p ≤ 60 ∨ 300 ≤ p then 1
      else if 120 ≤ p ∧ p ≤ 240 then 2 else 3
    let was := !s.radio.untested && s.radio.antClass != 0
    let s := { s with radio := { s.radio with antClass := cls, antLoss := rl, untested := false } }
    if cls = 0 then
      if was then post evAntFault 0 (BitVec.ofNat 32 (256 * rl.toNat)) s else s
    else { s with radio := { s.radio with
      antBad := true, effective := 0, antFaults := inc s.radio.antFaults, antPost := some (cls, rl) } }

-- ACKs (R283 to R286, R291, R219)

/-- ACK_TX: the ACK due first is sent, or suppressed. -/
def ackTx (s : State) : State :=
  match s.radio.acks with
  | [] => s
  | a :: rest =>
    let s := { s with radio := { s.radio with acks := rest } }
    if !a.armed then settle (suppressAck 2 a s)
    else if !acknowledges s then settle (suppressOther a s)
    else if s.radio.state == .ackTx || (upAck s).isSome then
      suppressAck 3 a { s with rx := { s.rx with dualAckDrop := inc s.rx.dualAckDrop } }
    else if s.radio.state == .tx || s.radio.state == .synthUp || s.radio.state == .ackWait then suppressOther a s
    else if (dutyRefusal s a.job).isSome then settle (suppressAck 1 a s)
    else if !receiving s || !maySend s a.job then settle (suppressOther a s)
    else
      let s := if s.radio.cca.any (fun x => x.listen) then busyListen none s else s
      startUp (.ack { a.job with item := some (a.queue.toNat, 0) }) s

/-- Retire the frame of a job and post TX_DONE. -/
def retireItem (q : Nat) (seq : Word) (s : State) : State :=
  if (outHead s q).any fun f => f.seq == seq then post evTxDone (BitVec.ofNat 16 q) seq (retireHead q s) else s

/-- ACK_WAIT_EXPIRY. A JOIN is from no queue: its tag is 0xFFFF and its argument is not stated. -/
def ackWaitExpiry (s : State) : State :=
  if s.radio.state != .ackWait then s
  else
    let s := { s with radio := { s.radio with ackMiss := inc s.radio.ackMiss } }
    let s := match s.radio.tx with
      | some j => match j.item with
        | some (q, seq) => post evAckMiss (BitVec.ofNat 16 q) seq s
        | none =>
          let x := freeBits 32 s
          post evAckMiss 0xFFFF (BitVec.ofNat 32 x.1) x.2
      | none => s
    settle (goReturn s)

end Sys2Proof.Machine
end

