-- ==== Sys2Proof/Machine/TimeBase.lean ====
section
/-! DEFINITION. The network time base (§4.5) and the time reference (R311).
What the manual leaves open here and how the model reads it, with its mark: log entry 43. -/

namespace Sys2Proof.Machine

/-- The NCO word of a correction in ppb, to the nearest integer (R87, R89). -/
def fcwOf (ppb : Int) : Word := BitVec.ofInt 32 ((1073741824 * (1000000000 + ppb) + 5000000000) / 10000000000)

def tbFree : Fin 5 := 0
def tbAcquire : Fin 5 := 1
def tbDisciplined : Fin 5 := 2
def tbHoldover : Fin 5 := 3
def tbDegraded : Fin 5 := 4

/-- The word that the state calls for (Table 4.4); DEGRADED keeps its own. -/
def wordOf (s : State) : Word :=
  match s.tb.state with
  | 0 => fcwOf (liveInt s 32 K.tbTrim)
  | 1 => fcwOf 0
  | 2 => fcwOf (s.tb.freq + s.tb.slew)
  | 3 => fcwOf s.tb.freq
  | _ => s.tb.fcw

/-- Put the word of the state in force. -/
def refreshFcw (s : State) : State := { s with tb := { s.tb with fcw := wordOf s, load := none } }

/-- Enter a time-base state with P = 0. -/
def setTb (st : Fin 5) (s : State) : State := refreshFcw { s with tb := { s.tb with state := st, slew := 0 } }

/-- A node or relay leaves BOOT (Table 4.4). -/
def leaveBootTb (s : State) : State :=
  if s.tb.state = tbDegraded then s
  else if s.sys.role ≠ .coordinator ∧ liveNat s K.tbMode = 1 then setTb tbAcquire s
  else refreshFcw s

/-- The effect of a write of TB_MODE (R89); the live value is set already. -/
def tbModeEffect (s : State) : State :=
  if s.sys.role = .coordinator ∨ s.tb.state = tbDegraded then s
  else if liveNat s K.tbMode = 0 then (if s.tb.state = tbFree then s else setTb tbFree s)
  else if s.tb.state = tbFree then setTb tbAcquire s else s

/-- The receive-pipeline delay D in µs (R228). -/
def pipelineUs (s : State) (sf : Nat) : Nat :=
  (syncSymbols sf * chipsOf sf + 24) * chipUs (phyNat s K.chipRate) + 3

/-- The phase error in units of 1/64 µs (R91). -/
def phaseError (s : State) (stamp : Nat) (r : Reception) : Int :=
  let loc : Int := r.timeSync - 64 * (pipelineUs s r.seen.sf.val : Int) + 64 * s.timer.ntOffset.toNat
  let d := (64 * (stamp : Int) - loc) % 2 ^ 54
  if d < 2 ^ 53 then d else d - 2 ^ 54

/-- Rounded to the nearest integer, halves away from zero. -/
def roundAway (x : Int) (n : Nat) : Int := if 0 ≤ x then (2 * x + n) / (2 * n) else -((2 * (-x) + n) / (2 * n))

/-- The corrections of a valid reference frame (R91). Quotients in ppb and in ns are rounded down. -/
def applyReference (stamp : Nat) (r : Reception) (mPpb : Int) (s : State) : State :=
  let e := phaseError s stamp r
  let f := s.tb.freq + (mPpb - s.tb.freq) / 2 ^ liveNat s K.tbFavg
  let was := s.tb.state
  let step := was = tbAcquire ∨ (64 * liveNat s K.tbStepLim : Int) < (if 0 ≤ e then e else -e)
  let p : Int := if step then 0 else max (-50000) (min 50000 (e * 15625 / (liveNat s K.tbSlew : Int)))
  let tb := { s.tb with state := tbDisciplined, freq := f, slew := p, phaseNs := e * 125 / 8
                        lastRef := s.timer.time.toNat }
  let s := { s with tb := { tb with load := some (fcwOf (f + p)) } }
  let s := if step then stepNtime (roundAway e 64) s else s
  if was = tbHoldover then post evTbHoldover 0 (if step then 2 else 0) s else s

/-- The reference after a valid beacon copy (R311). -/
def judgeReference (src : Half) (depth : Nat) (snr : Int) (cycle : Word) (s : State) : State :=
  let name := fun (t : State) => { t with tb := { t.tb with ref := some src, refDepth := depth } }
  if s.tb.state = tbAcquire ∨ s.tb.state = tbHoldover then name s
  else if s.tb.state ≠ tbDisciplined then s
  else
    match s.tb.cand with
    | some (c, bound, best) =>
      if c = cycle then
        if depth < bound ∧ best < snr then
          name { s with tb := { s.tb with cand := some (cycle, bound, snr) } }
        else if s.tb.ref = some src then { s with tb := { s.tb with refDepth := depth } } else s
      else if depth < s.tb.refDepth ∧ s.tb.ref ≠ some src then
        name { s with tb := { s.tb with cand := some (cycle, s.tb.refDepth, snr) } }
      else if s.tb.ref = some src then { s with tb := { s.tb with refDepth := depth } } else s
    | none =>
      if depth < s.tb.refDepth ∧ s.tb.ref ≠ some src then
        name { s with tb := { s.tb with cand := some (cycle, s.tb.refDepth, snr) } }
      else if s.tb.ref = some src then { s with tb := { s.tb with refDepth := depth } } else s

/-- A beacon copy whose checks have passed, as a source of time (R90, R269, R311). -/
def timeFromBeacon (f : MacFrame) (r : Reception) (mPpb : Int) (s : State) : State :=
  if s.sys.role = .coordinator ∨ s.tb.state = tbFree ∨ s.tb.state = tbDegraded ∨ r.seen.sf = 7 then s
  else
    let depth := leNat ((f.body.drop 12).take 1)
    let cycle := BitVec.ofNat 32 (leNat ((f.body.drop 6).take 4))
    let s := judgeReference f.src depth r.conf.snr cycle s
    let s := { s with tb := { s.tb with period := leNat ((f.body.drop 10).take 2) } }
    if s.tb.ref = some f.src then applyReference (leNat (f.body.take 6)) r mPpb s else s

/-- TB_DEPTH (R311). -/
def tbDepth (s : State) : Nat :=
  if s.sys.role = .coordinator then 0
  else match s.tb.ref with
    | some _ => s.tb.refDepth + 1
    | none => 0

/-- FCW_LOAD. -/
def fcwLoad (s : State) : State :=
  match s.tb.load with
  | some w => { s with tb := { s.tb with fcw := w, load := none } }
  | none => s

/-- SLEW_END. -/
def slewEnd (s : State) : State :=
  if s.tb.state = tbDisciplined then refreshFcw { s with tb := { s.tb with slew := 0 } } else s

/-- No valid reference frame has arrived for TB_HOLD beacon periods (R93). The timeout is past its tick, so that a frame
of the tick itself is used first (R110). -/
def holdExpired (s : State) : Bool :=
  decide (s.tb.lastRef + liveNat s K.tbHold * s.tb.period * 1000 < s.timer.time.toNat)

/-- HOLDOVER_ENTRY (R93). -/
def holdoverEntry (s : State) : State :=
  if s.sys.role ≠ .coordinator ∧ s.tb.state = tbDisciplined ∧ holdExpired s = true then
    post evTbHoldover 0 1 (setTb tbHoldover s)
  else s

end Sys2Proof.Machine
end

