-- ==== Sys2Proof/Machine/Net.lean ====
section
/-! DEFINITION. Radio commands and their legality (R174, R274, R275), beacons, polls, joins and relay copies as the
sequencer of the MAC starts them (file 12).
What the manual leaves open here and how the model reads it, with its mark: log entries 5, 69 and 74 to 78. -/

namespace Sys2Proof.Machine

-- Radio commands (Table 11.2)

/-- The outcome of judging a command: legal, refused under the state rule (true where the radio state or the channel
caused it), or refused with 0x0402. -/
inductive Legal where
  | yes
  | state (radio : Bool)
  | busy
  deriving DecidableEq, Repr

/-- The device state permits a command (R274). -/
def devPermits (s : State) (code : Nat) : Bool :=
  match s.sys.dev with
  | .notReady => false
  | .boot => false
  | .quiet => code != 3
  | .config => code != 3
  | .safe => code == 15
  | _ => true

/-- Judge RADIO_CMD. An RX_MODE that is not permitted refuses the command, not the write of RX_MODE (R209; DESIGN CHOICE,
log entry 142). -/
def radioLegal (s : State) (code : Nat) : Legal :=
  let r := s.radio.state
  if !devPermits s code then .state false
  else if code = 15 then .yes
  else if code = 1 then
    if r == .cca || r == .rx then .yes
    else if r != .idle then .state true
    else if s.sup.bodWarn || !rxBlocks s || !modeOk s then .state false
    else if !rxChannelsOk s then .state true else .yes
  else if code = 2 then
    if r == .idle || r == .synthUp || r == .cca || r == .rx then .yes else .state true
  else
    if r != .idle && (r != .rx || confirmed s) then .state true
    else if s.sup.bodWarn || !txBlocks s false || !modeLegal s || (s.sys.role != .coordinator && myAddr s == 0) then .state false
    else if !channelOk s (chanHz s false) false then .state true
    else if (outHead s (liveNat s K.txQueue)).isNone then .busy else .yes

/-- STOP (R275). In RX a reception that a confirmed frame holds ends with that frame. Pending detections end with reason 6,
for which Table 9.6 does not name STOP (R238; DESIGN CHOICE, log entry 146). -/
def radioStop (s : State) : State :=
  if s.radio.state == .synthUp then gotoIdle (cancelDets 6 (fun _ => true) (dropAttempt s))
  else if s.radio.state == .cca then endAttempt s
  else if s.radio.state == .rx then
    if confirmed s then { s with radio := { s.radio with stopping := true } }
    else gotoIdle (cancelDets 6 (fun _ => true) (dropAttempt s))
  else s

-- Polls (R298, R301)

/-- The number of the cycle in progress. -/
def cycleNow (s : State) : Nat := (ntime s).toNat / (liveNat s K.beaconPeriod * 1000)

/-- NTIME lies inside the admission window that the last beacon announced (R308). -/
def inWindow (s : State) : Bool :=
  match s.net.open_ with
  | none => false
  | some (b, e) => decide (b ≤ (ntime s).toNat) && decide ((ntime s).toNat < e)

/-- The exchange allowance ends before the next S and does not overlap the open window. -/
def allowanceOk (s : State) : Bool :=
  let t := (ntime s).toNat
  let e := t + liveNat s K.pollXch * 1000
  decide (e < (cycleNow s + 1) * liveNat s K.beaconPeriod * 1000) &&
  match s.net.open_ with
  | none => true
  | some (b, e') => decide (e ≤ b) || decide (e' ≤ t)

/-- An exchange may start with a POLL (R301): every durable queue is restored, no exchange and no FACK is in hand, the
allowance holds, and the radio is free. -/
def mayPoll (s : State) (j : TxJob) : Bool :=
  s.sys.restore.isEmpty && s.net.exch.isNone && s.net.facks.isEmpty && allowanceOk s && canStart s j

/-- A POLL begins channel access; `n` counts the exchanges with its address in a row. -/
def startPoll (x : TxJob × Exchange) (n : Nat) (s : State) : State :=
  let t := beginAccess x.1 s
  if t.radio.state == .synthUp then
    { t with
      net := { t.net with exch := some { x.2 with burst := n } }
      swarm := { t.swarm with fseq := if x.1.frame.flood.isSome then s.swarm.fseq + 1 else s.swarm.fseq } }
  else t

/-- TX (R275, R297): a node or relay sends DATA to the coordinator, a coordinator a POLL with the frame as its downlink.
An exchange that may not start yet is the next one that does (R301, DESIGN CHOICE, log entry 129). -/
def radioTx (s : State) : State :=
  let q := liveNat s K.txQueue
  let s := macRead q s
  match outHead s q with
  | none => s
  | some f =>
    if s.sys.role = .coordinator then
      let a : Half := BitVec.ofNat 16 q
      let s := { s with net := { s.net with again := some (a, 0) } }
      let x := pollJob s a
      if mayPoll s x.1 then startPoll x 1 s else s
    else
      let j := dataJob s q f
      if j.fits s then (if canStart s j then beginAccess j s else s)
      else { s with qe := { s.qe with oversize := inc s.qe.oversize } }

/-- ABORT (R275); it has no effect in OFF, SLEEP and IDLE (Table 11.2). -/
def radioAbort (s : State) : State :=
  if s.radio.state == .off || s.radio.state == .sleep || s.radio.state == .idle then s else halt 6 s

/-- Execute a legal command. -/
def radioCommand (code : Nat) (s : State) : State :=
  if code = 1 then (if s.radio.state == .idle then startRx s else s)
  else if code = 2 then radioStop s
  else if code = 3 then radioTx s
  else radioAbort s

/-- The MAC starts reception by itself where the role and the device state have the receiver on (Table 1.2, R125). -/
def autoReceive (s : State) : State :=
  let wants := s.sys.dev == .quiet || ((s.sys.dev == .run || s.sys.dev == .maint) && s.sys.role != .node)
  if wants && s.radio.state == .idle && radioPermitted s && !s.sup.bodWarn && rxReady s && s.sup.therm != 3 then startRx s
  else s

/-- The blocks that the radio state in force needs still run (R84): those of the frame that SYNTH_UP leads to, or those of
reception. -/
def blocksServe (s : State) : Bool :=
  match upFrame s, upAck s with
  | some j, _ => txBlocks s j.mosaic
  | _, some j => txBlocks s j.mosaic
  | none, none => rxBlocks s

/-- The radio leaves OFF when it is permitted, and enters it when it no longer is (Table 11.1). A block gated between
frames ends what the radio does with it. -/
def judgeOff (s : State) : State :=
  let works := (s.radio.state == .synthUp || s.radio.state == .cca || s.radio.state == .rx) && !confirmed s
  if s.radio.state == .off && radioPermitted s then goto .idle s
  else if s.radio.state == .idle && !radioPermitted s then goto .off s
  else if works && (!radioPermitted s || !blocksServe s) then gotoIdle (dropAttempt s)
  else s

-- Beacons (R298)

/-- The device works in RUN or, as RUN, in MAINT. -/
def running (s : State) : Bool := s.sys.dev == .run || s.sys.dev == .maint

/-- BEACON_CYCLE: channel access for the BEACON of the cycle in progress, once an exchange that overruns its allowance has
ended (R320). The first one after RUN is entered is late and announces admission closed. -/
def beaconCycle (s : State) : State :=
  let k := cycleNow s
  let late := s.net.beaconOf.isNone
  let j := beaconJob s k (!late)
  if s.sys.role = .coordinator ∧ running s ∧ s.net.beaconOf ≠ some k ∧ !inWindow s ∧ s.net.exch = none ∧ canStart s j then
    beginAccess j { s with net := { s.net with beaconOf := some k } }
  else s

-- Polls (R301)

/-- The next enabled address from `a` on, wrapping from 0xFFFF to 0x0001. -/
def nextPoll (l : List (Nat × Byte)) (a : Nat) : Option Nat :=
  let on := l.filter fun x => bit x.2.toNat 0
  match on.find? fun x => decide (a ≤ x.1) with
  | some x => some x.1
  | none => on.head?.map fun x => x.1

/-- POLL_START: the next enabled address, or again the one whose reply set PEND (R305). A POLL that channel access refuses
is retried (R301). -/
def pollStart (s : State) : State :=
  let target := match s.net.again with
    | some (a, n) => some (a, n + 1)
    | none => (nextPoll s.net.polls s.net.pollNext.toNat).map fun a => (BitVec.ofNat 16 a, 1)
  match target with
  | none => s
  | some (a, n) =>
    let s := macRead a.toNat s
    let x := pollJob s a
    if s.sys.role = .coordinator ∧ running s ∧ mayPoll s x.1 then startPoll x n s else s

/-- The exchange ends; a reply with PEND asks for another (R305). -/
def endExchange (pend : Bool) (s : State) : State :=
  match s.net.exch with
  | none => s
  | some e =>
    let again := if pend && decide (e.burst < liveNat s K.pollBurst) then some (e.addr, e.burst) else none
    { s with net := { s.net with exch := none, again := again }, rx := { s.rx with mosaic := 0 } }

/-- The first chip or sample of a frame at the antenna port, in units of 1/64 µs of TIME. -/
def frameStart (s : State) (r : Reception) : Int :=
  let before := if r.seen.sf == 7 then 30 + 2125
    else pipelineUs s r.seen.sf.val + phyNat s K.preambleSym * symbolUs s r.seen.sf.val
  r.timeSync - 64 * before

/-- A frame starts `gap` µs after the end of the last symbol that the device sent, to within `win` µs. The last symbol
ends where the ramp-down begins. -/
def startsAt (s : State) (gap win : Nat) (r : Reception) : Bool :=
  let last : Int := (s.radio.endedAt : Int) - 2 ^ (liveNat s K.txRamp + 1)
  let d := frameStart s r - 64 * (last + gap)
  decide (-64 * (win : Int) ≤ d) && decide (d ≤ 64 * (win : Int))

/-- A frame in reception that can be the reply has started in its window (R305). -/
def replyBegun (s : State) : Bool :=
  s.net.exch.any fun e => (s.rx.recA.toList ++ s.rx.recB.toList).any fun r =>
    e.flooded || startsAt s 2400 (liveNat s K.rspWin) r

/-- POLL_MISS: no reply has started in time (R305). -/
def pollMiss (s : State) : State :=
  if (s.net.exch.any fun e => e.sent) && !replyBegun s then
    settle (endExchange false { s with net := { s.net with pollMiss := inc s.net.pollMiss } })
  else s

-- Joining (R309)

/-- Enter RUN. A change of the device state cancels the pending detections (Table 9.6). From MAINT, which works as RUN, the
cycle goes on (R298). -/
def enterRun (s : State) : State :=
  let on := s.sys.dev == .maint
  let s := cancelDets 6 (fun _ => true) s
  { s with
    sys := { s.sys with dev := .run }
    net := { s.net with
      beaconOf := if on then s.net.beaconOf else none
      open_ := if on then s.net.open_ else none } }

/-- QUIET_END (R126). -/
def quietEnd (s : State) : State := if s.sys.dev = .quiet then enterRun s else s

/-- JOIN_SLOT: it ends QUIET, and the JOIN begins channel access. -/
def joinSlot (s : State) : State :=
  match s.net.slot with
  | none => s
  | some _ =>
    if s.sys.role = .coordinator then s
    else
      let j := joinJob s
      let s := quietEnd { s with net := { s.net with slot := none } }
      if running s && !s.net.joined && myAddr s != 0 && canStart s j then beginAccess j s else s

-- Replies (R303, R304, R307, R316, R332)

/-- The body of a reply (Table 12.7). -/
def replyBody (dlAck : Option Word) (dr : Option Bytes) (item : Option Frame) : Bytes :=
  BitVec.ofNat 8 (b2n dlAck.isSome + 2 * b2n dr.isSome) ::
    (match dlAck with
     | some w => leBytes 4 w.toNat
     | none => []) ++
    (match dr with
     | some p => BitVec.ofNat 8 p.length :: p
     | none => []) ++
    (match item with
     | some f => leBytes 4 f.seq.toNat ++ f.payload
     | none => [])

/-- A reply with what it carries and PEND. -/
def replyJob (s : State) (r : Reply) (dr : Option Bytes) (item : Option Frame) (pend : Bool) : TxJob :=
  let fl := if r.flooded then some (myAddr s, s.swarm.fseq + 1, liveNat s K.swTtl, 0) else none
  let ty := if item.isSome then tyData else tyNull
  { kind := if item.isSome then .data else .null
    frame := ⟨ty, arOf ty r.flooded, pend, 0, myAddr s, fl, none, replyBody r.dlAck dr item⟩
    mosaic := r.mosaic, sf := r.sf, mcs := r.mcs, chanB := r.chanB, freq := chanHz s r.chanB, wake := 0
    item := item.map fun f => (0, f.seq), hdata := 0, cls := some 1 }

/-- The reply that the station builds, from its state at the end of the POLL, and whether its head frame does not fit at
all. In CONFIG it is a response alone. Of a downlink frame it says what is committed by now (R321), and nothing once a
role is about to end (R12). -/
def buildReply (s : State) (r : Reply) : TxJob × Bool :=
  let r := if s.sys.rolePending then { r with dlAck := none } else r
  match r.head with
  | none => (replyJob s r r.dr none false, false)
  | some f =>
    let alone := replyJob s { r with dlAck := none } none (some f) false
    if !alone.fits s then (replyJob s r r.dr none true, true)
    else
      let both := replyJob s r r.dr (some f) r.more
      if both.fits s then (both, false)
      else if r.dr.isSome then (replyJob s r r.dr none true, false)
      else
        let without := replyJob s r none (some f) r.more
        if without.fits s then (without, false) else (replyJob s r none none true, true)

/-- POLL_REPLY: at Tresp the station sends its reply, unless it cannot pass the accountant. The response that is held goes
with the reply as it starts. -/
def pollReply (s : State) : State :=
  match s.net.reply with
  | none => s
  | some r =>
    let x := buildReply s r
    let s := { s with net := { s.net with reply := none } }
    if !canStart s x.1 then s
    else
      let s := if x.2 then { s with qe := { s.qe with oversize := inc s.qe.oversize } } else s
      if (dutyRefusal s x.1).isSome then beginAccess x.1 s
      else beginAccess x.1 { s with swarm := { s.swarm with fseq := if r.flooded then s.swarm.fseq + 1 else s.swarm.fseq } }

-- Swarm (R313 to R319)

/-- Whether the frame has been seen. -/
def inSeen (s : State) (k : Half × Half) : Bool := s.swarm.seen.contains k

/-- Enter a frame into the seen cache of 1,024 entries; the oldest is evicted (R314). -/
def addSeen (k : Half × Half) (s : State) : State :=
  let l := if 1024 ≤ s.swarm.seen.length then s.swarm.seen.tail else s.swarm.seen
  { s with swarm := { s.swarm with seen := l ++ [k] } }

/-- A repeat counts for the copy of it that waits. -/
def countRepeat (o q : Half) (s : State) : State :=
  { s with swarm := { s.swarm with buffers := s.swarm.buffers.map fun b =>
      if b.orig = o ∧ b.fseq = q then { b with repeats := b.repeats + 1 } else b } }

/-- The body of a frame in clear; of a secured one that no key of the device opens, nothing is known. -/
def clearBody (s : State) (f : MacFrame) : Bytes :=
  match f.aux with
  | none => f.body
  | some (sctl, fcnt) =>
    match (keyOf s (sctl.toNat % 8)).bind fun k => openFrame k f sctl fcnt with
    | some g => g.body
    | none => []

/-- Hold a flooded frame in a relay buffer (R315). -/
def scheduleCopy (f : MacFrame) (r : Reception) (s : State) : State :=
  match f.flood with
  | none => s
  | some (o, q, ttl, hop) =>
    if s.sys.role ≠ .relay ∨ !liveBool s K.swEn ∨ !running s ∨ !blockOn s 2 ∨ ttl ≤ 1 ∨ f.dst = myAddr s then s
    else if f.type = tyBeacon ∧ s.tb.state ≠ tbDisciplined then s
    else if 32 ≤ s.swarm.buffers.length then { s with swarm := { s.swarm with drops := inc s.swarm.drops } }
    else
      let x := draw 7 s
      let g := { f with src := myAddr s, flood := some (o, q, ttl - 1, min 15 (hop + 1)) }
      let mosaic := r.seen.sf == 7
      let wk := f.type == tyPoll && bit (leNat ((clearBody s f).take 1)) 5
      let j : TxJob := { kind := .copy, frame := g, mosaic := mosaic, sf := r.seen.sf.val
                         mcs := field (leNat (r.conf.header.take 2)) 10 2, chanB := r.chanB, freq := chanHz s r.chanB
                         wake := if wk then wakeBlocks s else 0, item := none, hdata := 0, cls := some 2 }
      let segs := (List.range (segsFor g.size)).foldl (fun acc _ =>
        acc ++ (pickSegment s (usedSegs s) acc false false).toList) []
      advanceGen segs.length { x.2 with swarm := { x.2.swarm with
        buffers := x.2.swarm.buffers ++ [⟨o, q, j, 2000 + x.1 * 8000, 0, segs⟩] } }

/-- RELAY_COPY_DUE: suppressed, deferred or sent. -/
def relayCopyDue (o q : Half) (s : State) : State :=
  match s.swarm.buffers.find? fun b => b.orig == o && b.fseq == q with
  | none => s
  | some b =>
    let inExchange := s.net.reply.isSome || !s.radio.acks.isEmpty || !s.radio.commits.isEmpty ||
      s.radio.state == .tx || s.radio.state == .ackWait || s.radio.state == .ackTx || s.net.fackWait.isSome
    if confirmed s ∨ inExchange then s
    else if !running s then { s with swarm := { s.swarm with
      buffers := s.swarm.buffers.filter fun x => x != b, drops := inc s.swarm.drops } }
    else
      let out := { s with swarm := { s.swarm with buffers := s.swarm.buffers.filter fun x => x != b } }
      if liveNat s K.swSuppress ≤ b.repeats then
        { out with swarm := { out.swarm with suppressed := inc out.swarm.suppressed } }
      else if b.job.frame.type = tyBeacon ∧ s.tb.state ≠ tbDisciplined then out
      else if !canStart s b.job then s
      else
        let t := beginAccess b.job out
        if t.radio.state == .synthUp then t
        else { t with swarm := { t.swarm with drops := inc t.swarm.drops } }

/-- SW_EN = 0: the copies that wait are discarded and counted. -/
def swEnEffect (s : State) : State :=
  if liveBool s K.swEn then s
  else { s with swarm := { s.swarm with
    drops := incBy s.swarm.buffers.length s.swarm.drops, buffers := [] } }

/-- SEEN_EXPIRY. -/
def seenExpiry (k : Half × Half) (s : State) : State :=
  { s with swarm := { s.swarm with seen := s.swarm.seen.filter fun x => x != k } }

/-- FACK_WAIT_EXPIRY (R317). -/
def fackWaitExpiry (s : State) : State :=
  match s.net.fackWait with
  | none => s
  | some (q, seq) =>
    settle (post evAckMiss (BitVec.ofNat 16 q) seq { s with
      net := { s.net with fackWait := none }
      radio := { s.radio with ackMiss := inc s.radio.ackMiss } })

/-- The FACK that waits first begins channel access when the radio can (R317). -/
def sendFacks (s : State) : State :=
  match s.net.facks with
  | [] => s
  | (o, seq, ttl, b) :: l =>
    let j := fackJob s o seq ttl b
    if !acknowledges s then { s with net := { s.net with facks := [] } }
    else if canStart s j then
      let t := beginAccess j { s with net := { s.net with facks := l } }
      if t.radio.state == .synthUp then { t with swarm := { t.swarm with fseq := t.swarm.fseq + 1 } } else t
    else s

/-- The coordinator's request to an address (R307), once AIR_DREQ has been accepted. -/
def setDreq (v : Bytes) (s : State) : State :=
  { s with net := { s.net with dreq := some (BitVec.ofNat 16 (leNat (v.take 2)), v.drop 2) } }

end Sys2Proof.Machine
end

