-- ==== Sys2Proof/Machine/Read.lean ====
section
/-! DEFINITION. What every entry of the dictionary reads as: the entries that report a part of the state, and the
windows that a selector opens (R167, R505).
What the manual leaves open here and how the model reads it, with its mark: log entries 94 and 99. -/

namespace Sys2Proof.Machine

/-- The codes of the power states (Table 3.3); OFF has none. -/
def PowerState.code : PowerState → Nat
  | .off => 0 | .shutdown => 1 | .dormant => 2 | .sniff => 3 | .idle => 4 | .rx => 5 | .tx => 6

/-- The codes of the radio states (Table 11.1). -/
def RadioState.code : RadioState → Nat
  | .off => 0 | .sleep => 1 | .sniff => 2 | .idle => 3 | .synthUp => 4 | .cca => 5 | .rx => 6 | .tx => 7
  | .ackWait => 8 | .ackTx => 9

/-- The bytes of a bit vector. -/
def bitBytes {w : Nat} (n : Nat) (b : BitVec w) : Bytes := leBytes n b.toNat

/-- The bytes of a signed value. -/
def intBytes (n : Nat) (x : Int) : Bytes := leBytes n (unsigned (8 * n) x)

/-- The number that some booleans spell, the first at bit 0. -/
def bitsOf : List Bool → Nat
  | [] => 0
  | b :: bs => b2n b + 2 * bitsOf bs

/-- Clock output `n` runs: its enable bit is set. With PAIR = 1, CKOEN bit 1 is ignored (R105). -/
def ckoRuns (s : State) (n : Nat) : Bool :=
  bit (liveNat s K.ckoEn) n && !(n == 1 && bit (liveNat s K.ckoCfg) 24)

/-- LIVE_MASK: PD0nn at bit n (R47). A spare bank stands in the place of the bank that it has taken over. -/
def liveMask (s : State) : Nat :=
  bitsOf (((List.range 128).map fun b => bankLive s b && !s.repair.spareOf.contains (some b)) ++
    s.repair.spareOf.map fun o => o.any (bankLive s))

/-- A number of ms rounded up from µs. -/
def msUp (us : Nat) : Nat := (us + 999) / 1000

/-- QUIET_LEFT: the time in ms that remains of QUIET, rounded up (R124). -/
def quietLeft (s : State) : Nat :=
  if s.sys.dev = .quiet then msUp (s.boot.readyAt + 1000 * s.boot.hold - s.timer.time.toNat) else 0

/-- FP_STATUS and PORT.FPSTAT. -/
def fpStatus (s : State) : Nat :=
  b2n s.field.rev + 2 * b2n s.field.idleLow + 4 * b2n s.field.short + 8 * b2n s.field.contend

/-- FP_FAULTS (R158, R161, R162). -/
def fpFaults (s : State) : Nat :=
  s.field.badFrames.toNat + 2 ^ 16 * s.field.turns.toNat + 2 ^ 24 * s.field.echoes.toNat

/-- CLK_STATUS and CLK.STATUS. -/
def clkStatus (s : State) : Nat :=
  bitsOf [s.clk.xoOk, s.clk.lfxoOk, s.clk.lock, s.clk.refHfrc, s.clk.lfSrc]

/-- SYNTH_STATUS and SYNTH.STATUS. A calibration ends inside its step, so CAL reads 0. -/
def synthStatus (s : State) : Nat :=
  if s.radio.lo = 0 then 0
  else b2n s.radio.lock + 4 * dividerCode s.radio.lo + 256 * (nth 0 s.radio.vco (bandIndex s s.radio.lo)).toNat

/-- ANT_STATUS and TX.ANT. -/
def antStatus (s : State) : Nat :=
  s.radio.antClass.val + 4 * b2n s.radio.untested + 256 * s.radio.antLoss.toNat

/-- PLUMB_TRIM: the trim in force, none while PLUMB_EN is 0 (R57). -/
def plumbTrim (s : State) : Nat := if liveBool s K.plumbEn then nth 0 s.sup.trims s.sup.op.val else 0

/-- COURSE_PEND. -/
def coursePend (s : State) : Nat :=
  match s.courses.pend with
  | some p => p.1.val
  | none => 0xFF

/-- IMAGE_STATE of a Course (R186): while a partial load is held it reads 1, even beside a valid image. -/
def imageState (s : State) (c : Nat) : Nat :=
  if s.courses.cleared then 0
  else if (nth none s.courses.loads c).isSome then 1
  else if (courseImage s.mortar c).isSome then 2 else 0

/-- IMAGE_CRC of a Course. -/
def imageCrc (s : State) (c : Nat) : Nat :=
  if s.courses.cleared then 0
  else
    match courseImage s.mortar c with
    | some b => leNat (b.drop (b.length - 4))
    | none => 0

/-- The queue that Q_SEL names. -/
def selQueue (s : State) : Nat := liveNat s K.qSel

/-- JOIN_INFO of the address that JOIN_SEL names (R310). -/
def joinInfo (s : State) : Bytes :=
  match tabGet none (liveNat s K.joinSel) s.net.stations with
  | some r => bitBytes 8 r.serial ++ [r.role, r.depth] ++ bitBytes 6 r.ntime
  | none => leBytes 16 0

/-- ELOG_ENTRY: the record whose key ELOG_SEL names (R466). -/
def elogEntry (s : State) : Bytes :=
  match payloadOf s.mortar rtElog (liveNat s K.elogSel) with
  | some p => p
  | none => leBytes 20 0

/-- CAPP_VALn (R420). -/
def cappVal (s : State) (n : Nat) : Bytes :=
  let c := capPairNow s n
  bitBytes 4 c.rise ++ bitBytes 4 c.fall ++ bitBytes 4 c.width ++ bitBytes 4 c.per

/-- CAPS_VALn (R421). -/
def capsVal (s : State) (n : Nat) : Bytes :=
  bitBytes 4 (capSingleNow s n).val

/-- CMP_CFGn as it reads: the written fields and MCOUNT in bits 31:24. -/
def cmpCfgRead (s : State) (n : Nat) : Nat := cmpCfg s n + 2 ^ 24 * (getCmp s n).matches_.toNat

/-- BANK_SPARES: the spare banks that are free. -/
def bankSpares (s : State) : Nat := ((List.range 4).filter (spareFree s)).length

/-- ROW_SPARES_USED: the spare rows in use over every bank. -/
def rowSparesUsed (s : State) : Nat :=
  (s.repair.rowsUsed.map fun x => x.2).sum + (s.repair.factory.filter fun e => e.kind == 0x01).length

/-- KEY_KCV of a slot: the first four bytes of a zero block under its key (R477). -/
def keyCheck (s : State) (n : Nat) : Bytes :=
  match keyOf s n with
  | some k => (aes k (leBytes 16 0)).take 4
  | none => leBytes 4 0

/-- Entries of the index groups 0x1000 to 0x12FF. -/
def readSystem (s : State) (key : Nat) : Bytes :=
  if key = K.roleActive then leBytes 1 s.sys.role.code
  else if key = K.vendorId then leBytes 2 0xD1B4
  else if key = K.part then leBytes 2 0x6840
  else if key = K.siliconRev then bitBytes 1 s.id.siliconRev
  else if key = K.serial then bitBytes 8 s.id.serial
  else if key = K.codeVersion then bitBytes 4 s.id.codeVersion
  else if key = K.resetCause then bitBytes 2 s.boot.cause
  else if key = K.bootFails then bitBytes 1 s.boot.fails
  else if key = K.quietLeft then leBytes 2 (quietLeft s)
  else if key = K.readyTime then bitBytes 4 s.boot.readyUs
  else if key = K.restoreLeft then leBytes 4 s.sys.restore.length
  else if key = K.devState then leBytes 1 s.sys.dev.code
  else if key = K.illegalCount then bitBytes 4 s.engine.illegalCount
  else if key = K.lastIllegal then bitBytes 4 s.engine.lastIllegal
  else if key = K.footingCount then leBytes 2 (footingCount s.mortar)
  else if key = K.footingGen then bitBytes 4 s.mortar.footingGen
  else if key = K.region then leBytes 1 (s.id.region.getD 0).toNat
  else if key = K.lockviol then leBytes 1 (b2n s.sys.lockviol)
  else if key = K.evtLost then bitBytes 4 s.evtLost
  else if key = K.fpStatus then leBytes 1 (fpStatus s)
  else if key = K.fpFaults then leBytes 4 (fpFaults s)
  else liveBytes s key

/-- Entries of the index groups 0x2000 to 0x28FF: the radio. -/
def readRadio (s : State) (key : Nat) : Bytes :=
  if key = K.synthLoHz then leBytes 4 s.radio.lo
  else if key = K.synthStatus then leBytes 2 (synthStatus s)
  else if key = K.synthUnlocks then bitBytes 4 s.radio.unlocks
  else if key = K.rxPathsOk then bitBytes 1 s.rx.pathsOk
  else if key = K.rxbPreempt then bitBytes 4 s.rx.preempt
  else if key = K.dualAckDrop then bitBytes 4 s.rx.dualAckDrop
  else if key = K.rxModeEff then leBytes 1 (modeEff s)
  else if key = K.txEffective then leBytes 1 s.radio.effective
  else if key = K.antStatus then leBytes 2 (antStatus s)
  else if key = K.antFaults then bitBytes 4 s.radio.antFaults
  else if key = K.rssiA then bitBytes 2 s.rx.rssiA
  else if key = K.rssiB then bitBytes 2 s.rx.rssiB
  else if key = K.rssiProvA then bitBytes 2 s.rx.provA
  else if key = K.rssiProvB then bitBytes 2 s.rx.provB
  else if key = K.nfA then bitBytes 2 s.rx.nfA
  else if key = K.nfB then bitBytes 2 s.rx.nfB
  else if key = K.nfValid then bitBytes 1 s.rx.nfValid
  else if key = K.afcHz then bitBytes 4 s.rx.afcHz
  else if key = K.snr then bitBytes 2 s.rx.snr
  else if key = K.lanesActive then leBytes 4 (lanesActive s)
  else if key = K.sparesLeft then leBytes 1 (sparesLeft s).length
  else if key = K.earlyCount then bitBytes 4 s.scarab.earlyCount
  else if key = K.cancelCount then bitBytes 4 s.scarab.cancelCount
  else if key = K.lanePhys then s.scarab.lanePhys.map (BitVec.ofNat 8)
  else if key = K.mosaicEvm then bitBytes 2 s.rx.evm
  else if key = K.pilotLoss then bitBytes 4 s.rx.pilotLosses
  else if key = K.hdrFails then bitBytes 4 s.rx.hdrFails
  else if key = K.crc32Fails then bitBytes 4 s.rx.crcFails
  else if key = K.rxLength then bitBytes 2 s.rx.length
  else if key = K.corrected then bitBytes 2 s.rx.corrected
  else if key = K.signalLoss then bitBytes 4 s.rx.losses
  else liveBytes s key

/-- Entries of the index groups 0x3000 to 0x37FF: channel access, the network, the time base. TB_PHASE reads the low 32
bits of a phase error that its range does not hold (R91; DESIGN CHOICE, log entry 138). -/
def readMac (s : State) (key : Nat) : Bytes :=
  if key = K.radioState then leBytes 1 s.radio.state.code
  else if key = K.ccaThrA then intBytes 2 (ccaThr s false)
  else if key = K.ccaThrB then intBytes 2 (ccaThr s true)
  else if key = K.ccaBusyCount then bitBytes 4 s.radio.ccaBusy
  else if K.dutyUsed ≤ key ∧ key < K.dutyUsed + 8 then leBytes 4 (msUp (usedUs s (key - K.dutyUsed)))
  else if key = K.dutyBlocks then bitBytes 4 s.radio.dutyBlocks
  else if key = K.ffWakes then bitBytes 4 s.radio.ffWakes
  else if key = K.ffFalse then bitBytes 4 s.radio.ffFalse
  else if key = K.ackSuppCount then bitBytes 4 s.radio.ackSupp
  else if key = K.ackMissCount then bitBytes 4 s.radio.ackMiss
  else if key = K.ackSent then bitBytes 4 s.radio.ackSent
  else if key = K.addr then (if s.sys.role = .coordinator then leBytes 2 0 else liveBytes s key)
  else if key = K.joined then leBytes 1 (b2n s.net.joined)
  else if key = K.macDiscards then bitBytes 4 s.net.discards
  else if key = K.cycle then bitBytes 4 s.net.cycle
  else if key = K.pollMiss then bitBytes 4 s.net.pollMiss
  else if key = K.lastHash then bitBytes 4 s.net.lastHash
  else if key = K.pollHash then bitBytes 4 (pollHash s)
  else if key = K.pollAttr then [pollAttrOf s (BitVec.ofNat 16 (liveNat s K.pollSel))]
  else if key = K.airDrsp then s.net.drsp
  else if key = K.joinCount then bitBytes 4 s.net.joinCount
  else if key = K.joinInfo then joinInfo s
  else if key = K.seenUsed then leBytes 2 s.swarm.seen.length
  else if key = K.swRelayed then bitBytes 4 s.swarm.relayed
  else if key = K.swSuppressed then bitBytes 4 s.swarm.suppressed
  else if key = K.swDrops then bitBytes 4 s.swarm.drops
  else if key = K.tbState then leBytes 1 s.tb.state.val
  else if key = K.tbFreq then intBytes 4 s.tb.freq
  else if key = K.tbPhase then intBytes 4 s.tb.phaseNs
  else if key = K.tbFcw then bitBytes 4 s.tb.fcw
  else if key = K.ntOffset then bitBytes 8 s.timer.ntOffset
  else if key = K.tbRef then leBytes 2 (s.tb.ref.getD 0).toNat
  else if key = K.tbDepth then leBytes 1 (tbDepth s)
  else liveBytes s key

/-- Entries of the index groups 0x4000 to 0x44FF: the queues. -/
def readQueues (s : State) (key : Nat) : Bytes :=
  let v := getQueue s (selQueue s)
  if key = K.notices then bitBytes 4 s.qe.notices
  else if key = K.freePairs then leBytes 4 (freePairs s)
  else if key = K.freeSingles then leBytes 4 (freeSingles s)
  else if key = K.xsFree then leBytes 4 (xspiFree s)
  else if key = K.stonesUsed then leBytes 2 s.qe.stones.length
  else if key = K.evictions then bitBytes 4 s.qe.evictions
  else if key = K.evbHits then bitBytes 4 s.qe.evbHits
  else if key = K.reissues then bitBytes 4 s.qe.reissues
  else if key = K.airRefused then bitBytes 4 s.qe.airRefused
  else if key = K.pushFull then bitBytes 4 s.qe.pushFull
  else if key = K.framesLost then bitBytes 4 s.qe.framesLost
  else if key = K.oversize then bitBytes 4 s.qe.oversize
  else if key = K.qAttr then leBytes 2 (attrOf s (selQueue s))
  else if key = K.qInCount then leBytes 2 v.inCh.length
  else if key = K.qOutCount then leBytes 2 v.outCh.length
  else if key = K.qAccSeq then bitBytes 4 v.accSeq
  else if key = K.qWhere then leBytes 1 (queueWhere s (selQueue s))
  else liveBytes s key

/-- Entries of the indices 0x5000 and 0x5800: timers, pulse inputs, ADC and Hod. -/
def readTimers (s : State) (key : Nat) : Bytes :=
  if key = K.time then bitBytes 8 s.timer.time
  else if key = K.ntime then bitBytes 8 (ntime s)
  else if key = K.snapSeq then bitBytes 4 s.timer.snapSeq
  else if key = K.snapTime then bitBytes 8 s.timer.snapTime
  else if key = K.snapNtime then bitBytes 8 s.timer.snapNtime
  else if key = K.snapCnt then (s.timer.snapCnt.map (bitBytes 2)).flatten
  else if key = K.trigLost then bitBytes 4 s.timer.trigLost
  else if key = K.skips then bitBytes 4 s.timer.skips
  else if key = K.cmpStat then leBytes 4 (cmpStat s)
  else if K.cmpCfg ≤ key ∧ key < K.cmpCfg + 16 then leBytes 4 (cmpCfgRead s (key - K.cmpCfg))
  else if K.cmpVal ≤ key ∧ key < K.cmpVal + 16 then bitBytes 6 (getCmp s (key - K.cmpVal)).val
  else if K.cmpPeriod ≤ key ∧ key < K.cmpPeriod + 16 then bitBytes 4 (getCmp s (key - K.cmpPeriod)).period
  else if K.cappVal ≤ key ∧ key < K.cappVal + 8 then cappVal s (key - K.cappVal)
  else if K.capsVal ≤ key ∧ key < K.capsVal + 4 then capsVal s (key - K.capsVal)
  else if K.cnt ≤ key ∧ key < K.cnt + 8 then bitBytes 2 (getCnt s (key - K.cnt)).val
  else if K.lineState ≤ key ∧ key < K.lineState + 8 then leBytes 1 (getPulse s (key - K.lineState)).line.code
  else if K.lineCodes ≤ key ∧ key < K.lineCodes + 8 then
    let c := getPulse s (key - K.lineCodes)
    leBytes 4 (c.forward.toNat + 2 ^ 16 * c.reverse.toNat)
  else if key = K.lineIndet then bitBytes 4 s.pulse.indet
  else if key = K.pulseRestore then leBytes 1 s.pulse.restore.val
  else if key = K.ckptSeq then bitBytes 4 s.pulse.ckptSeq
  else if key = K.adcOverrun then bitBytes 4 s.adc.overrun
  else if key = K.adcLast then (s.adc.last.map (bitBytes 2)).flatten
  else if key = K.hodDrops then bitBytes 4 s.hod.drops
  else liveBytes s key

/-- Entries of the index groups 0x6000 to 0x6CFF: clocks, supply and thermal. -/
def readSupply (s : State) (key : Nat) : Bytes :=
  if key = K.xoCfg then leBytes 1 (s.id.xoCfg.getD 0x08).toNat
  else if key = K.clkStatus then leBytes 2 (clkStatus s)
  else if key = K.gateCount then bitBytes 4 s.clk.gateCount
  else if key = K.pstate then leBytes 1 s.sup.power.code
  else if key = K.liveMask then leBytes 17 (liveMask s)
  else if key = K.vinMv then bitBytes 2 s.sup.vinMv
  else if key = K.vholdMv then bitBytes 2 s.sup.vholdMv
  else if key = K.thermLevel then leBytes 1 s.sup.therm.val
  else if key = K.dieTemp then bitBytes 2 s.sup.temp
  else if key = K.crossings then bitBytes 4 s.sup.crossings
  else if key = K.opActive then leBytes 1 s.sup.op.val
  else if key = K.plumbTrim then leBytes 1 (plumbTrim s)
  else if key = K.nearMiss then bitBytes 4 s.sup.nearMiss
  else if key = K.vcoreMv then bitBytes 2 s.sup.vcore
  else liveBytes s key

/-- Entries of the index groups 0x7000 and 0x7400: accepted work and Mortar. -/
def readStore (s : State) (key : Nat) : Bytes :=
  let m := s.mortar
  let e := eraseCounts m true ++ eraseCounts m false
  if key = K.jrnStaged then leBytes 2 (jrnStaged s.jrn)
  else if key = K.jrnStalls then bitBytes 4 s.jrn.stalls
  else if key = K.jrnLive then leBytes 4 (journalLive m)
  else if key = K.pfCommits then bitBytes 4 s.jrn.pfCommits
  else if key = K.pfLastUs then bitBytes 2 s.jrn.pfLastUs
  else if key = K.pfEndMv then bitBytes 2 s.jrn.pfEndMv
  else if key = K.seqEpoch then bitBytes 2 (seqEpoch m)
  else if key = K.ledgerDirty then leBytes 2 (ledgerDirty s)
  else if key = K.duplicates then bitBytes 4 s.jrn.duplicates
  else if key = K.ledgerFull then bitBytes 4 s.jrn.ledgerFull
  else if key = K.ledgerWin then windowBytes (getQueue s (selQueue s))
  else if key = K.mortarState then leBytes 1 m.state.val
  else if key = K.mountUs then bitBytes 4 m.mountUs
  else if key = K.sectorsUsable then leBytes 2 (usable m true + 256 * usable m false)
  else if key = K.sparesMortar then leBytes 1 (m.sectors.filter fun x => x.use == .unassigned).length
  else if key = K.eraseMax then leBytes 2 (listMax e)
  else if key = K.eraseMin then leBytes 2 (listMin e)
  else if key = K.liveBytes then leBytes 4 (liveSize m)
  else if key = K.prepared then leBytes 2 (prepared m true + 256 * prepared m false)
  else if key = K.refreshes then bitBytes 4 m.refreshes
  else if key = K.retired then leBytes 1 (m.sectors.filter fun x => x.use == .retired).length
  else if key = K.hotRecords then leBytes 2 (hotRecords m)
  else if key = K.writeStalls then bitBytes 4 m.writeStalls
  else if key = K.copyRepairs then bitBytes 4 m.copyRepairs
  else liveBytes s key

/-- Entries of the index 0x8000: security. KEY0–KEY7 are never read (R477). -/
def readSecurity (s : State) (key : Nat) : Bytes :=
  if K.keyUse ≤ key ∧ key < K.keyUse + 8 then leBytes 1 (keyUse s (key - K.keyUse))
  else if K.keyKcv ≤ key ∧ key < K.keyKcv + 8 then keyCheck s (key - K.keyKcv)
  else if key = K.txFcnt then bitBytes 4 (txFcnt s)
  else if key = K.secFailMic then bitBytes 4 s.sec.failMic
  else if key = K.secFailReplay then bitBytes 4 s.sec.failReplay
  else if key = K.secFailPolicy then bitBytes 4 s.sec.failPolicy
  else if key = K.secDenied then bitBytes 4 s.sec.denied
  else if key = K.fpWriteLock then leBytes 1 (b2n (fpLock s))
  else if key = K.decomCount then bitBytes 4 s.sec.decomCount
  else if key = K.rxWin0 then bitBytes 4 s.sec.high ++ bitBytes 4 s.sec.map ++ leBytes 1 (b2n s.sec.valid)
  else liveBytes s key

/-- Entries of the index 0x9000: background work and repair. -/
def readRepair (s : State) (key : Nat) : Bytes :=
  let r := s.repair
  if key = K.bgFaults then bitBytes 4 r.bgFaults
  else if key = K.eccCorrected then bitBytes 4 r.eccCorrected
  else if key = K.eccUncorrected then bitBytes 4 r.eccUncorrected
  else if key = K.bistFails then bitBytes 4 r.bistFails
  else if key = K.bistSkips then bitBytes 4 r.bistSkips
  else if key = K.tempMin then bitBytes 2 r.tempMin
  else if key = K.tempMax then bitBytes 2 r.tempMax
  else if key = K.vinMin then bitBytes 2 r.vinMin
  else if key = K.vholdMin then bitBytes 2 r.vholdMin
  else if key = K.repairCount then bitBytes 4 r.repairCount
  else if key = K.repairMap then
    let p := mapPayload r.mapGen r.map
    p ++ leBytes (256 - p.length) 0
  else if key = K.mapGen then bitBytes 4 r.mapGen
  else if key = K.bankSpares then leBytes 1 (bankSpares s)
  else if key = K.rowSparesUsed then leBytes 2 (rowSparesUsed s)
  else if key = K.slicesOk then bitBytes 1 r.slicesOk
  else if key = K.factoryRepairs then leBytes 2 r.factory.length
  else if key = K.mapUnsaved then bitBytes 1 r.mapUnsaved
  else if key = K.elogEntry then elogEntry s
  else if key = K.elogNext then leBytes 1 r.elogNext
  else liveBytes s key

/-- Entries of the indices 0xA000 to 0xA107: Courses. -/
def readCourses (s : State) (key : Nat) : Bytes :=
  if key = K.courseActive then leBytes 1 s.courses.active.val
  else if key = K.coursePend then leBytes 1 (coursePend s)
  else if key = K.courseErr then bitBytes 4 s.courses.err
  else if 0xA100 ≤ key / 256 ∧ key % 256 = 3 then leBytes 1 (imageState s (key / 256 - 0xA100))
  else if 0xA100 ≤ key / 256 ∧ key % 256 = 4 then leBytes 4 (imageCrc s (key / 256 - 0xA100))
  else liveBytes s key

/-- What an entry reads as. -/
def readEntry (s : State) (key : Nat) : Bytes :=
  let i := key / 256
  if i < 0x2000 then readSystem s key
  else if i < 0x3000 then readRadio s key
  else if i < 0x4000 then readMac s key
  else if i < 0x5000 then readQueues s key
  else if i < 0x6000 then readTimers s key
  else if i < 0x7000 then readSupply s key
  else if i < 0x8000 then readStore s key
  else if i < 0x9000 then readSecurity s key
  else if i < 0xA000 then readRepair s key
  else readCourses s key

/-- What an entry reads as, as a number. -/
def readNat (s : State) (key : Nat) : Nat := leNat (readEntry s key)

end Sys2Proof.Machine
end

