-- ==== Sys2Proof/Machine/Set.lean ====
section
/-! DEFINITION. Which values the entries take beyond their type and range, and what setting a live value does
(R4, R167, R169, and the rules of each entry).
What the manual leaves open here and how the model reads it, with its mark: log entries 16 and 52. -/

namespace Sys2Proof.Machine

-- Values (abort 0x0302)

/-- The key lies in a run of `n` entries from `base`. -/
def inRun (key base n : Nat) : Bool := decide (base ≤ key) && decide (key < base + n)

/-- Every function code of a PINMUX value is listed for its pin (R21). -/
def pinmuxOk (first n v : Nat) : Bool := (List.range n).all fun k => pinFuncOk (first + k) (field v (4 * k) 4)

/-- No drive code is 0b11 (R21). -/
def driveOk (v : Nat) : Bool := (List.range 12).all fun k => field v (2 * k) 2 != 3

/-- The test of R226: no window that straddles the end of the preamble lies within 6 bits of the word. -/
def syncWordOk (w : Nat) : Bool :=
  let s := fun j => bit w (15 - j)
  (List.range 16).all fun k =>
    let ones := ((List.range (16 - k)).filter s).length
    let diff := ((List.range k).filter fun j => s j != s (j + 16 - k)).length
    decide (7 ≤ ones + diff)

/-- The admission window ends before the next S (R308). -/
def windowOk (jstart jslots jlen period : Nat) : Bool := decide (jstart + jslots * jlen < period)

/-- The xSPI settings that R342 refuses. -/
def xspiOk (s : State) (key v : Nat) : Bool :=
  if key = K.xsEn then
    v == 0 || (liveNat s K.xsSize != 0 && liveNat s K.xsRdcmd != 0 && liveNat s K.xsWrcmd != 0 && liveNat s K.xsLat != 0)
  else if key = K.xsSize then v != 0 || !liveBool s K.xsEn
  else true

/-- The addresses that the role in force may take (R296). -/
def addrOk (s : State) (v : Nat) : Bool :=
  if s.sys.role = .coordinator then v == 0 else decide (1 ≤ v) && decide (v ≤ 0xFFFE)

/-- The rules of an entry's own value that look beyond its type and range. -/
def ownOk (s : State) (key : Nat) (b : Bytes) : Bool :=
  let v := leNat b
  if key = K.pinmux0 then pinmuxOk 0 8 v
  else if key = K.pinmux1 then pinmuxOk 8 4 v
  else if key = K.gpiodrv then driveOk v
  else if inRun key K.ckoCfg 4 then decide (field v 0 4 ≤ 7)
  else if key = K.chanAHz ∨ key = K.chanBHz then centreOk s v
  else if key = K.syncWord then syncWordOk v
  else if inRun key K.laneMap 32 then decide (field v 8 3 ≤ 5)
  else if key = K.agcGain then v % 2 == 0
  else if key = K.defAttr then !bit v 4
  else if inRun key K.cmpCfg 16 then !pinActBad v 4 && trigOk (field v 16 8)
  else if inRun key K.capsCfg 4 then capsCfgOk v
  else if inRun key K.cntCfg 8 then
    !pinActBad v 6 && trigOk (field v 16 8) && !(bit v 3 && decide (4 ≤ key - K.cntCfg))
  else if inRun key K.pulseCfg 8 then pulseCfgOk v
  else if inRun key K.adcSeq 16 then muxOk (field v 0 5)
  else if inRun key K.hodCfg 8 then hodCfgOk v
  else if inRun key K.courseTrig 8 then decide (field v 4 4 ≤ 7) || field v 4 4 == 15
  else true

/-- The rules that set a value beside the present values of other entries, or beside the role. -/
def jointOk (s : State) (key : Nat) (b : Bytes) : Bool :=
  let v := leNat b
  if key = K.lbtThrMin then decide (signed 16 v ≤ liveInt s 16 K.lbtThrMax)
  else if key = K.lbtThrMax then decide (liveInt s 16 K.lbtThrMin ≤ signed 16 v)
  else if key = K.jstart then windowOk v (liveNat s K.jslots) (liveNat s K.jlen) (liveNat s K.beaconPeriod)
  else if key = K.jslots then windowOk (liveNat s K.jstart) v (liveNat s K.jlen) (liveNat s K.beaconPeriod)
  else if key = K.jlen then windowOk (liveNat s K.jstart) (liveNat s K.jslots) v (liveNat s K.beaconPeriod)
  else if key = K.beaconPeriod then windowOk (liveNat s K.jstart) (liveNat s K.jslots) (liveNat s K.jlen) v
  else if key = K.addr then addrOk s v
  else if key = K.xsEn ∨ key = K.xsSize then xspiOk s key v
  else if key = K.qAttr then
    let q := selQueue s
    let t := setQueue q { getQueue s q with attr := BitVec.ofNat 16 v } s
    decide (pinCount t ≤ 64) || decide (pinCount t ≤ pinCount s)
  else if inRun key K.cmpCfg 16 then !cmpPeriodBad s (key - K.cmpCfg) v
  else if inRun key K.cmpPeriod 16 then v != 0 || !cmpPeriodic s (key - K.cmpPeriod)
  else if inRun key K.cntCfg 8 then !srcBad s (key - K.cntCfg) (field v 1 2)
  else true

/-- The rules that look beyond the type and the range of an entry that holds a value. -/
def settingOk (s : State) (key : Nat) (b : Bytes) : Bool := ownOk s key b && jointOk s key b

/-- R4 and the bits that always read 1 (R43, R181): a value as it is stored. -/
def stored (key : Nat) (b : Bytes) : Bytes :=
  match rowOf (key / 256) (key % 256) with
  | none => b
  | some r =>
    let b := r.keep b
    if key = K.wakeEn then leBytes 2 (leNat b ||| 0x21)
    else if key = K.evtMask then leBytes 4 (leNat b ||| 0x34000)
    else if inRun key K.ckoCfg 4 && key != K.ckoCfg then leBytes 4 (leNat b % 2 ^ 24)
    else if inRun key K.cappCfg 8 then leBytes 4 (leNat b &&& 0xF9)
    else if key = K.lbtExempt then leBytes 1 (leNat b ||| 1)
    else if key = K.retainMask then leBytes 17 (leNat b % 2 ^ 132)
    else b

-- Effects

/-- A CKEN0 block is busy, so that its gating waits (R85). -/
def blockBusy (s : State) (n : Nat) : Bool :=
  if n = 0 then s.field.busy
  else if n = 5 then s.adc.running
  else if n = 1 ∨ n = 2 ∨ 32 ≤ n then !atBoundary s
  else false

/-- The power domain of each CKEN0 block (Table 4.2). -/
def blockDomain (n : Nat) : Nat := nth 0 [179, 187, 188, 190, 191, 192, 193, 196, 202] n

/-- Stop the clock of a block: its domain is then switched off (R46, R85). -/
def gateBlock (n : Nat) (s : State) : State :=
  let c := s.clk
  if n < 32 then { s with
      clk := { c with run0 := c.run0 &&& ~~~(BitVec.ofNat 9 (2 ^ n)) }
      sup := { s.sup with rising := s.sup.rising &&& ~~~(BitVec.ofNat 206 (2 ^ blockDomain n)) } }
  else { s with clk := { c with run1 := c.run1 &&& ~~~(BitVec.ofNat 8 (2 ^ (n - 32))) } }

/-- The numbers of the gateable blocks (Table 4.2). -/
def blocks : List Nat := List.range 9 ++ (List.range 8).map fun k => 32 + k

/-- Put one enable bit in force: a set bit of a CKEN0 block whose clock is stopped switches its domain on; that of a
radio block counts at once; a cleared one gates the block now, or once it is idle (R84, R85). -/
def enableBlock (s : State) (n : Nat) : State :=
  if enableBit s n then
    if blockOn s n then s
    else if n < 32 then
      { s with sup := { s.sup with rising := s.sup.rising ||| BitVec.ofNat 206 (2 ^ blockDomain n) } }
    else { s with clk := { s.clk with run1 := s.clk.run1 ||| BitVec.ofNat 8 (2 ^ (n - 32)) } }
  else if blockBusy s n then s else gateBlock n s

/-- CKEN0 and CKEN1 in force; the radio leaves or enters OFF and its receiver starts where it is always on. -/
def applyEnables (s : State) : State := autoReceive (judgeOff (blocks.foldl enableBlock s))

/-- The frequency on which a path receives. -/
def pathHz (s : State) (b : Bool) : Nat := if b && modeEff s == 3 then chanHz s true else chanHz s false

/-- A change of a path's channel clears its noise floor (R218); `t` is the state after the change. -/
def judgeFloors (s t : State) : State :=
  let t := if pathHz s false = pathHz t false then t else { t with rx := { t.rx with
    nfA := 0xFF10, nfValid := t.rx.nfValid &&& 2#2 } }
  if pathHz s true = pathHz t true then t else { t with rx := { t.rx with
    nfB := 0xFF10, nfValid := t.rx.nfValid &&& 1#2 } }

/-- What a change of the channels, of the receive mode or of the paths does: the floors are judged, and a radio that
receives retunes (R201, R218). -/
def channelsChanged (s t : State) : State := retuneRx (judgeFloors s t)

/-- SELF_TEST: a path that fails takes its channel, or its part in one, with it (R213, R218). -/
def selfTested (pass : Bool) (s : State) : State :=
  let t := selfTest pass s
  if t.rx.pathsOk = s.rx.pathsOk then t else channelsChanged s t

/-- The radio settings that apply from the next frame boundary (R189, R229, R241, R272). -/
def radioSetting (key : Nat) : Bool :=
  key == K.chipRate || key == K.txSf || key == K.netCode || key == K.syncWord || key == K.syncTol ||
    key == K.preambleSym || key == K.earlyN || key == K.earlyThr || inRun key K.laneMap 32 || key == K.mosaicMcs ||
    key == K.mosaicDd || key == K.mosaicMu || key == K.mosaicDetThr || key == K.chanAHz || key == K.chanBHz ||
    key == K.rxMode

/-- Outside a frame boundary the value that a radio setting had stays in force; `s` is the state before the write. -/
def holdSetting (key : Nat) (s t : State) : State :=
  if radioSetting key && !atBoundary s && !(s.radio.inForce.any fun p => p.1 == key) then
    { t with radio := { t.radio with inForce := t.radio.inForce ++ [(key, liveBytes s key)] } }
  else t

/-- At a frame boundary every radio setting is in force as written. -/
def settingsInForce (s : State) : State :=
  if atBoundary s && !s.radio.inForce.isEmpty then
    channelsChanged s { s with radio := { s.radio with inForce := [] } }
  else s

/-- The settings whose change cancels pending detections (R241). -/
def cancels (key : Nat) : Bool :=
  key == K.chipRate || key == K.netCode || key == K.syncWord || key == K.preambleSym || inRun key K.laneMap 32

/-- Cancel pending detections whose settings have changed, at a frame boundary (R241). -/
def cancelChanged (s : State) : State :=
  if s.scarab.changed && atBoundary s then
    cancelDets 6 (fun _ => true) { s with scarab := { s.scarab with changed := false } }
  else s

/-- VCORE nominal of an operating point in mV (Table 3.7). -/
def nominalMv (op : Nat) : Nat := nth 0 [620, 700, 800, 900] op

/-- PLUMB_EN = 0 holds VCORE at nominal, and the trim of the point starts again from 0 (R57). The stored trims of the
other points stay (DESIGN CHOICE, log entry 36). -/
def plumbEffect (s : State) : State :=
  if liveBool s K.plumbEn then s
  else { s with sup := { s.sup with
    vcore := BitVec.ofNat 16 (nominalMv s.sup.op.val), vend := BitVec.ofNat 16 (nominalMv s.sup.op.val)
    trims := setNth s.sup.trims s.sup.op.val 0 } }

/-- FP_POLARITY 1 forces normal polarity and 2 reversed (R161). -/
def polarityEffect (s : State) : State :=
  let p := liveNat s K.fpPolarity
  if p = 0 then s else { s with field := { s.field with rev := p == 2 } }

/-- The effect of a live value that has been set in `s`; `old` is the state before. -/
def entryEffect (key : Nat) (old s : State) : State :=
  if key = K.cken0 ∨ key = K.cken1 then applyEnables s
  else if key = K.tbMode then tbModeEffect s
  else if key = K.tbTrim then (if s.tb.state = tbFree then refreshFcw s else s)
  else if key = K.swEn then swEnEffect s
  else if key = K.plumbEn then plumbEffect s
  else if key = K.fpPolarity then polarityEffect s
  else if key = K.chanAHz ∨ key = K.chanBHz ∨ key = K.rxMode ∨ key = K.antBFitted then channelsChanged old s
  else if cancels key && liveBytes old key != liveBytes s key then
    cancelChanged { s with scarab := { s.scarab with changed := true } }
  else s

/-- Set the attributes of the queue or address that a selector names (R300, R327). -/
def setQAttr (v : Nat) (s : State) : State :=
  let q := selQueue s
  setQueue q { getQueue s q with attr := BitVec.ofNat 16 v } s

def setPollAttr (v : Byte) (s : State) : State :=
  { s with net := { s.net with polls := tabSet 0 (liveNat s K.pollSel) v s.net.polls } }

/-- Set the value of an entry, with what setting it does. -/
def setEntry (key : Nat) (b : Bytes) (s : State) : State :=
  let b := stored key b
  let v := leNat b
  if key = K.lockviol then { s with sys := { s.sys with lockviol := v == 1 } }
  else if key = K.qAttr then setQAttr v s
  else if key = K.pollAttr then setPollAttr (BitVec.ofNat 8 v) s
  else if inRun key K.cmpCfg 16 then setCmpCfg (key - K.cmpCfg) v s
  else if inRun key K.cmpVal 16 then
    let n := key - K.cmpVal
    setCmp n { getCmp s n with val := BitVec.ofNat 48 v } s
  else if inRun key K.cmpPeriod 16 then
    let n := key - K.cmpPeriod
    setCmp n { getCmp s n with period := BitVec.ofNat 32 v } s
  else if inRun key K.cappCfg 8 then setCapCfg (key - K.cappCfg) v s
  else if inRun key K.capsCfg 4 then setCapCfg (8 + (key - K.capsCfg)) v s
  else if inRun key K.cntCfg 8 then setCntCfg (key - K.cntCfg) v s
  else if inRun key K.cnt 8 then
    let n := key - K.cnt
    setCnt n { getCnt s n with val := BitVec.ofNat 16 v } s
  else if inRun key K.pulseCfg 8 then setPulseCfg (key - K.pulseCfg) v s
  else entryEffect key s (holdSetting key s (setLive s key b))

end Sys2Proof.Machine
end

