-- ==== Sys2Proof/Machine/Power.lean ====
section
/-! DEFINITION. Lintel, Plumb and the thermal levels, BOD_WARN and the power-fail commit, the pin banks, and the
entry to a sleep state and the wake to IDLE (file 03).
What the manual leaves open here and how the model reads it, with its mark: log entries 30 and 32 to 37. -/

namespace Sys2Proof.Machine

/-- The device is in IDLE, RX or TX, or a wake is on its way there. -/
def awake (s : State) : Bool := s.sup.power == .idle || s.sup.power == .rx || s.sup.power == .tx

-- Lintel and Plumb (R53 to R59, R68)

/-- The Plumb trim of a point on entry to it, in 5 mV steps: the stored trim less 20 mV, and less 20 mV for each
confirmation that failed (R54, R58); none while PLUMB_EN is 0 (R57). -/
def entryTrim (s : State) (point failed : Nat) : Nat :=
  if liveBool s K.plumbEn then nth 0 s.sup.trims point - 4 - 4 * failed else 0

/-- The voltage of a point at a trim. -/
def pointMv (point trim : Nat) : Half := BitVec.ofNat 16 (nominalMv point - 5 * trim)

/-- VCORE still falls (R55). -/
def falling (s : State) : Bool := decide (s.sup.vend.toNat < s.sup.vcore.toNat)

/-- Enter an operating point with VCORE settled (R54, R58). While PLUMB_EN is 0 the stored trim of the point that is
entered becomes 0, which is what VCORE then stands below nominal (DESIGN CHOICE, log entry 36). -/
def enterPoint (point : Fin 4) (failed : Nat) (s : State) : State :=
  let trim := entryTrim s point.val failed
  { s with sup := { s.sup with
    op := point
    vcore := pointMv point.val trim
    vend := pointMv point.val trim
    trims := setNth s.sup.trims point.val trim } }

/-- Enter an operating point from above: a VCORE that is higher stays, and falls in the background (R55, R58). -/
def fallTo (point : Fin 4) (s : State) : State :=
  let t := enterPoint point 0 s
  if t.sup.vend.toNat < s.sup.vcore.toNat then { t with sup := { t.sup with vcore := s.sup.vcore } } else t

/-- LINTEL_STEP_UP (R54, R56) to the target, after `failed` confirmations that failed; a step waits while the root PLL
is unlocked (R108). The radio may leave SYNTH_UP. A failed confirmation is handled here and does not count in NEAR_MISS
(log entry 107). -/
def lintelStepUp (failed : Nat) (s : State) : State :=
  if awake s && s.clk.lock && decide (s.sup.op.val < opTarget s) && atBoundary s then
    leaveSynthUp (enterPoint (Fin.ofNat 4 (opTarget s)) failed s)
  else s

/-- LINTEL_STEP_DOWN (R55, R56, R108): once the radio is idle, or at a frame boundary when the cap is below the point.
-/
def lintelStepDown (s : State) : State :=
  let quiet := s.radio.state == .idle || s.radio.state == .off
  if awake s && s.clk.lock && decide (opTarget s < s.sup.op.val) &&
      (quiet || (decide (opCap s < s.sup.op.val) && atBoundary s)) then
    fallTo (Fin.ofNat 4 (opTarget s)) s
  else s

/-- What a voltage stands below the nominal voltage of a point, in 5 mV steps: the trim there. -/
def trimAt (point : Nat) (mv : Half) : Nat := (nominalMv point - mv.toNat) / 5

/-- VCORE settles at a voltage of the point in force, and the trim of the point follows it (R57). -/
def setVcore (mv : Half) (s : State) : State :=
  { s with sup := { s.sup with
    vcore := mv, vend := mv, trims := setNth s.sup.trims s.sup.op.val (trimAt s.sup.op.val mv) } }

/-- PLUMB_STEP_DOWN (R57): one step of 5 mV, to a trim of 80 mV at most, unless the trim of the point is locked at 0 (R59,
R453). -/
def plumbStepDown (s : State) : State :=
  let p := s.sup.op.val
  let v := s.sup.vend
  let room := decide (nominalMv p < v.toNat) || (decide (trimAt p v < 16) && !bit s.sup.trimLock.toNat p)
  if awake s && liveBool s K.plumbEn && room then setVcore (v - 5) s else s

/-- NEAR_MISS (R57, R59, R68): VCORE rises by 20 mV, never above nominal, and one that stands above stays; at zero trim
the trim of the point is locked. While VCORE falls, the fall stops, and VCORE rises by 20 mV from its present value. -/
def nearMiss (s : State) : State :=
  let p := s.sup.op.val
  if !awake s then s
  else
    let lock := if plumbTrim s = 0 then s.sup.trimLock ||| BitVec.ofNat 4 (2 ^ p) else s.sup.trimLock
    let v := s.sup.vcore
    let up := if falling s then v + 20 else if nominalMv p ≤ v.toNat then v
      else BitVec.ofNat 16 (min (nominalMv p) (v.toNat + 20))
    setVcore up { s with sup := { s.sup with nearMiss := inc s.sup.nearMiss, trimLock := lock } }

/-- CANARY_CHECK (R453): a failure locks every trim at 0, puts VCORE at nominal, and counts in BG_FAULTS. -/
def canaryCheck (pass : Bool) (s : State) : State :=
  if pass || !background s then s
  else { s with
    sup := { s.sup with
      trimLock := 15#4, trims := [0, 0, 0, 0], vcore := pointMv s.sup.op.val 0, vend := pointMv s.sup.op.val 0 }
    repair := { s.repair with bgFaults := inc s.repair.bgFaults } }

-- Thermal control (R60 to R67)

/-- The threshold at which a level is entered, in 0.1 °C (Table 3.10). -/
def thermThr (level : Nat) : Int := match level with
  | 1 => 950
  | 2 => 1050
  | _ => 1200

/-- The device enters SAFE by itself (R63, R97): transmission ends; reception goes on. -/
def enterSafe (s : State) : State :=
  if s.sys.ready && s.sys.dev != .safe then
    let s := cancelDets 6 (fun _ => true) (stopPa s)
    { s with sys := { s.sys with dev := .safe } }
  else s

/-- Apply a level change with its event, which the log keeps for the entry to CRIT (R466); `flag` is the bit that R64
sets. -/
def setTherm (level flag : Nat) (s : State) : State :=
  let old := s.sup.therm.val
  let s := { s with
    sup := { s.sup with therm := Fin.ofNat 4 level, changedAt := some s.timer.time.toNat }
    rx := { s.rx with second := s.rx.second && decide (2 ≤ level) } }
  let arg := BitVec.ofNat 32 (old + 256 * level + 65536 * flag)
  let s := if level = 3 then postLogged evThermStep 0 arg s else post evThermStep 0 arg s
  endSecond (if level = 3 then enterSafe (stopPa s) else s)

/-- Enter CRIT, passing through the lower levels in the same sample (R62). -/
def enterCrit (s : State) : State :=
  (List.range 4).foldl (fun t l => if t.sup.therm.val < l then setTherm l 0 t else t) s

/-- The number of thresholds that lie between two samples (R61). -/
def crossed (x y : Int) : Nat :=
  ([950, 1050, 1200].filter fun (t : Int) => decide (x < t) != decide (y < t)).length

/-- 250 ms have passed since the last level change (R61). -/
def spaced (s : State) : Bool := !s.sup.changedAt.any fun t => decide (s.timer.time.toNat < t + 250000)

/-- The level after the dwell and spacing rules (R61, R62). -/
def judgeTherm (s : State) : State :=
  let l := s.sup.therm.val
  let all := fun (p : Int → Bool) => decide (s.sup.samples.length = 8) && s.sup.samples.all fun t => p t.toInt
  if l < 3 ∧ all (fun t => decide (1200 ≤ t)) = true then enterCrit s
  else if spaced s = false then s
  else if l < 3 ∧ all (fun t => decide (thermThr (l + 1) ≤ t)) = true then setTherm (l + 1) 0 s
  else if 0 < l ∧ all (fun t => decide (t < thermThr l - 30)) = true then setTherm (l - 1) 0 s
  else s

/-- Eight samples out of range in a row (R64): THERM_STEP with bit 16, and the level HOT, or the higher one in force. -/
def senseLost (s : State) : State :=
  let l := s.sup.therm.val
  if l < 2 then setTherm 2 1 s
  else
    let arg := BitVec.ofNat 32 (l + 256 * l + 65536)
    if l = 3 then postLogged evThermStep 0 arg s else post evThermStep 0 arg s

/-- THERM_SAMPLE: a sample in 0.1 °C, in IDLE, RX and TX (R60). After eight samples out of range in a row the eight
valid ones that a later change needs are counted afresh (R64). -/
def thermSample (temp : Half) (s : State) : State :=
  let t := temp.toInt
  if !awake s || s.sup.waking then s else
  if t < -550 ∨ 1500 < t then
    let s := { s with sup := { s.sup with discards := inc s.sup.discards, badRun := s.sup.badRun + 1 } }
    if s.sup.badRun = 8 then
      senseLost { s with sup := { s.sup with samples := [] } }
    else s
  else
    let n := if s.sup.sampled then crossed s.sup.temp.toInt t else 0
    judgeTherm { s with sup := { s.sup with
      temp := temp, sampled := true, badRun := 0
      crossings := incBy n s.sup.crossings
      samples := (temp :: s.sup.samples).take 8 } }

-- BOD_WARN (R49 to R51)

/-- The BOD_WARN threshold in mV (R49). -/
def bodThr (s : State) : Nat := 860 + 10 * liveNat s K.bodLevel

/-- Mortar may be written by a commit: it is mounted, and not left unwritten under R123. -/
def canCommit (s : State) : Bool := s.mortar.state == 1 || s.mortar.state == 2

/-- A commit with the content of R368: staged records, dirty windows, the checkpoints with PF set, the receipt record.
Every pulse channel stops sampling until the next boot (R448). -/
def fullCommit (fails : List (Nat × Bool)) (s : State) : State :=
  if canCommit s then
    let seq := s.pulse.ckptSeq + 1
    let s := commitStage fails (ckptRecs s (latchCkpt s) seq true ++ [rcptRec s]) s
    { s with
      pulse := { s.pulse with ckptSeq := seq, stopped := true }
      hod := { s.hod with sleepCkpt := none } }
  else s

/-- The power-fail commit: an erase in progress is abandoned (R400). A program may fail inside it (R402). -/
def powerFail (run : CommitRun) (s : State) : State :=
  let s := fullCommit run.fails { s with mortar := { s.mortar with erasing := none } }
  { s with jrn := { s.jrn with pfCommits := inc s.jrn.pfCommits, pfLastUs := run.us, pfEndMv := run.endMv } }

/-- BOD_WARN is armed (R49): from the end of phase 6 on, outside SHUTDOWN. -/
def bodArmed (s : State) : Bool :=
  s.sys.ready && !s.sys.skipped && s.sup.power != .off && s.sup.power != .shutdown

/-- BOD_WARN comes into force (R50): the event, the commits that have not reached their point of effect, the radio,
Lintel, the power-fail commit; a migration is abandoned (R468). -/
def enterBod (run : CommitRun) (s : State) : State :=
  let on := s.radio.rxOn
  let s := halt 7 (loseCommits (post evBodWarn 0 1 s))
  let s := { s with
    sup := { s.sup with bodWarn := true, bodRx := on }
    repair := { s.repair with migrating := [] } }
  powerFail run (if 1 < s.sup.op.val then fallTo 1 s else s)

/-- BOD_WARN: VIN as measured. -/
def bodWarn (vin : Half) (run : CommitRun) (s : State) : State :=
  let s := { s with sup := { s.sup with vinMv := vin } }
  if bodArmed s && !s.sup.bodWarn && decide (vin.toNat < bodThr s) then enterBod run s else s

/-- BOD_WARN_CLEAR (R51). -/
def bodWarnClear (vin : Half) (s : State) : State :=
  let s := { s with
    sup := { s.sup with vinMv := vin }
    pins := { s.pins with reversed := false } }
  if s.sup.bodWarn && decide (bodThr s + 30 < vin.toNat) then
    let on := s.sup.bodRx
    let s := { s with sup := { s.sup with bodWarn := false, bodRx := false } }
    let s := post evBodWarn 0 0 s
    let s := judgeOff s
    if on && s.radio.state == .idle && radioPermitted s && rxBlocks s && modeOk s && rxChannelsOk s && s.sup.therm != 3
    then startRx s else autoReceive s
  else s

/-- VIN_REVERSAL (R26, R27): no pin is driven, and BOD_WARN is raised when it is armed. The reading of a negative VIN
is stated nowhere. -/
def vinReversal (run : CommitRun) (s : State) : State :=
  let x := freeBits 12 s
  let s := { x.2 with
    sup := { x.2.sup with vinMv := BitVec.ofNat 16 x.1 }
    pins := { x.2.pins with reversed := true } }
  if bodArmed s && !s.sup.bodWarn then enterBod run s else s

-- The pin banks (R17)

/-- The field port is abandoned: a reply that has not been sent is dropped, and a request in the engine is not answered
(R17). -/
def dropField (f : FieldPort) : FieldPort :=
  let waits := f.reply.isSome || f.sending || f.waitChars != 0
  { f with
    reply := none, sending := false, retries := 0, waitChars := 0, own := none
    busy := f.busy && !waits, mute := f.mute || (f.busy && !waits) }

/-- IOVDD_LOSS: the ports of the bank are absent (R17), and no queue changes (R18) but for what xSPI keeps in DORMANT
and SNIFF only while IOVDD_A stays up (R344). -/
def iovddLoss (bank : IoBank) (s : State) : State :=
  match bank with
  | .a =>
    let s := { s with pins := { s.pins with bankA := false } }
    if s.sup.power == .dormant || s.sup.power == .sniff || s.boot.held then
      { s with qe := { s.qe with xsBad := (usedSegs s).filter fun i => decide (2 ^ 23 ≤ i) } }
    else s
  | .b => { s with
      pins := { s.pins with bankB := false }
      field := dropField s.field }

/-- IOVDD_RETURN; the return of bank A is a wake source (Table 3.4). -/
def iovddReturn (bank : IoBank) (s : State) : State :=
  match bank with
  | .a => if s.pins.bankA then s else requestWake 6 { s with pins := { s.pins with bankA := true } }
  | .b => { s with pins := { s.pins with bankB := true } }

-- Sleep (R40 to R43, R70)

/-- The LF source in force is measured before a sleep entry, and CLK.LFINC of that source is written (R94). What the
measurement gives is free, within the 63 µs of one step (R404). -/
def measureLf (s : State) : State :=
  let v := BitVec.ofNat 32 (Config.free s.draws % (63 * 2 ^ 24 + 1))
  { s with
    draws := s.draws + 1
    clk := { s.clk with
      incLfxo := if s.clk.lfSrc then v else s.clk.incLfxo
      incLfrc := if s.clk.lfSrc then s.clk.incLfrc else v } }

/-- Every clock but LFCLK stops and the radio sleeps; only the blocks that Table 3.6 keeps on in DORMANT and SNIFF keep
their clocks. HOD keeps its own so that a checkpoint can be latched, which alone holds PD193 on (R448). -/
def stopClocks (power : PowerState) (s : State) : State :=
  let pulse := power != .shutdown && blockOn s 4 && (List.range 8).any (pulseEn s)
  let sup := power != .shutdown && blockOn s 5 && (List.range 8).any fun n => pulseEn s n && pulseSup s n
  let hod := power != .shutdown && blockOn s 6 &&
    (s.hod.sleepCkpt.isSome || (List.range 8).any fun n => field (hodCfg s n) 0 3 == 5)
  let s := measureLf s
  { s with
    sup := { s.sup with power := power, op := 0, vcore := 620, vend := 620, rising := 0 }
    clk := { s.clk with
      run0 := BitVec.ofNat 9 (16 * b2n pulse + 32 * b2n sup + 64 * b2n hod)
      run1 := 0, xoOk := false, lock := false }
    radio := { s.radio with state := .sleep, rxOn := false, stopping := false, lock := false, window := false }
    rx := { s.rx with mosaic := 0 } }

/-- What waits at sources 3 and 4 is sealed as those sources may: in a store that is not read-only, without HOT and
outside an erase, above their reserve of sectors and within the limit of R388. The rest keeps waiting (DEDUCED, log entry
149). -/
def sealWaiting (stage : Bool) (s : State) : State :=
  let n := if stage then s.jrn.stage.length else 0
  let rs := s.jrn.stage.take n ++ s.mortar.waiting4
  if s.mortar.state != 1 || hot s || s.mortar.erasing.isSome || overLimit s rs then s
  else
    let x := appendAll 3 (hotWrite s) rs s.mortar
    let done := rs.length - x.2.length
    stageWaiting { s with
      jrn := { s.jrn with stage := s.jrn.stage.drop (min done n) }
      mortar := { x.1 with waiting4 := x.1.waiting4.drop (done - n) } }

/-- The shutdown commit and the entry to SHUTDOWN (R41). What waits at source 4 is sealed before it, where it may. -/
def enterShutdown (s : State) : State :=
  let s := sealWaiting false s
  let s := fullCommit [] { s with mortar := { s.mortar with erasing := none, waiting4 := [] } }
  let s := stopClocks .shutdown s
  { s with
    sys := { s.sys with ready := false }
    sup := { s.sup with bodWarn := false } }

/-- The entry to DORMANT or SNIFF (R42): the records of the stage are sealed, every eviction entry retires and every
stone is written back. PD166 keeps what cannot be sealed. -/
def enterDormant (power : PowerState) (s : State) : State :=
  let s := sealWaiting true s
  let s := (List.range 4).foldl (fun t i => retireEntry i t) s
  let s := s.qe.stones.foldl (fun t x => advanceGen (tailWrites x.dirty) t) s
  stopClocks power { s with qe := { s.qe with stones := [], slicesOn := s.qe.slicesOn &&& 1#8 } }

/-- Enter the sleep state of a code; a migration ends first (§18.5). -/
def enterSleep (code : Nat) (s : State) : State :=
  let s := s.repair.migrating.foldl (fun t _ => migrationEnd t) s
  if code = 1 then enterShutdown s
  else enterDormant (if code = 3 then .sniff else .dormant) s

/-- A sleep state that has been requested is entered once no append at source 2 and no commit of a received frame is in
progress (R42). -/
def finishSleep (s : State) : State :=
  match s.sup.sleepDue with
  | none => s
  | some c =>
    if s.mortar.waiting2.isEmpty && s.radio.commits.isEmpty then
      enterSleep c.val { s with sup := { s.sup with sleepDue := none } }
    else s

/-- An accepted request for a sleep state. Wakes count from here (R70). -/
def requestSleep (code : Fin 8) (s : State) : State :=
  finishSleep { s with sup := { s.sup with sleepDue := some code, wakeReq := 0 } }

/-- Whether a request for a sleep state passes the state rule (R40, R41, R435), and whether the radio state is what
refuses it. -/
def sleepLegal (s : State) (code : Nat) : Bool × Bool :=
  let dev := s.sys.dev == .run || s.sys.dev == .config || s.sys.dev == .maint
  let radio := s.radio.state == .idle || s.radio.state == .off
  let role := code != 3 || s.sys.role == .node
  let clear := code != 1 || (!volatileFrame s && !(List.range 8).any (pulseEn s))
  (dev && radio && role && clear, dev && !radio)

/-- IDLE is reached once the root PLL is locked, or for good without it (R44, R79, R507). -/
def reachIdle (s : State) : State :=
  if s.sup.waking && (s.clk.lock || s.clk.stopped) then
    autoReceive (gotoIdle { s with
      sup := { s.sup with waking := false }
      radio := { s.radio with state := .idle } })
  else s

/-- The wake from DORMANT or SNIFF (R43, R44, R58): OP0 is entered, the clocks that the enable bits call for run, and a
checkpoint that was latched in sleep is staged (R448). IDLE is reached at lock; XO and the PLL of a window run already.
-/
def wakeIdle (sources : BitVec 7) (s : State) : State :=
  let s := fallTo 0 { s with
    sup := { s.sup with power := .idle, wakeSrc := sources.setWidth 16, wakeReq := 0, waking := true }
    clk := { s.clk with
      run0 := BitVec.ofNat 9 (liveNat s K.cken0), run1 := BitVec.ofNat 8 (liveNat s K.cken1) }
    radio := { s.radio with state := .sleep, window := s.radio.state == .sniff } }
  let s := match s.hod.sleepCkpt with
    | some k => stageCkpt k { s with hod := { s.hod with sleepCkpt := none } }
    | none => s
  reachIdle s

/-- A GPIO is in function 0x2 or 0x3, whose edges are a wake source (Table 3.4). -/
def gpioWakes (s : State) : Bool := (List.range 12).any fun n => pinFunc s n == 2 || pinFunc s n == 3

/-- The wake sources in force: those requested inside the device and, of those outside, the GPIO edge, as WAKE_EN
enables them (Table 3.4). -/
def wakeSources (sources : BitVec 7) (s : State) : BitVec 7 :=
  (s.sup.wakeReq ||| (if gpioWakes s then sources &&& 8#7 else 0)) &&& BitVec.ofNat 7 (liveNat s K.wakeEn)

end Sys2Proof.Machine
end

