-- ==== Sys2Proof/Machine/Clock.lean ====
section
/-! DEFINITION. Oscillators, the root PLL, the clock monitor and clock gating (file 04).
What the manual leaves open here and how the model reads it, with its mark: log entries 38 to 40. -/

namespace Sys2Proof.Machine

/-- ALERT_N is asserted: a latch of CLK.MON is set, or BOD_WARN is in force (R101). -/
def alert (s : State) : Bool := s.clk.mon != 0 || s.sup.bodWarn

/-- XO is judged started (R72): the boot that waits for it goes on. -/
def xoStart (s : State) : State :=
  if s.clk.xoOk || s.clk.xoFailed || asleep s then s else { s with clk := { s.clk with xoOk := true } }

/-- The root PLL declares lock (R77, R79): the radio that waits for it in SYNTH_UP may go on, and a wake reaches IDLE.
-/
def pllLock (s : State) : State :=
  if s.clk.lock || s.clk.stopped || asleep s || !(s.clk.xoOk || s.clk.refHfrc) then s
  else reachIdle (leaveSynthUp { s with clk := { s.clk with lock := true, restarts := 0 } })

/-- LFXO_QUALIFIED (R74): LFCLK changes to LFXO, unless an LFXO failure stands (R101). -/
def lfxoQualified (s : State) : State :=
  if s.clk.lfxoFailed || s.sup.power == .off then s
  else { s with clk := { s.clk with lfxoOk := true, lfSrc := true } }

/-- An XO failure (R97, R98). The word that DEGRADED takes from the calibration of HFRC is stated by no rule. -/
def xoFail (s : State) : State :=
  let x := freeBits 32 s
  let s := { x.2 with
    clk := { x.2.clk with
      xoOk := false, xoFailed := true, refHfrc := true, lock := false, restarts := 0, recent := 0
      mon := x.2.clk.mon ||| 1#3 }
    tb := { x.2.tb with state := tbDegraded, slew := 0, load := none, fcw := BitVec.ofNat 32 x.1 } }
  postLogged evClkFail 0 1 (enterSafe (halt 7 s))

/-- The PLL is stopped until the next reset (R507): SYSCLK at 16 MHz is held under OP0, and VCORE falls to its voltage
(log entry 109). The NCO is clocked from HFRC, with a word from a calibration that no rule states the result of. -/
def stopPll (s : State) : State :=
  let x := freeBits 32 s
  let s := { x.2 with
    clk := { x.2.clk with stopped := true, lock := false }
    tb := { x.2.tb with fcw := BitVec.ofNat 32 x.1, load := none } }
  reachIdle (fallTo 0 s)

/-- PLL_LOCK_TIMEOUT (R78, R507): a restart, or after three restarts in succession without lock an XO failure, or on
HFRC the end of the PLL. -/
def lockTimeout (s : State) : State :=
  if s.clk.lock || s.clk.stopped || asleep s || !(s.clk.xoOk || s.clk.refHfrc) then s
  else if s.clk.restarts < 3 then { s with clk := { s.clk with restarts := s.clk.restarts + 1 } }
  else if s.clk.refHfrc then stopPll s
  else xoFail s

/-- LFXO_FAILURE (R96, R99, R101). -/
def lfxoFailure (s : State) : State :=
  if !s.clk.lfxoOk then s
  else postLogged evClkFail 0 2 { s with clk := { s.clk with
    lfxoOk := false, lfSrc := false, lfxoFailed := true, mon := s.clk.mon ||| 2#3 } }

/-- A loss of lock with its latch and event (R100). A reception that was on starts again, and waits for lock. -/
def unlock (s : State) : State :=
  let on := s.radio.rxOn
  let s := postLogged evClkFail 0 3 (halt 7 { s with clk := { s.clk with
    lock := false, restarts := 0, mon := s.clk.mon ||| 4#3 } })
  if on && radioPermitted s && rxReady s then startRx s else s

/-- LOSS_OF_LOCK (R100, R507); `within10s` says that this loss and the two before it fall within 10 s. A third one is an
XO failure and nothing else: it sets no UNLOCK latch and posts no CLKFAIL 3 (log entry 108). -/
def lossOfLock (within10s : Bool) (s : State) : State :=
  if !s.clk.lock then s
  else
    let third := within10s && decide (2 ≤ s.clk.recent)
    let n := s.clk.unlocks
    let s := { s with clk := { s.clk with
      recent := min 2 (s.clk.recent + 1), unlocks := if n = 255 then n else n + 1 } }
    if third then (if s.clk.refHfrc then stopPll (unlock s) else xoFail s) else unlock s

/-- RC_CALIBRATION (R75): against XO, every 10 s. -/
def rcCalibration (hfrc lfrc : BitVec 10) (s : State) : State :=
  if background s && s.clk.xoOk then { s with clk := { s.clk with hfrcTrim := hfrc, lfrcTrim := lfrc } } else s

/-- CKEN_DEFERRED_GATE (R85): a block whose bit was cleared while it was busy is idle. -/
def deferredGate (n : Nat) (s : State) : State :=
  if blocks.contains n && blockOn s n && !enableBit s n && !blockBusy s n && !asleep s then judgeOff (gateBlock n s)
  else s

/-- POWER_GOOD (R46): the clock of the domain's block starts. -/
def powerGood (d : Nat) (s : State) : State :=
  if !bit s.sup.rising.toNat d then s
  else
    let mask := ((List.range 9).filter fun n => blockDomain n == d).foldl (fun m n => m + 2 ^ n) 0
    autoReceive { s with
      sup := { s.sup with rising := s.sup.rising &&& ~~~(BitVec.ofNat 206 (2 ^ d)) }
      clk := { s.clk with run0 := s.clk.run0 ||| BitVec.ofNat 9 mask } }

end Sys2Proof.Machine
end

