-- ==== Sys2Proof/Machine/Course.lean ====
section
/-! DEFINITION. Courses: the checks of an image, the sources of a live value, and the switch at a frame boundary
(§7.7, R169).
What the manual leaves open here and how the model reads it, with its mark: log entry 54. -/

namespace Sys2Proof.Machine

/-- A record of an image: its place, its key and its value (Table 7.6). -/
structure ImageRec where
  at_   : Nat
  key   : Nat
  value : Bytes
  deriving DecidableEq, Repr

/-- The records of `n` that start at place `at_`, until one does not fit: those that do, the place after them, and
whether all were found. A LEN of 0 or above 64 is a record that does not fit, reason 5 (R185; DESIGN CHOICE, log entry
118). -/
def imageRecs : Nat → Nat → Bytes → List ImageRec × Nat × Bool
  | 0, at_, _ => ([], at_, true)
  | n + 1, at_, b =>
    let len := leNat ((b.drop 3).take 1)
    if b.length < 4 ∨ len = 0 ∨ 64 < len ∨ b.length < 4 + len then ([], at_, false)
    else
      let key := leNat (b.take 2) * 256 + leNat ((b.drop 2).take 1)
      let rest := imageRecs n (at_ + 4 + len) (b.drop (4 + len))
      (⟨at_, key, (b.drop 4).take len⟩ :: rest.1, rest.2)

/-- The entry records of an image, as stored. -/
def entriesOf (img : Bytes) : List ImageRec :=
  (imageRecs (leNat ((img.drop 4).take 1)) 12 ((img.take (img.length - 4)).drop 12)).1

/-- The keys rise strictly. -/
def rising : List ImageRec → Option ImageRec
  | x :: y :: l => if x.key < y.key then rising (y :: l) else some y
  | _ => none

/-- A Course may name the entry (R183). -/
def courseMay (key : Nat) : Bool :=
  (match rowOf (key / 256) (key % 256) with
   | some r => r.access == .rw || r.access == .rwp
   | none => false) &&
  !inRun key K.cnt 8 && key != K.pollAttr && key != K.qAttr

/-- The first record of a list that fails a test, as the failure of Table 7.7 that it is: reason, place, abort. -/
def firstBad (reason : Nat) (abort : Half) (ok : ImageRec → Bool) (place : ImageRec → Nat) (l : List ImageRec) :
    Option (Nat × Nat × Half) :=
  match l.find? fun r => !ok r with
  | some r => some (reason, place r, abort)
  | none => none

/-- The value fits the type of its entry, and its range. -/
def recFits (r : ImageRec) : Bool :=
  match rowOf (r.key / 256) (r.key % 256) with
  | some row => row.ty.fits r.value.length
  | none => false
def recInRange (s : State) (r : ImageRec) : Bool :=
  match rowOf (r.key / 256) (r.key % 256) with
  | some row => row.inRange r.value && ownOk s r.key r.value
  | none => false

/-- The checks of Table 7.7 on the bytes loaded for Course `c`, with the length that the commit gives: reason, image
byte offset and abort of the first failure. -/
def imageCheck (s : State) (c : Nat) (b : Bytes) (given : Nat) : Option (Nat × Nat × Half) :=
  let n := b.length
  let recs := imageRecs (leNat ((b.drop 4).take 1)) 12 ((b.take (n - 4)).drop 12)
  if leNat (b.take 2) ≠ 0xC0E5 ∨ n < 2 then some (0x01, 0, abLength)
  else if leNat ((b.drop 2).take 1) ≠ 1 then some (0x01, 2, abLength)
  else if leNat ((b.drop 3).take 1) ≠ c ∨ n < 4 then some (0x02, 3, abRange)
  else if leNat ((b.drop 6).take 2) ≠ n ∨ given ≠ n ∨ n < 16 ∨ 1024 < n then some (0x03, 6, abLength)
  else if leNat (b.drop (n - 4)) ≠ (crc32 (b.take (n - 4))).toNat then some (0x04, n - 4, abLength)
  else if 64 < leNat ((b.drop 4).take 1) then some (0x05, 4, abLength)
  else if !recs.2.2 || recs.2.1 != n - 4 then some (0x05, recs.2.1, abLength)
  else
    match rising recs.1 with
    | some r => some (0x06, r.at_, abLength)
    | none =>
      (firstBad 0x07 abLength (fun r => (rowOf (r.key / 256) (r.key % 256)).isSome) (fun r => r.at_) recs.1).orElse
      fun _ => (firstBad 0x08 abLength (fun r => courseMay r.key) (fun r => r.at_) recs.1).orElse
      fun _ => (firstBad 0x09 abLength recFits (fun r => r.at_ + 3) recs.1).orElse
      fun _ => firstBad 0x0A abRange (recInRange s) (fun r => r.at_ + 4) recs.1

/-- The value that a Course image gives an entry. -/
def courseValue (img : Bytes) (key : Nat) : Option Bytes :=
  ((entriesOf img).find? fun r => r.key == key).map fun r => r.value

/-- The source of a live value: the active Course, the Footing, the default (R169). -/
def sourceOf (s : State) (key : Nat) : Bytes :=
  match courseValue s.courses.image key with
  | some v => v
  | none => (footValue s.mortar key).getD (defaultOf key)

/-- Recompute some entries. -/
def recompute (keys : List Nat) (s : State) : State := keys.foldl (fun t k => setEntry k (sourceOf t k) t) s

/-- The hold H of QUIET in ms (R124). -/
def holdMs (s : State) : Nat :=
  liveNat s K.quietBase + (crc32 (leBytes 8 s.id.serial.toNat)).toNat % max 1 (liveNat s K.quietSpread)

/-- A switch to a target (R189): every entry that the outgoing or the incoming Course names is recomputed as one step. A
Course that changes QUIET_BASE or QUIET_SPREAD gives QUIET a new length from the same ready time (R126). -/
def switchCourse (target : Fin 16) (cause : Nat) (s : State) : State :=
  let old := s.courses.active
  let img := if target.val < 8 then (courseImage s.mortar target.val).getD [] else []
  let before := (entriesOf s.courses.image).map fun r => r.key
  let after := (entriesOf img).map fun r => r.key
  let keys := before ++ after.filter fun k => !before.contains k
  let s := recompute keys { s with courses := { s.courses with active := target, pend := none, image := img } }
  let s := if s.sys.dev = .quiet ∧ (keys.contains K.quietBase ∨ keys.contains K.quietSpread) then
      { s with boot := { s.boot with hold := holdMs s } }
    else s
  post evCourseSwitch 0 (BitVec.ofNat 32 (old.val + 256 * target.val + 65536 * cause)) s

/-- The pending switch, at a frame boundary (R188, R189); none is made between a clearing and the next reset (R180). -/
def pendingSwitch (s : State) : State :=
  match s.courses.pend.filter fun _ => !s.courses.cleared with
  | some p => switchCourse p.1 p.2.val s
  | none => s

end Sys2Proof.Machine
end

