-- ==== Sys2Proof/Machine/Dict.lean ====
section
/-! DEFINITION. The dictionary engine (R9, R155, R166 to R182): the tests of a request in the order of Table 7.2, the
effects of the requests that are accepted, and the requests that wait for a seal or for a frame boundary.
What the manual leaves open here and how the model reads it, with its mark: log entries 48 to 51 and 97. -/

namespace Sys2Proof.Machine

/-- The key of a request's entry. -/
def Request.key (r : Request) : Nat := r.index.toNat * 256 + r.sub.toNat

/-- The request is a write. -/
def Request.write (r : Request) : Bool := r.cmd == 2

/-- The value of a request as a number. -/
def Request.num (r : Request) : Nat := leNat r.value

/-- A key of IMAGE_LOAD, of IMAGE_COMMIT; its Course is the low byte of the index. -/
def isImageLoad (key : Nat) : Bool := decide (0xA100 ≤ key / 256) && key % 256 == 1
def isImageCommit (key : Nat) : Bool := decide (0xA100 ≤ key / 256) && key % 256 == 2
def courseOf (key : Nat) : Nat := key / 256 - 0xA100

/-- A w1 entry held in Mortar (R176), in fuses. -/
def onceKey (key : Nat) : Bool := inRun key K.key 8 || inRun key K.keyUse 8 || key == K.fpWriteLock
def fuseKey (key : Nat) : Bool := key == K.xoCfg || key == K.region

/-- The stored value of a w1 entry, none while it is unwritten. -/
def lockedValue (s : State) (key : Nat) : Option Bytes :=
  if key = K.xoCfg then s.id.xoCfg.map fun b => [b]
  else if key = K.region then s.id.region.map fun b => [b]
  else onceValue s.mortar key

/-- A write that R170 governs: it takes effect when its record has been sealed. -/
def persisted (key : Nat) : Bool :=
  (match rowOf (key / 256) (key % 256) with
   | some r => r.access == .rwp || r.access == .rwc
   | none => false) ||
  onceKey key || isImageCommit key || key == K.footingCmd || key == K.ledgerClear || key == K.decommission

-- Security (R478, R480)

/-- The value that DECOMMISSION must carry; none while KEY0 is unwritten. -/
def decomValue (s : State) : Option Bytes :=
  (keyOf s 0).map fun k =>
    aes k ([0x44, 0x45, 0x43, 0x4F] ++ leBytes 8 s.id.serial.toNat ++ leBytes 4 s.sec.decomCount.toNat)

/-- The port is the air. -/
def overAir : Port → Bool
  | .air _ => true
  | _ => false

/-- Security denies the request (Table 19.3). -/
def denied (s : State) (r : Request) : Bool :=
  let air := match r.port with
    | .air none => true
    | .air (some n) => !bit (keyUse s n.val) 1
    | _ => false
  let write := r.write && (
    (overAir r.port && (onceKey r.key || r.key == K.decommission)) ||
    (r.port == .field && fpLock s) ||
    (r.key == K.decommission && decomValue s != some r.value))
  air || (r.cmd == 1 && inRun r.key K.key 8) || write

-- State transitions (R172, Table 7.4)

/-- The transition to the state of a code is legal, or names the state in force. A stopped PLL does not bar SAFE to CONFIG
(R507 beside Table 7.4; DESIGN CHOICE, log entry 139). -/
def transitionLegal (s : State) (code : Nat) : Bool :=
  let d := s.sys.dev
  d.code == code ||
  (match d with
   | .config => code == 4 || code == 5 || code == 6
   | .run => code == 3 || code == 5 || code == 6
   | .maint => code == 3 || code == 4 || code == 6
   | .safe => s.sup.therm != 3 && (code == 3 || (code == 4 && !s.clk.xoFailed && !s.sys.skipped))
   | _ => false)

/-- Enter the state of a code. Leaving a state that transmits ends what has not been sent; a change of the device state
cancels the pending detections (Table 9.6). -/
def enterState (code : Nat) (s : State) : State :=
  let stop := fun (d : DevState) (s : State) =>
    let s := cancelDets 6 (fun _ => true) s
    let s := if s.radio.cca.isSome || (upFrame s).isSome || (upAck s).isSome then endAttempt s else s
    let s := { s with net := { s.net with reply := none, exch := none, again := none } }
    { s with sys := { s.sys with dev := d } }
  let s := if s.sys.dev.code = code then s
    else if code = 3 then stop .config s
    else if code = 4 then enterRun s
    else if code = 5 then
      let s := cancelDets 6 (fun _ => true) s
      { s with sys := { s.sys with dev := .maint } }
    else stop .safe s
  autoReceive s

-- The state rule (R174)

/-- The write is refused under the state rule; the answer says whether the radio state is the cause. `fits` says that
the value has the length of its type. -/
def stateRefusal (s : State) (key v : Nat) (fits : Bool) : Option Bool :=
  let config := s.sys.dev == .config
  let maint := config || s.sys.dev == .maint
  let rwc := (rowOf (key / 256) (key % 256)).any fun r => r.access == .rwc
  if rwc && !config then some false
  else if inRun key K.cnt 8 || key == K.ledgerClear then (if maint then none else some false)
  else if key == K.qPurge || key == K.footingCmd || key == K.decommission then (if config then none else some false)
  else if key == K.stateCmd then
    if s.sys.dev == .quiet || (fits && decide (3 ≤ v) && decide (v ≤ 6) && !transitionLegal s v) then some false else none
  else if key == K.radioCmd && fits && (v == 1 || v == 2 || v == 3 || v == 15) then
    match radioLegal s v with
    | .state radio => some radio
    | _ => none
  else if key == K.pstateCmd && fits && decide (1 ≤ v) && decide (v ≤ 3) then
    if (sleepLegal s v).1 then none else some (sleepLegal s v).2
  else if inRun key K.ckoCfg 4 && fits && ckoRuns s (key - K.ckoCfg) then
    let old := liveNat s key
    if field old 0 4 != field v 0 4 || (key == K.ckoCfg && bit old 24 != bit v 24) then some false else none
  else none

-- Busy (0x0402)

/-- A queue that holds a frame, takes one, or has still to be restored. -/
def occupied (s : State) (q : Nat) : Bool :=
  let v := getQueue s q
  !v.inCh.isEmpty || !v.outCh.isEmpty || (s.radio.commits.any fun c => c.queue == q) || s.sys.restore.contains q

/-- A Q_ATTR value changes a class bit of its queue (R337). -/
def classChanges (s : State) (v : Nat) : Bool :=
  let q := selQueue s
  attrOf s q % 16 != attrOf (setQAttr v s) q % 16

/-- A DEF_ATTR value changes a class bit while a queue that takes it is in use (R337). -/
def defaultInUse (s : State) (v : Nat) : Bool :=
  liveNat s K.defAttr % 16 != v % 16 &&
    ((s.qe.queues.map fun x => x.1) ++ (s.radio.commits.map fun c => c.queue) ++ s.sys.restore).any fun q =>
      !bit (getQueue s q).attr.toNat 15 && occupied s q

/-- The refusals with abort 0x0402. -/
def busyRefusal (s : State) (key v : Nat) (fits : Bool) : Bool :=
  (s.sup.sleepDue.isSome && key != K.resetCmd) ||
  ((hot s || s.sup.bodWarn) && persisted key) ||
  ((key == K.role || key == K.footingCmd) && (anyFrame s || !s.radio.commits.isEmpty || !s.sys.restore.isEmpty)) ||
  (key == K.courseReq && s.courses.cleared) ||
  (key == K.airDreq && s.net.dreq.isSome) ||
  (key == K.qPurge && s.sys.restore.contains (selQueue s)) ||
  (key == K.radioCmd && fits && (v == 1 || v == 2 || v == 3 || v == 15) && radioLegal s v == .busy) ||
  (key == K.qAttr && fits && classChanges s v && occupied s (selQueue s)) ||
  (key == K.defAttr && fits && defaultInUse s v)

-- Values of commands

/-- The partial load of a Course. -/
def loadOf (s : State) (c : Nat) : Bytes := (nth none s.courses.loads c).getD []

/-- The segment of an IMAGE_LOAD follows what has been loaded, or starts a new load, and stays within 1024 bytes. -/
def loadFits (s : State) (c : Nat) (value : Bytes) : Bool :=
  let o := leNat (value.take 2)
  (o == 0 || o == (loadOf s c).length) && decide (o + (value.length - 2) ≤ 1024)

/-- The fields of a STAGGER value (Table 16.1). -/
def stgMaskOf (v : Bytes) : Nat := leNat (v.take 2)
def stgBaseOf (v : Bytes) : Time48 := BitVec.ofNat 48 (leNat ((v.drop 4).take 6))
def stgSpaceOf (v : Bytes) : Nat := leNat ((v.drop 12).take 4)
def stgPerOf (v : Bytes) : Nat := leNat ((v.drop 16).take 4)

/-- A target of COURSE_REQ that may be switched to (R188). -/
def targetOk (s : State) (t : Nat) : Bool := t == 15 || (decide (t < 8) && (courseImage s.mortar t).isSome)

/-- The values that the command entries take. -/
def commandOk (s : State) (key : Nat) (value : Bytes) : Bool :=
  let v := leNat value
  if key = K.stateCmd then decide (3 ≤ v) && decide (v ≤ 6)
  else if key = K.radioCmd then v == 1 || v == 2 || v == 3 || v == 15
  else if key = K.pstateCmd then decide (1 ≤ v) && decide (v ≤ 3)
  else if key = K.resetCmd then v == 0xA55A
  else if key = K.footingCmd then v == 0xC1EA
  else if key = K.ledgerClear then v == 0x1ED6
  else if key = K.qPurge || key = K.snapCmd || key = K.telemClear || key = K.adcCmd then v == 1
  else if key = K.courseReq then targetOk s v
  else if key = K.stagger then !staggerBad (stgMaskOf value) (stgBaseOf value) (stgSpaceOf value) s
  else if key = K.airDreq then decide (7 ≤ value.length)
  else if isImageLoad key then loadFits s (courseOf key) value
  else true

-- Records (R179, R300, R337, R395, Table 15.8)

/-- The FTAB record of a block of the poll table, of the queue-attribute table, as it will read. -/
def pollBlock (a : Nat) (s : State) : NewRec :=
  ⟨rtFtab, 65536 + a / 256, (List.range 256).map fun i => tabGet 0 (a / 256 * 256 + i) s.net.polls⟩
def attrBlock (q : Nat) (s : State) : NewRec :=
  ⟨rtFtab, 131072 + q / 128, ((List.range 128).map fun i => leBytes 2 (getQueue s (q / 128 * 128 + i)).attr.toNat).flatten⟩

/-- The slot that a new image of a Course takes: the one its live commit does not name. -/
def newSlot (s : State) (c : Nat) : Nat :=
  match courseCommit s.mortar c with
  | some (slot, _) => if slot = 0 then 1 else 0
  | none => 0

/-- The fragments of an image and its commit (Table 15.8). -/
def imageRecords (s : State) (c : Nat) (b : Bytes) : List NewRec :=
  let n := (b.length + 255) / 256
  let slot := newSlot s c
  ((List.range n).map fun f => (⟨rtCimg, c * 256 + slot * 16 + f, (b.drop (256 * f)).take 256⟩ : NewRec)) ++
    [⟨rtCcmt, c, [BitVec.ofNat 8 slot, BitVec.ofNat 8 n] ++ leBytes 2 b.length ++ b.drop (b.length - 4)⟩]

/-- The keys that DECOMMISSION returns to unwritten (R478). -/
def onceKeys : List Nat :=
  ((List.range 8).map fun n => K.key + n) ++ ((List.range 8).map fun n => K.keyUse + n) ++ [K.fpWriteLock]

/-- The records that a write must seal; none for one that changes nothing stored. -/
def recordsOf (s : State) (key : Nat) (value : Bytes) : List NewRec :=
  if onceKey key then
    if (lockedValue s key).isSome || value == defaultOf key then [] else [⟨rtOnce, key, value⟩]
  else if key = K.footingCmd then [⟨rtFclr, 0, []⟩]
  else if key = K.ledgerClear then [⟨rtLedger, 0, ledgerEntryBytes (selQueue s, false, 0)⟩]
  else if isImageCommit key then imageRecords s (courseOf key) (loadOf s (courseOf key))
  else if key = K.decommission then onceKeys.map fun k => ⟨rtOnce, k, []⟩
  else if key = K.pollAttr then [pollBlock (liveNat s K.pollSel) (setEntry key value s)]
  else if key = K.qAttr then [attrBlock (selQueue s) (setEntry key value s)]
  else [⟨rtFoot, key, stored key value⟩]

-- The judgement (Table 7.2)

/-- The outcome of the tests. -/
inductive Verdict where
  | ok
  | abort (code : Half)
  | gated (block : Nat)
  | state (radio : Bool)
  | denied
  | locked
  | image (reason place : Nat) (code : Half)
  deriving DecidableEq, Repr

/-- The longest value that a response may carry (R155, R307). -/
def valueLimit (p : Port) : Nat := if overAir p then 193 else 248

/-- The tests that stand before the not-ready refusal (R119). -/
def earlyTests (s : State) (r : Request) : Option Verdict :=
  if denied s r then some .denied
  else if !indexKnown r.index.toNat then some (.abort abNoIndex)
  else
    match rowOf r.index.toNat r.sub.toNat with
    | none => some (.abort abNoSub)
    | some row =>
      match (gateOfEntry r.index.toNat r.sub.toNat).filter fun b => !blockOpen s b with
      | some b => some (.gated b)
      | none =>
        if r.write && row.access == .ro then some (.abort abReadOnly)
        else if r.cmd == 1 && row.access == .wo then some (.abort abWriteOnly) else none

/-- The request is refused as not ready (R119, Table 7.3). -/
def notReady (s : State) (r : Request) : Bool :=
  !s.sys.ready && !(s.sys.dev == .boot && r.cmd == 1 && (r.index == 0x1000 || r.index == 0x1020))

/-- The tests of a write from the state rule on. -/
def writeTests (s : State) (row : Row) (r : Request) : Verdict :=
  let key := r.key
  let fits := row.ty.fits r.value.length
  match stateRefusal s key r.num fits with
  | some radio => .state radio
  | none =>
    if busyRefusal s key r.num fits then .abort abBusy
    else if !fits || (isImageLoad key && decide (r.value.length < 2)) then .abort abLength
    else
      match (if isImageCommit key then imageCheck s (courseOf key) (loadOf s (courseOf key)) r.num else none) with
      | some (reason, place, code) => .image reason place code
      | none =>
        if !row.inRange r.value || !settingOk s key r.value || !commandOk s key r.value then .abort abRange
        else if (onceKey key || fuseKey key) && (lockedValue s key).any (fun v => v != stored key r.value) then .locked
        else if persisted key && (s.mortar.state != 1 || overLimit s (recordsOf s key r.value)) then .abort abPersist
        else .ok

/-- All the tests. -/
def judge (s : State) (r : Request) : Verdict :=
  match earlyTests s r with
  | some v => v
  | none =>
    if notReady s r then .abort abBusy
    else
      match rowOf r.index.toNat r.sub.toNat with
      | none => .abort abNoSub
      | some row =>
        if r.write then writeTests s row r
        else if r.cmd != 1 || !r.value.isEmpty || decide (valueLimit r.port < (readEntry s r.key).length) then
          .abort abLength
        else .ok

-- Responses

/-- The response PDU (Table 6.8). -/
def responsePdu (r : Request) (code : Half) (value : Bytes) : Bytes :=
  [r.cmd ||| 0x80, r.tag] ++ leBytes 2 r.index.toNat ++ [r.sub] ++ leBytes 2 code.toNat ++ value

/-- Hand the response to the port of the request. A broadcast over the field port is not answered (R159). -/
def respond (r : Request) (code : Half) (value : Bytes) (s : State) : State :=
  let pdu := responsePdu r code value
  match r.port with
  | .spi => { s with spi := { s.spi with resp := some pdu, asked := false } }
  | .field => { s with field := if s.field.mute then { s.field with busy := false, mute := false }
      else { s.field with reply := some pdu } }
  | .air _ => { s with net := { s.net with held := some pdu } }

/-- The access to a gated block: GATE_ERR with the argument of Table 4.3, the log and the count (R86). -/
def gateError (addr block : Nat) (write dict : Bool) (source : Nat) (s : State) : State :=
  let arg := BitVec.ofNat 32 (addr + 2 ^ 16 * block + 2 ^ 24 * b2n write + 2 ^ 25 * b2n dict + 2 ^ 26 * source)
  post evGateErr 0 arg { s with clk := { s.clk with gateLog := arg, gateCount := inc s.clk.gateCount } }

/-- A refused request: what its abort does besides, and the response. A refused IMAGE_COMMIT keeps the bytes loaded (R187;
DESIGN CHOICE, log entry 140). -/
def refuse (r : Request) (v : Verdict) (s : State) : State :=
  match v with
  | .ok => s
  | .abort code =>
    let s := if code = abRange ∧ r.write = true ∧ isImageLoad r.key = true ∧ loadFits s (courseOf r.key) r.value = false then
        { s with courses := { s.courses with loads := setNth s.courses.loads (courseOf r.key) none } }
      else s
    respond r code [] s
  | .gated b => respond r abGated [] (gateError r.index.toNat b r.write true (portCode r.port) s)
  | .state radio =>
    respond r abState [] (illegalState r.index.toNat r.sub.toNat r.write true (portCode r.port) radio s)
  | .denied => respond r abSecurity [] { s with sec := { s.sec with denied := inc s.sec.denied } }
  | .locked => respond r abLocked [] (lockViolation r.index.toNat r.sub.toNat true (portCode r.port) s)
  | .image reason place code =>
    respond r code [] { s with courses := { s.courses with err := BitVec.ofNat 32 (reason + 65536 * place) } }

-- Effects

/-- The effect of an accepted write that needs no record; `codes` are the conversions of a sequence that it starts. A
write of STAGGER computes the compare values and leaves the registers STGMASK, STGBASE, STGSPACE and STGPER as they are
(R8, R414; DESIGN CHOICE, log entry 120). -/
def writeEffect (r : Request) (codes : List AdcCode) (s : State) : State :=
  let key := r.key
  let v := r.num
  if key = K.xoCfg then
    if stored key r.value = defaultOf key then s else { s with id := { s.id with xoCfg := (stored key r.value).head? } }
  else if key = K.region then
    if v = 0 then s else { s with id := { s.id with region := r.value.head? } }
  else if onceKey key then s
  else if key = K.radioCmd then radioCommand v s
  else if key = K.courseReq then { s with courses := { s.courses with pend := some (Fin.ofNat 16 v, 0) } }
  else if isImageLoad key then
    let o := leNat (r.value.take 2)
    let b := (if o = 0 then [] else loadOf s (courseOf key)) ++ r.value.drop 2
    { s with courses := { s.courses with loads := setNth s.courses.loads (courseOf key) (some b) } }
  else if key = K.qPurge then purge (selQueue s) s
  else if key = K.snapCmd then snapshot s
  else if key = K.stagger then
    staggerGo (stgMaskOf r.value) (stgBaseOf r.value) (stgSpaceOf r.value) (stgPerOf r.value) s
  else if key = K.cmpStat then clearCmpStat v s
  else if key = K.adcCmd then adcBegin codes s
  else if key = K.telemClear then telemClear s
  else if key = K.airDreq then setDreq r.value s
  else setEntry key r.value s

/-- What a write does once its records are sealed (R170). -/
def sealedEffect (key : Nat) (value : Bytes) (s : State) : State :=
  if onceKey key then s
  else if key = K.footingCmd then { s with courses := { s.courses with cleared := true, pend := none } }
  else if key = K.ledgerClear then
    let q := selQueue s
    setQueue q { getQueue s q with valid := false, lastSeq := 0 } s
  else if isImageCommit key then
    let c := courseOf key
    let s := { s with courses := { s.courses with loads := setNth s.courses.loads c none } }
    if s.courses.active.val = c ∧ s.courses.cleared = false then
      { s with courses := { s.courses with pend := some (Fin.ofNat 16 c, 2) } }
    else s
  else if key = K.decommission then
    { s with sec := { s.sec with high := 0, map := 0, valid := false, decomCount := inc s.sec.decomCount } }
  else if key = K.role then setLive s key value
  else setEntry key value { s with qe := { s.qe with classChange := none } }

/-- A read, with what reading does (R420, R421). -/
def readEffect (key : Nat) (s : State) : State :=
  if inRun key K.cappVal 8 then clearNew (key - K.cappVal) true true s
  else if inRun key K.capsVal 4 then clearNew (8 + (key - K.capsVal)) true true s
  else s

/-- Put the records of a write before the writer, at source 2 of R383, and what R12 and R512 say holds from then on. -/
def askSeal (r : Request) (recs : List NewRec) (s : State) : State :=
  let was := s.sys.rolePending
  let ends := (r.key == K.role && r.num != s.sys.role.code) || r.key == K.footingCmd
  let change := r.key == K.qAttr && classChanges s r.num
  { s with
    engine := { s.engine with job := some (r, .seal was) }
    mortar := { s.mortar with waiting2 := s.mortar.waiting2 ++ [⟨recs, .request, false⟩] }
    sys := { s.sys with rolePending := was || ends }
    qe := if change then { s.qe with classChange := some (selQueue s) } else s.qe }

/-- A state transition at a frame boundary: a pending Course switch comes first (R194), and the transition is judged
again (R173). The answer is the abort. -/
def transitionAt (addr sub : Nat) (dict : Bool) (source code : Nat) (s : State) : Half × State :=
  let s := pendingSwitch s
  if transitionLegal s code then (abOk, enterState code s)
  else (abState, illegalState addr sub true dict source false s)

/-- Serve an accepted request: at once, or as a job that waits. -/
def perform (r : Request) (codes : List AdcCode) (s : State) : State :=
  if !r.write then respond r abOk (readEntry s r.key) (readEffect r.key s)
  else if r.key = K.stateCmd then
    if s.sys.dev.code = r.num then respond r abOk [] s
    else if atBoundary s then
      let x := transitionAt r.index.toNat r.sub.toNat true (portCode r.port) r.num s
      respond r x.1 [] x.2
    else { s with engine := { s.engine with job := some (r, .boundary (Fin.ofNat 8 r.num)) } }
  else if r.key = K.pstateCmd then requestSleep (Fin.ofNat 8 r.num) (respond r abOk [] s)
  else if r.key = K.resetCmd then
    let s := respond r abOk [] s
    { s with boot := { s.boot with resetDue := true, resetPort := r.port } }
  else if persisted r.key then
    let recs := recordsOf s r.key r.value
    if recs.isEmpty then respond r abOk [] s else askSeal r recs s
  else respond r abOk [] (writeEffect r codes s)

/-- Serve a request: the tests, then its effect. -/
def serve (r : Request) (codes : List AdcCode) (s : State) : State :=
  match judge s r with
  | .ok => perform r codes s
  | v => refuse r v s

/-- Serve the requests that wait while the engine is free, in the order in which they reached it (R9). -/
def drain : Nat → State → State
  | 0, s => s
  | n + 1, s =>
    if s.engine.job.isSome then s
    else
      match s.engine.waits with
      | r :: rest => drain n (serve r [] { s with engine := { s.engine with waits := rest } })
      | [] => s

/-- A request reaches the engine: it is served, or waits for the one being served. -/
def reach (r : Request) (codes : List AdcCode) (s : State) : State :=
  if s.engine.job.isSome then { s with engine := { s.engine with waits := s.engine.waits ++ [r] } }
  else serve r codes s

/-- No port can be used: the device sleeps, or is held in reset, or has no supply. -/
def absent (s : State) : Bool := asleep s || s.boot.held || s.sup.power == .off

/-- An event that only the working device meets: in sleep, in reset and without supply it does not come about. -/
def present (f : State → State) (s : State) : State := if absent s then s else f s

/-- A request of the air is in the engine or waits for it. -/
def airAsked (s : State) : Bool :=
  (s.engine.waits.any fun r => overAir r.port) || (s.engine.job.any fun j => overAir j.1.port)

/-- A port presents a request. The SPI port holds one response at a time (R149); the field port serves one request at a
time (R159); a DQ that arrives while a response is held is discarded (R307). -/
def submit (r : Request) (codes : List AdcCode) (s : State) : State :=
  if absent s then s
  else
    match r.port with
    | .spi =>
      if s.spi.asked || s.spi.resp.isSome then spiError errBusy s
      else reach r codes { s with spi := { s.spi with asked := true } }
    | .field => if s.field.busy then s else reach r codes { s with field := { s.field with busy := true } }
    | .air _ => if s.net.held.isSome || airAsked s then s else reach r codes s

/-- A write request. -/
def writeRequest (port : Port) (tag : Byte) (key : Nat) (value : Bytes) : Request :=
  ⟨port, 2, tag, BitVec.ofNat 16 (key / 256), BitVec.ofNat 8 (key % 256), value⟩

/-- A read request. -/
def readRequest (port : Port) (tag : Byte) (key : Nat) : Request :=
  ⟨port, 1, tag, BitVec.ofNat 16 (key / 256), BitVec.ofNat 8 (key % 256), []⟩

/-- A request as a PDU spells it (Table 6.7): at least five bytes. -/
def requestOf (port : Port) (pdu : Bytes) : Request :=
  ⟨port, (pdu[0]?).getD 0, (pdu[1]?).getD 0, BitVec.ofNat 16 (leNat ((pdu.drop 2).take 2)), (pdu[4]?).getD 0, pdu.drop 5⟩

-- Between two requests

/-- A request in the engine waits for the seal of its records. -/
def sealing (s : State) : Bool :=
  match s.engine.job with
  | some (_, .seal _) => true
  | _ => false

/-- What a frame boundary applies while the engine is between two requests: the pending switch first, then the
transition that a register write left waiting (R189, R194). -/
def atBoundaryWork (s : State) : State :=
  if !atBoundary s || sealing s then s
  else
    let s := pendingSwitch s
    match s.engine.regTarget with
    | some t => (transitionAt 0x0004 0 false 0 t.val { s with engine := { s.engine with regTarget := none } }).2
    | none => s

/-- Which write FP_ADDR and FP_BAUD come from: one of the field port is held until its reply has gone (R160). -/
def ownConfig (r : Request) (s : State) : State :=
  if r.key = K.fpAddr ∨ r.key = K.fpBaud then
    let rest := if s.field.own = some r.key then none else s.field.own
    { s with field := { s.field with own := if r.port == .field && !s.field.mute then some r.key else rest } }
  else s

/-- The records of the request in the engine have been sealed. What a boundary left waiting for the engine is applied
before the next request is served (R189). -/
def sealDone (s : State) : State :=
  match s.engine.job with
  | some (r, .seal _) =>
    let s := sealedEffect r.key r.value (ownConfig r { s with engine := { s.engine with job := none } })
    drain 3 (atBoundaryWork (respond r abOk [] s))
  | _ => s

/-- The records of the request in the engine cannot be sealed: abort 0x0601, and nothing has changed (R170, R387). A
Course commit keeps the bytes loaded (R187; DESIGN CHOICE, log entry 140). -/
def sealFailed (s : State) : State :=
  match s.engine.job with
  | some (r, .seal was) =>
    let s := { s with
      engine := { s.engine with job := none }
      sys := { s.sys with rolePending := was }
      qe := if r.key = K.qAttr then { s.qe with classChange := none } else s.qe }
    drain 3 (atBoundaryWork (respond r abPersist [] s))
  | _ => s

/-- FRAME_BOUNDARY (R189, R173, R194): a pending switch, while the engine is between two requests; then the transitions
that wait for the boundary; then what a frame's end lets happen. -/
def frameBoundary (s : State) : State :=
  if !atBoundary s || absent s then s
  else
    let s := atBoundaryWork s
    let s := match s.engine.job with
      | some (r, .boundary t) =>
        let x := transitionAt r.index.toNat r.sub.toNat true (portCode r.port) t.val
          { s with engine := { s.engine with job := none } }
        drain 3 (respond r x.1 [] x.2)
      | _ => s
    sendFacks (settle (endSecond (cancelChanged (retuneRx (settingsInForce s)))))

end Sys2Proof.Machine
end

