-- ==== Sys2Proof/Machine/Writer.lean ====
section
/-! DEFINITION. The writer's turn: MORTAR_APPEND at sources 2, 3 and 4 of R383, APPEND_TIMEOUT and ERASE_END.
What the manual leaves open here and how the model reads it, with its mark: log entries 49, 87 and 88. -/

namespace Sys2Proof.Machine

/-- An append of source 2, of source 3, of source 4 has to wait: WRITE_STALLS counts it once (R387). -/
def stall2 (s : State) : State :=
  match s.mortar.waiting2 with
  | a :: l =>
    if a.stalled then s
    else { s with mortar := { s.mortar with
      waiting2 := { a with stalled := true } :: l, writeStalls := inc s.mortar.writeStalls } }
  | [] => s
def stall3 (s : State) : State :=
  if s.mortar.stalled3 then s
  else { s with mortar := { s.mortar with stalled3 := true, writeStalls := inc s.mortar.writeStalls } }
def stall4 (s : State) : State :=
  if s.mortar.stalled4 then s
  else { s with mortar := { s.mortar with stalled4 := true, writeStalls := inc s.mortar.writeStalls } }

/-- The station table takes the record of a JOIN (R310). -/
def recordStation (a : Nat) (st : Station) (s : State) : State :=
  { s with net := { s.net with
    stations := tabSet none a (some st) s.net.stations, joinCount := inc s.net.joinCount } }

/-- The ledger window that a JOIN clears is sealed: the window is clear, and the JOIN may be acknowledged (R362). -/
def joinCleared (q : Nat) (st : Station) (tag : Half) (s : State) : State :=
  let s := recordStation q st (setQueue q { getQueue s q with valid := false, lastSeq := 0 } s)
  { s with radio := { s.radio with
    acks := s.radio.acks.map fun a => if a.tag = tag then { a with armed := true } else a } }

/-- The window cannot be sealed: the JOIN is not acknowledged. -/
def joinUncleared (tag : Half) (s : State) : State :=
  { s with radio := { s.radio with acks := s.radio.acks.filter fun a => a.tag != tag || a.armed } }

/-- The first append that waits at source 2 has been sealed, or cannot be. A sleep that waits for it may then begin. -/
def end2 (done : Bool) (s : State) : State :=
  match s.mortar.waiting2 with
  | [] => s
  | a :: l =>
    let s := { s with mortar := { s.mortar with waiting2 := l } }
    finishSleep (match a.owner with
      | .request => if done then sealDone s else sealFailed s
      | .joinClear q st tag => if done then joinCleared q st tag s else settle (joinUncleared tag s))

/-- The supply is lost inside the append. -/
def isTorn : AppendEnd → Bool
  | .torn _ _ => true
  | .tornOpen .. => true
  | _ => false

/-- An append of source 2. A batch for which no sector may be opened waits whole; what a failing program has closed stays
closed. -/
def append2 (a : Append2) (ending : AppendEnd) (s : State) : State :=
  let x := appendBatch 3 (hotWrite s) ending a.recs s.mortar
  if hot s then stall2 s
  else if isTorn ending then { s with mortar := { x.1 with waiting2 := x.1.waiting2.drop 1 } }
  else if !x.2.isEmpty then stall2 { s with mortar := failedFirst 3 ending a.recs s.mortar }
  else if overLimit s a.recs then end2 false s
  else end2 true { s with mortar := x.1 }

/-- The records that source 3 offers: the stage, then the LEDGER records of the dirty windows. -/
def source3 (s : State) : List NewRec := s.jrn.stage ++ ledgerRecs (dirtyEntries s).length (dirtyEntries s)

/-- `n` records of source 3 have been sealed: each frees the space it held, and JREL entries that waited are staged. -/
def freeStage (n : Nat) (s : State) : State := stageWaiting { s with jrn := { s.jrn with stage := s.jrn.stage.drop n } }

/-- Sources 3 and 4 may program now: no HOT, no erase in progress, which they wait for (R385, R397). -/
def lowMayProgram (s : State) : Bool := !hot s && s.mortar.erasing.isNone

/-- An append of source 3, of at most `n` records. It has been counted once, however often it waits. -/
def append3 (n : Nat) (ending : AppendEnd) (s : State) : State :=
  let rs := (source3 s).take n
  let x := appendBatch 3 (hotWrite s) ending rs s.mortar
  if !lowMayProgram s || overLimit s rs then stall3 s
  else if isTorn ending then { s with mortar := x.1 }
  else
    let s := freeStage (rs.length - x.2.length) { s with mortar := x.1 }
    if x.2.isEmpty then { s with mortar := { s.mortar with stalled3 := false } } else stall3 s

/-- An append of source 4, of at most `n` records. -/
def append4 (n : Nat) (ending : AppendEnd) (s : State) : State :=
  let rs := s.mortar.waiting4.take n
  let x := appendBatch 3 (hotWrite s) ending rs s.mortar
  if !lowMayProgram s || overLimit s rs then stall4 s
  else if isTorn ending then { s with mortar := x.1 }
  else
    let s := { s with mortar := { x.1 with waiting4 := x.1.waiting4.drop (rs.length - x.2.length) } }
    if x.2.isEmpty then { s with mortar := { s.mortar with stalled4 := false } } else stall4 s

/-- The appends of sources 3 and 4 that have to wait behind a higher source, and all of them under BOD_WARN and in a
read-only store, are counted in WRITE_STALLS (R387). -/
def stallLower (three four : Bool) (s : State) : State :=
  let s := if three && !(source3 s).isEmpty then stall3 s else s
  if four && !s.mortar.waiting4.isEmpty then stall4 s else s

/-- MORTAR_APPEND: the highest source that has work takes its turn (R383), with at least one record. -/
def mortarAppend (records : Nat) (ending : AppendEnd) (s : State) : State :=
  let n := max 1 records
  if (s.mortar.state != 1 && s.mortar.state != 2) || absent s then s
  else
    let s := tidyFlash s
    if s.mortar.state != 1 then
      stallLower true true (if s.mortar.waiting2 = [] then s else stall2 s)
    else
      match s.mortar.waiting2 with
      | a :: _ => append2 a ending (stallLower true true s)
      | [] =>
        if s.sup.bodWarn then stallLower true true s
        else if !(source3 s).isEmpty then append3 n ending (stallLower false true s)
        else if !s.mortar.waiting4.isEmpty then append4 n ending s
        else s

-- Compaction and refresh (R393 to R397)

/-- A higher source than compaction has an append that is not held up (R383). One that waits for space lets compaction
make it. -/
def higherWaits (s : State) : Bool :=
  (s.mortar.waiting2.head?.any fun a => !a.stalled) || (!(source3 s).isEmpty && !s.mortar.stalled3) ||
    (!s.mortar.waiting4.isEmpty && !s.mortar.stalled4)

/-- Compact a pair: append its live records, then begin the erase of both its sectors. Nothing happens unless every
copy can be sealed, while another erase is in progress, or while a higher source has its turn. -/
def compactPair (p : Pair) (s : State) : Option State :=
  let m0 := if p.full then s.mortar else closePair s.mortar
  let (m1, left) := appendAll 2 (hotWrite s) (copiesOf s.mortar p) m0
  if left = [] ∧ s.mortar.erasing = none ∧ higherWaits s = false then
    let m2 := { m1 with
      pairs := m1.pairs.filter fun x => x.sseq != p.sseq
      refresh := m1.refresh.filter fun x => x.1 != p.sseq
      erasing := some (p.secA, p.secB) }
    some { s with mortar := setUse p.secB .dirty (setUse p.secA .dirty m2) }
  else none

/-- The pair holds a live hot-written record. -/
def hotPair (m : Mortar) (p : Pair) : Bool := (liveOf m p).any fun r => r.hot

/-- Refresh a pair with a reason of Table 15.9: compact it out of turn, count, and post MORTAR_REFRESH (R396). -/
def refreshPair (p : Pair) (reason : Nat) (s : State) : Option State :=
  match compactPair p s with
  | none => none
  | some s1 =>
    let moved := (liveOf s.mortar p).length
    let weak := reason == 1 || reason == 3
    let m : Mortar := { s1.mortar with
      refreshes := inc s1.mortar.refreshes
      weakAt := if weak then s1.mortar.weakAt ++ [(p.secA, s.timer.time.toNat), (p.secB, s.timer.time.toNat)]
        else s1.mortar.weakAt }
    let worn := fun (i : Nat) =>
      let recent := m.weakAt.filter fun x => x.1 == i && decide (s.timer.time.toNat < x.2 + 30 * 86400 * 1000000)
      decide (3 ≤ recent.length)
    let m := { m with failing := m.failing ++ ([p.secA, p.secB].filter worn) }
    some (post evMortarRefresh (BitVec.ofNat 16 p.secA)
      (BitVec.ofNat 32 (reason + 256 * p.secB + 65536 * (moved % 65536))) { s1 with mortar := m })

/-- The flash may be programmed and erased by background work: mounted, no HOT, no BOD_WARN (R50, R397, R399). -/
def backgroundFlash (s : State) : Bool :=
  (s.mortar.state == 1 || s.mortar.state == 2) && !hot s && !s.sup.bodWarn

/-- The least-erased CLOSED sector's pair in a chain whose ERASES range exceeds 1 000 (R394). -/
def wearPair (m : Mortar) : Option Pair :=
  let closed := m.pairs.filter fun p => p.full
  let due := fun a =>
    let l := ((chainSectors m a).filter fun x => x.2.use == .prepared ||
      closed.any fun p => p.secA == x.1 || p.secB == x.1).map fun x => x.2.erases.toNat
    decide (1000 < listMax l - listMin l)
  let sec := fun (a : Bool) (p : Pair) => (nth ⟨.unassigned, 0⟩ m.sectors (if a then p.secA else p.secB)).erases.toNat
  let pick := fun a => closed.find? fun p => sec a p == listMin (closed.map (sec a))
  if due true then pick true else if due false then pick false else none

/-- COMPACTION (R387, R393, R394): while PREPARED sectors number 4 or fewer in a chain, or a refresh is due. -/
def compact (s : State) : State :=
  if !backgroundFlash s then s
  else
    let s := tidyFlash s
    match s.mortar.refresh with
    | (q, reason) :: _ =>
      match s.mortar.pairs.find? fun p => p.sseq == q with
      | some p => (refreshPair p reason s).getD s
      | none => { s with mortar := { s.mortar with refresh := s.mortar.refresh.tail } }
    | [] =>
      if prepared s.mortar true ≤ 4 ∨ prepared s.mortar false ≤ 4 then
        match wearPair s.mortar with
        | some p => (refreshPair p 4 s).getD s
        | none =>
          match s.mortar.pairs with
          | p :: _ => (compactPair p s).getD s
          | [] => s
      else s

/-- HOT_REFRESH (R397): once NORMAL, each pair that holds a live hot-written record is refreshed with reason 2. Those
that cannot be refreshed now wait. -/
def hotRefresh (s : State) : State :=
  if backgroundFlash s && s.sup.therm == 0 then
    (s.mortar.pairs.filter (hotPair s.mortar)).foldl (fun t p =>
      (refreshPair p 2 t).getD { t with mortar := { t.mortar with
        refresh := if t.mortar.refresh.any (fun x => x.1 == p.sseq) then t.mortar.refresh
          else t.mortar.refresh ++ [(p.sseq, 2)] } }) s
  else s

/-- Both copies of record `i` of a pair fail their CRC: it is damaged, and REPAIR is posted (R391). What it held is not
read again; a live value that it had set stays until the Footing is read (log entry 131). -/
def damageRec (p : Pair) (i : Nat) (s : State) : State :=
  match p.recs[i]? with
  | none => s
  | some r =>
    let bad := { p with recs := setNth p.recs i { r with okA := false, okB := false } }
    postRepair 0x08 (2 ^ 24 * r.type.toNat + r.key % 2 ^ 24) { s with mortar := { s.mortar with
      pairs := s.mortar.pairs.map fun q => if q.sseq = p.sseq then bad else q } }

/-- MARGIN_SCAN (R396): the records of a pair are read; what is found starts a refresh, at once or when it can run.
A pair that holds a copy bad at the normal threshold keeps the other copy. -/
def marginScan (sseq : Nat) (found : Margin) (s : State) : State :=
  if !backgroundFlash s then s
  else
    match s.mortar.pairs.find? fun p => p.sseq == sseq with
    | none => s
    | some p =>
      let start := fun reason =>
        (refreshPair p reason s).getD { s with mortar := { s.mortar with
          refresh := if s.mortar.refresh.any (fun x => x.1 == p.sseq) then s.mortar.refresh
            else s.mortar.refresh ++ [(p.sseq, reason)] } }
      match found with
      | .clean => s
      | .weak => start 1
      | .oneCopyBad => start 3
      | .bothBad i => damageRec p i s

/-- BOD_WARN rejects a Course commit that has not been sealed (R187). -/
def rejectImage (s : State) : State :=
  match s.engine.job with
  | some (r, .seal _) =>
    if s.sup.bodWarn && isImageCommit r.key then
      sealFailed { s with mortar := { s.mortar with
        waiting2 := s.mortar.waiting2.filter fun a => a.owner != .request } }
    else s
  | _ => s

/-- What BOD_WARN settles outside the supply: a Course commit that is not sealed, and a sleep that waited only for what
BOD_WARN has dropped (R40, R187). -/
def bodSettled (s : State) : State := finishSleep (rejectImage s)

/-- APPEND_TIMEOUT (R387): the first append of source 2 has waited 40 ms and is rejected. -/
def appendTimeout (s : State) : State := end2 false (stall2 s)

/-- ERASE_END (R393): the erase of both sectors of a pair ends. An erase that is suspended does not end. -/
def eraseEnd (okA okB : Bool) (s : State) : State :=
  match s.mortar.erasing with
  | none => s
  | some (a, b) =>
    if absent s then s
    else endErase b okB (endErase a okA { s with mortar := { s.mortar with erasing := none } })

end Sys2Proof.Machine
end

