-- ==== Sys2Proof/Machine/Receive.lean ====
section
/-! DEFINITION. Reception: the confirmation of a detection, the noise floor, the ends of frames, the six frame types as
they are received whole, ACKs, and the air commit (files 8 to 12, 14 and 19).
What the manual leaves open here and how the model reads it, with its mark: log entries 66 to 68, 74 to 76 and 84. -/

namespace Sys2Proof.Machine

-- Confirmation (R225, R237, R252, R262, R268)

/-- LENGTH of a header. -/
def headerLength (mosaic : Bool) (h : Bytes) : Nat :=
  if mosaic then leNat (h.take 2) % 1024 else leNat (h.take 1)

/-- The header passes its CRC-8, and in Mosaic mode its fields are valid (R252, R262). -/
def headerOk (mosaic : Bool) (h : Bytes) : Bool :=
  let n := if mosaic then 3 else 2
  let v := leNat (h.take 2)
  h.length == n + 1 && crc8 (h.take n) == (h[n]?).getD 0 &&
    (!mosaic || (field v 10 2 != 3 && field v 12 4 == 0))

/-- Bits in which the window differs from SYNC_WORD (R225); a Mosaic detection has no sync word. -/
def syncErrors (s : State) (d : Det) (c : Confirm) : Nat :=
  if d.seen.sf = 7 then 0 else popCount (c.window.toNat ^^^ phyNat s K.syncWord)

/-- The frozen frequency offset in units of 0.25 Hz (R227, R264): from the centre of the bin, whose width is an eighth
of the chip rate; in Mosaic mode the sum of the two estimates, the coarse one within ±4 kHz. -/
def afcQuarters (s : State) (d : Det) (c : Confirm) : Int :=
  if d.seen.sf = 7 then max (-16000) (min 16000 c.coarse) + c.fine
  else (2 * d.seen.bin.toInt + 1) * (chipRateHz (phyNat s K.chipRate) / 4 : Nat) + c.coarse

/-- A value in units of 0.25 Hz as AFC_HZ gives it; of one between two whole Hz either is given. -/
def wholeHz (x : Int) (s : State) : Int × State :=
  if x % 4 = 0 then (x / 4, s)
  else
    let y := freeBits 1 s
    (x / 4 + (y.1 : Int), y.2)

/-- The taps of a path that receives the channel in Mosaic mode, trained from its LTS (R264). -/
def trained (s : State) (d : Det) (p : Path) (y : List (Cx × Cx)) (old : List Cx) : List Cx :=
  if d.seen.sf == 7 && (pathsOf s d.seen.chan).contains p then trainTaps y else old

/-- What a confirmation latches (Table 8.7, R227, R264, R270). -/
def latchSync (d : Det) (c : Confirm) (s : State) : State :=
  let x := wholeHz (afcQuarters s d c) s
  let s := x.2
  { s with rx := { s.rx with
    rssiA := if d.seen.pathA then clipRssi c.rssiA else s.rx.rssiA
    rssiB := if d.seen.pathB then clipRssi c.rssiB else s.rx.rssiB
    provA := if d.seen.pathA then clipRssi c.rssiA else s.rx.provA
    provB := if d.seen.pathB then clipRssi c.rssiB else s.rx.provB
    afcHz := BitVec.ofInt 32 x.1
    snr := BitVec.ofInt 16 c.snr
    length := BitVec.ofNat 16 (headerLength (d.seen.sf == 7) c.header)
    tapsA := trained s d .a c.ltsA s.rx.tapsA
    tapsB := trained s d .b c.ltsB s.rx.tapsB
    hdrOk := true } }

/-- The argument of SYNC (Table 9.5). -/
def syncArg (s : State) (d : Det) (c : Confirm) : Word :=
  BitVec.ofNat 32 (detArg d.seen + 65536 * syncErrors s d c + 2 ^ 24 * unsigned 8 c.snr)

/-- TIME_sync in units of 1/64 µs: TIME, with its fraction, so long ago (R90, R228, R265). -/
def timeSyncOf (s : State) (c : Confirm) : Int :=
  (64 * s.timer.time.toNat + s.timer.frac.toNat / 2 ^ 18 : Nat) - (c.ago : Int)

/-- A path that receives the channel of a Mosaic detection has observed every subcarrier of the two LTS symbols (R264). -/
def ltsWhole (s : State) (d : Det) (c : Confirm) : Bool :=
  d.seen.sf != 7 || (pathsOf s d.seen.chan).all fun p =>
    (match p with
     | .a => c.ltsA
     | .b => c.ltsB).length == carriers.length

/-- The detection becomes the frame in reception, and the attempt that listens counts as busy (R237, §11.6). -/
def confirmDet (d : Det) (c : Confirm) (s : State) : State :=
  let arg := syncArg s d c
  let other := s.radio.state != .rx && modeEff s != 3 &&
    ((s.radio.cca.map fun a => a.job).toList ++ s.radio.tx.toList).any fun j => j.chanB
  let r : Reception := ⟨d.tag, d.seen, c, timeSyncOf s c, d.seen.chan == .b || other⟩
  let s := latchSync d c { s with scarab := { s.scarab with
    dets := s.scarab.dets.filter fun x => x.tag != d.tag } }
  let s := post evSync d.tag arg (setReception d.seen.chan (some r) s)
  if s.radio.state == .cca then
    let s := busyListen none s
    if s.radio.state == .cca then goto .rx s else s
  else s

/-- The pending detection that a confirmation names, where its sync word is found within SYNC_TOL and the header is what
the decoder decides (R225, R237, R270). -/
def foundDet (s : State) (c : Confirm) : Option Det :=
  (s.scarab.dets.find? fun d => d.tag == c.tag).filter fun d =>
    let mosaic := d.seen.sf == 7
    let soft := combine (weighs s d.seen.chan c) 2 c.weightA c.weightB c.softA c.softB
    decide (syncErrors s d c ≤ phyNat s K.syncTol) && ltsWhole s d c && (headerCoding mosaic).decides (bytesBits c.header) soft

/-- Of two confirmations of one symbol period the one with the higher SNR is kept, at equal SNR the one of the lower
logical lane (R237). -/
def better (x y : Det × Confirm) : Bool :=
  decide (y.2.snr < x.2.snr) || (x.2.snr == y.2.snr && decide (x.1.seen.lane ≤ y.1.seen.lane))

/-- The confirmation that is kept. -/
def bestOf : List (Det × Confirm) → Option (Det × Confirm)
  | [] => none
  | x :: l =>
    match bestOf l with
    | none => some x
    | some y => if better x y then some x else some y

/-- A failed header (R252). -/
def headerFails (d : Det) (s : State) : State :=
  cancelDet 2 d { s with rx := { s.rx with hdrFails := inc s.rx.hdrFails, hdrOk := false } }

/-- The confirmations of a channel: the best one is applied first, unless a frame of the channel is in reception. -/
def confirmOn (chan : Path) (good : List (Det × Confirm)) (s : State) : State :=
  match bestOf (good.filter fun x => x.1.seen.chan == chan) with
  | none => s
  | some x => if (reception s chan).isSome then s else confirmDet x.1 x.2 s

/-- SYNC: what the symbol period decides. The confirmation is applied first (R237, R240). A detection that fails its
header, or whose window ends in the period, is reported with its own reason, and every other one on the channel of the
confirmation with reason 3. -/
def syncFound (l : List Confirm) (expired : List Half) (s : State) : State :=
  if !receiving s then s
  else
    let found := l.filterMap fun c => (foundDet s c).map fun d => (d, c)
    let good := found.filter fun x => headerOk (x.1.seen.sf == 7) x.2.header
    let bad := found.filter fun x => !headerOk (x.1.seen.sf == 7) x.2.header
    let fresh := fun (c : Path) => (reception s c).isNone
    let s := confirmOn .b good (confirmOn .a good s)
    let s := bad.foldl (fun t x => headerFails x.1 t) s
    let s := expired.foldl (fun t g => cancelTag 1 g t) s
    let done := good.map fun x => x.1.tag
    cancelDets 3 (fun d => done.contains d.tag ||
      (fresh d.seen.chan && good.any fun x => x.1.seen.chan == d.seen.chan)) s

/-- SYNC_WORD_TIMEOUT and LTS_TIMEOUT: for a detection in spread mode, in Mosaic mode (R225, R268). -/
def syncTimeout (mosaic : Bool) (tag : Half) (s : State) : State :=
  match s.scarab.dets.find? fun d => d.tag == tag with
  | some d => if (d.seen.sf == 7) == mosaic then cancelDet 1 d s else s
  | none => s

-- The noise floor (R217, R218)

/-- A list in rising order. -/
def insertInt (x : Int) : List Int → List Int
  | [] => [x]
  | y :: l => if x ≤ y then x :: y :: l else y :: insertInt x l
def sortInts : List Int → List Int
  | [] => []
  | x :: l => insertInt x (sortInts l)

/-- The mean of 48 samples, to the nearest unit; a mean half-way between two units takes either. -/
def meanOf48 (sum : Int) (s : State) : Int × State :=
  let q := sum / 48
  let r := sum % 48
  if r < 24 then (q, s)
  else if 24 < r then (q + 1, s)
  else
    let x := freeBits 1 s
    (q + (x.1 : Int), x.2)

/-- NOISE_FLOOR_WINDOW: 64 samples of a path that receives. A window completes with a sample, and no sample is taken
from an EARLY_SYNC on the path's channel to its cancellation or the end of its frame. -/
def noiseWindow (p : Path) (samples : List Int) (s : State) : State :=
  if receiving s && samples.length == 64 && (pathsOf s .a ++ pathsOf s .b).contains p &&
      !detected s (chanOfPath s p) then
    let x := meanOf48 (((sortInts samples).drop 8).take 48).sum s
    let v := clipRssi x.1
    match p with
    | .a => { x.2 with rx := { x.2.rx with nfA := v, nfValid := x.2.rx.nfValid ||| 1#2 } }
    | .b => { x.2 with rx := { x.2.rx with nfB := v, nfValid := x.2.rx.nfValid ||| 2#2 } }
  else s

-- The ends of frames

/-- A frame has ended: the gain is released, HOT ends the second channel (R67), and the radio goes on. -/
def frameOver (c : Path) (s : State) : State :=
  sendFacks (settle (endSecond (releaseGain (setReception c none s))))

/-- Symbols of the payload of a frame in reception. -/
def payloadSymbols (r : Reception) : Nat :=
  let mosaic := r.seen.sf == 7
  let n := headerLength mosaic r.conf.header
  if mosaic then mosaicSymbols (field (leNat (r.conf.header.take 2)) 10 2) n
  else codedBits n / bitsPer r.seen.sf.val

/-- The MCS of a header. -/
def headerMcs (h : Bytes) : Nat := field (leNat (h.take 2)) 10 2

/-- The equaliser taps after the first `n` data symbols of a Mosaic frame (R266, R272). -/
def tracked (s : State) (r : Reception) (n : Nat) (taps : List Cx) (rows : List ToneRow) : List Cx :=
  if r.seen.sf == 7 && phyNat s K.mosaicDd == 1 then
    trackTaps (phyNat s K.mosaicMu) (headerMcs r.conf.header) (min n (payloadSymbols r)) taps rows
  else taps

/-- The equalisers of the paths after the symbols received. -/
def trackPaths (r : Reception) (n : Nat) (a b : List ToneRow) (s : State) : State :=
  { s with rx := { s.rx with tapsA := tracked s r n s.rx.tapsA a, tapsB := tracked s r n s.rx.tapsB b } }

/-- The last `n` measurements lie below a bound, and the symbol that completes them is not the last of the frame: that
frame is judged by its CRC-32 (R271). -/
def lost (n : Nat) (bound : Int) (l : List Int) (received : Nat) (r : Reception) : Bool :=
  decide (n ≤ l.length) && ((l.drop (l.length - n)).all fun x => decide (x < bound)) &&
    decide (received < payloadSymbols r)

/-- SIGNAL_LOSS (R254) in spread mode: q of the symbols after SYNC, oldest first, and how many symbols of the payload
have been received. -/
def signalLoss (c : Path) (q : List Int) (received : Nat) (s : State) : State :=
  match reception s c with
  | none => s
  | some r =>
    if r.seen.sf != 7 && lost 8 ((phyNat s K.earlyThr : Int) - 12) q received r then
      frameOver c (loseReception 4 c { s with rx := { s.rx with losses := inc s.rx.losses } })
    else s

/-- PILOT_LOSS (R267) in Mosaic mode: the signal-to-noise ratio of the pilots of the symbols, oldest first. The equalisers
have followed the symbols received (R266). -/
def pilotLoss (f : Fading) (s : State) : State :=
  match reception s f.chan with
  | none => s
  | some r =>
    if r.seen.sf == 7 && lost 4 0 f.values f.received r then
      let s := trackPaths r f.received f.tonesA f.tonesB s
      frameOver f.chan (loseReception 4 f.chan { s with rx := { s.rx with
        losses := inc s.rx.losses, pilotLosses := inc s.rx.pilotLosses } })
    else s

/-- RX_DONE of a decoded frame. -/
def finish (r : Reception) (m : MacFrame) (outcome : Nat) (dr : Bool) (s : State) : State :=
  postRxDone r.tag outcome m.type dr m.src s

/-- The MAC discards a frame (R294). -/
def macDiscard (r : Reception) (type : Nat) (src : Half) (s : State) : State :=
  postRxDone r.tag 6 type false src { s with net := { s.net with discards := inc s.net.discards } }

-- Timing of answers (R265, R286, R303, R305)

/-- The frame is the reply that the exchange awaits (R305). -/
def isReply (s : State) (r : Reception) (f : MacFrame) : Bool :=
  s.net.exch.any fun e => e.sent && e.addr == f.origin &&
    (f.flood.isSome || startsAt s 2400 (liveNat s K.rspWin) r)

-- What may be committed and acknowledged

/-- A frame from the air may be committed and acknowledged: RUN or MAINT, no role about to end (R12), and the queues
concerned restored (R128, R129). -/
def mayCommit (s : State) : Bool :=
  running s && !s.sys.rolePending &&
    (if s.sys.role = .coordinator then s.sys.restore.isEmpty else !s.sys.restore.contains 0)

/-- A commit to the queue is under way. -/
def committing (s : State) (q : Nat) : Bool := s.radio.commits.any fun c => c.queue == q

/-- The frame is found to be a duplicate at once (R360): one whose judgement falls while a commit to its queue is under
way is judged once that is complete (R374). -/
def judgedDuplicate (s : State) (q : Nat) (seq : Word) : Bool := !committing s q && isDuplicate (getQueue s q) seq

/-- A queue takes frames from the air: one that is not LOCAL (R322). -/
def takesAir (s : State) (q : Nat) : Bool := mayCommit s && !isLocal s q

/-- DUPLICATES counts. -/
def countDuplicate (s : State) : State := { s with jrn := { s.jrn with duplicates := inc s.jrn.duplicates } }

/-- An ACK is due for the frame (R283). -/
def ackDue (r : Reception) (q : Half) (armed : Bool) (s : State) : State :=
  { s with radio := { s.radio with acks := s.radio.acks ++ [⟨ackJob s r, q, armed, r.tag⟩] } }

/-- A FACK waits to be sent (R317), on the channel of the frame it answers. -/
def fackDue (orig : Half) (seq : Word) (ttl : Nat) (chanB : Bool) (s : State) : State :=
  { s with net := { s.net with facks := s.net.facks ++ [(orig, seq, ttl, chanB)] } }

/-- The TTL of the FACK of a flooded frame. -/
def fackTtl (hop : Nat) : Nat := min 15 (hop + 2)

-- Bodies (Tables 12.4, 12.6, 12.7)

/-- A body read from the front: n bytes and what is left. -/
def takeBytes (n : Nat) (b : Bytes) : Option (Bytes × Bytes) :=
  if n ≤ b.length then some (b.take n, b.drop n) else none

/-- A string behind a count byte, present where a flag says so. -/
def takeCounted (present : Bool) (b : Bytes) : Option (Option Bytes × Bytes) :=
  if present then
    match takeBytes 1 b with
    | none => none
    | some (n, rest) => (takeBytes (leNat n) rest).map fun x => (some x.1, x.2)
  else some (none, b)

/-- A 32-bit sequence, present where a flag says so. -/
def takeSeq (present : Bool) (b : Bytes) : Option (Option Word × Bytes) :=
  if present then (takeBytes 4 b).map fun x => (some (BitVec.ofNat 32 (leNat x.1)), x.2) else some (none, b)

/-- A POLL body: PFLAGS, the request of DQ, and DLSEQ with the payload of DL. -/
def pollBody (b : Bytes) : Option (Nat × Option Bytes × Option (Word × Bytes)) :=
  match takeBytes 1 b with
  | none => none
  | some (f, rest) =>
    let flags := leNat f
    match takeCounted (bit flags 4) rest with
    | none => none
    | some (dq, rest) =>
      match takeSeq (bit flags 6) rest with
      | none => none
      | some (none, _) => some (flags, dq, none)
      | some (some seq, payload) => some (flags, dq, some (seq, payload))

/-- A DATA or NULL body up to ORIG_SEQ: DLSEQ, the response, the rest. -/
def replyFields (b : Bytes) : Option (Option Word × Option Bytes × Bytes) :=
  match takeBytes 1 b with
  | none => none
  | some (f, rest) =>
    let flags := leNat f
    match takeSeq (bit flags 0) rest with
    | none => none
    | some (dl, rest) => (takeCounted (bit flags 1) rest).map fun x => (dl, x.1, x.2)

-- Beacons (R299, R309, R311)

/-- The join slot that a beacon with OPEN gives, from its start to its end in NTIME (R309). -/
def slotOf (s : State) (f : MacFrame) : Option (Nat × Nat) :=
  let at_ := fun (i n : Nat) => leNat ((f.body.drop i).take n)
  let n := at_ 16 1
  if n = 0 then none
  else
    let j := (crc32 (leBytes 8 s.id.serial.toNat)).toNat % n
    let t := at_ 6 4 * at_ 10 2 * 1000 + at_ 14 2 * 1000 + j * at_ 17 1 * 1000
    some (t, t + at_ 17 1 * 1000)

/-- A beacon whose checks have passed: CYCLE, LAST_HASH, the join slot, the time. -/
def processBeacon (r : Reception) (mPpb : Int) (f : MacFrame) (s : State) : State :=
  let opened := bit (leNat ((f.body.drop 13).take 1)) 0
  let joins := opened && !s.net.joined && s.sys.role != .coordinator && myAddr s != 0
  let s := { s with net := { s.net with
    cycle := BitVec.ofNat 32 (leNat ((f.body.drop 6).take 4))
    lastHash := BitVec.ofNat 32 (leNat ((f.body.drop 18).take 4))
    slot := if joins then slotOf s f else s.net.slot } }
  timeFromBeacon f r mPpb s

/-- The MIC of a secured frame verifies; an unsecured frame passes where the policy lets it. -/
def micPasses (s : State) (f : MacFrame) : Bool :=
  match f.aux with
  | none => !liveBool s K.rxRequire
  | some (sctl, fcnt) =>
    let slot := sctl.toNat % 8
    slotOk s slot && field sctl.toNat 3 2 != 0 && field sctl.toNat 5 3 == 0 &&
      (openFrame ((keyOf s slot).getD []) f sctl fcnt).isSome

/-- A repeat of a beacon is judged for the time reference alone (R311). -/
def repeatBeacon (r : Reception) (mPpb : Int) (f : MacFrame) (s : State) : State :=
  if f.type = tyBeacon ∧ 22 ≤ f.body.length ∧ micPasses s f = true then timeFromBeacon f r mPpb s else s

-- Polls at a station (R303, R304, R306, R307, R316)

/-- The reply that a POLL asks for, with what the station holds at its end: settings written during the POLL apply to it,
since the POLL's end is a frame boundary (R189, R272, R303). A node never replies in Mosaic mode (R304). -/
def replyTo (s : State) (r : Reception) (flags : Nat) (flooded : Bool) : Reply :=
  let m := flags % 8
  let mosaic := m == 6 || (m == 7 && r.seen.sf == 7)
  let node := s.sys.role == .node
  let work := s.sys.dev != .config
  { sf := if m ≤ 5 then m else if m = 7 && r.seen.sf != 7 then r.seen.sf.val else liveNat s K.txSf
    mosaic := mosaic && !node
    mcs := if m = 7 then field (leNat (r.conf.header.take 2)) 10 2 else liveNat s K.mosaicMcs
    chanB := bit flags 3, flooded := flooded, dlAck := none
    head := if work then outHead s 0 else none
    more := decide (1 < (getQueue s 0).outCh.length) && work
    dr := none }

/-- The downlink frame of a POLL goes to the ledger's judgement (R306). -/
def receiveDl (c : Path) (r : Reception) (m : MacFrame) (seq : Word) (payload : Bytes) (s : State) : State :=
  if !takesAir s 0 then finish r m 2 false s
  else if judgedDuplicate s 0 seq then
    finish r m 1 false { countDuplicate s with net := { s.net with
      reply := s.net.reply.map fun x => { x with dlAck := some seq } } }
  else { s with radio := { s.radio with
    commits := s.radio.commits ++ [⟨c, 0, seq, 1, payload, (r.tag, m.type, false, m.src), none, true⟩] } }

/-- The dictionary request of a POLL (R307, R475): of 5 to 240 bytes. -/
def receiveDq (m : MacFrame) (valid : Bool) (pdu : Bytes) (s : State) : State :=
  let slot : Option (Fin 8) := m.aux.map fun a => Fin.ofNat 8 (a.1.toNat % 8)
  if (m.aux.isSome && !valid) || pdu.length < 5 || 240 < pdu.length then s
  else submit (requestOf (.air slot) pdu) [] s

/-- In CONFIG the station replies with a response to a dictionary request alone (R171). -/
def keepReply (s : State) : State :=
  if s.sys.dev = .config then { s with net := { s.net with reply := s.net.reply.filter fun x => x.dr.isSome } } else s

/-- A POLL for the station; `valid` says that RX_WIN0 was valid before the frame. -/
def processPoll (c : Path) (r : Reception) (valid : Bool) (m : MacFrame) (s : State) : State :=
  if s.sys.role = .coordinator ∨ myAddr s = 0 then finish r m 2 false s
  else
    match pollBody m.body with
    | none => macDiscard r m.type m.src s
    | some (flags, dq, dl) =>
      let answers := running s || s.sys.dev == .config
      let s := if answers then macRead 0 s else s
      let s := { s with net := { s.net with
        reply := if answers then some (replyTo s r flags m.flood.isSome) else s.net.reply } }
      let s := match dl with
        | some (seq, payload) => receiveDl c r m seq payload s
        | none => finish r m 2 false s
      let s := match dq with
        | some pdu => receiveDq m valid pdu s
        | none => s
      keepReply { s with net := { s.net with reply := s.net.reply.map fun x => { x with dr := s.net.held } } }

-- Replies at the coordinator (R305 to R307, R317)

/-- What an accepted reply carries besides its frame; the exchange ends. The answer says that a response was placed. -/
def takeReply (a : Half) (dl : Option Word) (dr : Option Bytes) (pend : Bool) (s : State) : State :=
  let s := match dl with
    | some w => retireItem a.toNat w s
    | none => s
  let s := match dr with
    | some p =>
      { s with net := { s.net with
        drsp := leBytes 2 a.toNat ++ p, dreq := s.net.dreq.filter fun d => d.1 != a } }
    | none => s
  endExchange pend s

/-- A DATA frame at the coordinator, once security has passed. -/
def commitData (c : Path) (r : Reception) (m : MacFrame) (dr : Bool) (seq : Word) (payload : Bytes) (s : State) :
    State :=
  let q := m.origin
  let fack := m.flood.map fun f => (f.1, fackTtl f.2.2.2)
  if !takesAir s q.toNat then finish r m 6 dr s
  else if judgedDuplicate s q.toNat seq then
    let s := finish r m 1 dr (countDuplicate s)
    match fack with
    | some (o, ttl) => fackDue o seq ttl r.chanB s
    | none => ackDue r q true s
  else
    let s := { s with radio := { s.radio with
      commits := s.radio.commits ++ [⟨c, q.toNat, seq, 1, payload, (r.tag, m.type, dr, m.src), fack, false⟩] } }
    if fack.isSome then s else ackDue r q false s

/-- DATA_RECEIVED. -/
def processData (c : Path) (r : Reception) (m : MacFrame) (s : State) : State :=
  if s.sys.role ≠ .coordinator then finish r m 6 false s
  else
    match replyFields m.body with
    | none => macDiscard r m.type m.src s
    | some (dl, dr, rest) =>
      match takeSeq true rest with
      | some (some seq, payload) =>
        let mine := isReply s r m
        let s := if mine then takeReply m.origin dl dr m.pend s else s
        commitData c r m (mine && dr.isSome) seq payload s
      | _ => macDiscard r m.type m.src s

/-- NULL_RECEIVED. -/
def processNull (r : Reception) (m : MacFrame) (s : State) : State :=
  match replyFields m.body with
  | none => macDiscard r m.type m.src s
  | some (dl, dr, _) =>
    if s.sys.role = .coordinator ∧ isReply s r m = true then
      finish r m 2 dr.isSome (takeReply m.origin dl dr m.pend s)
    else finish r m 2 false s

/-- JOIN_RECEIVED (R310, R362): a SERIAL that differs from the recorded one clears the ledger window of the address
first, and the record and the ACK wait for that seal. -/
def processJoin (r : Reception) (m : MacFrame) (s : State) : State :=
  if s.sys.role ≠ .coordinator then finish r m 6 false s
  else if m.body.length < 10 then macDiscard r m.type m.src s
  else
    let a := m.src.toNat
    let st : Station := ⟨BitVec.ofNat 64 (leNat (m.body.take 8)), (m.body[8]?).getD 0, (m.body[9]?).getD 0,
      (ntime s).setWidth 48⟩
    let differs := (tabGet none a s.net.stations).any fun x => x.serial != st.serial
    let s := finish r m 2 false s
    let s := if mayCommit s then ackDue r m.src (!differs) s else s
    if differs then
      { s with mortar := { s.mortar with
        waiting2 := s.mortar.waiting2 ++
          [⟨[⟨rtLedger, 0, ledgerEntryBytes (a, false, 0)⟩], .joinClear a st r.tag, false⟩] } }
    else recordStation a st s

/-- FACK_RECEIVED (R317). -/
def processFack (r : Reception) (m : MacFrame) (s : State) : State :=
  if m.body.length < 4 then macDiscard r m.type m.src s
  else
    let seq := BitVec.ofNat 32 (leNat (m.body.take 4))
    let s := finish r m 2 false s
    if s.sys.role ≠ .coordinator ∧ (outHead s 0).any (fun f => f.seq == seq) = true then
      retireItem 0 seq { s with net := { s.net with
        fackWait := s.net.fackWait.filter fun x => x.2 != seq } }
    else s

-- A frame received whole (R270, R294, R296, R314, R472)

/-- The frame is for this device (R296, Table 12.3). -/
def forMe (s : State) (m : MacFrame) : Bool :=
  m.dst == 0xFFFF || (m.dst == myAddr s && (s.sys.role == .coordinator || m.dst != 0))

/-- The security checks, and then the processing of the frame in clear. A reply that fails them ends its exchange. -/
def secured (r : Reception) (m : MacFrame) (process : MacFrame → State → State) (s : State) : State :=
  match securityCheck m s with
  | (none, t) => finish r m 5 false (if isReply t r m then endExchange false t else t)
  | (some g, t) => process g t

/-- A frame that is no repeat. -/
def takeFrame (r : Reception) (m : MacFrame) (process : MacFrame → State → State) (s : State) : State :=
  let own := forMe s m
  if !own && !(m.flood.isSome && s.sys.role == .relay) then finish r m 6 false s
  else
    let s := if own then { s with radio := { s.radio with ffStay := false } } else s
    if m.type = tyBeacon then secured r m (fun g t => process g (scheduleCopy m r t)) s
    else
      let s := scheduleCopy m r s
      if own then secured r m process s else finish r m 2 false s

/-- A frame whose CRC-32 is good and whose TYPE and AR are those of Table 12.2: a repeat is counted and not processed.
-/
def judgeFlood (r : Reception) (m : MacFrame) (mPpb : Int) (process : MacFrame → State → State) (s : State) :
    State :=
  match m.flood with
  | none => takeFrame r m process s
  | some (o, q, _, _) =>
    if inSeen s (o, q) then finish r m 2 false (repeatBeacon r mPpb m (countRepeat o q s))
    else takeFrame r m process (addSeen (o, q) s)

/-- The TYPE and SRC of a PSDU; those of one too short to hold them are not known. -/
def typeSrcOf (p : Bytes) (s : State) : Nat × Half × State :=
  if 5 ≤ p.length then (leNat (p.take 1) % 16, BitVec.ofNat 16 (leNat ((p.drop 3).take 2)), s)
  else
    let x := freeBits 4 s
    let y := freeBits 16 x.2
    (x.1, BitVec.ofNat 16 y.1, y.2)

/-- The TYPE and AR are those of Table 12.2. -/
def typeOk (m : MacFrame) : Bool :=
  decide (1 ≤ m.type) && decide (m.type ≤ 6) && m.ar == arOf m.type m.flood.isSome

/-- The coding of the payload of a frame in reception, and its combined soft values. -/
def frameCoding (r : Reception) : Coding :=
  payloadCoding (r.seen.sf == 7) (headerMcs r.conf.header) (headerLength (r.seen.sf == 7) r.conf.header)
def softOf (s : State) (r : Reception) (f : RxFrame) : List Int :=
  combine (weighs s f.chan r.conf) (carrierBits (headerMcs r.conf.header)) r.conf.weightA r.conf.weightB f.softA f.softB

/-- The PSDU and CRC-32 are of the LENGTH of the header, and are what the decoder decides (R270). -/
def heard (s : State) (r : Reception) (f : RxFrame) : Bool :=
  f.psdu.length == headerLength (r.seen.sf == 7) r.conf.header && f.psdu.length != 0 &&
    (frameCoding r).decides (whitened f.psdu f.crc) (softOf s r f)

/-- What the end of a frame latches. -/
def latchFrame (r : Reception) (f : RxFrame) (s : State) : State :=
  let s := trackPaths r (payloadSymbols r) f.tonesA f.tonesB s
  { s with rx := { s.rx with
    corrected := BitVec.ofNat 16 ((frameCoding r).differing (whitened f.psdu f.crc) (softOf s r f))
    crcOk := crc32 f.psdu == f.crc
    evm := if r.seen.sf == 7 then BitVec.ofInt 16 f.evm else s.rx.evm } }

/-- A frame of one type ends whole on a channel: the frame in reception there, of its LENGTH. A frame whose CRC-32 is
good and whose TYPE is another one of Table 12.2 is not this command's. -/
def receiveFrame (type : Nat) (f : RxFrame) (process : Reception → MacFrame → State → State) (s : State) : State :=
  match reception s f.chan with
  | none => s
  | some r =>
    let good := crc32 f.psdu == f.crc
    let t := leNat (f.psdu.take 1) % 16
    if !receiving s || !heard s r f || (good && decide (1 ≤ t) && decide (t ≤ 6) && t != type) then s
    else
      let s := latchFrame r f s
      let x := typeSrcOf f.psdu s
      let s := if !good then
          postRxDone r.tag 3 x.1 false x.2.1 { x.2.2 with rx := { x.2.2.rx with crcFails := inc x.2.2.rx.crcFails } }
        else
          match parseMac f.psdu with
          | none => macDiscard r x.1 x.2.1 x.2.2
          | some m =>
            if typeOk m then judgeFlood r m f.mPpb (process r) s else macDiscard r m.type m.src s
      frameOver f.chan s

/-- BEACON_RECEIVED. -/
def beaconReceived (f : RxFrame) (s : State) : State :=
  receiveFrame tyBeacon f (fun r m t =>
    if m.body.length < 22 then macDiscard r m.type m.src t
    else finish r m 2 false (processBeacon r f.mPpb m t)) s

/-- POLL_RECEIVED. -/
def pollReceived (f : RxFrame) (s : State) : State :=
  receiveFrame tyPoll f (fun r m t => processPoll f.chan r s.sec.valid m t) s

/-- DATA_RECEIVED. -/
def dataReceived (f : RxFrame) (s : State) : State := receiveFrame tyData f (fun r m t => processData f.chan r m t) s

/-- NULL_RECEIVED. -/
def nullReceived (f : RxFrame) (s : State) : State := receiveFrame tyNull f (fun r m t => processNull r m t) s

/-- JOIN_RECEIVED. -/
def joinReceived (f : RxFrame) (s : State) : State := receiveFrame tyJoin f (fun r m t => processJoin r m t) s

/-- FACK_RECEIVED. -/
def fackReceived (f : RxFrame) (s : State) : State := receiveFrame tyFack f (fun r m t => processFack r m t) s

-- ACKs (R286)

/-- HDATA of a header. -/
def headerData (mosaic : Bool) (h : Bytes) : Byte := BitVec.ofNat 8 (leNat ((h.drop (if mosaic then 2 else 1)).take 1))

/-- The header-only frame is the ACK that ACK_WAIT awaits: on the transmit channel, with the ACK settings of R283 (R286).
-/
def ackMatches (s : State) (c : Path) (r : Reception) : Bool :=
  let mosaic := r.seen.sf == 7
  s.radio.state == .ackWait &&
    (s.radio.tx.any fun j => j.hdata == headerData mosaic r.conf.header && j.mosaic == mosaic && jobChan s j == c) &&
    (if mosaic then headerMcs r.conf.header == 0 else r.seen.sf.val == liveNat s K.ackSf) &&
    startsAt s 1200 (liveNat s K.ackWin) r

/-- The ACK is accepted: the frame is retired, or the JOIN has been answered. -/
def acceptAck (s : State) : State :=
  match s.radio.tx with
  | none => s
  | some j =>
    match j.item with
    | some (q, seq) => goReturn (retireItem q seq s)
    | none =>
      let joined := s.net.joined || j.kind == .join
      goReturn (postTxDonePlain j { s with net := { s.net with joined := joined } })

/-- ACK_RECEIVED: a header-only frame ends on a channel. -/
def ackReceived (c : Path) (s : State) : State :=
  match reception s c with
  | none => s
  | some r =>
    if headerLength (r.seen.sf == 7) r.conf.header = 0 then
      let ours := ackMatches s c r
      let s := setReception c none (postRxDone r.tag 2 0 false 0 s)
      frameOver c (if ours then acceptAck s else s)
    else s

-- The air commit (R346, R354, R360, R361)

/-- A frame whose commit has ended without acceptance: no ACK and no FACK, and an outcome of RX_DONE. -/
def commitEnded (outcome : Nat) (c : CommitDue) (s : State) : State :=
  let s := postRxDone c.done.1 outcome c.done.2.1 c.done.2.2.1 c.done.2.2.2 s
  { s with radio := { s.radio with acks := s.radio.acks.filter fun a => a.armed || a.tag != c.done.1 } }

/-- What answers a frame that is committed, or a duplicate, is armed: its DLACK, its FACK or its ACK (R306, R317, R354).
-/
def armAnswer (c : CommitDue) (s : State) : State :=
  if c.dl then { s with net := { s.net with reply := s.net.reply.map fun r => { r with dlAck := some c.seq } } }
  else
    match c.fack with
    | some (o, ttl) => fackDue o c.seq ttl (c.chan == .b) s
    | none => { s with radio := { s.radio with
        acks := s.radio.acks.map fun a => if a.tag = c.done.1 then { a with armed := true } else a } }

/-- What counts when a queue cannot take a frame from the air (R335, R358, R365, R512). -/
def countNoRoom (why : NoRoom) (s : State) : State :=
  match why with
  | .segments => { s with qe := { s.qe with airRefused := inc s.qe.airRefused } }
  | .count => { s with qe := { s.qe with airRefused := inc s.qe.airRefused } }
  | .epoch => stall s
  | .stage => stall s
  | .classChange => s

/-- The frame takes effect in its queue and its ledger window in one commit, and what answers it is armed. -/
def commitFrame (c : CommitDue) (s : State) : State :=
  let seq := (getQueue s c.queue).accSeq
  let s := accept c.queue true c.src c.payload s
  let s := setQueue c.queue { getQueue s c.queue with lastSeq := c.seq, valid := true } s
  let s := postNotice c.queue seq s
  armAnswer c (postRxDone c.done.1 0 c.done.2.1 c.done.2.2.1 c.done.2.2.2 s)

/-- A frame that waited for an earlier commit to its queue is a duplicate after it (R374). -/
def commitDuplicate (c : CommitDue) (s : State) : State :=
  armAnswer c (postRxDone c.done.1 1 c.done.2.1 c.done.2.2.1 c.done.2.2.2 (countDuplicate s))

/-- The commit that completes next on a channel: the one that has waited longest, after every earlier one to its queue
(R374). -/
def nextCommit (s : State) (chan : Path) : Option CommitDue :=
  (s.radio.commits.find? fun c => c.chan == chan).bind fun c => s.radio.commits.find? fun x => x.queue == c.queue

/-- AIR_COMMIT: a commit completes. A frame that the device no longer commits (R12, R171, R322) the MAC discards. -/
def airCommit (chan : Path) (s : State) : State :=
  match nextCommit s chan with
  | none => s
  | some c =>
    let s := { s with radio := { s.radio with commits := s.radio.commits.erase c } }
    let s := if !takesAir s c.queue then commitEnded 6 c s
      else if isDuplicate (getQueue s c.queue) c.seq then commitDuplicate c s
      else if ledgerFullFor s c.queue then
        commitEnded 8 c { s with jrn := { s.jrn with ledgerFull := inc s.jrn.ledgerFull } }
      else
        match noRoom s c.queue true c.src c.payload with
        | some why => commitEnded 8 c (countNoRoom why s)
        | none => commitFrame c s
    finishSleep (sendFacks (settle s))

end Sys2Proof.Machine
end

