-- ==== Sys2Proof/Machine/Firefly.lean ====
section
/-! DEFINITION. Firefly: the windows of SNIFF, the wake word, and the stay after a wake (§11.6).
What the manual leaves open here and how the model reads it, with its mark: log entry 77. -/

namespace Sys2Proof.Machine

/-- The blocks that a window needs are enabled: SYNTH, RXA, SCARAB and the spread modem. -/
def windowBlocks (s : State) : Bool := enableBit s 32 && enableBit s 33 && enableBit s 36 && enableBit s 37

/-- The physical lane of logical lane 0, on path A, can search (R233, R288). -/
def fireflyLane (s : State) : Bool := nth 255 s.scarab.lanePhys 0 != 255 && bit s.rx.pathsOk.toNat 0

/-- SNIFF_WINDOW (R288): XO, the root PLL and the synthesizer start, with the calibration that R203 asks for, and the
Firefly lane searches CHAN_A_HZ, which R198 has checked first. No window opens under BOD_WARN (R50). -/
def sniffWindow (s : State) : State :=
  if s.sup.power == .sniff && s.radio.state == .sleep && windowBlocks s && !s.sup.bodWarn && !s.clk.xoFailed &&
      !s.clk.stopped && channelOk s (chanHz s false) false then
    calibrateOnLock { s with
      clk := { s.clk with xoOk := true, lock := true }
      radio := { s.radio with state := .sniff, lock := true, lo := chanHz s false - 250000 } }
  else s

/-- SNIFF_WINDOW_END. -/
def sniffWindowEnd (s : State) : State :=
  let s := { s with radio := { s.radio with window := false } }
  if s.radio.state == .sniff then closeWindow s else s

/-- The Firefly lane detects (R288): the run of R234 at EARLY_THR + 3, within ±W of the channel, where W is an eighth of
the chip rate. -/
def fireflyHears (s : State) (x : WakeSeen) : Bool :=
  let w : Int := (chipRateHz (phyNat s K.chipRate) / 2 : Nat)
  fireflyLane s && decide (-w ≤ x.offset) && decide (x.offset ≤ w) &&
    runOver s ((phyNat s K.earlyThr : Int) + 3) x.timing x.run

/-- The word wakes this node (R289, R290). -/
def wakeMatches (s : State) (word : Half) : Bool :=
  let a := myAddr s
  word == 0xAFFF || (a != 0 && word == 0xA000 + (a &&& 0x0FFF))

/-- The node wakes on its word, or takes Firefly as one more source of the wake that the window has already seen (R43,
R293). -/
def fireflyWake (s : State) : State :=
  if s.radio.state != .sniff then { s with sup := { s.sup with wakeSrc := s.sup.wakeSrc ||| 32#16 } }
  else wakeIdle (wakeSources 0 { s with sup := { s.sup with wakeReq := s.sup.wakeReq ||| 32#7 } } ||| 32#7) s

/-- WAKE_WORD (R290, R293): on a match the node wakes and receives the announced frame; any other word counts and the
window closes. -/
def wakeWord (x : WakeSeen) (s : State) : State :=
  if !(s.radio.state == .sniff || (s.radio.window && !s.radio.ffStay)) || !fireflyHears s x then s
  else if wakeMatches s x.word then
    let s := fireflyWake { s with radio := { s.radio with ffWakes := inc s.radio.ffWakes } }
    if s.radio.state == .idle && radioPermitted s && rxReady s then
      let s := startRx s
      { s with radio := { s.radio with rxOn := true, temp := true, ffStay := true } }
    else { s with radio := { s.radio with window := false } }
  else
    let s := { s with radio := { s.radio with ffFalse := inc s.radio.ffFalse, window := false } }
    if s.radio.state == .sniff then closeWindow s else s

/-- FF_STAY_EXPIRY (R290): the radio returns to IDLE, once a frame in reception has ended. -/
def ffStayExpiry (s : State) : State :=
  if s.radio.ffStay then settle { s with radio := { s.radio with ffStay := false } } else s

end Sys2Proof.Machine
end

