-- ==== Sys2Proof/Machine/RegRead.lean ====
section
/-! DEFINITION. What every register of Table 21.1 reads as, and the part that governs its access (R506, R503).
What the manual leaves open here and how the model reads it, with its mark: log entries 14, 56 and 57. -/

namespace Sys2Proof.Machine

-- Power domains (Tables 3.3, 3.5 and 3.6)

/-- The domains "with state" are on: IDLE, RX and TX, and during BOOT. -/
def stateOn (s : State) : Bool := awake s

/-- The boot is in progress. -/
def booting (s : State) : Bool := stateOn s && !s.sys.ready

/-- The synthesizer works: every radio state but OFF, SLEEP and IDLE. -/
def radioWorks (s : State) : Bool :=
  s.radio.state != .off && s.radio.state != .sleep && s.radio.state != .idle

/-- The radio transmits. -/
def transmitting (s : State) : Bool := s.radio.state == .tx || s.radio.state == .ackTx

/-- The device holds a retained bank: DORMANT or SNIFF. -/
def retains (s : State) : Bool := s.sup.power == .dormant || s.sup.power == .sniff

/-- An Ashlar bank number is kept powered: while it is live, and in DORMANT and SNIFF while RETAIN_MASK names it (R47).
-/
def bankOn (s : State) (b : Nat) : Bool :=
  if stateOn s then bankLive s b
  else if retains s then bankLive s b || bit (liveNat s K.retainMask) b
  else false

/-- A spare bank is powered: while a bank migrates to it, as the bank it stands for would be, and in DORMANT and SNIFF
while RETAIN_MASK names the spare itself (R47). It is off until assigned (Table 3.5). -/
def spareOn (s : State) (k : Nat) : Bool :=
  (s.repair.migrating.any fun m => m.2 == k) ||
    (match nth none s.repair.spareOf k with
     | some b => bankOn s b || (retains s && bit (liveNat s K.retainMask) (128 + k))
     | none => false)

/-- A physical lane is powered. -/
def laneOn (s : State) (p : Nat) : Bool :=
  if s.radio.state == .sniff then nth 255 s.scarab.lanePhys 0 == p
  else receiving s && (List.range 32).any fun n => bit (lanesActive s) n && nth 255 s.scarab.lanePhys n == p

/-- A radio domain is powered; the enable bit of its block gates it. -/
def radioDomain (s : State) (d : Nat) : Bool :=
  let used := pathsOf s .a ++ pathsOf s .b
  let window := s.radio.state == .sniff
  let mosaic := s.rx.mosaic != 0
  match d with
  | 180 => radioWorks s && (window || blockOn s 32)
  | 181 => window || (receiving s && used.contains .a && blockOn s 33)
  | 182 => receiving s && used.contains .b && blockOn s 34
  | 183 => transmitting s && blockOn s 35
  | 184 => window || ((transmitting s || (receiving s && used.any fun p => !pathMosaic s (p == .b))) && blockOn s 37)
  | 185 => (transmitting s || (receiving s && mosaic)) && blockOn s 38
  | _ => window || ((transmitting s || receiving s) && blockOn s 39)

/-- PWR.PDSTAT: domain n is on. -/
def domainOn (s : State) (n : Nat) : Bool :=
  if n < 128 then bankOn s n && !s.repair.spareOf.contains (some n)
  else if n < 132 then spareOn s (n - 128)
  else if n < 166 then laneOn s (n - 132)
  else if n = 166 then s.sup.power != .off && s.sup.power != .shutdown
  else if n < 174 then stateOn s && bit s.qe.slicesOn.toNat (n - 166)
  else if n = 174 then s.sup.power != .off
  else if n = 176 ∨ n = 177 then stateOn s || s.radio.state == .sniff
  else if 180 ≤ n ∧ n ≤ 186 then radioDomain s n
  else if n = 195 ∨ n = 199 then booting s
  else if n = 198 then booting s || !s.repair.migrating.isEmpty
  else if n = 193 ∧ asleep s then s.hod.sleepCkpt.isSome
  else if n = 205 then stateOn s || (asleep s && blockOn s 4)
  else
    match [179, 187, 188, 190, 191, 192, 193, 196, 202].findIdx? fun d => d == n with
    | some k => blockOn s k
    | none => stateOn s && decide (n < 206)

/-- CLK.CKSTAT1 (R85): the clock of a radio block runs while its bit is in force and its domain is on; that of SCARAB
while a lane's domain is. -/
def radioClocks (s : State) : Nat :=
  bitsOf ((List.range 8).map fun k => blockOn s (32 + k) &&
    (if k = 4 then (List.range 34).any fun p => domainOn s (132 + p)
     else domainOn s (nth 0 [180, 181, 182, 183, 0, 184, 185, 186] k)))

-- Gating (R86, R506, Table 4.10)

/-- The number of the gateable part that a register address belongs to. -/
def gateOfReg (a : Nat) : Option Nat :=
  if a = 0x1020 ∨ a = 0x1024 ∨ a = 0x1028 then some 0
  else if 0x4000 ≤ a ∧ a < 0x4400 then some 1
  else if 0x4400 ≤ a ∧ a < 0x5000 then some 2
  else if 0x6800 ≤ a ∧ a < 0x6C00 then some 4
  else if 0x6C00 ≤ a ∧ a < 0x7000 then some 5
  else if 0x7000 ≤ a ∧ a < 0x7400 then some 6
  else if 0x7800 ≤ a ∧ a < 0x7C00 then some 7
  else if 0x2000 ≤ a ∧ a < 0x2400 then some 32
  else if 0x2400 ≤ a ∧ a < 0x2800 then some 33
  else if 0x2800 ≤ a ∧ a < 0x2C00 then some 34
  else if 0x2C00 ≤ a ∧ a < 0x3000 then some 35
  else if 0x3000 ≤ a ∧ a < 0x3400 then some 36
  else if 0x3400 ≤ a ∧ a < 0x3420 then some 37
  else if a = 0x3420 ∨ a = 0x3424 then some 38
  else if 0x3800 ≤ a ∧ a < 0x4000 then some 39
  else none

/-- The blocks SYS, CLK, PWR and BOOT, which are served before ready (R119). -/
def earlyBlock (a : Nat) : Bool := decide (a < 0x1000)

-- Values

/-- Fields put together, each with its lowest bit. -/
def pack : List (Nat × Nat) → Nat
  | [] => 0
  | (lo, v) :: l => v * 2 ^ lo + pack l

/-- Bits 32k to 32k + 31 of a number. -/
def wordOf32 (x k : Nat) : Nat := field x (32 * k) 32

/-- The entry that a register address reads as, where the register is one field "as" an entry of at most 32 bits. -/
def sharedKey (a : Nat) : Option Nat :=
  match a with
  | 0x0000 => some K.devState
  | 0x0008 => some K.lastIllegal
  | 0x000C => some K.lockviol
  | 0x0010 => some K.roleActive
  | 0x0020 => some K.resetCause
  | 0x0400 => some K.clkStatus
  | 0x0408 => some K.xoCfg
  | 0x0410 => some K.cken0
  | 0x0414 => some K.cken1
  | 0x0440 => some K.ckoCfg
  | 0x0444 => some (K.ckoCfg + 1)
  | 0x0448 => some (K.ckoCfg + 2)
  | 0x044C => some (K.ckoCfg + 3)
  | 0x0450 => some K.ckoEn
  | 0x0460 => some K.tbState
  | 0x0464 => some K.tbFcw
  | 0x0468 => some K.tbPhase
  | 0x046C => some K.tbFreq
  | 0x0808 => some K.wakeEn
  | 0x0810 => some K.bodLevel
  | 0x0830 => some K.dieTemp
  | 0x0C04 => some K.readyTime
  | 0x0C08 => some K.quietLeft
  | 0x0C0C => some K.restoreLeft
  | 0x1000 => some K.spiCrc
  | 0x1008 => some K.irqMask
  | 0x1014 => some K.evtLost
  | 0x1024 => some K.fpStatus
  | 0x1028 => some K.fpFaults
  | 0x1100 => some K.pinmux0
  | 0x1104 => some K.pinmux1
  | 0x1108 => some K.gpiopull
  | 0x110C => some K.gpiodrv
  | 0x1110 => some K.gpiood
  | 0x1114 => some K.gpiooe
  | 0x1118 => some K.gpioout
  | 0x2000 => some K.synthStatus
  | 0x2004 => some K.synthLoHz
  | 0x2010 => some K.synthUnlocks
  | 0x2400 => some K.rssiA
  | 0x2404 => some K.rssiProvA
  | 0x2800 => some K.rssiB
  | 0x2804 => some K.rssiProvB
  | 0x2C04 => some K.antStatus
  | 0x3080 => some K.lanesActive
  | 0x3084 => some K.sparesLeft
  | 0x3410 => some K.afcHz
  | 0x3414 => some K.snr
  | 0x3424 => some K.mosaicEvm
  | 0x3804 => some K.hdrFails
  | 0x3808 => some K.crc32Fails
  | 0x380C => some K.corrected
  | 0x3810 => some K.signalLoss
  | 0x4000 => some K.radioState
  | 0x4084 => some K.cycle
  | 0x4400 => some K.seenUsed
  | 0x5000 => some K.freePairs
  | 0x5004 => some K.freeSingles
  | 0x5008 => some K.xsFree
  | 0x5024 => some K.seqEpoch
  | 0x6008 => some K.snapSeq
  | 0x6030 => some K.cmpStat
  | 0x6040 => some K.trigLost
  | 0x6044 => some K.skips
  | 0x7040 => some K.hodDrops
  | 0x7408 => some K.liveBytes
  | 0x7414 => some K.mountUs
  | 0x7804 => some K.txFcnt
  | 0x8004 => some K.mapGen
  | _ =>
    if 0x3000 ≤ a ∧ a < 0x3080 then some (K.laneMap + (a - 0x3000) / 4)
    else if 0x4020 ≤ a ∧ a < 0x4040 then some (K.dutyUsed + (a - 0x4020) / 4)
    else if 0x6100 ≤ a ∧ a < 0x6200 ∧ a % 16 = 0 then some (K.cmpCfg + (a - 0x6100) / 16)
    else if 0x6100 ≤ a ∧ a < 0x6200 ∧ a % 16 = 12 then some (K.cmpPeriod + (a - 0x6100) / 16)
    else if 0x6200 ≤ a ∧ a < 0x6300 ∧ a % 32 = 0 then some (K.cappCfg + (a - 0x6200) / 32)
    else if 0x6300 ≤ a ∧ a < 0x6320 ∧ a % 8 = 0 then some (K.capsCfg + (a - 0x6300) / 8)
    else if 0x6400 ≤ a ∧ a < 0x6440 ∧ a % 8 = 0 then some (K.cntCfg + (a - 0x6400) / 8)
    else if 0x6400 ≤ a ∧ a < 0x6440 ∧ a % 8 = 4 then some (K.cnt + (a - 0x6400) / 8)
    else if 0x6800 ≤ a ∧ a < 0x6820 then some (K.pulseCfg + (a - 0x6800) / 4)
    else if 0x6840 ≤ a ∧ a < 0x6860 then some (K.lineCodes + (a - 0x6840) / 4)
    else if 0x6C00 ≤ a ∧ a < 0x6C40 then some (K.adcSeq + (a - 0x6C00) / 4)
    else if 0x7000 ≤ a ∧ a < 0x7040 ∧ a % 8 = 0 then some (K.hodCfg + (a - 0x7000) / 8)
    else if 0x7000 ≤ a ∧ a < 0x7040 ∧ a % 8 = 4 then some (K.hodQueue + (a - 0x7000) / 8)
    else none

/-- The VCO frequency of the LO in force. -/
def vcoHz (s : State) : Nat := if s.radio.lo = 0 then 0 else s.radio.lo * dividerOf s.radio.lo

/-- RXn.AGC: in automatic gain the gain the loop has reached is measured by nothing the block is told. -/
def agcReg (s : State) (p : Path) : Nat :=
  let frozen := match p with
    | .a => s.rx.gainA
    | .b => s.rx.gainB
  let used := receiving s && (pathsOf s .a ++ pathsOf s .b).contains p
  let gain := if liveNat s K.agcMode = 1 then liveNat s K.agcGain
    else match frozen with
      | some g => g.toNat
      | none => if used then 2 * (Config.free s.draws % 37) else 0
  pack [(0, gain), (8, b2n frozen.isSome)]

/-- RXn.NOISE. -/
def noiseReg (nf : Half) (valid : Bool) : Nat := pack [(0, nf.toNat), (16, b2n valid)]

/-- The failed physical lanes as bits. -/
def failMask (s : State) : Nat := (distinctKeys s.scarab.physFail).foldl (fun m p => m + 2 ^ p) 0

/-- TIMER.CAPSTAT and CAPSSTAT. -/
def capStat (s : State) : Nat :=
  bitsOf (((List.range 8).map fun u => let c := capPairNow s u; [c.rnew, c.fnew, c.rovr, c.fovr]).flatten)
def capsStat (s : State) : Nat := bitsOf (((List.range 4).map fun k => let c := capSingleNow s k; [c.new_, c.ovr]).flatten)

/-- Work of Mortar that R397 defers. -/
def deferred (s : State) : Bool :=
  hot s && (!s.jrn.stage.isEmpty || !s.mortar.waiting4.isEmpty || !s.mortar.refresh.isEmpty ||
    !(dirtyQueues s).isEmpty || !s.mortar.repairs.isEmpty || !(dirtySectors s.mortar).isEmpty)

/-- The registers of SYS, CLK, PWR and BOOT beside the shared ones. -/
def readEarly (s : State) (a : Nat) : Option Nat :=
  match a with
  | 0x0004 => some 0
  | 0x0024 => some 0
  | 0x0404 => some (pack [(0, s.clk.mon.toNat), (8, s.clk.unlocks.toNat)])
  | 0x0418 => some s.clk.run0.toNat
  | 0x041C => some (radioClocks s)
  | 0x0420 => some s.clk.gateLog.toNat
  | 0x0430 => some s.clk.hfrcTrim.toNat
  | 0x0434 => some s.clk.lfrcTrim.toNat
  | 0x0438 => some (if s.clk.lfSrc then s.clk.incLfxo.toNat else s.clk.incLfrc.toNat)
  | 0x0800 => some (pack [(0, s.sup.power.code), (3, s.sup.therm.val), (6, s.sup.op.val), (9, b2n s.sup.bodWarn)])
  | 0x0804 => some 0
  | 0x080C => some s.sup.wakeSrc.toNat
  | 0x0814 => some (pack [(0, s.sup.vinMv.toNat % 4096), (16, s.sup.vholdMv.toNat % 4096)])
  | 0x0820 => some (pack [(0, liveNat s K.opReq), (4, activityFloor s), (8, if hot s then 2 else 3)])
  | 0x0824 => some (pack [(0, liveNat s K.plumbEn), (4, plumbTrim s), (16, s.sup.vcore.toNat)])
  | 0x0C00 => some (pack [(0, s.boot.phase.val), (3, b2n s.boot.footingOk), (4, s.boot.course.val),
      (8, min 3 s.boot.fails.toNat), (10, b2n (!s.sys.restore.isEmpty))])
  | _ =>
    if 0x0840 ≤ a ∧ a < 0x085C then
      some (bitsOf ((List.range 32).map fun i => domainOn s (8 * (a - 0x0840) + i)))
    else if 0x0860 ≤ a ∧ a < 0x0874 then some (wordOf32 (liveNat s K.retainMask) ((a - 0x0860) / 4))
    else if 0x0880 ≤ a ∧ a < 0x0894 then some (wordOf32 (liveMask s) ((a - 0x0880) / 4))
    else none

/-- The registers of the port and the radio beside the shared ones. -/
def readPortRadio (s : State) (a : Nat) : Option Nat :=
  match a with
  | 0x1004 => some s.spi.errcode.toNat
  | 0x100C => some s.spi.rcptQ.toNat
  | 0x1010 => some s.spi.rcptSeq.toNat
  | 0x1020 => some (pack [(0, liveNat s K.fpAddr), (8, liveNat s K.fpBaud), (12, liveNat s K.fpPolarity),
      (16, liveNat s K.fpRetry)])
  | 0x111C => some s.pins.gpio.toNat
  | 0x2008 => some (vcoHz s / 40000000)
  | 0x200C => some (vcoHz s % 40000000)
  | 0x2408 => some (noiseReg s.rx.nfA (bit s.rx.nfValid.toNat 0))
  | 0x240C => some (agcReg s .a)
  | 0x2808 => some (noiseReg s.rx.nfB (bit s.rx.nfValid.toNat 1))
  | 0x280C => some (agcReg s .b)
  | 0x2C00 => some (pack [(0, s.radio.effective), (8, liveNat s K.txPower)])
  | 0x2C08 => some s.radio.vpa
  | 0x3088 => some (wordOf32 (failMask s) 0)
  | 0x308C => some (wordOf32 (failMask s) 1)
  | 0x3090 => some (pack [(0, (detsOn s .a).length), (4, (detsOn s .b).length)])
  | 0x3094 => some s.scarab.lastTag.toNat
  | 0x3400 => some (pack [(0, liveNat s K.chipRate), (4, liveNat s K.txSf), (8, liveNat s K.netCode)])
  | 0x3404 => some (pack [(0, liveNat s K.syncWord), (16, liveNat s K.syncTol)])
  | 0x3408 => some (pack [(0, liveNat s K.preambleSym), (8, liveNat s K.earlyN), (16, liveNat s K.earlyThr)])
  | 0x3420 => some (pack [(0, liveNat s K.mosaicMcs), (4, liveNat s K.mosaicDd), (8, liveNat s K.mosaicMu),
      (16, liveNat s K.mosaicDetThr)])
  | 0x3800 => some (pack [(0, s.rx.length.toNat % 1024), (16, b2n s.rx.hdrOk), (17, b2n s.rx.crcOk)])
  | 0x4004 => some 0
  | 0x4008 => some (pack [(0, unsigned 16 (ccaThr s false)), (16, unsigned 16 (ccaThr s true))])
  | 0x400C => some s.radio.ccaLast.toNat
  | 0x4040 => some (pack [(0, s.radio.ffWakes.toNat % 65536), (16, s.radio.ffFalse.toNat % 65536)])
  | 0x4080 => some (pack [(0, (myAddr s).toNat), (16, b2n s.net.joined)])
  | 0x4088 => some (pack [(0, (s.tb.ref.getD 0).toNat), (16, tbDepth s % 16)])
  | 0x408C => some s.net.pollNext.toNat
  | 0x4404 => some (32 - s.swarm.buffers.length)
  | 0x4408 => some (pack [(0, s.net.mseq.toNat), (16, s.swarm.fseq.toNat)])
  | _ => none

/-- The registers of the queue engine and the timers beside the shared ones. -/
def readQueueTimer (s : State) (a : Nat) : Option Nat :=
  match a with
  | 0x500C => some (pack [(0, s.qe.stones.length), (16, (s.qe.stones.filter fun t => pinned s t.queue).length)])
  | 0x5010 => some (bitsOf (s.qe.evb.map fun e => e.isSome))
  | 0x5014 => some s.qe.segGen.toNat
  | 0x5020 => some (pack [(0, jrnStaged s.jrn), (16, ledgerDirty s)])
  | 0x6000 => some (s.timer.time.toNat % 2 ^ 32)
  | 0x6004 => some 0
  | 0x600C => some (wordOf32 s.timer.snapTime.toNat 0)
  | 0x6010 => some (wordOf32 s.timer.snapTime.toNat 1)
  | 0x6014 => some (wordOf32 s.timer.snapNtime.toNat 0)
  | 0x6018 => some (wordOf32 s.timer.snapNtime.toNat 1)
  | 0x6034 => some (capStat s)
  | 0x6038 => some (capsStat s)
  | 0x603C => some (bitsOf (s.timer.cnts.map fun c => c.ovf))
  | 0x6050 => some s.timer.stgMask.toNat
  | 0x6054 => some (wordOf32 s.timer.stgBase.toNat 0)
  | 0x6058 => some (wordOf32 s.timer.stgBase.toNat 1)
  | 0x605C => some s.timer.stgSpace.toNat
  | 0x6060 => some s.timer.stgPer.toNat
  | 0x6064 => some 0
  | _ =>
    if 0x6020 ≤ a ∧ a < 0x6030 then
      let k := (a - 0x6020) / 4
      some (pack [(0, (nth 0 s.timer.snapCnt (2 * k)).toNat), (16, (nth 0 s.timer.snapCnt (2 * k + 1)).toNat)])
    else if 0x6100 ≤ a ∧ a < 0x6200 then
      some (wordOf32 (getCmp s ((a - 0x6100) / 16)).val.toNat (if a % 16 = 4 then 0 else 1))
    else if 0x6200 ≤ a ∧ a < 0x6300 ∧ a % 32 ≤ 16 then
      let c := capPairNow s ((a - 0x6200) / 32)
      some (if a % 32 = 4 then c.rise.toNat else if a % 32 = 8 then c.fall.toNat else if a % 32 = 12 then c.width.toNat
        else c.per.toNat)
    else if 0x6300 ≤ a ∧ a < 0x6320 then some (capSingleNow s ((a - 0x6300) / 8)).val.toNat
    else none

/-- The registers of the pulse inputs, the ADC, Mortar, security and repair beside the shared ones. -/
def readRest (s : State) (a : Nat) : Option Nat :=
  match a with
  | 0x6820 => some (pack ((List.range 8).map fun n => (4 * n, (getPulse s n).line.code)))
  | 0x6824 => some (bitsOf (s.pulse.chans.map fun c => c.level))
  | 0x6C40 => some (pack [(0, liveNat s K.adcSeqLen), (9, b2n s.adc.running), (10, b2n s.adc.pend)])
  | 0x7400 => some (pack [(0, s.mortar.state.val), (4, b2n s.mortar.erasing.isSome), (5, b2n s.mortar.erasing.isSome),
      (6, b2n (deferred s))])
  | 0x7404 => some (pack [(0, prepared s.mortar true), (8, prepared s.mortar false), (16, usable s.mortar true),
      (24, usable s.mortar false)])
  | 0x740C =>
    let e := eraseCounts s.mortar true ++ eraseCounts s.mortar false
    some (pack [(0, listMax e % 65536), (16, listMin e % 65536)])
  | 0x7410 => some s.mortar.nextGen.toNat
  | 0x7800 => some (pack [(0, bitsOf ((List.range 8).map fun n => (keyOf s n).isSome)), (8, b2n (fpLock s))])
  | 0x7C00 => some (pack [(3, b2n s.mortar.erasing.isSome), (10, s.repair.bistUnit.val)])
  | 0x8000 => some (pack [(0, bankSpares s), (3, b2n (!s.repair.migrating.isEmpty)), (8, s.repair.slicesOk.toNat)])
  | _ =>
    if 0x6C80 ≤ a ∧ a < 0x6CA0 then
      let k := (a - 0x6C80) / 4
      some (pack [(0, (nth 0 s.adc.last (2 * k)).toNat), (16, (nth 0 s.adc.last (2 * k + 1)).toNat)])
    else none

/-- What the register at an address reads as; none where no register stands. -/
def regValue (s : State) (a : Nat) : Option Nat :=
  match sharedKey a with
  | some key => some (leNat (readEntry s key) % 2 ^ 32)
  | none =>
    if a < 0x1000 then readEarly s a
    else if a < 0x5000 then readPortRadio s a
    else if a < 0x6800 then readQueueTimer s a
    else readRest s a

/-- What reading a register does: RISE, FALL and VAL of the capture units clear their flags (R420, R421); the gain in
automatic mode moves on. -/
def regReadEffect (a : Nat) (s : State) : State :=
  if 0x6200 ≤ a ∧ a < 0x6300 ∧ a % 32 = 4 then clearNew ((a - 0x6200) / 32) true false s
  else if 0x6200 ≤ a ∧ a < 0x6300 ∧ a % 32 = 8 then clearNew ((a - 0x6200) / 32) false true s
  else if 0x6300 ≤ a ∧ a < 0x6320 ∧ a % 8 = 4 then clearNew (8 + (a - 0x6300) / 8) true true s
  else if a = 0x240C ∨ a = 0x280C then { s with draws := s.draws + 1 }
  else s

end Sys2Proof.Machine
end

