-- ==== Sys2Proof/Machine/Reset.lean ====
section
/-! DEFINITION. Resets, the boot sequence, the restore of durable queues, and the wakes (file 05, R41, R43, R48).
What the manual leaves open here and how the model reads it, with its mark: log entries 18 to 29. -/

namespace Sys2Proof.Machine

-- What a reset keeps (Table 5.2, R48, R509)

/-- The boot is in progress. -/
def inBoot (s : State) : Bool := booting s && !s.boot.held

/-- A reset other than the power-on or brown-out one is asserted. -/
def inReset (s : State) : Bool := s.boot.held && s.sup.power != .off

/-- The reset that is asserted was taken before the boot before it reported ready, or the boot in progress is cut (bit 9
of Table 5.1). -/
def cutBoot (s : State) : Bool := inBoot s || (inReset s && bit s.boot.cause.toNat 9)

/-- A further source of the reset that is asserted (R111): while it is, only a source of the same cycle can be reported,
since a reset stops everything that raises one (log entry 110). -/
def addCause (cause : Nat) (s : State) : State :=
  { s with boot := { s.boot with cause := s.boot.cause ||| BitVec.ofNat 16 (2 ^ cause) } }

/-- The state that a cold reset leaves: what lies in Mortar, in fuses, or outside the device. -/
def coldState (s : State) : State := { State.reset with
  id := s.id
  mortar := dropWaiting s.mortar
  repair := { Repair.reset with factory := s.repair.factory }
  sec := { Security.reset with decomCount := s.sec.decomCount }
  pins := s.pins
  sup := { Supply.reset with vinMv := s.sup.vinMv, vholdMv := s.sup.vholdMv }
  draws := s.draws
  pending := s.pending }

/-- The entries of the compare and capture setup, which lie in AON. -/
def timerKey (k : Nat) : Bool :=
  inRun k K.cmpCfg 16 || inRun k K.cmpVal 16 || inRun k K.cmpPeriod 16 || inRun k K.cappCfg 8 || inRun k K.capsCfg 4 ||
    inRun k K.cntCfg 8

/-- The state that a warm reset leaves; with `ashlar` false what a wake from SHUTDOWN finds: AON alone. A migration is
abandoned (R467); open frames, loads, detections and transmissions are gone (R116). -/
def warmState (ashlar : Bool) (s : State) : State :=
  let c := coldState s
  let channel := fun (p : PulseCh) => ({ noPulse with level := p.level, out := p.level } : PulseCh)
  { c with
    sys := { Sys.reset with lockviol := s.sys.lockviol, restore := if ashlar then s.sys.restore else [] }
    sup := { c.sup with
      power := .idle, therm := s.sup.therm, temp := s.sup.temp, changedAt := s.sup.changedAt, wakeSrc := s.sup.wakeSrc }
    live := s.live.filter fun p => timerKey p.1
    spi := if ashlar then { Spi.reset with rcptQ := s.spi.rcptQ, rcptSeq := s.spi.rcptSeq } else Spi.reset
    jrn := if ashlar then s.jrn else Journal.reset
    qe := if ashlar then { s.qe with segGen := 0, refusals := [], classChange := none } else QueueEngine.reset
    repair := { c.repair with
      tempMin := s.repair.tempMin, tempMax := s.repair.tempMax, vinMin := s.repair.vinMin
      vholdMin := s.repair.vholdMin, telemSeen := s.repair.telemSeen }
    radio := { Radio.reset with bins := s.radio.bins }
    net := { Net.reset with stations := s.net.stations, newest := s.net.newest }
    sec := { c.sec with
      epoch := s.sec.epoch, count := s.sec.count, high := s.sec.high, map := s.sec.map, valid := s.sec.valid }
    timer := s.timer
    pulse := { Pulse.reset with
      chans := s.pulse.chans.map channel, restore := s.pulse.restore, ckptSeq := s.pulse.ckptSeq }
    clk := { Clocks.reset with
      lfxoOk := s.clk.lfxoOk, lfSrc := s.clk.lfSrc, incLfxo := s.clk.incLfxo, incLfrc := s.clk.incLfrc } }

-- Phases 1 to 4

/-- Phase 1: the factory repair map is applied. -/
def factoryPhase (s : State) : State :=
  let s := s.repair.factory.foldl (fun t e => applyEntry e t) s
  { s with sys := { s.sys with dev := .boot } }

/-- Phase 2: XO is judged started and the root PLL locks. -/
def clockPhase (s : State) : State := { s with clk := { s.clk with xoOk := true, lock := true } }

/-- ELOG_NEXT goes on after the newest record of the event log. -/
def elogAfter (m : Mortar) : Nat :=
  match newestOf ((logRecs m).filter fun x => x.1.type == rtElog) with
  | some (r, _) => (r.key + 1) % 64
  | none => 0

/-- CKPT_SEQ goes on from the highest sequence of the checkpoints found. -/
def ckptAfter (m : Mortar) (seq : Word) : Word :=
  (List.range 8).foldl (fun q n =>
    match ckptOf m n with
    | some p => BitVec.ofNat 32 (max q.toNat (leNat ((p.drop 4).take 4)))
    | none => q) seq

/-- Phase 3: the mount, and whether it finds a Footing (R122). -/
def mountPhase (us : Word) (s : State) : State :=
  let s := mount us (!s.sys.skipped)
    { s with
      repair := { s.repair with elogNext := elogAfter s.mortar }
      pulse := { s.pulse with ckptSeq := ckptAfter s.mortar s.pulse.ckptSeq } }
  let found := footingFound s.mortar
  { s with boot := { s.boot with
    footingOk := found, cause := if found then s.boot.cause else s.boot.cause ||| 0x800#16 } }

/-- The entries of a map (Table 18.2). -/
def mapEntries : Nat → Bytes → List MapEntry
  | 0, _ => []
  | n + 1, b => ⟨b.getD 0 0, b.getD 1 0, b.getD 2 0, b.getD 3 0⟩ :: mapEntries n (b.drop 4)

/-- A field map as an RMAP payload holds it, when it is well formed. -/
def parseMap (p : Bytes) : Option (Word × List MapEntry) :=
  let n := (p.getD 4 0).toNat
  if decide (n ≤ 62) && p.length == 8 + 4 * n then
    some (BitVec.ofNat 32 (leNat (p.take 4)), mapEntries n (p.drop 8))
  else none

/-- A sealed copy of the field map that can be read; and whether a copy has ever been written. -/
def mapCopy (m : Mortar) (k : Nat) : Option (Word × List MapEntry) := (payloadOf m rtRmap k).bind parseMap
def mapWritten (m : Mortar) : Bool := (newestKey m rtRmap 0).isSome || (newestKey m rtRmap 1).isSome

/-- Both copies are unreadable. -/
def mapUnreadable (m : Mortar) : Bool := mapWritten m && (mapCopy m 0).isNone && (mapCopy m 1).isNone

/-- Put the field map of the boot in force, after the factory map (R464); `rewrite` has both copies written again. -/
def applyMap (gen : Word) (l : List MapEntry) (rewrite : Bool) (s : State) : State :=
  let s := l.foldl (fun t e => applyEntry e t) s
  { s with
    repair := { s.repair with map := l, mapGen := gen }
    mortar := if rewrite then { s.mortar with waiting4 := s.mortar.waiting4 ++ mapRecs gen l } else s.mortar }

/-- The field map: the readable copy of the higher MAP_GEN. -/
def fieldMap (s : State) : State :=
  match mapCopy s.mortar 0, mapCopy s.mortar 1 with
  | some a, some b => if a.1.toNat < b.1.toNat then applyMap b.1 b.2 false s else applyMap a.1 a.2 false s
  | some a, none => applyMap a.1 a.2 true s
  | none, some b => applyMap b.1 b.2 true s
  | none, none => s

/-- Phase 4: the field map, and the catch-up commit where the reset commit was skipped (R115). -/
def repairPhase (run : BootRun) (s : State) : State :=
  let s := fieldMap s
  if bit s.boot.cause.toNat 10 then fullCommit run.fails s else s

-- Phase 5 (R144, R357, R361, R434, R449)

/-- The epoch that phase 5 advances: that of the newest EPOCH record, or, where that one is damaged, the highest epoch
field of the sealed sequences and the older EPOCH records. -/
def epochFound (m : Mortar) : BitVec 12 :=
  match newestKey m rtEpoch 0 with
  | some (_, true) =>
    let fields := (logRecs m).filterMap fun x =>
      if x.2 then none
      else if x.1.type = rtJacc ∨ x.1.type = rtJrel ∨ x.1.type = rtRcpt then
        some (leNat ((x.1.payload.drop 4).take 4) / 2 ^ 20)
      else if x.1.type = rtEpoch then some (leNat (x.1.payload.take 2)) else none
    BitVec.ofNat 12 (listMax fields)
  | _ => seqEpoch m

/-- The queues that sealed LEDGER records name. -/
def ledgerQueues (m : Mortar) : List Nat :=
  distinctKeys (((logRecs m).filter fun x => x.1.type == rtLedger && !x.2).map fun x =>
    (ledgerEntries 32 x.1.payload).map fun e => e.1).flatten

/-- Load every ledger window from its newest sealed entry. -/
def loadWindows (s : State) : State :=
  (ledgerQueues s.mortar).foldl (fun t q =>
    match sealedWindow s.mortar q with
    | some w => setQueue q { getQueue t q with valid := w.1, lastSeq := w.2 } t
    | none => t) s

/-- Load the receipt registers from the newest RCPT record. -/
def loadReceipt (s : State) : State :=
  let p := (payloadOf s.mortar rtRcpt 0).getD []
  { s with spi := { s.spi with
    rcptQ := BitVec.ofNat 16 (leNat (p.take 2)), rcptSeq := BitVec.ofNat 32 (leNat ((p.drop 4).take 4)) } }

/-- Phase 5 of a boot that does not keep Ashlar: the new epoch is sealed, and the boot waits while it cannot be. -/
def rebuildPhase (s : State) : Option State :=
  let e := epochFound s.mortar + 1
  let x := appendAll 3 (hotWrite s) [epochRec e] s.mortar
  if s.mortar.state != 1 || hot s || !x.2.isEmpty then none
  else
    let base : Word := e.setWidth 32 <<< 20
    let s := loadReceipt (loadWindows { s with
      mortar := x.1
      qe := { s.qe with
        queues := [], accBase := base, stones := [], evb := List.replicate 4 none, xsBad := [] }
      sec := { s.sec with epoch := e, count := 0 } })
    some (if s.boot.kind = .cold then restoreCounters s else s)

/-- The queue check reads a word of Keystone or of Ashlar by ECC. -/
def eccCheck (x : EccFind) (s : State) : State :=
  match x with
  | .stone slice place found => keystoneScrub slice.val place.val found s
  | .word bank row found => ashlarScrub bank.val row.toNat found s

/-- Phase 5. A warm boot checks each stone and descriptor by ECC and completes the evictions in progress. -/
def queuePhase (run : BootRun) (s : State) : Option State :=
  if s.boot.kind = .warm then
    let s := run.checks.foldl (fun t x => eccCheck x t) s
    some ((List.range 4).foldl (fun t i => retireEntry i t) s)
  else rebuildPhase s

-- Phase 6 (R83, R169, R195, R300, R337)

/-- The keys of a type of record that the log holds. -/
def recKeys (m : Mortar) (type : Byte) : List Nat :=
  distinctKeys (((logRecs m).filter fun x => x.1.type == type && !x.2).map fun x => x.1.key)

/-- Set the table values of a block from place `i` on. -/
def setBlock (put : Nat → Nat → State → State) (width : Nat) : Nat → Nat → Bytes → State → State
  | 0, _, _, s => s
  | n + 1, i, b, s => setBlock put width n (i + 1) (b.drop width) (put i (leNat (b.take width)) s)

/-- The tables that FTAB records hold: the poll table, and the attributes of the queues. -/
def loadTables (s : State) : State :=
  let putPoll := fun (a v : Nat) (t : State) =>
    { t with net := { t.net with polls := tabSet 0 a (BitVec.ofNat 8 v) t.net.polls } }
  let putAttr := fun (q v : Nat) (t : State) => setQueue q { getQueue t q with attr := BitVec.ofNat 16 v } t
  let s := s.qe.queues.foldl (fun t x => putAttr x.1 0 t) s
  (recKeys s.mortar rtFtab).foldl (fun t k =>
    match payloadOf s.mortar rtFtab k with
    | none => t
    | some p =>
      if k < 131072 then setBlock putPoll 1 256 (256 * (k - 65536)) p t
      else setBlock putAttr 2 128 (128 * (k - 131072)) p t) s

/-- The Course of the boot: the one COURSE_BOOT names, while it has a valid image. -/
def bootCourse (s : State) : State :=
  let n := leNat ((footValue s.mortar K.courseBoot).getD (defaultOf K.courseBoot))
  match (if n < 8 then courseImage s.mortar n else none) with
  | some img => { s with
      courses := { s.courses with active := Fin.ofNat 16 n, image := img }
      boot := { s.boot with course := Fin.ofNat 16 n } }
  | none => { s with boot := { s.boot with course := 15 } }

/-- The role that the Footing holds. -/
def roleOf (code : Nat) : Role := if code = 3 then .coordinator else if code = 2 then .relay else .node

/-- CKEN0 and CKEN1 of the boot: the domains they name have reached power-good when it is over. -/
def bootClocks (s : State) : State :=
  let e0 := stored K.cken0 (sourceOf s K.cken0)
  let e1 := stored K.cken1 (sourceOf s K.cken1)
  let s := setLive (setLive s K.cken0 e0) K.cken1 e1
  { s with clk := { s.clk with run0 := BitVec.ofNat 9 (leNat e0), run1 := BitVec.ofNat 8 (leNat e1) } }

/-- Phase 6: the Footing and the active Course. The compare and capture setup that a reset has kept stays; what a pin
action has made of PORT.GPIOOUT since the reset began is overwritten (R418). -/
def footingPhase (s : State) : State :=
  let s := bootCourse (loadTables { s with live := s.live.filter fun p => p.1 != K.gpioout })
  let s := { s with sys := { s.sys with role := roleOf (leNat (sourceOf s K.role)) } }
  let foot := recKeys s.mortar rtFoot
  let course := (entriesOf s.courses.image).map fun r => r.key
  let keys := (foot ++ course.filter fun k => !foot.contains k).filter fun k =>
    k != K.cken0 && k != K.cken1 && (s.boot.kind == .cold || !timerKey k)
  let s := recompute keys (bootClocks s)
  { s with
    pulse := { s.pulse with stopped := false }
    field := { s.field with
      addr := BitVec.ofNat 8 (liveNat s K.fpAddr), baud := BitVec.ofNat 8 (liveNat s K.fpBaud) } }

-- Ready (R122 to R129)

/-- The device state at ready (Table 5.5). -/
def stateAtReady (s : State) : DevState :=
  if s.sup.therm.val = 3 ∨ s.clk.xoFailed = true ∨ 3 ≤ s.boot.fails.toNat then .safe
  else if !s.boot.footingOk then .config
  else if s.sys.role = .coordinator then .run
  else .quiet

/-- JACC records of a chain that count or are damaged. -/
def jaccSealed (m : Mortar) (q : Nat) (inCh : Bool) : List (Rec × Bool) :=
  (logRecs m).filter fun x => x.1.type == rtJacc && (jaccOf x.1.payload).1 == q && (jaccOf x.1.payload).2.1 == inCh

/-- The sequence of a JACC record. -/
def jaccSeq (r : Rec) : Word := (jaccOf r.payload).2.2.2.2

/-- Insert a number in ascending order. -/
def insertNat (x : Nat) : List Nat → List Nat
  | [] => [x]
  | y :: l => if x ≤ y then x :: y :: l else y :: insertNat x l

/-- The queues that hold frames not released, damaged ones too, in ascending number. -/
def queuesToRestore (m : Mortar) : List Nat :=
  let open_ := (logRecs m).filter fun x => x.1.type == rtJacc &&
    !released m (jaccOf x.1.payload).1 (jaccOf x.1.payload).2.1 (jaccSeq x.1)
  (distinctKeys (open_.map fun x => (jaccOf x.1.payload).1)).foldl (fun l q => insertNat q l) []

/-- BOD_WARN is armed (R49): a VIN below its threshold, as a reversed one is (R26), brings it into force at once. What
its commit measures is open. -/
def armBod (s : State) : State :=
  if bodArmed s && (s.pins.reversed || decide (s.sup.vinMv.toNat < bodThr s)) then
    let x := freeBits 16 s
    let y := freeBits 16 x.2
    enterBod ⟨BitVec.ofNat 16 x.1, BitVec.ofNat 16 y.1, []⟩ y.2
  else s

/-- A queue gives back what a restore has put into its chains, before it is restored again (R132). -/
def unrestore (q : Nat) (s : State) : State := setQueue q { getQueue s q with inCh := [], outCh := [] } s

/-- The durable queues that a boot leaves to restore: those that a warm boot finds still to restore, or every one again
after a restore that BOD_WARN had stopped (R132). -/
def restoresOf (s : State) : List Nat :=
  if s.boot.kind = .warm ∧ s.boot.anew = false then s.sys.restore
  else if s.sys.skipped then (if s.boot.kind = .warm then s.sys.restore else []) else queuesToRestore s.mortar

/-- Phase 7: ready. -/
def reportReady (run : BootRun) (s : State) : State :=
  let d := stateAtReady s
  let restore := restoresOf s
  let s := if s.boot.anew && !s.sys.skipped then restore.foldl (fun t q => unrestore q t) s else s
  let s := { s with
    sys := { s.sys with ready := true, dev := d, restore := restore }
    boot := { s.boot with
      anew := s.boot.anew && s.sys.skipped
      phase := 7, readyUs := run.us, readyAt := s.timer.time.toNat, waiting := none, hold := holdMs s
      fails := if d = .safe then s.boot.fails else 0 } }
  let s := if mapUnreadable s.mortar && !s.sys.skipped then postRepair 0 0xFFFFFFFF s else s
  autoReceive (judgeOff (armBod (leaveBootTb s)))

-- The boot sequence (R117)

/-- The work of a phase; none while it waits. -/
def phaseWork (p : Nat) (run : BootRun) (s : State) : Option State :=
  if p = 1 then some (factoryPhase s)
  else if p = 2 then some (clockPhase s)
  else if p = 3 then some (mountPhase run.mountUs s)
  else if p = 4 then some (repairPhase run s)
  else if p = 5 then queuePhase run s
  else if p = 6 then some (footingPhase s)
  else some s

/-- Run the phases given, then report ready. A phase that does not end leaves the boot waiting in it; phase 3 does not
wait for phase 2, so a boot that waits there has mounted Mortar. -/
def runPhases : List Nat → BootRun → State → State
  | [], run, s => reportReady run s
  | p :: ps, run, s =>
    let s := { s with boot := { s.boot with phase := Fin.ofNat 8 p } }
    if run.stall.any fun q => q.val == p then
      let s := if p = 2 then mountPhase run.mountUs s else s
      { s with boot := { s.boot with waiting := some run } }
    else
      match phaseWork p run s with
      | some t => runPhases ps run t
      | none => { s with boot := { s.boot with waiting := some run } }

/-- The phases of a boot; phases 4 to 6 are skipped once BOOT_FAILS has reached 3 (R123). -/
def phasesOf (skip : Bool) : List Nat := if skip then [0, 1, 2, 3] else [0, 1, 2, 3, 4, 5, 6]

/-- The reset that is asserted ends, and the boot begins. -/
def startBoot (run : BootRun) (s : State) : State :=
  let skip := decide (3 ≤ s.boot.fails.toNat)
  runPhases (phasesOf skip) run { s with
    sys := { s.sys with dev := .notReady, skipped := skip }
    boot := { s.boot with held := false, resetDue := false }
    sup := { s.sup with power := .idle } }

/-- A boot that waits in phase 2 goes on once the root PLL is locked, or on HFRC after an XO failure. -/
def resumeBoot (s : State) : State :=
  match s.boot.waiting with
  | some run =>
    if inBoot s && s.boot.phase == 2 && ((s.clk.xoOk && s.clk.lock) || s.clk.xoFailed) then
      runPhases ((phasesOf s.sys.skipped).filter fun p => decide (3 < p)) { run with stall := none }
        { s with boot := { s.boot with waiting := none } }
    else s
  | none => s

/-- A boot that waits in phase 5 for the seal of its EPOCH record goes on once it can be programmed (R357, R397). -/
def resumeQueues (s : State) : State :=
  match s.boot.waiting with
  | some run =>
    if inBoot s && s.boot.phase == 5 && !hot s then
      runPhases ((phasesOf s.sys.skipped).filter fun p => decide (4 < p)) { run with stall := none }
        { s with boot := { s.boot with waiting := none } }
    else s
  | none => s

/-- THERM_SAMPLE, and what a boot has deferred until HOT ends. -/
def thermSampled (temp : Half) (s : State) : State := resumeQueues (thermSample temp s)

-- Resets (R111 to R116, R130, R133)

/-- Phase 5 of the boot in progress, or of the one before, has still to set up the queues and the receipt registers. -/
def unbuilt (s : State) : Bool :=
  s.boot.kind != .warm && (s.sys.skipped || (!s.sys.ready && decide (s.boot.phase.val ≤ 5)))

/-- The reset commit (R115): it runs only while Mortar is mounted, and there is nothing to commit before phase 5 of a
boot that does not keep Ashlar has ended (R132). After the power-fail commit of a BOD_WARN still in force the
checkpoints and the receipt record are sealed already (R133). -/
def resetCommit (fails : List (Nat × Bool)) (s : State) : State :=
  if unbuilt s then s
  else if s.sup.bodWarn then (if canCommit s then commitStage fails [] s else s)
  else fullCommit fails s

/-- Take a warm reset with a bit of Table 5.1; `commit` false skips the reset commit. In SHUTDOWN every domain but AON
is off: there is nothing to commit, and the boot does not keep Ashlar. The reset stays asserted. -/
def takeReset (cause : Nat) (commit : Bool) (fails : List (Nat × Bool)) (s : State) : State :=
  let shut := s.sup.power == .shutdown
  let kind := if shut then .shutdown else if unbuilt s then s.boot.kind else .warm
  let bits := 2 ^ cause + 512 * b2n (cutBoot s) + 1024 * b2n (!commit)
  let anew := !shut && ((s.sup.bodWarn && !s.sys.restore.isEmpty) || s.boot.anew)
  let t := warmState (!shut) (if commit && !shut then resetCommit fails s else s)
  { t with boot := { Boot.reset with
    cause := BitVec.ofNat 16 bits, fails := s.boot.fails, kind := kind, anew := anew
    resetDue := s.boot.resetDue, resetPort := s.boot.resetPort } }

/-- POWER_ON_RESET: the power-on reset is released. After a brown-out reset it is no second cause, unless VHOLD has
dipped below 0.40 V, where AON keeps no state. VIN is back, so a reversal is over (R26). With RESET_N low the device
stays in reset, and both sources are reported. -/
def powerOnReset (dipped : Bool) (run : BootRun) (s : State) : State :=
  let kept := s.sup.power == .off && bit s.boot.cause.toNat 1 && !dipped
  let t := { coldState s with
    boot := { Boot.reset with cause := if kept then s.boot.cause else 1 }
    pins := { s.pins with reversed := false } }
  if s.pins.resetLow then addCause 2 { t with sup := { t.sup with power := .idle } } else startBoot run t

/-- BROWN_OUT_RESET: every domain starts from off. -/
def brownOutReset (s : State) : State :=
  if s.sup.power = .off then s
  else { coldState s with boot := { Boot.reset with
    cause := BitVec.ofNat 16 (2 + 4 * b2n s.pins.resetLow + 512 * b2n (cutBoot s)) } }

/-- RESET_N is low: the warm reset is taken and held. The pin is in bank A (R17). -/
def resetN (s : State) : State :=
  if !s.pins.bankA then s
  else
    let s := { s with pins := { s.pins with resetLow := true } }
    if inReset s then addCause 2 s else if s.boot.held then s else takeReset 2 true [] s

/-- RESET_N is released: the boot begins. -/
def resetNRelease (run : BootRun) (s : State) : State :=
  let s := { s with pins := { s.pins with resetLow := false } }
  if inReset s then startBoot run s else s

/-- The response to RESET_CMD has been sent to its end (R113): fetched over SPI, on the field bus, in the reply or ACK
over the air. A field reply on the bus has been sent whole unless an echo fault follows. The device does not wait for a
port whose bank is unpowered (R17). -/
def responseSent (s : State) : Bool :=
  match s.boot.resetPort with
  | .spi => !s.pins.bankA || (!s.spi.asked && s.spi.resp.isNone)
  | .field => !s.pins.bankB || s.field.reply.isNone || s.field.sending
  | .air _ => s.net.held.isNone && s.radio.acks.isEmpty && !transmitting s

/-- The bits of further sources in force in the cycle of a reset (R111): a watchdog, software, RESET_CMD once its response
has been sent, and JTAG while its bank has power. -/
def alsoBits (run : BootRun) (s : State) : BitVec 16 :=
  let due := s.boot.resetDue && responseSent s
  run.also.setWidth 16 &&& BitVec.ofNat 16 (8 + 16 + 32 * b2n due + 64 * b2n s.pins.bankA)

/-- A warm reset that ends at once. -/
def resetAndBoot (cause : Nat) (commit : Bool) (run : BootRun) (s : State) : State :=
  let t := takeReset cause commit run.fails s
  startBoot run { t with boot := { t.boot with cause := t.boot.cause ||| alsoBits run s } }

/-- WATCHDOG_RESET (R112, R115): the MORTAR controller is not trusted to write after its own watchdog. -/
def watchdogReset (engine : Sys2Proof.Engine) (run : BootRun) (s : State) : State :=
  if inReset s then addCause 3 s
  else if absent s then s
  else resetAndBoot 3 (engine != .mortar) run s

/-- BOOT_WATCHDOG (R123). -/
def bootWatchdog (run : BootRun) (s : State) : State :=
  let counted := { s with boot := { s.boot with fails := inc8 s.boot.fails } }
  if inBoot s then resetAndBoot 3 true run counted
  else if cutBoot s then addCause 3 counted
  else s

/-- DEFERRED_RESET (R113): 1 ms after the response to RESET_CMD. -/
def deferredReset (run : BootRun) (s : State) : State :=
  if !s.boot.resetDue then s
  else if inReset s then addCause 5 { s with boot := { s.boot with resetDue := false } }
  else if s.boot.held || !responseSent s then s
  else resetAndBoot 5 true run s

/-- JTAG_RESET: the TAP has power in the states "with state", and its pins lie in bank A. -/
def jtagReset (run : BootRun) (s : State) : State :=
  if !s.pins.bankA then s
  else if inReset s then addCause 6 s
  else if absent s then s
  else resetAndBoot 6 true run s

-- Wakes (R41, R43, R44, R136)

/-- Wake from any sleep state, with the sources that PWR.WAKESRC names. From SHUTDOWN the boot runs. -/
def wakeFrom (sources : BitVec 7) (run : BootRun) (s : State) : State :=
  if s.sup.power = .shutdown then
    let t := warmState false s
    startBoot run { t with
      sup := { t.sup with wakeSrc := sources.setWidth 16 }
      boot := { Boot.reset with cause := 0x101, fails := s.boot.fails, kind := .shutdown } }
  else wakeIdle sources s

/-- Further sources of a wake that a Firefly window has seen join it while the window lasts (R293). -/
def joinWake (sources : BitVec 7) (s : State) : State :=
  if s.radio.window then { s with sup := { s.sup with wakeSrc := s.sup.wakeSrc ||| sources.setWidth 16 } } else s

/-- WAKE: the sources in force wake the device. -/
def wake (sources : BitVec 7) (run : BootRun) (s : State) : State :=
  let src := wakeSources sources s
  if asleep s && !s.boot.held && src != 0 then wakeFrom src run s else joinWake src s

/-- SPI_WAKE: a fall of SPI_CS_N wakes the device; the transaction's status byte reads 0x00, and the rest is ignored. -/
def spiWake (run : BootRun) (s : State) : State :=
  if !s.pins.bankA || s.pins.reversed then s
  else if asleep s && !s.boot.held then
    let s := wakeFrom (1#7 ||| (s.sup.wakeReq &&& BitVec.ofNat 7 (liveNat s K.wakeEn))) run s
    { s with spi := { s.spi with err := false, miso := [0] } }
  else joinWake 1#7 s

-- The clocks of the boot

def xoStarted (s : State) : State := resumeBoot (xoStart s)
def pllLocked (s : State) : State := resumeBoot (pllLock s)
def pllTimeout (s : State) : State := resumeBoot (lockTimeout s)

/-- XO_FAILURE (R95, R97): XO is monitored while it is judged started, in a window of SNIFF too. There the device wakes
into SAFE, where R97 has its ports working (log entry 111). -/
def xoFailure (s : State) : State :=
  if !s.clk.xoOk then s
  else if s.radio.state == .sniff then xoFail (wakeIdle 0 { s with
      clk := { s.clk with xoOk := false, lock := false }
      radio := { s.radio with state := .sleep } })
  else if absent s then s
  else resumeBoot (xoFail s)

-- The restore of durable queues (R128, R129, R367, R508)

/-- The payload of a frame from fragment `k` on, when the newest copy of every fragment up to the last is good. -/
def gather (recs : List (Rec × Bool)) (seq : Word) : Nat → Nat → Option Bytes
  | 0, _ => none
  | fuel + 1, k =>
    match newestOf (recs.filter fun x => jaccSeq x.1 == seq && (jaccOf x.1.payload).2.2.1 == k) with
    | some (r, false) =>
      let part := r.payload.drop 16
      if (jaccOf r.payload).2.2.2.1 then some part
      else (gather recs seq fuel (k + 1)).map fun rest => part ++ rest
    | _ => none

/-- Insert a sequence in acceptance order. -/
def insertSeq (x : Word) : List Word → List Word
  | [] => [x]
  | y :: l => if seqLe x y then x :: y :: l else y :: insertSeq x l

/-- The sequences of a chain that are not released, in acceptance order. -/
def chainSeqs (m : Mortar) (q : Nat) (inCh : Bool) : List Word :=
  let seqs := distinctKeys ((jaccSealed m q inCh).map fun x => (jaccSeq x.1).toNat)
  ((seqs.map fun n => BitVec.ofNat 32 n).filter fun x => !released m q inCh x).foldl (fun l x => insertSeq x l) []

/-- A frame of a chain as its records hold it, when they are all sealed; its segments are chosen later. -/
def sealedFrame (m : Mortar) (q : Nat) (inCh : Bool) (seq : Word) : Option Frame :=
  let recs := jaccSealed m q inCh
  match recs.find? (fun x => jaccSeq x.1 == seq && !x.2), gather recs seq 5 0 with
  | some (r, _), some payload =>
    some ⟨seq, r.payload.getD 10 0, BitVec.ofNat 32 (leNat ((r.payload.drop 12).take 4)), payload, [], false⟩
  | _, _ => none

/-- Append a restored frame to its chain; none when it finds no room. -/
def restoreFrame (q : Nat) (inCh : Bool) (f : Frame) (s : State) : Option State :=
  let v := getQueue s q
  match allocate s q f.payload.length with
  | none => none
  | some segs =>
    if 65535 ≤ (if inCh then v.inCh else v.outCh).length then none
    else
      let f := { f with segs := segs, mirrored := guarded s q }
      let s := advanceGen (appendWrites s q inCh segs.length) (touch q s)
      let v := getQueue s q
      let v' := if inCh then { v with
          inCh := v.inCh ++ [f]
          readMs := if v.inCh.isEmpty then nowMs s else v.readMs
          qto := if v.inCh.isEmpty then false else v.qto }
        else { v with outCh := v.outCh ++ [f] }
      let s := markParts q (appended inCh) (setQueue q v' s)
      some { s with qe := { s.qe with xsBad := s.qe.xsBad.filter fun i => !segs.contains i } }

/-- Restore frames in order. A frame that finds no room is lost with every later one of its chain, and their release is
staged as that of lost frames (R366, R367). -/
def restoreFrames (q : Nat) (inCh : Bool) : List Frame → State → State
  | [], s => s
  | f :: l, s =>
    match restoreFrame q inCh f s with
    | some t => restoreFrames q inCh l t
    | none => countLost q (l.length + 1) (releaseLost q inCh ((f :: l).getLastD f).seq s)

/-- Restore a chain. A frame whose fragments are not all sealed is not restored, and is counted. -/
def restoreChain (q : Nat) (inCh : Bool) (s : State) : State :=
  let seqs := chainSeqs s.mortar q inCh
  let frames := seqs.filterMap (sealedFrame s.mortar q inCh)
  let missing := seqs.length - frames.length
  restoreFrames q inCh frames
    (if missing = 0 then s else { s with qe := { s.qe with framesLost := incBy missing s.qe.framesLost } })

/-- JOURNAL_RESTORE: the next queues, in ascending number. BOD_WARN stops the restore. -/
def journalRestore : Nat → State → State
  | 0, s => s
  | n + 1, s =>
    if !s.sys.ready || s.sup.bodWarn || absent s then s
    else
      match s.sys.restore with
      | [] => s
      | q :: rest =>
        journalRestore n { restoreChain q true (restoreChain q false s) with
          sys := { s.sys with restore := rest } }

end Sys2Proof.Machine
end

