-- ==== Sys2Proof/Machine/RegWrite.lean ====
section
/-! DEFINITION. What a write of every register of Table 21.1 does (R3 to R8, R86, R119, R141, R174, R503).
What the manual leaves open here and how the model reads it, with its mark: log entries 17, 47 and 56. -/

namespace Sys2Proof.Machine

-- Fields that share an entry (R5, R8)

/-- The entry takes the value. -/
def entryTakes (s : State) (key : Nat) (b : Bytes) : Bool :=
  match rowOf (key / 256) (key % 256) with
  | some row => row.inRange b && settingOk s key b
  | none => false

/-- Write bits `lo` to `lo + width - 1` of the entry `key`: a refused value leaves it as it is (R5). -/
def writeField (key lo width v : Nat) (s : State) : State :=
  let old := readEntry s key
  let new := leBytes old.length (withField (leNat old) lo width v)
  if new = old then s
  else if entryTakes s key new then setEntry key new s
  else spiError errField s

/-- A register of several fields of one entry: each field is judged with those before it (R5). `fields` gives the lowest
bit and the width of each; the answer is the value and whether any was refused. -/
def mergeFields (s : State) (key n v : Nat) : List (Nat × Nat) → Nat → Nat × Bool
  | [], cur => (cur, false)
  | (lo, w) :: l, cur =>
    let new := withField cur lo w (field v lo w)
    let ok := field cur lo w == field v lo w || entryTakes s key (leBytes n new)
    let rest := mergeFields s key n v l (if ok then new else cur)
    (rest.1, rest.2 || !ok)

/-- Set an entry to a merged value, and report a refusal. -/
def writeMerged (key : Nat) (x : Nat × Bool) (s : State) : State :=
  let old := readEntry s key
  let new := leBytes old.length x.1
  let s := if new = old then s else setEntry key new s
  if x.2 then spiError errField s else s

/-- Write the fields of an entry, each judged on its own. -/
def writeFields (key : Nat) (fields : List (Nat × Nat)) (v : Nat) (s : State) : State :=
  let old := readEntry s key
  writeMerged key (mergeFields s key old.length v fields (leNat old)) s

/-- Bits of a pin register, `width` for each of `n` pins. -/
def pinFields (width n : Nat) : List (Nat × Nat) := (List.range n).map fun k => (width * k, width)

/-- CLK.CKOnCFG: SRC and PAIR of a running output stay (R104). -/
def writeCko (n v : Nat) (s : State) : State :=
  let key := K.ckoCfg + n
  let fixed := fun (f : Nat × Nat) => ckoRuns s n && (f.1 == 0 || f.1 == 24) &&
    field (liveNat s key) f.1 f.2 != field v f.1 f.2
  let fields := [(0, 4), (4, 12), (16, 8)] ++ (if n = 0 then [(24, 1)] else [])
  let s' := writeFields key (fields.filter fun f => !fixed f) v s
  if fields.any fixed then spiError errField s' else s'

-- Commands (R173, R174)

/-- Judge a command register as its entry is judged; `go` is its effect. -/
def command (addr key v : Nat) (takes : Bool) (go : State → State) (s : State) : State :=
  if !takes then spiError errField s
  else
    match stateRefusal s key v true with
    | some radio => spiError errState (illegalState addr 0 true false 0 radio s)
    | none => if busyRefusal s key v true then spiError errState s else go s

/-- SYS.STATECMD: the transition is made at a frame boundary. -/
def writeStateCmd (v : Nat) (s : State) : State :=
  command 0x0004 K.stateCmd v (decide (3 ≤ v) && decide (v ≤ 6)) (fun s =>
    if s.sys.dev.code = v then s
    else if atBoundary s && !(sealing s && s.courses.pend.isSome) then (transitionAt 0x0004 0 false 0 v s).2
    else { s with engine := { s.engine with regTarget := some (Fin.ofNat 8 v) } }) s

/-- CLK.XOCFG is judged and locked as one value (R72, R176). -/
def writeXoCfg (v : Nat) (s : State) : State :=
  let b := stored K.xoCfg [BitVec.ofNat 8 v]
  match s.id.xoCfg with
  | some x => if b = [x] then s else lockViolation 0x0408 0 false 0 s
  | none => if b = defaultOf K.xoCfg then s else { s with id := { s.id with xoCfg := b.head? } }

/-- TIMER.CNTnVAL (R424). -/
def writeCntVal (n : Nat) (v : Half) (s : State) : State :=
  command (0x6404 + 8 * n) (K.cnt + n) v.toNat true (setEntry (K.cnt + n) (leBytes 2 v.toNat)) s

-- Flags cleared by writing 1

def clearMon (v : Nat) (s : State) : State :=
  { s with clk := { s.clk with mon := s.clk.mon &&& ~~~(BitVec.ofNat 3 v) } }

def clearCapStat (v : Nat) (s : State) : State :=
  let s := flushEdges s
  { s with timer := { s.timer with capPairs := s.timer.capPairs.zipIdx.map fun x => { x.1 with
    rovr := x.1.rovr && !bit v (4 * x.2 + 2), fovr := x.1.fovr && !bit v (4 * x.2 + 3) } } }

def clearCapsStat (v : Nat) (s : State) : State :=
  let s := flushEdges s
  { s with timer := { s.timer with capSingles := s.timer.capSingles.zipIdx.map fun x => { x.1 with
    ovr := x.1.ovr && !bit v (2 * x.2 + 1) } } }

def clearCntStat (v : Nat) (s : State) : State :=
  { s with timer := { s.timer with cnts := s.timer.cnts.zipIdx.map fun x => { x.1 with
    ovf := x.1.ovf && !bit v x.2 } } }

def clearFpStat (v : Nat) (s : State) : State :=
  { s with field := { s.field with short := s.field.short && !bit v 2, contend := s.field.contend && !bit v 3 } }

-- The registers

/-- Writes of SYS, CLK, PWR and BOOT. -/
def writeEarly (a v : Nat) (s : State) : State :=
  match a with
  | 0x0004 => writeStateCmd (field v 0 3) s
  | 0x000C => if bit v 0 then { s with sys := { s.sys with lockviol := false } } else s
  | 0x0404 => clearMon v s
  | 0x0408 => writeXoCfg (field v 0 7) s
  | 0x0410 => writeField K.cken0 0 9 v s
  | 0x0414 => writeField K.cken1 0 8 v s
  | 0x0440 => writeCko 0 v s
  | 0x0444 => writeCko 1 v s
  | 0x0448 => writeCko 2 v s
  | 0x044C => writeCko 3 v s
  | 0x0450 => writeField K.ckoEn 0 4 v s
  | 0x0804 =>
    let c := field v 0 3
    command a K.pstateCmd c (decide (1 ≤ c) && decide (c ≤ 3)) (requestSleep (Fin.ofNat 8 c)) s
  | 0x0808 => writeField K.wakeEn 0 16 v s
  | 0x080C => { s with sup := { s.sup with wakeSrc := s.sup.wakeSrc &&& ~~~(BitVec.ofNat 16 v) } }
  | 0x0810 => writeField K.bodLevel 0 7 v s
  | 0x0820 => writeField K.opReq 0 2 v s
  | 0x0824 => writeField K.plumbEn 0 1 v s
  | _ =>
    if 0x0860 ≤ a ∧ a < 0x0874 then
      let k := (a - 0x0860) / 4
      writeField K.retainMask (32 * k) (if k = 4 then 4 else 32) v s
    else s

/-- Writes of PORT, of the radio blocks and of MAC. A refused SF code in SCARAB.LANEn leaves that sub-field of MAP alone
unchanged (R5; DESIGN CHOICE, log entry 119). -/
def writePortRadio (a v : Nat) (s : State) : State :=
  match a with
  | 0x1000 => writeField K.spiCrc 0 1 v s
  | 0x1004 => if field v 0 8 = 0 then { s with spi := { s.spi with errcode := 0 } } else spiError errField s
  | 0x1008 => writeField K.irqMask 0 3 v s
  | 0x1020 => writeField K.fpRetry 0 3 (field v 16 3) (writeField K.fpPolarity 0 2 (field v 12 2)
      (writeField K.fpBaud 0 4 (field v 8 4) (writeField K.fpAddr 0 8 v
        { s with field := { s.field with own := none } })))
  | 0x1024 => clearFpStat v s
  | 0x1100 => writeFields K.pinmux0 (pinFields 4 8) v s
  | 0x1104 => writeFields K.pinmux1 (pinFields 4 4) v s
  | 0x1108 => writeField K.gpiopull 0 24 v s
  | 0x110C => writeFields K.gpiodrv (pinFields 2 12) v s
  | 0x1110 => writeField K.gpiood 0 12 v s
  | 0x1114 => writeField K.gpiooe 0 12 v s
  | 0x1118 => writeField K.gpioout 0 12 v s
  | 0x2C00 => writeField K.txPower 0 6 (field v 8 6) s
  | 0x3400 => writeField K.netCode 0 6 (field v 8 6) (writeField K.txSf 0 3 (field v 4 3) (writeField K.chipRate 0 3 v s))
  | 0x3404 => writeField K.syncTol 0 2 (field v 16 2) (writeField K.syncWord 0 16 v s)
  | 0x3408 => writeField K.earlyThr 0 6 (field v 16 6) (writeField K.earlyN 0 4 (field v 8 4)
      (writeField K.preambleSym 0 7 v s))
  | 0x3420 => writeField K.mosaicDetThr 0 8 (field v 16 8) (writeField K.mosaicMu 0 4 (field v 8 4)
      (writeField K.mosaicDd 0 1 (field v 4 1) (writeField K.mosaicMcs 0 2 v s)))
  | 0x4004 =>
    let c := field v 0 4
    command a K.radioCmd c (c == 1 || c == 2 || c == 3 || c == 15) (radioCommand c) s
  | _ =>
    if 0x3000 ≤ a ∧ a < 0x3080 then
      writeFields (K.laneMap + (a - 0x3000) / 4) [(0, 4), (8, 3), (12, 1), (15, 1)] v s
    else s

/-- TIMER.STGGO: STAGGER over the staged registers. -/
def staggerStaged (s : State) : State :=
  let t := s.timer
  if staggerBad t.stgMask.toNat t.stgBase t.stgSpace.toNat s then spiError errField s
  else staggerGo t.stgMask.toNat t.stgBase t.stgSpace.toNat t.stgPer.toNat s

/-- Writes of TIMER. -/
def writeTimer (a v : Nat) (s : State) : State :=
  match a with
  | 0x6004 => if bit v 0 then snapshot s else s
  | 0x6030 => clearCmpStat v s
  | 0x6034 => clearCapStat v s
  | 0x6038 => clearCapsStat v s
  | 0x603C => clearCntStat v s
  | 0x6050 => { s with timer := { s.timer with stgMask := BitVec.ofNat 16 v } }
  | 0x6054 => { s with timer := { s.timer with stgBase := BitVec.ofNat 48 (withField s.timer.stgBase.toNat 0 32 v) } }
  | 0x6058 => { s with timer := { s.timer with stgBase := BitVec.ofNat 48 (withField s.timer.stgBase.toNat 32 16 v) } }
  | 0x605C => { s with timer := { s.timer with stgSpace := BitVec.ofNat 32 v } }
  | 0x6060 => { s with timer := { s.timer with stgPer := BitVec.ofNat 32 v } }
  | 0x6064 => if bit v 0 then staggerStaged s else s
  | _ =>
    if 0x6100 ≤ a ∧ a < 0x6200 then
      let n := (a - 0x6100) / 16
      if a % 16 = 0 then
        let x := cmpCfgMerge s n v
        let s := if x.1 = cmpCfg s n then s else setEntry (K.cmpCfg + n) (leBytes 4 x.1) s
        if x.2 then spiError errField s else s
      else if a % 16 = 4 then writeField (K.cmpVal + n) 0 32 v s
      else if a % 16 = 8 then writeField (K.cmpVal + n) 32 16 v s
      else writeField (K.cmpPeriod + n) 0 32 v s
    else if 0x6200 ≤ a ∧ a < 0x6300 ∧ a % 32 = 0 then writeField (K.cappCfg + (a - 0x6200) / 32) 0 8 v s
    else if 0x6300 ≤ a ∧ a < 0x6320 ∧ a % 8 = 0 then
      let key := K.capsCfg + (a - 0x6300) / 8
      let old := liveNat s key
      let bad := !capsCfgOk (field v 0 8)
      writeMerged key ((if bad then withField (field v 0 8) 0 3 (field old 0 3) else field v 0 8), bad) s
    else if 0x6400 ≤ a ∧ a < 0x6440 ∧ a % 8 = 0 then
      let n := (a - 0x6400) / 8
      writeMerged (K.cntCfg + n) (cntCfgMerge s n v) s
    else if 0x6400 ≤ a ∧ a < 0x6440 ∧ a % 8 = 4 then writeCntVal ((a - 0x6400) / 8) (BitVec.ofNat 16 v) s
    else s

/-- Writes of PULSE, ADC and HOD; `codes` are the conversions of a sequence that ADC.CTRL.GO starts. A refused DEB in
PULSE.CFGn leaves that sub-field of CFG alone unchanged (R5; DESIGN CHOICE, log entry 119). -/
def writeRest (a v : Nat) (codes : List AdcCode) (s : State) : State :=
  if 0x6800 ≤ a ∧ a < 0x6820 then writeFields (K.pulseCfg + (a - 0x6800) / 4) [(0, 4), (4, 4)] v s
  else if 0x6C00 ≤ a ∧ a < 0x6C40 then writeFields (K.adcSeq + (a - 0x6C00) / 4) [(0, 5), (5, 11)] v s
  else if a = 0x6C40 then
    let s := writeField K.adcSeqLen 0 5 v s
    if bit v 8 then adcBegin codes s else s
  else if 0x7000 ≤ a ∧ a < 0x7040 then
    let n := (a - 0x7000) / 8
    if a % 8 = 0 then writeMerged (K.hodCfg + n) (hodCfgMerge (hodCfg s n) v) s
    else writeField (K.hodQueue + n) 0 16 v s
  else s

/-- The effect of a register write; read-only fields are ignored. SYS.RSTCMD is not among these. -/
def writeReg (a v : Nat) (codes : List AdcCode) (s : State) : State :=
  if a < 0x1000 then writeEarly a v s
  else if a < 0x5000 then writePortRadio a v s
  else if 0x6000 ≤ a ∧ a < 0x6800 then writeTimer a v s
  else writeRest a v codes s

-- Access (R6, R86, R119, R141)

/-- RDY of the status byte: the device accepts pushes and every dictionary request. It is 0 during a boot, a sleep entry
(R42) and a wake (R44). -/
def rdy (s : State) : Bool := s.sys.ready && s.sup.sleepDue.isNone && !s.sup.waking

/-- A refused access of a gated part, or of one that is not yet served. -/
def gatedAccess (a : Nat) (write : Bool) (s : State) : State :=
  spiError errGated (gateError a ((gateOfReg a).getD 0xFF) write false 0 s)

/-- The access meets a stopped clock. -/
def regGated (s : State) (a : Nat) : Bool := (gateOfReg a).any fun b => !blockOpen s b

/-- The write of a register asks for the software reset (R113). -/
def asksReset (a v : Nat) : Bool := a == 0x0024 && field v 24 8 == 0x5A && bit v 0

/-- A write of one register by the host. -/
def hostWrite (a v : Nat) (codes : List AdcCode) (s : State) : State :=
  if (regValue s a).isNone then spiError errUnmapped s
  else if earlyBlock a then (if rdy s then writeReg a v codes s else spiError errNotReady s)
  else if !s.sys.ready || regGated s a then gatedAccess a true s
  else writeReg a v codes s

/-- A read of one register by the host: its four bytes, and what reading does. -/
def hostRead (a : Nat) (s : State) : Bytes × State :=
  match regValue s a with
  | none => (leBytes 4 0, spiError errUnmapped s)
  | some v =>
    if earlyBlock a then (leBytes 4 v, s)
    else if !s.sys.ready || regGated s a then (leBytes 4 0, gatedAccess a false s)
    else (leBytes 4 v, regReadEffect a s)

end Sys2Proof.Machine
end

