-- ==== Sys2Proof/Machine/Spi.lean ====
section
/-! DEFINITION. The transactions of the SPI host port (§6.1 to §6.5): the status byte, each opcode, and the rise of
SPI_CS_N. What the device sends is `spi.miso`: the status byte, then zeros while the host sends, then the answer; the
filler ahead of a marker is left out.
What the manual leaves open here and how the model reads it, with its mark: log entries 44 to 47. -/

namespace Sys2Proof.Machine

-- Framing

/-- The port can be used: the device is powered, awake and not held in reset, bank A has its supply (R17), and VIN is
not reversed (R26). -/
def spiPresent (s : State) : Bool := !absent s && s.pins.bankA && !s.pins.reversed

/-- The event ring holds a PKT_NOTICE or a QTO. -/
def queueNews (s : State) : Bool := s.ring.any fun e => e.code == evPktNotice || e.code == evQto

/-- The status byte (Table 6.1). -/
def statusByte (s : State) : Byte :=
  if s.sys.dev = .notReady then 0
  else BitVec.ofNat 8 (pack [(0, s.sys.dev.code), (3, b2n s.spi.err), (4, b2n (queueNews s)), (5, b2n (!s.ring.isEmpty)),
    (6, b2n (alert s)), (7, b2n (rdy s))])

/-- A transaction: the status byte as it stands at the fall of SPI_CS_N, which shows ERR and clears it (R137, R138);
then `body`, with the bytes that the device sends after it. -/
def transact (body : State → Bytes × State) (s : State) : State :=
  if !spiPresent s then s
  else
    let x := body { s with spi := { s.spi with err := false } }
    { x.2 with spi := { x.2.spi with miso := statusByte s :: x.1 } }

/-- Zero bytes. -/
def zeros (n : Nat) : Bytes := List.replicate n 0

/-- Bytes of a [C8]. -/
def c8Len (s : State) : Nat := if liveBool s K.spiCrc then 1 else 0

/-- A device answer with its [C8], which covers what follows the turnaround (R152). -/
def withC8 (s : State) (b : Bytes) : Bytes := if liveBool s K.spiCrc then b ++ [crc8 b] else b

/-- [C8] bytes that the host has clocked. -/
def c8Sent (s : State) (c8 : Option Byte) : Nat := if c8.isSome then c8Len s else 0

/-- Judge the host's [C8] over its bytes: the error, when there is one; a missing byte ends the transaction early. -/
def c8Error (s : State) (host : Bytes) (c8 : Option Byte) : Option Byte :=
  if !liveBool s K.spiCrc then none
  else
    match c8 with
    | none => some errTrunc
    | some c => if c = crc8 host then none else some errCrc

/-- The device sends an answer of which `fill` bytes are clocked, all of it for none; whether it is whole. -/
def clocked (fill : Option Nat) (b : Bytes) : Bytes := match fill with
  | none => b
  | some f => b.take f
def whole (fill : Option Nat) (n : Nat) : Bool := fill.all fun f => decide (n ≤ f)

/-- What the device sends after the host's bytes when error `e` stands: nothing where the host's bytes ended early. -/
def sentWith (e : Byte) (lead : Bytes) (fill : Option Nat) (b : Bytes) : Bytes :=
  if e = errTrunc then lead else lead ++ clocked fill b

/-- An error that ends the transaction; the device sends zeros. -/
def refuseWith (n : Nat) (code : Byte) (s : State) : Bytes × State := (zeros n, spiError code s)

-- Register access (R141)

/-- Read `n` registers from an address on. After the highest address the access goes on at 0, which the manual does not
say (log entry 113). -/
def readRegs : Nat → Nat → State → Bytes × State
  | 0, _, s => ([], s)
  | n + 1, a, s =>
    let x := hostRead (a % 65536) s
    let y := readRegs n (a + 4) x.2
    (x.1 ++ y.1, y.2)

/-- Write registers from an address on, in address order. A software reset ends the transaction; what it measures of its
boot is open. -/
def writeRegs : Nat → Nat → Bytes → State → State
  | 0, _, _, s => s
  | n + 1, a, b, s =>
    let v := leNat (b.take 4)
    if asksReset (a % 65536) v && rdy s then
      let x := freeBits 32 s
      let y := freeBits 32 x.2
      resetAndBoot 4 true ⟨none, BitVec.ofNat 32 x.1, BitVec.ofNat 32 y.1, 0, [], []⟩ y.2
    else writeRegs n (a + 4) (b.drop 4) (hostWrite (a % 65536) v [] s)

/-- The count and the address of a register access are in order, or the error they make. -/
def accessError (addr count : Nat) : Option Byte :=
  if addr % 4 != 0 then some errAlign else if count = 0 ∨ 64 < count then some errLength else none

/-- Opcode 0x20. A read that is cut short has no effect (R135); the first error met is that of a register whose bytes
had begun (R138). -/
def readBody (addr : Half) (count : Byte) (c8 : Option Byte) (fill : Option Nat) (s : State) : Bytes × State :=
  let n := count.toNat
  let lead := zeros (3 + c8Sent s c8)
  let size := 1 + 4 * n + c8Len s
  match (c8Error s ([0x20] ++ leBytes 2 addr.toNat ++ [count]) c8).orElse fun _ => accessError addr.toNat n with
  | some e => (sentWith e lead fill (zeros size), spiError e s)
  | none =>
    let x := readRegs n addr.toNat s
    let out := lead ++ clocked fill (0 :: withC8 s x.1)
    if whole fill size then (out, x.2)
    else
      let met := (readRegs (min n ((fill.getD 0 + 2) / 4)) addr.toNat s).2.spi
      (out, spiError (if met.err then met.errcode else errTrunc) s)

/-- Opcode 0x21. Without CRC-8 the registers whose bytes have come take effect. -/
def writeBody (addr : Half) (count : Byte) (data : Bytes) (c8 : Option Byte) (s : State) : Bytes × State :=
  let n := count.toNat
  let data := data.take (4 * n)
  let lead := zeros (3 + data.length + c8Sent s c8)
  let short := decide (data.length < 4 * n)
  if liveBool s K.spiCrc && short then (lead, spiError errTrunc s)
  else
    match (c8Error s ([0x21] ++ leBytes 2 addr.toNat ++ [count] ++ data) c8).orElse fun _ => accessError addr.toNat n with
    | some e => (lead, spiError e s)
    | none =>
      let s := writeRegs (data.length / 4) addr.toNat data s
      (lead, if short then spiError errTrunc s else s)

-- Dictionary requests (R149)

/-- Opcode 0x30 with N at least 1. -/
def requestBody (n : Byte) (pdu : Bytes) (c8 : Option Byte) (s : State) : Bytes × State :=
  let pdu := pdu.take n.toNat
  let lead := zeros (1 + pdu.length + c8Sent s c8)
  if n.toNat < 5 then
    match c8Error s [0x30, n] c8 with
    | some e => (lead, spiError e s)
    | none => (lead, spiError errLength s)
  else if pdu.length < n.toNat then (lead, spiError errTrunc s)
  else
    match c8Error s ([0x30, n] ++ pdu) c8 with
    | some e => (lead, spiError e s)
    | none => (lead, submit (requestOf .spi pdu) [] s)

/-- Opcode 0x30 with N = 0: the response, once it is ready. -/
def fetchBody (c8 : Option Byte) (fill : Option Nat) (s : State) : Bytes × State :=
  let lead := zeros (1 + c8Sent s c8)
  let pdu := s.spi.resp.getD []
  let answer := withC8 s (BitVec.ofNat 8 pdu.length :: pdu)
  match c8Error s [0x30, 0] c8 with
  | some e => (sentWith e lead fill (zeros (1 + answer.length)), spiError e s)
  | none =>
    let out := lead ++ clocked fill (0 :: answer)
    if whole fill (1 + answer.length) then (out, { s with spi := { s.spi with resp := none } })
    else (out, spiError errTrunc s)

-- Queues (R143 to R148)

/-- Count a refusal with FULL: PUSH_FULL for one of R335, JRN_STALLS for one of the journal (R358, R365). -/
def countFull (q : Nat) (inCh : Bool) (payload : Bytes) (s : State) : State :=
  let counted := { s with qe := { s.qe with pushFull := inc s.qe.pushFull } }
  if reserveBad s q payload.length then counted
  else
    match noRoom s q inCh 0 payload with
    | some .epoch | some .stage => stall s
    | _ => counted

/-- The error of a push that is cut before its last CRC-32 byte: the first one that its header has met (R138). -/
def cutPush (l : Nat) (header : Bool) (s : State) : Byte :=
  if !rdy s then errNotReady
  else if header && (l == 0 || decide (liveNat s K.qMaxlen < l)) then errLength
  else errTrunc

/-- The refusals of R143 in their order, for a push whose header passed its CRC-8. -/
def pushError (q : Nat) (len : Nat) (payload : Bytes) (crc : Nat) (s : State) : Option Byte :=
  if !rdy s then some errNotReady
  else if len = 0 ∨ liveNat s K.qMaxlen < len then some errLength
  else if crc ≠ (crc32 payload).toNat then some errCrc
  else pushRefusal s q (isLocal s q) 0 payload

/-- Opcode 0x40, `stream` being what the host sends after the header: the payload and its CRC-32. The frame is accepted
at the marker 0xA5. After a failed header CRC-8 the device trusts no L (R146). -/
def pushBody (queue len : Half) (c8 : Option Byte) (stream : Bytes) (fill : Option Nat) (s : State) : Bytes × State :=
  let q := queue.toNat
  let l := len.toNat
  let bad := (c8Error s ([0x40] ++ leBytes 2 q ++ leBytes 2 l) c8)
  let lead := zeros (4 + c8Sent s c8)
  if bad = some errTrunc then (lead, spiError (cutPush l false s) s)
  else if bad = some errCrc then
    (lead ++ List.replicate (stream.length + fill.getD 0) 0x5A, spiError (if rdy s then errCrc else errNotReady) s)
  else if stream.length < l + 4 then (lead ++ zeros stream.length, spiError (cutPush l true s) s)
  else
    let body := stream.take l
    let lead := lead ++ zeros (l + 4)
    match pushError q l body (leNat ((stream.drop l).take 4)) s with
    | some e =>
      let s := if e = errFull then countFull q (isLocal s q) body s else s
      let s := if e = errFull ∨ e = errCrc then streamed q l s else s
      (lead ++ clocked fill [0x5A, e], spiError e s)
    | none =>
      if !whole fill 1 then (lead, spiError errTrunc s)
      else
        let seq := (getQueue s q).accSeq
        let receipt := [0xA5] ++ leBytes 2 q ++ leBytes 4 seq.toNat
        let s := accept q (isLocal s q) 0 body s
        (lead ++ clocked fill (receipt ++ [crc8 receipt]),
          { s with spi := { s.spi with rcptQ := queue, rcptSeq := seq } })

/-- A delivered frame (Table 6.4): its header and payload as they are stored in its segments (R331), and the CRC-32. -/
def delivered (f : Frame) : Bytes :=
  let b := frameHeader f ++ f.payload
  b ++ leBytes 4 (crc32 b).toNat

/-- The refusals of a pop of frame `f`. -/
def popError (q : Nat) (flags : Byte) (sequence : Word) (f : Frame) (s : State) : Option Byte :=
  if bit flags.toNat 0 && f.seq != sequence then some errSeq
  else if durable s q && s.sup.bodWarn then some errPower
  else if durable s q && !relFits s.jrn q true then some errFull
  else none

/-- The answer of opcodes 0x41 and 0x42: the frame at a place of the in chain, or a refusal. What the chain holds is
read from the queue's stone (R339). -/
def takeBody (host : Bytes) (q i : Nat) (c8 : Option Byte) (fill : Option Nat) (judge : Frame → State → Option Byte)
    (effect : State → State) (s : State) : Bytes × State :=
  let lead := zeros (host.length - 1 + c8Sent s c8)
  let refused := fun (e : Byte) (s : State) => (lead ++ clocked fill [0x5A, e], spiError e s)
  match c8Error s host c8 with
  | some e => if rdy s || e == errTrunc then (sentWith e lead fill (zeros 2), spiError (if rdy s then e else errNotReady) s)
    else refused errNotReady s
  | none =>
    if !rdy s then refused errNotReady s
    else if s.sys.restore.contains q then refused errState s
    else
      let s := dropUnreadable q true i (touch q s)
      match (getQueue s q).inCh[i]? with
      | none => refused errEmpty s
      | some f =>
        match judge f s with
        | some e => refused e s
        | none =>
          let answer := 0xA5 :: delivered f
          if whole fill answer.length then (lead ++ clocked fill answer, effect s)
          else (lead ++ clocked fill answer, spiError errTrunc s)

/-- Opcode 0x41: the frame leaves at the last edge of its CRC-32 (R148). -/
def popBody (queue : Half) (flags : Byte) (sequence : Word) (c8 : Option Byte) (fill : Option Nat) (s : State) :
    Bytes × State :=
  let q := queue.toNat
  takeBody ([0x41] ++ leBytes 2 q ++ [flags] ++ leBytes 4 sequence.toNat) q 0 c8 fill (popError q flags sequence)
    (popHead q) s

/-- Opcode 0x42. -/
def peekBody (queue position : Half) (c8 : Option Byte) (fill : Option Nat) (s : State) : Bytes × State :=
  let q := queue.toNat
  takeBody ([0x42] ++ leBytes 2 q ++ leBytes 2 position.toNat) q position.toNat c8 fill (fun _ _ => none) id s

-- Events (R150)

/-- An event record (Table 6.13). -/
def eventBytes (e : Event) : Bytes :=
  leBytes 2 e.code.toNat ++ leBytes 2 e.tag.toNat ++ leBytes 6 e.time.toNat ++ leBytes 4 e.arg.toNat ++ [0, 0]

/-- Opcode 0x50. Each record leaves the ring once its sixteenth byte has been sent. Before ready the fetch ends with
STATE, which the manual does not say (log entry 114). -/
def eventBody (count : Byte) (c8 : Option Byte) (fill : Option Nat) (s : State) : Bytes × State :=
  let lead := zeros (1 + c8Sent s c8)
  match c8Error s [0x50, count] c8 with
  | some e => (sentWith e lead fill (zeros (2 + 16 * min count.toNat s.ring.length + c8Len s)), spiError e s)
  | none =>
    if !s.sys.ready then (lead, spiError errState s)
    else if count = 0 ∨ 16 < count.toNat then (lead, spiError errLength s)
    else
      let k := min count.toNat s.ring.length
      let answer := withC8 s (BitVec.ofNat 8 k :: ((s.ring.take k).map eventBytes).flatten)
      let sent := match fill with
        | none => k
        | some f => min k ((f - 2) / 16)
      let out := lead ++ clocked fill (0 :: answer)
      let s := { s with ring := s.ring.drop sent }
      (out, if whole fill (1 + answer.length) then s else spiError errTrunc s)

-- The rise of SPI_CS_N (R135, R163)

/-- The known opcodes. -/
def opcodes : List Nat := [0x20, 0x21, 0x30, 0x40, 0x41, 0x42, 0x50, 0x5F]

/-- The host's [C8] at a place of what it sent. -/
def c8At (s : State) (host : Bytes) (i : Nat) : Option Byte := if liveBool s K.spiCrc then host[i]? else none

/-- The number of a field of what the host sent. -/
def hostField (host : Bytes) (i n : Nat) : Nat := leNat ((host.drop i).take n)

/-- A transaction of which the host has sent `host`, its opcode first, and clocked `fill` bytes of the answer. One whose
operands have not all come has no effect; a register write has the effect of R141. -/
def cutBody (host : Bytes) (fill : Nat) (s : State) : Bytes × State :=
  let c := c8Len s
  let half := fun (i : Nat) => BitVec.ofNat 16 (hostField host i 2)
  let byte := fun (i : Nat) => host.getD i 0
  let cut := (zeros (host.length - 1), spiError errTrunc s)
  let early := (zeros (host.length - 1), spiError (cutPush 1 false s) s)
  match byte 0 with
  | 0x20 => if host.length < 4 + c then cut else readBody (half 1) (byte 3) (c8At s host 4) (some fill) s
  | 0x21 =>
    if host.length < 4 then cut
    else
      let n := 4 * (byte 3).toNat
      writeBody (half 1) (byte 3) (host.drop 4) (c8At s host (4 + n)) s
  | 0x30 =>
    if host.length < 2 then cut
    else if byte 1 = 0 then (if host.length < 2 + c then cut else fetchBody (c8At s host 2) (some fill) s)
    else
      let n := if (byte 1).toNat < 5 then 0 else (byte 1).toNat
      if host.length < 2 + n + c then cut else requestBody (byte 1) (host.drop 2) (c8At s host (2 + n)) s
  | 0x40 =>
    if host.length < 5 + c then early
    else pushBody (half 1) (half 3) (c8At s host 5) (host.drop (5 + c)) (some fill) s
  | 0x41 =>
    if host.length < 8 + c then early
    else popBody (half 1) (byte 3) (BitVec.ofNat 32 (hostField host 4 4)) (c8At s host 8) (some fill) s
  | 0x42 => if host.length < 5 + c then early else peekBody (half 1) (half 3) (c8At s host 5) (some fill) s
  | 0x50 => if host.length < 2 + c then cut else eventBody (byte 1) (c8At s host 2) (some fill) s
  | 0x5F => ([], s)
  | _ => (zeros (host.length - 1 + fill), spiError errOpcode s)

-- The commands

def registerRead (addr : Half) (count : Byte) (c8 : Option Byte) : State → State :=
  transact (readBody addr count c8 none)

def registerWrite (addr : Half) (count : Byte) (data : Bytes) (c8 : Option Byte) : State → State :=
  transact (writeBody addr count data c8)

def dictionaryRequest (n : Byte) (pdu : Bytes) (c8 : Option Byte) : State → State :=
  transact (if n = 0 then fetchBody c8 none else requestBody n pdu c8)

def responseFetch (c8 : Option Byte) : State → State := transact (fetchBody c8 none)

def queuePush (queue len : Half) (c8 : Option Byte) (payload : Bytes) (crc : Word) : State → State :=
  transact (pushBody queue len c8 (payload ++ leBytes 4 crc.toNat) none)

def queuePop (queue : Half) (flags : Byte) (sequence : Word) (c8 : Option Byte) : State → State :=
  transact (popBody queue flags sequence c8 none)

def queuePeek (queue position : Half) (c8 : Option Byte) : State → State := transact (peekBody queue position c8 none)

def eventFetch (count : Byte) (c8 : Option Byte) : State → State := transact (eventBody count c8 none)

/-- STATUS_ONLY: nothing beyond the status byte. -/
def statusOnly : State → State := transact fun s => ([], s)

/-- UNKNOWN_OPCODE (R142). -/
def unknownOpcode (opcode : Byte) (s : State) : State :=
  if opcodes.contains opcode.toNat then s else transact (fun s => ([], spiError errOpcode s)) s

/-- SPI_CS_N_RISE: the transaction ends with what has been clocked. Without one whole byte there was no transaction. -/
def spiCsNRise (mosi : Bytes) (fill : Nat) (s : State) : State := if mosi = [] then s else transact (cutBody mosi fill) s

/-- A write of one register by the host, in a transaction of its own. -/
def hostRegister (a v : Nat) (codes : List AdcCode) : State → State :=
  transact fun s => (zeros (7 + c8Len s), hostWrite a v codes s)

/-- SOFTWARE_RESET (R113): a write of SYS.RSTCMD. -/
def softwareReset (key : Byte) (go : Bool) (run : BootRun) (s : State) : State :=
  if inReset s && s.pins.bankA && key == 0x5A && go then addCause 4 s
  else if spiPresent s && rdy s && key == 0x5A && go then resetAndBoot 4 true run s
  else hostRegister 0x0024 (b2n go + 2 ^ 24 * key.toNat) [] s

/-- The field port is served: powered, enabled, and configured since ready (R17, R26, R120). -/
def fieldServed (s : State) : Bool := s.sys.ready && blockOn s 0 && s.pins.bankB && !s.pins.reversed

/-- A port presents a request: over SPI it is a transaction of opcode 0x30. -/
def portRequest (r : Request) (codes : List AdcCode) (s : State) : State :=
  match r.port with
  | .spi => transact (fun s => (zeros (6 + r.value.length + c8Len s), submit r codes s)) s
  | .field => if fieldServed s then submit r codes s else s
  | .air _ => if s.sys.ready then submit r codes s else s

/-- A read and a write of an entry from a port. -/
def dictRead (port : Port) (tag : Byte) (key : Nat) : State → State := portRequest (readRequest port tag key) []
def dictWrite (port : Port) (tag : Byte) (key : Nat) (value : Bytes) : State → State :=
  portRequest (writeRequest port tag key value) []

/-- A control written by its register, or by its entry. -/
def control (via : Via) (addr key v : Nat) (value : Bytes) : State → State :=
  match via with
  | .register => hostRegister addr v []
  | .dict port tag => dictWrite port tag key value

/-- A read of `n` registers by the host, in a transaction of its own. -/
def hostRegisters (n a : Nat) : State → State :=
  transact fun s =>
    let x := readRegs n a s
    (zeros (4 + c8Len s) ++ withC8 s x.1, x.2)

end Sys2Proof.Machine
end

