-- ==== Sys2Proof/Machine/Field.lean ====
section
/-! DEFINITION. The EIA-485 field port (§6.7 to §6.9). A reply that is put on the bus has been sent whole unless an echo
fault follows.
What the manual leaves open here and how the model reads it, with its mark: log entry 53. -/

namespace Sys2Proof.Machine

/-- The reply on the bus has been sent to its end: the port is free again. -/
def endReply (s : State) : State :=
  if s.field.sending then
    { s with field := { s.field with sending := false, reply := none, busy := false, retries := 0, own := none } }
  else s

/-- A field-port frame (Table 6.10). -/
def fieldBytes (addr : Byte) (pdu : Bytes) : Bytes :=
  let body := [addr, BitVec.ofNat 8 pdu.length] ++ pdu
  [0x7E] ++ body ++ leBytes 2 (crc16 body).toNat

/-- The PDU length that a frame gives, and whether it lies in 5–255 and the frame has that length. -/
def frameLen (f : Bytes) : Nat := (f.getD 2 0).toNat
def lenGood (f : Bytes) : Bool := decide (5 ≤ frameLen f) && f.length == frameLen f + 5

/-- The frame's CRC is good. -/
def fieldGood (f : Bytes) : Bool :=
  f.head? == some 0x7E && lenGood f &&
    leNat (f.drop (frameLen f + 3)) == (crc16 ((f.drop 1).take (frameLen f + 2))).toNat

/-- A frame whose checks have passed: discarded, executed, or executed without an answer (R158, R159). -/
def fieldRequest (f : Bytes) (s : State) : State :=
  let addr := f.getD 1 0
  let pdu := (f.drop 3).take (frameLen f)
  let cmd := pdu.getD 0 0
  if (addr != s.field.addr && addr != 0) || bit cmd.toNat 7 || s.field.busy then s
  else if addr = 0 then
    if cmd = 2 then submit (requestOf .field pdu) [] { s with field := { s.field with mute := true } } else s
  else submit (requestOf .field pdu) [] s

/-- FIELD_FRAME: the characters of a frame as they read in the polarity in force and in the other one. A frame that is
good only in the other polarity changes the polarity, and is then treated as received (R161). -/
def fieldFrame (inForce other : Bytes) (s : State) : State :=
  if !fieldServed s || absent s then s
  else
    let s := endReply s
    if fieldGood inForce then fieldRequest inForce { s with field := { s.field with idleLow := false } }
    else if liveNat s K.fpPolarity == 0 && fieldGood other then
      fieldRequest other { s with field := { s.field with
        rev := !s.field.rev, turns := inc8 s.field.turns, idleLow := false } }
    else if inForce.head? = some 0x7E then
      { s with field := { s.field with badFrames := inc16 s.field.badFrames } }
    else s

/-- FIELD_REPLY: the reply is put on the bus in the polarity and at the address in force. -/
def fieldReply (s : State) : State :=
  match s.field.reply with
  | some pdu =>
    if s.field.sending || s.field.waitChars != 0 || !fieldServed s || absent s then s
    else { s with field := { s.field with sending := true, sent := fieldBytes s.field.addr pdu } }
  | none => s

/-- The reply in hand is abandoned: the port serves the next request (R162). -/
def abandonReply (s : State) : State :=
  { s with field := { s.field with
    sending := false, reply := none, busy := false, retries := 0, waitChars := 0, own := none } }

/-- ECHO_FAULT (R162): `noTransition` says that FP_RXD showed no transition during a character in which FP_TXD had one.
The fault of the last repetition abandons the reply. -/
def echoFault (noTransition : Bool) (s : State) : State :=
  if !s.field.sending || absent s then s
  else
    let s := { s with field := { s.field with
      sending := false
      short := s.field.short || noTransition
      contend := s.field.contend || !noTransition
      echoes := inc8 s.field.echoes } }
    if liveNat s K.fpRetry ≤ s.field.retries then abandonReply s
    else
      let x := draw 32 s
      { x.2 with field := { x.2.field with waitChars := 4 + x.1 } }

/-- REPLY_RETRY: the wait is over, and the reply is sent again; it is abandoned where FP_RETRY has fallen meanwhile. -/
def replyRetry (s : State) : State :=
  if s.field.waitChars = 0 ∨ fieldServed s = false ∨ absent s = true then s
  else if s.field.retries < liveNat s K.fpRetry then
    { s with field := { s.field with waitChars := 0, retries := s.field.retries + 1, sending := true } }
  else abandonReply s

/-- FIELD_CONFIG_APPLY (R160): FP_ADDR and FP_BAUD take effect at a bus idle, and after the reply to the request that
wrote them. -/
def fieldConfigApply (s : State) : State :=
  if !fieldServed s || absent s then s
  else
    let s := endReply s
    let take := fun (key : Nat) (old : Byte) => if s.field.own = some key then old else BitVec.ofNat 8 (liveNat s key)
    { s with field := { s.field with addr := take K.fpAddr s.field.addr, baud := take K.fpBaud s.field.baud } }

/-- INTER_CHARACTER_GAP (R158): the frame in reception is discarded, without a count. -/
def interCharacterGap (s : State) : State := if absent s then s else endReply s

/-- IDLE_LOW (R161): the observation changes nothing else. -/
def idleLow (s : State) : State :=
  if !fieldServed s || absent s then s
  else
    let s := endReply s
    { s with field := { s.field with idleLow := true } }

/-- CKEN_DEFERRED_GATE (R85): a block whose bit was cleared while it was busy is idle. -/
def ckenDeferredGate (n : Nat) (s : State) : State := deferredGate n (if n = 0 then endReply s else s)

end Sys2Proof.Machine
end

