-- ==== Sys2Proof/Machine/PinOut.lean ====
section
/-! DEFINITION. What the device puts on each of its pins: the functions of Table 2.3, the columns of Table 2.5, the
banks of R17, and the clock outputs of §4.7.
What the manual leaves open here and how the model reads it, with its mark: log entry 116. -/

namespace Sys2Proof.Machine

/-- The pins that the device drives, or senses a pulse line with (Table 2.2). -/
inductive OutPin where
  | spiSdo | irqN | alertN | tdo | xsCsN | xsCk | xsData
  | gpio (n : Fin 12)
  | fpTxd | fpDe
  /-- PXn, and PSn when `ps` -/
  | pulse (n : Fin 8) (ps : Bool)
  deriving DecidableEq, Repr

/-- What stands on a pin. -/
inductive OutLevel where
  /-- high impedance, with the pull of Table 2.2 -/
  | z
  | low
  | high
  /-- open-drain, released -/
  | released
  /-- clock output `k`, or its complement, push-pull or open-drain (R105) -/
  | clock (k : Nat) (inverted openDrain : Bool)
  /-- the bits of a transfer -/
  | busy
  /-- driven to IOVDD_B through the limit of 1 mA, and terminated in 5.0 kΩ (R431) -/
  | excited
  | terminated
  deriving DecidableEq, Repr

/-- The columns of Table 2.5; in RUN, CONFIG and MAINT every pin is functional (R23). -/
inductive PinColumn where
  | reset | boot | quiet | sleep | sniff | safe | work
  deriving DecidableEq, Repr

/-- The column in force (Tables 2.4 and 2.5). -/
def pinColumn (s : State) : PinColumn :=
  if s.boot.held || s.sup.power == .off then .reset
  else if s.sup.power == .sniff then .sniff
  else if asleep s then .sleep
  else if !s.sys.ready then .boot
  else if s.sys.dev == .quiet then .quiet
  else if s.sys.dev == .safe then .safe
  else .work

/-- The pin lies in bank B (Table 2.2). -/
def inBankB : OutPin → Bool
  | .gpio n => decide (6 ≤ n.val)
  | .fpTxd => true
  | .fpDe => true
  | .pulse _ _ => true
  | _ => false

/-- The pin's bank has its supply, and VIN is not reversed: otherwise nothing is driven (R17, R26). -/
def pinPowered (p : OutPin) (s : State) : Bool :=
  (if inBankB p then s.pins.bankB else s.pins.bankA) && !s.pins.reversed

/-- A level on an output that is open-drain or push-pull. -/
def driven (openDrain level : Bool) : OutLevel := if level then (if openDrain then .released else .high) else .low

/-- Receive path A or B is on, in a window of SNIFF too (R22). -/
def pathOn (s : State) (p : Path) : Bool :=
  (receiving s && (pathsOf s .a ++ pathsOf s .b).contains p) || (s.radio.state == .sniff && p == .a)

/-- TXEN, RXAEN and RXBEN, on GPIO9 to GPIO11 (R22, R206): low in the reset column and in SAFE. -/
def rfControl (n : Nat) (s : State) : Bool :=
  pinColumn s != .reset && pinColumn s != .safe &&
    (if n = 9 then s.radio.onAir.isSome else if n = 10 then pathOn s .a else pathOn s .b)

/-- The clock output on a GPIO (Table 2.3). -/
def ckoOf (n : Nat) : Nat := if n < 2 then n else n - 4

/-- A clock output at its pin (R103, R105): it needs the CKO block, and parks low or released while it is disabled. With
PAIR = 1 GPIO1 carries the complement of CKO0, and the format set for both pins is ignored. -/
def ckoLevel (n : Nat) (openDrain : Bool) (s : State) : OutLevel :=
  let pair := decide (n < 2) && bit (liveNat s K.ckoCfg) 24
  let k := if pair then 0 else ckoOf n
  let od := openDrain && !pair
  if blockOn s 8 && ckoRuns s k then .clock k (pair && n == 1) od else if od then .released else .low

/-- A GPIO as its function has it (R20). -/
def gpioLevel (n : Nat) (s : State) : OutLevel :=
  let od := bit (liveNat s K.gpiood) n
  match pinFunc s n with
  | 0 => if bit (liveNat s K.gpiooe) n then driven od (bit (liveNat s K.gpioout) n) else .z
  | 1 => ckoLevel n od s
  | 4 => driven od (rfControl n s)
  | _ => .z

/-- A GPIO in the column in force (Table 2.5). -/
def gpioOut (n : Nat) (s : State) : OutLevel :=
  let special := pinFunc s n == 1 || pinFunc s n == 4
  match pinColumn s with
  | .reset => .z
  | .boot => .z
  | .sleep => if special then .low else gpioLevel n s
  | .safe => if special then .low else gpioLevel n s
  | .sniff => if special && !(pinFunc s n == 4 && s.radio.state == .sniff) then .low else gpioLevel n s
  | _ => gpioLevel n s

/-- IRQ_N is asserted: EVT, QN, or a dictionary response that is ready, as IRQ_MASK enables them (R153). -/
def irq (s : State) : Bool :=
  let m := liveNat s K.irqMask
  (bit m 0 && !s.ring.isEmpty) || (bit m 1 && queueNews s) || (bit m 2 && s.spi.resp.isSome)

/-- The idle level of FP_TXD: low while the polarity in force is reversed (R161, Table 2.5). -/
def fpIdle (s : State) : OutLevel := if s.field.rev then .low else .high

/-- A pulse pin in a measurement of the polarity given, or between measurements (R431). -/
def pulsePin (measuring : Option Bool) (ps : Bool) : OutLevel :=
  match measuring with
  | none => .z
  | some reverse => if ps = reverse then .excited else .terminated

/-- The pins PXn and PSn in a sample of channel `n` (R431, R432). -/
def samplePins (n : Nat) (s : State) : OutLevel × OutLevel :=
  (pulsePin (some (reversePolarity s n)) false, pulsePin (some (reversePolarity s n)) true)

/-- What the device puts on a pin, between commands: a transfer over SPI or xSPI, and a measurement, is a command of its
own, and leaves its pins as they stand between two. -/
def pinOut (p : OutPin) (s : State) : OutLevel :=
  let c := pinColumn s
  let works := c == .quiet || c == .safe || c == .work
  if !pinPowered p s then .z
  else
    match p with
    | .spiSdo => .z
    | .tdo => .z
    | .irqN => if c == .reset || c == .boot then .released else driven true (!irq s)
    | .alertN => if c == .reset then .released else driven true (!alert s)
    | .xsCsN => if c == .reset then .z else .high
    | .xsCk => if c == .reset then .z else .low
    | .xsData => .z
    | .gpio n => gpioOut n.val s
    | .fpDe => if c == .reset then .z else driven false (works && s.field.sending)
    | .fpTxd =>
      if c == .reset then .z else if c == .boot then .high else if works && s.field.sending then .busy else fpIdle s
    | .pulse _ _ => pulsePin none false

/-- What an antenna port carries (Table 2.5): isolated, with the PA off and the receiver off, or in use. -/
inductive AntState where
  | isolated
  | receives
  | transmits
  deriving DecidableEq, Repr

/-- The antenna ports. -/
def antenna (p : Path) (s : State) : AntState :=
  if s.radio.onAir.isSome && p == .a then .transmits else if pathOn s p then .receives else .isolated

end Sys2Proof.Machine
end

