-- ==== Sys2Proof/Machine/Control.lean ====
section
/-! DEFINITION. The controls that a register, a dictionary entry or both of them write, each as one operation.
What the manual leaves open here and how the model reads it, with its mark: log entry 98. -/

namespace Sys2Proof.Machine

/-- The key of an entry. -/
def entryKey (index : Half) (sub : Byte) : Nat := index.toNat * 256 + sub.toNat

/-- A control whose register takes `v`; over its entry it takes the same number in `n` bytes. -/
def controlNumber (via : Via) (addr key n v : Nat) : State → State := control via addr key v (leBytes n v)

/-- STAGGER (R414): over the staged registers, or as one value. -/
def stagger : StaggerBy → State → State
  | .go => hostRegister 0x6064 1 []
  | .dict port tag value => dictWrite port tag K.stagger value

/-- COMPARE_CONFIG_WRITE (R409, R416). -/
def compareConfigWrite (ch : Nat) (via : Via) (value : Word) : State → State :=
  controlNumber via (0x6100 + 16 * ch) (K.cmpCfg + ch) 4 value.toNat

/-- COMPARE_VALUE_WRITE (R411): the low part, the high part, or the whole value. -/
def compareValueWrite (ch : Nat) : ValPart → State → State
  | .low v => hostRegister (0x6104 + 16 * ch) v.toNat []
  | .high v => hostRegister (0x6108 + 16 * ch) v.toNat []
  | .whole port tag value => dictWrite port tag (K.cmpVal + ch) value

/-- CNT_WRITE (R424). -/
def cntWrite (n : Nat) (via : Via) (value : Half) : State → State :=
  controlNumber via (0x6404 + 8 * n) (K.cnt + n) 2 value.toNat

/-- CAPTURE_READ (R420, R421). A unit does not have every part; a read of one it has not got is no command. -/
def captureRead (u : Nat) (what : CapRead) (s : State) : State :=
  if u < 8 then
    match what with
    | .rise => hostRegisters 1 (0x6204 + 32 * u) s
    | .fall => hostRegisters 1 (0x6208 + 32 * u) s
    | .unit => hostRegisters 4 (0x6204 + 32 * u) s
    | .value => s
    | .dict port tag => dictRead port tag (K.cappVal + u) s
  else
    match what with
    | .value => hostRegisters 1 (0x6304 + 8 * (u - 8)) s
    | .dict port tag => dictRead port tag (K.capsVal + (u - 8)) s
    | .rise => s
    | .fall => s
    | .unit => s

/-- ADC_START (R443): by a trigger that waits, by ADC.CTRL.GO with LEN as it stands, or by ADC_CMD; `codes` are the
conversions of the sequence. -/
def adcStart (by_ : AdcBy) (codes : List AdcCode) (s : State) : State :=
  match by_ with
  | .trigger => if adcWorks s then adcTriggered codes s else s
  | .go => hostRegister 0x6C40 (liveNat s K.adcSeqLen + 256) codes s
  | .cmd port tag value => portRequest (writeRequest port tag K.adcCmd value) codes s

end Sys2Proof.Machine
end

