-- ==== Sys2Proof/Machine/ExecReset.lean ====
section
/-! DEFINITION. The meanings of the commands of reset and supply and of the clocks of the boot (files 02 to 05): one
definition for each row of the table. -/

namespace Sys2Proof.Machine

/-- POWER_ON_RESET (R36). -/
def execPowerOnReset (dipped : Bool) (run : BootRun) (s : State) : Host.Outcome State Fault Refusal :=
  .next (powerOnReset dipped run s)

/-- BROWN_OUT_RESET (R36). -/
def execBrownOutReset (s : State) : Host.Outcome State Fault Refusal := .next (brownOutReset s)

/-- RESET_N (R111). -/
def execResetN (s : State) : Host.Outcome State Fault Refusal := .next (resetN s)

/-- WATCHDOG_RESET (R112). -/
def execWatchdogReset (engine : Sys2Proof.Engine) (run : BootRun) (s : State) : Host.Outcome State Fault Refusal :=
  .next (watchdogReset engine run s)

/-- BOOT_WATCHDOG (R123). -/
def execBootWatchdog (run : BootRun) (s : State) : Host.Outcome State Fault Refusal := .next (bootWatchdog run s)

/-- SOFTWARE_RESET (R113). -/
def execSoftwareReset (key : Byte) (go : Bool) (run : BootRun) (s : State) : Host.Outcome State Fault Refusal :=
  .next (softwareReset key go run s)

/-- RESET_CMD (R113). -/
def execResetCmd (port : Port) (tag : Byte) (value : Bytes) (s : State) : Host.Outcome State Fault Refusal :=
  .next (dictWrite port tag K.resetCmd value s)

/-- DEFERRED_RESET (R113). -/
def execDeferredReset (run : BootRun) (s : State) : Host.Outcome State Fault Refusal := .next (deferredReset run s)

/-- JTAG_RESET (R111). -/
def execJtagReset (run : BootRun) (s : State) : Host.Outcome State Fault Refusal := .next (jtagReset run s)

/-- VIN_REVERSAL (R26). -/
def execVinReversal (run : CommitRun) (s : State) : Host.Outcome State Fault Refusal :=
  .next (bodSettled (vinReversal run s))

/-- BOD_WARN (R50). -/
def execBodWarn (vinMv : Half) (run : CommitRun) (s : State) : Host.Outcome State Fault Refusal :=
  .next (bodSettled (bodWarn vinMv run s))

/-- BOD_WARN_CLEAR (R51). -/
def execBodWarnClear (vinMv : Half) (s : State) : Host.Outcome State Fault Refusal := .next (bodWarnClear vinMv s)

/-- IOVDD_LOSS (R17). -/
def execIovddLoss (bank : IoBank) (s : State) : Host.Outcome State Fault Refusal := .next (iovddLoss bank s)

/-- IOVDD_RETURN (R18). -/
def execIovddReturn (bank : IoBank) (s : State) : Host.Outcome State Fault Refusal := .next (iovddReturn bank s)

/-- RESET_N_RELEASE (R118). -/
def execResetNRelease (run : BootRun) (s : State) : Host.Outcome State Fault Refusal := .next (resetNRelease run s)

/-- XO_STARTED (R72). -/
def execXoStarted (s : State) : Host.Outcome State Fault Refusal := .next (xoStarted s)

/-- PLL_LOCK (R77). -/
def execPllLock (s : State) : Host.Outcome State Fault Refusal := .next (pllLocked s)

/-- PLL_LOCK_TIMEOUT (R78). -/
def execPllLockTimeout (s : State) : Host.Outcome State Fault Refusal := .next (pllTimeout s)

end Sys2Proof.Machine
end

