-- ==== Sys2Proof/Machine/ExecPower.lean ====
section
/-! DEFINITION. The meanings of the commands of QUIET and restore, of the power states, Lintel, Plumb, the thermal
level, the oscillators and the time base (files 03 to 05, 14): one definition for each row of the table. -/

namespace Sys2Proof.Machine

/-- QUIET_END (R126). -/
def execQuietEnd (s : State) : Host.Outcome State Fault Refusal := .next (present quietEnd s)

/-- JOURNAL_RESTORE (R367). -/
def execJournalRestore (queues : Nat) (s : State) : Host.Outcome State Fault Refusal :=
  .next (journalRestore queues s)

/-- SHUTDOWN_REQUEST (R41). -/
def execShutdownRequest (via : Via) (s : State) : Host.Outcome State Fault Refusal :=
  .next (control via 0x0804 K.pstateCmd 1 [1] s)

/-- DORMANT_REQUEST (R42). -/
def execDormantRequest (via : Via) (s : State) : Host.Outcome State Fault Refusal :=
  .next (control via 0x0804 K.pstateCmd 2 [2] s)

/-- SNIFF_REQUEST (R40). -/
def execSniffRequest (via : Via) (s : State) : Host.Outcome State Fault Refusal :=
  .next (control via 0x0804 K.pstateCmd 3 [3] s)

/-- WAKE (R43). -/
def execWake (sources : BitVec 7) (run : BootRun) (s : State) : Host.Outcome State Fault Refusal :=
  .next (wake sources run s)

/-- SPI_WAKE (R136). -/
def execSpiWake (run : BootRun) (s : State) : Host.Outcome State Fault Refusal := .next (spiWake run s)

/-- LINTEL_STEP_UP (R54). -/
def execLintelStepUp (failed : Nat) (s : State) : Host.Outcome State Fault Refusal := .next (lintelStepUp failed s)

/-- LINTEL_STEP_DOWN (R55). -/
def execLintelStepDown (s : State) : Host.Outcome State Fault Refusal := .next (lintelStepDown s)

/-- PLUMB_STEP_DOWN (R57). -/
def execPlumbStepDown (s : State) : Host.Outcome State Fault Refusal := .next (plumbStepDown s)

/-- NEAR_MISS (R57). -/
def execNearMiss (s : State) : Host.Outcome State Fault Refusal := .next (nearMiss s)

/-- THERM_SAMPLE (R60). -/
def execThermSample (temp : Half) (s : State) : Host.Outcome State Fault Refusal := .next (thermSampled temp s)

/-- LFXO_QUALIFIED (R74). -/
def execLfxoQualified (s : State) : Host.Outcome State Fault Refusal := .next (lfxoQualified s)

/-- XO_FAILURE (R97). -/
def execXoFailure (s : State) : Host.Outcome State Fault Refusal := .next (xoFailure s)

/-- LFXO_FAILURE (R99). -/
def execLfxoFailure (s : State) : Host.Outcome State Fault Refusal := .next (lfxoFailure s)

/-- LOSS_OF_LOCK (R100). -/
def execLossOfLock (within10s : Bool) (s : State) : Host.Outcome State Fault Refusal := .next (lossOfLock within10s s)

/-- RC_CALIBRATION (R75). -/
def execRcCalibration (hfrc lfrc : BitVec 10) (s : State) : Host.Outcome State Fault Refusal :=
  .next (rcCalibration hfrc lfrc s)

/-- CKEN_DEFERRED_GATE (R85). -/
def execCkenDeferredGate (block : Fin 40) (s : State) : Host.Outcome State Fault Refusal :=
  .next (ckenDeferredGate block.val s)

/-- POWER_GOOD (R46). -/
def execPowerGood (domain : Fin 206) (s : State) : Host.Outcome State Fault Refusal :=
  .next (present (powerGood domain.val) s)

/-- FCW_LOAD (R91). -/
def execFcwLoad (s : State) : Host.Outcome State Fault Refusal := .next (fcwLoad s)

/-- SLEW_END (R91). -/
def execSlewEnd (s : State) : Host.Outcome State Fault Refusal := .next (slewEnd s)

/-- HOLDOVER_ENTRY (R93). -/
def execHoldoverEntry (s : State) : Host.Outcome State Fault Refusal := .next (holdoverEntry s)

/-- TB_MODE_WRITE (R89). -/
def execTbModeWrite (port : Port) (tag : Byte) (value : Bytes) (s : State) : Host.Outcome State Fault Refusal :=
  .next (dictWrite port tag K.tbMode value s)

end Sys2Proof.Machine
end

