-- ==== Sys2Proof/Machine/ExecPort.lean ====
section
/-! DEFINITION. The meanings of the commands of the SPI host port, the dictionary, the Courses, the device states and
the field port (files 06 and 07): one definition for each row of the table. -/

namespace Sys2Proof.Machine

/-- REGISTER_READ (R141). -/
def execRegisterRead (addr : Half) (count : Byte) (c8 : Option Byte) (s : State) : Host.Outcome State Fault Refusal :=
  .next (registerRead addr count c8 s)

/-- REGISTER_WRITE (R141). -/
def execRegisterWrite (addr : Half) (count : Byte) (data : Bytes) (c8 : Option Byte)
    (s : State) : Host.Outcome State Fault Refusal :=
  .next (registerWrite addr count data c8 s)

/-- DICTIONARY_REQUEST (R149). -/
def execDictionaryRequest (n : Byte) (pdu : Bytes) (c8 : Option Byte)
    (s : State) : Host.Outcome State Fault Refusal :=
  .next (dictionaryRequest n pdu c8 s)

/-- RESPONSE_FETCH (R149). -/
def execResponseFetch (c8 : Option Byte) (s : State) : Host.Outcome State Fault Refusal := .next (responseFetch c8 s)

/-- QUEUE_PUSH (R143). -/
def execQueuePush (queue len : Half) (c8 : Option Byte) (payload : Bytes) (crc : Word)
    (s : State) : Host.Outcome State Fault Refusal :=
  .next (queuePush queue len c8 payload crc s)

/-- QUEUE_POP (R148). -/
def execQueuePop (queue : Half) (flags : Byte) (sequence : Word) (c8 : Option Byte)
    (s : State) : Host.Outcome State Fault Refusal :=
  .next (queuePop queue flags sequence c8 s)

/-- QUEUE_PEEK (R147). -/
def execQueuePeek (queue position : Half) (c8 : Option Byte) (s : State) : Host.Outcome State Fault Refusal :=
  .next (queuePeek queue position c8 s)

/-- EVENT_FETCH (R150). -/
def execEventFetch (count : Byte) (c8 : Option Byte) (s : State) : Host.Outcome State Fault Refusal :=
  .next (eventFetch count c8 s)

/-- STATUS_ONLY (R142). -/
def execStatusOnly (s : State) : Host.Outcome State Fault Refusal := .next (statusOnly s)

/-- UNKNOWN_OPCODE (R142). -/
def execUnknownOpcode (opcode : Byte) (s : State) : Host.Outcome State Fault Refusal := .next (unknownOpcode opcode s)

/-- SPI_CS_N_RISE (R135). -/
def execSpiCsNRise (mosi : Bytes) (fill : Nat) (s : State) : Host.Outcome State Fault Refusal :=
  .next (spiCsNRise mosi fill s)

/-- ERRCODE_CLEAR (R138). -/
def execErrcodeClear (s : State) : Host.Outcome State Fault Refusal := .next (hostRegister 0x1004 0 [] s)

/-- DICT_READ (R168). -/
def execDictRead (port : Port) (tag : Byte) (index : Half) (sub : Byte)
    (s : State) : Host.Outcome State Fault Refusal :=
  .next (dictRead port tag (entryKey index sub) s)

/-- DICT_WRITE (R168). -/
def execDictWrite (port : Port) (tag : Byte) (index : Half) (sub : Byte) (value : Bytes)
    (s : State) : Host.Outcome State Fault Refusal :=
  .next (dictWrite port tag (entryKey index sub) value s)

/-- ROLE_WRITE (R11). -/
def execRoleWrite (port : Port) (tag : Byte) (value : Bytes) (s : State) : Host.Outcome State Fault Refusal :=
  .next (dictWrite port tag K.role value s)

/-- FOOTING_CMD (R180). -/
def execFootingCmd (port : Port) (tag : Byte) (value : Bytes) (s : State) : Host.Outcome State Fault Refusal :=
  .next (dictWrite port tag K.footingCmd value s)

/-- COURSE_REQ (R188). -/
def execCourseReq (port : Port) (tag : Byte) (value : Bytes) (s : State) : Host.Outcome State Fault Refusal :=
  .next (dictWrite port tag K.courseReq value s)

/-- IMAGE_LOAD (R186). -/
def execImageLoad (course : Fin 8) (port : Port) (tag : Byte) (value : Bytes)
    (s : State) : Host.Outcome State Fault Refusal :=
  .next (dictWrite port tag (K.imageLoad + 256 * course.val) value s)

/-- IMAGE_COMMIT (R187). -/
def execImageCommit (course : Fin 8) (port : Port) (tag : Byte) (value : Bytes)
    (s : State) : Host.Outcome State Fault Refusal :=
  .next (dictWrite port tag (K.imageCommit + 256 * course.val) value s)

/-- FRAME_BOUNDARY (R189). -/
def execFrameBoundary (s : State) : Host.Outcome State Fault Refusal := .next (frameBoundary s)

/-- STATE_CMD_CONFIG (R172). -/
def execStateCmdConfig (via : Via) (s : State) : Host.Outcome State Fault Refusal :=
  .next (control via 0x0004 K.stateCmd 3 [3] s)

/-- STATE_CMD_RUN (R172). -/
def execStateCmdRun (via : Via) (s : State) : Host.Outcome State Fault Refusal :=
  .next (control via 0x0004 K.stateCmd 4 [4] s)

/-- STATE_CMD_MAINT (R172). -/
def execStateCmdMaint (via : Via) (s : State) : Host.Outcome State Fault Refusal :=
  .next (control via 0x0004 K.stateCmd 5 [5] s)

/-- STATE_CMD_SAFE (R172). -/
def execStateCmdSafe (via : Via) (s : State) : Host.Outcome State Fault Refusal :=
  .next (control via 0x0004 K.stateCmd 6 [6] s)

/-- FIELD_FRAME (R158). -/
def execFieldFrame (inForce other : Bytes) (s : State) : Host.Outcome State Fault Refusal :=
  .next (fieldFrame inForce other s)

/-- FIELD_REPLY (R159). -/
def execFieldReply (s : State) : Host.Outcome State Fault Refusal := .next (fieldReply s)

/-- ECHO_FAULT (R162). -/
def execEchoFault (noTransition : Bool) (s : State) : Host.Outcome State Fault Refusal :=
  .next (echoFault noTransition s)

/-- REPLY_RETRY (R162). -/
def execReplyRetry (s : State) : Host.Outcome State Fault Refusal := .next (replyRetry s)

/-- FIELD_CONFIG_APPLY (R160). -/
def execFieldConfigApply (s : State) : Host.Outcome State Fault Refusal := .next (fieldConfigApply s)

/-- INTER_CHARACTER_GAP (R158). -/
def execInterCharacterGap (s : State) : Host.Outcome State Fault Refusal := .next (interCharacterGap s)

/-- IDLE_LOW (R161). -/
def execIdleLow (s : State) : Host.Outcome State Fault Refusal := .next (idleLow s)

end Sys2Proof.Machine
end

