-- ==== Sys2Proof/Machine/ExecRadio.lean ====
section
/-! DEFINITION. The meanings of the commands of the radio: its commands, channel access, detection and reception (files
08 to 12): one definition for each row of the table. -/

namespace Sys2Proof.Machine

/-- RADIO_RX (R275). -/
def execRadioRx (via : Via) (s : State) : Host.Outcome State Fault Refusal :=
  .next (control via 0x4004 K.radioCmd 1 [1] s)

/-- RADIO_STOP (R275). -/
def execRadioStop (via : Via) (s : State) : Host.Outcome State Fault Refusal :=
  .next (control via 0x4004 K.radioCmd 2 [2] s)

/-- RADIO_TX (R275). -/
def execRadioTx (via : Via) (s : State) : Host.Outcome State Fault Refusal :=
  .next (control via 0x4004 K.radioCmd 3 [3] s)

/-- RADIO_ABORT (R275). -/
def execRadioAbort (via : Via) (s : State) : Host.Outcome State Fault Refusal :=
  .next (control via 0x4004 K.radioCmd 15 [15] s)

/-- LISTEN_END (R279). -/
def execListenEnd (s : State) : Host.Outcome State Fault Refusal := .next (present listenEnd s)

/-- CCA_BUSY (R278). -/
def execCcaBusy (rssi : Option Int) (s : State) : Host.Outcome State Fault Refusal := .next (present (ccaBusy rssi) s)

/-- BACKOFF_END (R278). -/
def execBackoffEnd (s : State) : Host.Outcome State Fault Refusal := .next (present backoffEnd s)

/-- SYNTH_LOCK (R202). -/
def execSynthLock (s : State) : Host.Outcome State Fault Refusal := .next (present synthLock s)

/-- SYNTH_UNLOCK (R202). -/
def execSynthUnlock (s : State) : Host.Outcome State Fault Refusal := .next (present synthUnlock s)

/-- TX_END (R286). -/
def execTxEnd (s : State) : Host.Outcome State Fault Refusal := .next (present txEnd s)

/-- ANT_VERDICT (R207). -/
def execAntVerdict (returnLoss : Byte) (phaseDeg : Int) (s : State) : Host.Outcome State Fault Refusal :=
  .next (present (antVerdict returnLoss phaseDeg) s)

/-- ACK_WAIT_EXPIRY (R286). -/
def execAckWaitExpiry (s : State) : Host.Outcome State Fault Refusal := .next (present ackWaitExpiry s)

/-- ACK_TX (R284). -/
def execAckTx (s : State) : Host.Outcome State Fault Refusal := .next (present ackTx s)

/-- EARLY_SYNC (R236). -/
def execEarlySync (seen : List Early) (s : State) : Host.Outcome State Fault Refusal := .next (present (earlyHeard seen) s)

/-- SYNC (R237). -/
def execSync (seen : SyncPeriod) (s : State) : Host.Outcome State Fault Refusal :=
  .next (present (syncFound seen.found seen.expired) s)

/-- SYNC_WORD_TIMEOUT (R225). -/
def execSyncWordTimeout (tag : Half) (s : State) : Host.Outcome State Fault Refusal :=
  .next (present (syncTimeout false tag) s)

/-- LTS_TIMEOUT (R268). -/
def execLtsTimeout (tag : Half) (s : State) : Host.Outcome State Fault Refusal :=
  .next (present (syncTimeout true tag) s)

/-- SIGNAL_LOSS (R254). -/
def execSignalLoss (seen : Fading) (s : State) : Host.Outcome State Fault Refusal :=
  .next (present (signalLoss seen.chan seen.values seen.received) s)

/-- PILOT_LOSS (R267). -/
def execPilotLoss (seen : Fading) (s : State) : Host.Outcome State Fault Refusal :=
  .next (present (pilotLoss seen) s)

/-- NOISE_FLOOR_WINDOW (R217). -/
def execNoiseFloorWindow (path : Path) (samples : List Int) (s : State) : Host.Outcome State Fault Refusal :=
  .next (present (noiseWindow path samples) s)

/-- BEACON_RECEIVED (R299). -/
def execBeaconReceived (frame : RxFrame) (s : State) : Host.Outcome State Fault Refusal :=
  .next (present (beaconReceived frame) s)

/-- POLL_RECEIVED (R303). -/
def execPollReceived (frame : RxFrame) (s : State) : Host.Outcome State Fault Refusal :=
  .next (present (pollReceived frame) s)

/-- DATA_RECEIVED (R305). -/
def execDataReceived (frame : RxFrame) (s : State) : Host.Outcome State Fault Refusal :=
  .next (present (dataReceived frame) s)

/-- NULL_RECEIVED (R305). -/
def execNullReceived (frame : RxFrame) (s : State) : Host.Outcome State Fault Refusal :=
  .next (present (nullReceived frame) s)

/-- JOIN_RECEIVED (R310). -/
def execJoinReceived (frame : RxFrame) (s : State) : Host.Outcome State Fault Refusal :=
  .next (present (joinReceived frame) s)

/-- FACK_RECEIVED (R317). -/
def execFackReceived (frame : RxFrame) (s : State) : Host.Outcome State Fault Refusal :=
  .next (present (fackReceived frame) s)

/-- ACK_RECEIVED (R286). -/
def execAckReceived (chan : Path) (s : State) : Host.Outcome State Fault Refusal :=
  .next (present (ackReceived chan) s)

/-- AIR_COMMIT (R354). -/
def execAirCommit (chan : Path) (s : State) : Host.Outcome State Fault Refusal := .next (present (airCommit chan) s)

end Sys2Proof.Machine
end

