-- ==== Sys2Proof/Machine/ExecNet.lean ====
section
/-! DEFINITION. The meanings of the commands of Firefly, the polled network and Swarm (files 11 and 12): one definition
for each row of the table. -/

namespace Sys2Proof.Machine

/-- SNIFF_WINDOW (R288). -/
def execSniffWindow (s : State) : Host.Outcome State Fault Refusal := .next (sniffWindow s)

/-- SNIFF_WINDOW_END (R288). -/
def execSniffWindowEnd (s : State) : Host.Outcome State Fault Refusal := .next (sniffWindowEnd s)

/-- WAKE_WORD (R290). -/
def execWakeWord (seen : WakeSeen) (s : State) : Host.Outcome State Fault Refusal := .next (wakeWord seen s)

/-- FF_STAY_EXPIRY (R290). -/
def execFfStayExpiry (s : State) : Host.Outcome State Fault Refusal := .next (present ffStayExpiry s)

/-- BEACON_CYCLE (R298). -/
def execBeaconCycle (s : State) : Host.Outcome State Fault Refusal := .next (present beaconCycle s)

/-- POLL_START (R301). -/
def execPollStart (s : State) : Host.Outcome State Fault Refusal := .next (present pollStart s)

/-- POLL_REPLY (R303). -/
def execPollReply (s : State) : Host.Outcome State Fault Refusal := .next (present pollReply s)

/-- POLL_MISS (R305). -/
def execPollMiss (s : State) : Host.Outcome State Fault Refusal := .next (present pollMiss s)

/-- JOIN_SLOT (R309). -/
def execJoinSlot (s : State) : Host.Outcome State Fault Refusal := .next (present joinSlot s)

/-- FACK_WAIT_EXPIRY (R317). -/
def execFackWaitExpiry (s : State) : Host.Outcome State Fault Refusal := .next (present fackWaitExpiry s)

/-- RELAY_COPY_DUE (R315). -/
def execRelayCopyDue (orig fseq : Half) (s : State) : Host.Outcome State Fault Refusal :=
  .next (present (relayCopyDue orig fseq) s)

/-- SEEN_EXPIRY (R314). -/
def execSeenExpiry (orig fseq : Half) (s : State) : Host.Outcome State Fault Refusal :=
  .next (seenExpiry (orig, fseq) s)

/-- AIR_DREQ_WRITE (R307). -/
def execAirDreqWrite (port : Port) (tag : Byte) (value : Bytes) (s : State) : Host.Outcome State Fault Refusal :=
  .next (dictWrite port tag K.airDreq value s)

/-- DUTY_BIN_ROLL (R281). -/
def execDutyBinRoll (s : State) : Host.Outcome State Fault Refusal := .next (rollBins s)

end Sys2Proof.Machine
end

