-- ==== Sys2Proof/Machine/ExecStore.lean ====
section
/-! DEFINITION. The meanings of the commands of the queues, the accepted work and Mortar (files 13 to 15): one
definition for each row of the table. -/

namespace Sys2Proof.Machine

/-- STONE_EVICTION (R340). -/
def execStoneEviction (s : State) : Host.Outcome State Fault Refusal := .next (present stoneEviction s)

/-- EVICTION_RETIRE (R340). -/
def execEvictionRetire (entry : Fin 4) (s : State) : Host.Outcome State Fault Refusal :=
  .next (present (retireEntry entry.val) s)

/-- SEGMENT_REFUSED (R341). -/
def execSegmentRefused (index : Nat) (s : State) : Host.Outcome State Fault Refusal :=
  .next (present (segmentRefused index) s)

/-- SLICE_IDLE_OFF (R338). -/
def execSliceIdleOff (slice : Fin 8) (s : State) : Host.Outcome State Fault Refusal :=
  .next (present (sliceIdleOff slice.val) s)

/-- QTO (R349). -/
def execQto (queue : Half) (s : State) : Host.Outcome State Fault Refusal := .next (present (postQto queue.toNat) s)

/-- Q_PURGE (R325). -/
def execQPurge (port : Port) (tag : Byte) (value : Bytes) (s : State) : Host.Outcome State Fault Refusal :=
  .next (dictWrite port tag K.qPurge value s)

/-- LEDGER_CLEAR (R362). -/
def execLedgerClear (port : Port) (tag : Byte) (value : Bytes) (s : State) : Host.Outcome State Fault Refusal :=
  .next (dictWrite port tag K.ledgerClear value s)

/-- MORTAR_APPEND (R383). -/
def execMortarAppend (records : Nat) (ending : AppendEnd) (s : State) : Host.Outcome State Fault Refusal :=
  .next (mortarAppend records ending s)

/-- APPEND_TIMEOUT (R387). -/
def execAppendTimeout (s : State) : Host.Outcome State Fault Refusal := .next (present appendTimeout s)

/-- COMPACTION (R393). -/
def execCompaction (s : State) : Host.Outcome State Fault Refusal := .next (compact s)

/-- ERASE_END (R385). -/
def execEraseEnd (okA okB : Bool) (s : State) : Host.Outcome State Fault Refusal := .next (eraseEnd okA okB s)

/-- MARGIN_SCAN (R396). -/
def execMarginScan (ssq : Word) (found : Margin) (s : State) : Host.Outcome State Fault Refusal :=
  .next (marginScan ssq.toNat found s)

/-- HOT_REFRESH (R397). -/
def execHotRefresh (s : State) : Host.Outcome State Fault Refusal := .next (hotRefresh s)

end Sys2Proof.Machine
end

