-- ==== Sys2Proof/Machine/ExecTimer.lean ====
section
/-! DEFINITION. The meanings of the commands of the timers, the pulse inputs, the ADC and Hod (files 16 and 17): one
definition for each row of the table. -/

namespace Sys2Proof.Machine

/-- TIME_STEP (R404). -/
def execTimeStep (pins : BitVec 12) (s : State) : Host.Outcome State Fault Refusal := .next (timeStep pins s)

/-- SNAP (R406). -/
def execSnap (via : Via) (s : State) : Host.Outcome State Fault Refusal :=
  .next (control via 0x6004 K.snapCmd 1 [1] s)

/-- STAGGER (R414). -/
def execStagger (by_ : StaggerBy) (s : State) : Host.Outcome State Fault Refusal := .next (stagger by_ s)

/-- COMPARE_CONFIG_WRITE (R411). -/
def execCompareConfigWrite (ch : Fin 16) (via : Via) (value : Word) (s : State) : Host.Outcome State Fault Refusal :=
  .next (compareConfigWrite ch.val via value s)

/-- COMPARE_VALUE_WRITE (R411). -/
def execCompareValueWrite (ch : Fin 16) (part : ValPart) (s : State) : Host.Outcome State Fault Refusal :=
  .next (compareValueWrite ch.val part s)

/-- CNT_WRITE (R424). -/
def execCntWrite (n : Fin 8) (via : Via) (value : Half) (s : State) : Host.Outcome State Fault Refusal :=
  .next (cntWrite n.val via value s)

/-- CAPTURE_EDGE (R420). -/
def execCaptureEdge (unit : Fin 12) (s : State) : Host.Outcome State Fault Refusal := .next (captureEdge unit.val s)

/-- CAPTURE_READ (R420). -/
def execCaptureRead (unit : Fin 12) (what : CapRead) (s : State) : Host.Outcome State Fault Refusal :=
  .next (captureRead unit.val what s)

/-- PULSE_SAMPLE (R432). -/
def execPulseSample (ch : Fin 8) (ratio : Nat) (s : State) : Host.Outcome State Fault Refusal :=
  .next (pulseSample ch.val ratio s)

/-- ADC_START (R443). -/
def execAdcStart (by_ : AdcBy) (codes : List AdcCode) (s : State) : Host.Outcome State Fault Refusal :=
  .next (adcStart by_ codes s)

/-- ADC_SEQUENCE_END (R442). -/
def execAdcSequenceEnd (codes : List AdcCode) (s : State) : Host.Outcome State Fault Refusal :=
  .next (if adcWorks s then adcEnd codes s else s)

/-- HOD_FLUSH (R446). -/
def execHodFlush (ch : Fin 8) (s : State) : Host.Outcome State Fault Refusal := .next (present (hodFlush ch.val) s)

end Sys2Proof.Machine
end

