-- ==== Sys2Proof/Machine/ExecBackground.lean ====
section
/-! DEFINITION. The meanings of the commands of background work, self-repair and frame security (files 18 and 19): one
definition for each row of the table. -/

namespace Sys2Proof.Machine

/-- ASHLAR_SCRUB (R452). -/
def execAshlarScrub (bank : Fin 132) (row : Byte) (found : Ecc) (s : State) : Host.Outcome State Fault Refusal :=
  .next (ashlarScrub bank.val row.toNat found s)

/-- MIGRATION_END (R459). -/
def execMigrationEnd (s : State) : Host.Outcome State Fault Refusal := .next (present migrationEnd s)

/-- KEYSTONE_SCRUB (R452). -/
def execKeystoneScrub (slice : Fin 8) (stone : Fin 64) (found : Ecc) (s : State) : Host.Outcome State Fault Refusal :=
  .next (keystoneScrub slice.val stone.val found s)

/-- SELF_TEST (R455). -/
def execSelfTest (pass : Bool) (s : State) : Host.Outcome State Fault Refusal := .next (selfTested pass s)

/-- BIST_SKIP (R456). -/
def execBistSkip (s : State) : Host.Outcome State Fault Refusal := .next (present bistSkip s)

/-- LANE_REASSIGN (R233). -/
def execLaneReassign (s : State) : Host.Outcome State Fault Refusal := .next (present laneReassign s)

/-- TELEM_SAMPLE (R454). -/
def execTelemSample (vinMv vholdMv : Half) (s : State) : Host.Outcome State Fault Refusal :=
  .next (telemSample vinMv vholdMv s)

/-- TELEM_CLEAR (R454). -/
def execTelemClear (port : Port) (tag : Byte) (value : Bytes) (s : State) : Host.Outcome State Fault Refusal :=
  .next (dictWrite port tag K.telemClear value s)

/-- ADC_OFFSET (R453). -/
def execAdcOffset (code : BitVec 12) (s : State) : Host.Outcome State Fault Refusal := .next (adcOffset code s)

/-- CANARY_CHECK (R453). -/
def execCanaryCheck (pass : Bool) (s : State) : Host.Outcome State Fault Refusal := .next (canaryCheck pass s)

/-- VCO_CALIBRATION (R203). -/
def execVcoCalibration (band : Fin 5) (setting : Byte) (s : State) : Host.Outcome State Fault Refusal :=
  .next (vcoCalibration band.val setting s)

/-- IQ_IMAGE_CALIBRATION (R453). -/
def execIqImageCalibration (path : Path) (s : State) : Host.Outcome State Fault Refusal :=
  .next (iqImageCalibration path s)

/-- DECOMMISSION (R478). -/
def execDecommission (port : Port) (tag : Byte) (value : Bytes) (s : State) : Host.Outcome State Fault Refusal :=
  .next (dictWrite port tag K.decommission value s)

end Sys2Proof.Machine
end

