-- ==== Sys2Proof/Machine/Dispatch.lean ====
section
/-! DEFINITION. The dispatch of a command to its meaning: one arm for each row of the table. -/

namespace Sys2Proof.Machine

def exec (i : Instr) (s : State) : Host.Outcome State Fault Refusal :=
  match i with
  | .powerOnReset dipped run => Sys2Proof.Machine.execPowerOnReset dipped run s
  | .brownOutReset => Sys2Proof.Machine.execBrownOutReset s
  | .resetN => Sys2Proof.Machine.execResetN s
  | .watchdogReset engine run => Sys2Proof.Machine.execWatchdogReset engine run s
  | .bootWatchdog run => Sys2Proof.Machine.execBootWatchdog run s
  | .softwareReset key go run => Sys2Proof.Machine.execSoftwareReset key go run s
  | .resetCmd port tag value => Sys2Proof.Machine.execResetCmd port tag value s
  | .deferredReset run => Sys2Proof.Machine.execDeferredReset run s
  | .jtagReset run => Sys2Proof.Machine.execJtagReset run s
  | .vinReversal run => Sys2Proof.Machine.execVinReversal run s
  | .bodWarn vinMv run => Sys2Proof.Machine.execBodWarn vinMv run s
  | .bodWarnClear vinMv => Sys2Proof.Machine.execBodWarnClear vinMv s
  | .iovddLoss bank => Sys2Proof.Machine.execIovddLoss bank s
  | .iovddReturn bank => Sys2Proof.Machine.execIovddReturn bank s
  | .resetNRelease run => Sys2Proof.Machine.execResetNRelease run s
  | .xoStarted => Sys2Proof.Machine.execXoStarted s
  | .pllLock => Sys2Proof.Machine.execPllLock s
  | .pllLockTimeout => Sys2Proof.Machine.execPllLockTimeout s
  | .quietEnd => Sys2Proof.Machine.execQuietEnd s
  | .journalRestore queues => Sys2Proof.Machine.execJournalRestore queues s
  | .shutdownRequest via => Sys2Proof.Machine.execShutdownRequest via s
  | .dormantRequest via => Sys2Proof.Machine.execDormantRequest via s
  | .sniffRequest via => Sys2Proof.Machine.execSniffRequest via s
  | .wake sources run => Sys2Proof.Machine.execWake sources run s
  | .spiWake run => Sys2Proof.Machine.execSpiWake run s
  | .lintelStepUp failed => Sys2Proof.Machine.execLintelStepUp failed s
  | .lintelStepDown => Sys2Proof.Machine.execLintelStepDown s
  | .plumbStepDown => Sys2Proof.Machine.execPlumbStepDown s
  | .nearMiss => Sys2Proof.Machine.execNearMiss s
  | .thermSample temp => Sys2Proof.Machine.execThermSample temp s
  | .lfxoQualified => Sys2Proof.Machine.execLfxoQualified s
  | .xoFailure => Sys2Proof.Machine.execXoFailure s
  | .lfxoFailure => Sys2Proof.Machine.execLfxoFailure s
  | .lossOfLock within10s => Sys2Proof.Machine.execLossOfLock within10s s
  | .rcCalibration hfrc lfrc => Sys2Proof.Machine.execRcCalibration hfrc lfrc s
  | .ckenDeferredGate block => Sys2Proof.Machine.execCkenDeferredGate block s
  | .powerGood domain => Sys2Proof.Machine.execPowerGood domain s
  | .fcwLoad => Sys2Proof.Machine.execFcwLoad s
  | .slewEnd => Sys2Proof.Machine.execSlewEnd s
  | .holdoverEntry => Sys2Proof.Machine.execHoldoverEntry s
  | .tbModeWrite port tag value => Sys2Proof.Machine.execTbModeWrite port tag value s
  | .registerRead addr count c8 => Sys2Proof.Machine.execRegisterRead addr count c8 s
  | .registerWrite addr count data c8 => Sys2Proof.Machine.execRegisterWrite addr count data c8 s
  | .dictionaryRequest n pdu c8 => Sys2Proof.Machine.execDictionaryRequest n pdu c8 s
  | .responseFetch c8 => Sys2Proof.Machine.execResponseFetch c8 s
  | .queuePush queue len c8 payload crc => Sys2Proof.Machine.execQueuePush queue len c8 payload crc s
  | .queuePop queue flags sequence c8 => Sys2Proof.Machine.execQueuePop queue flags sequence c8 s
  | .queuePeek queue position c8 => Sys2Proof.Machine.execQueuePeek queue position c8 s
  | .eventFetch count c8 => Sys2Proof.Machine.execEventFetch count c8 s
  | .statusOnly => Sys2Proof.Machine.execStatusOnly s
  | .unknownOpcode opcode => Sys2Proof.Machine.execUnknownOpcode opcode s
  | .spiCsNRise mosi fill => Sys2Proof.Machine.execSpiCsNRise mosi fill s
  | .errcodeClear => Sys2Proof.Machine.execErrcodeClear s
  | .dictRead port tag index sub => Sys2Proof.Machine.execDictRead port tag index sub s
  | .dictWrite port tag index sub value => Sys2Proof.Machine.execDictWrite port tag index sub value s
  | .roleWrite port tag value => Sys2Proof.Machine.execRoleWrite port tag value s
  | .footingCmd port tag value => Sys2Proof.Machine.execFootingCmd port tag value s
  | .courseReq port tag value => Sys2Proof.Machine.execCourseReq port tag value s
  | .imageLoad course port tag value => Sys2Proof.Machine.execImageLoad course port tag value s
  | .imageCommit course port tag value => Sys2Proof.Machine.execImageCommit course port tag value s
  | .frameBoundary => Sys2Proof.Machine.execFrameBoundary s
  | .stateCmdConfig via => Sys2Proof.Machine.execStateCmdConfig via s
  | .stateCmdRun via => Sys2Proof.Machine.execStateCmdRun via s
  | .stateCmdMaint via => Sys2Proof.Machine.execStateCmdMaint via s
  | .stateCmdSafe via => Sys2Proof.Machine.execStateCmdSafe via s
  | .fieldFrame inForce other => Sys2Proof.Machine.execFieldFrame inForce other s
  | .fieldReply => Sys2Proof.Machine.execFieldReply s
  | .echoFault noTransition => Sys2Proof.Machine.execEchoFault noTransition s
  | .replyRetry => Sys2Proof.Machine.execReplyRetry s
  | .fieldConfigApply => Sys2Proof.Machine.execFieldConfigApply s
  | .interCharacterGap => Sys2Proof.Machine.execInterCharacterGap s
  | .idleLow => Sys2Proof.Machine.execIdleLow s
  | .radioRx via => Sys2Proof.Machine.execRadioRx via s
  | .radioStop via => Sys2Proof.Machine.execRadioStop via s
  | .radioTx via => Sys2Proof.Machine.execRadioTx via s
  | .radioAbort via => Sys2Proof.Machine.execRadioAbort via s
  | .listenEnd => Sys2Proof.Machine.execListenEnd s
  | .ccaBusy rssi => Sys2Proof.Machine.execCcaBusy rssi s
  | .backoffEnd => Sys2Proof.Machine.execBackoffEnd s
  | .synthLock => Sys2Proof.Machine.execSynthLock s
  | .synthUnlock => Sys2Proof.Machine.execSynthUnlock s
  | .txEnd => Sys2Proof.Machine.execTxEnd s
  | .antVerdict returnLoss phaseDeg => Sys2Proof.Machine.execAntVerdict returnLoss phaseDeg s
  | .ackWaitExpiry => Sys2Proof.Machine.execAckWaitExpiry s
  | .ackTx => Sys2Proof.Machine.execAckTx s
  | .earlySync seen => Sys2Proof.Machine.execEarlySync seen s
  | .sync seen => Sys2Proof.Machine.execSync seen s
  | .syncWordTimeout tag => Sys2Proof.Machine.execSyncWordTimeout tag s
  | .ltsTimeout tag => Sys2Proof.Machine.execLtsTimeout tag s
  | .signalLoss seen => Sys2Proof.Machine.execSignalLoss seen s
  | .pilotLoss seen => Sys2Proof.Machine.execPilotLoss seen s
  | .noiseFloorWindow path samples => Sys2Proof.Machine.execNoiseFloorWindow path samples s
  | .beaconReceived frame => Sys2Proof.Machine.execBeaconReceived frame s
  | .pollReceived frame => Sys2Proof.Machine.execPollReceived frame s
  | .dataReceived frame => Sys2Proof.Machine.execDataReceived frame s
  | .nullReceived frame => Sys2Proof.Machine.execNullReceived frame s
  | .joinReceived frame => Sys2Proof.Machine.execJoinReceived frame s
  | .fackReceived frame => Sys2Proof.Machine.execFackReceived frame s
  | .ackReceived chan => Sys2Proof.Machine.execAckReceived chan s
  | .airCommit chan => Sys2Proof.Machine.execAirCommit chan s
  | .sniffWindow => Sys2Proof.Machine.execSniffWindow s
  | .sniffWindowEnd => Sys2Proof.Machine.execSniffWindowEnd s
  | .wakeWord seen => Sys2Proof.Machine.execWakeWord seen s
  | .ffStayExpiry => Sys2Proof.Machine.execFfStayExpiry s
  | .beaconCycle => Sys2Proof.Machine.execBeaconCycle s
  | .pollStart => Sys2Proof.Machine.execPollStart s
  | .pollReply => Sys2Proof.Machine.execPollReply s
  | .pollMiss => Sys2Proof.Machine.execPollMiss s
  | .joinSlot => Sys2Proof.Machine.execJoinSlot s
  | .fackWaitExpiry => Sys2Proof.Machine.execFackWaitExpiry s
  | .relayCopyDue orig fseq => Sys2Proof.Machine.execRelayCopyDue orig fseq s
  | .seenExpiry orig fseq => Sys2Proof.Machine.execSeenExpiry orig fseq s
  | .airDreqWrite port tag value => Sys2Proof.Machine.execAirDreqWrite port tag value s
  | .dutyBinRoll => Sys2Proof.Machine.execDutyBinRoll s
  | .stoneEviction => Sys2Proof.Machine.execStoneEviction s
  | .evictionRetire entry => Sys2Proof.Machine.execEvictionRetire entry s
  | .segmentRefused index => Sys2Proof.Machine.execSegmentRefused index s
  | .sliceIdleOff slice => Sys2Proof.Machine.execSliceIdleOff slice s
  | .qto queue => Sys2Proof.Machine.execQto queue s
  | .qPurge port tag value => Sys2Proof.Machine.execQPurge port tag value s
  | .ledgerClear port tag value => Sys2Proof.Machine.execLedgerClear port tag value s
  | .mortarAppend records ending => Sys2Proof.Machine.execMortarAppend records ending s
  | .appendTimeout => Sys2Proof.Machine.execAppendTimeout s
  | .compaction => Sys2Proof.Machine.execCompaction s
  | .eraseEnd okA okB => Sys2Proof.Machine.execEraseEnd okA okB s
  | .marginScan ssq found => Sys2Proof.Machine.execMarginScan ssq found s
  | .hotRefresh => Sys2Proof.Machine.execHotRefresh s
  | .timeStep pins => Sys2Proof.Machine.execTimeStep pins s
  | .snap via => Sys2Proof.Machine.execSnap via s
  | .stagger by_ => Sys2Proof.Machine.execStagger by_ s
  | .compareConfigWrite ch via value => Sys2Proof.Machine.execCompareConfigWrite ch via value s
  | .compareValueWrite ch part => Sys2Proof.Machine.execCompareValueWrite ch part s
  | .cntWrite n via value => Sys2Proof.Machine.execCntWrite n via value s
  | .captureEdge unit => Sys2Proof.Machine.execCaptureEdge unit s
  | .captureRead unit what => Sys2Proof.Machine.execCaptureRead unit what s
  | .pulseSample ch ratio => Sys2Proof.Machine.execPulseSample ch ratio s
  | .adcStart by_ codes => Sys2Proof.Machine.execAdcStart by_ codes s
  | .adcSequenceEnd codes => Sys2Proof.Machine.execAdcSequenceEnd codes s
  | .hodFlush ch => Sys2Proof.Machine.execHodFlush ch s
  | .ashlarScrub bank row found => Sys2Proof.Machine.execAshlarScrub bank row found s
  | .migrationEnd => Sys2Proof.Machine.execMigrationEnd s
  | .keystoneScrub slice stone found => Sys2Proof.Machine.execKeystoneScrub slice stone found s
  | .selfTest pass => Sys2Proof.Machine.execSelfTest pass s
  | .bistSkip => Sys2Proof.Machine.execBistSkip s
  | .laneReassign => Sys2Proof.Machine.execLaneReassign s
  | .telemSample vinMv vholdMv => Sys2Proof.Machine.execTelemSample vinMv vholdMv s
  | .telemClear port tag value => Sys2Proof.Machine.execTelemClear port tag value s
  | .adcOffset code => Sys2Proof.Machine.execAdcOffset code s
  | .canaryCheck pass => Sys2Proof.Machine.execCanaryCheck pass s
  | .vcoCalibration band setting => Sys2Proof.Machine.execVcoCalibration band setting s
  | .iqImageCalibration path => Sys2Proof.Machine.execIqImageCalibration path s
  | .decommission port tag value => Sys2Proof.Machine.execDecommission port tag value s

end Sys2Proof.Machine
end

