-- ==== Sys2Proof/Safety.lean ====
section
/-! DEFINITION. What every state of the device is meant to satisfy, and what no command may change. -/

namespace Sys2Proof.Safety

open Sys2Proof.Machine

/-- The event ring (R151): at most 256 places, of which the last eight hold none but CLKFAIL, BOD_WARN and THERM_STEP. -/
def RingOk (s : State) : Prop :=
  s.ring.length ≤ ringSize ∧ ∀ e ∈ s.ring.drop (ringSize - ringKept), keptEvent e.code = true

/-- The live values are in their one canonical form: the keys rise strictly, and no value listed is the default of its
entry. -/
def LiveOk (s : State) : Prop :=
  s.live.Pairwise (fun p q => p.1 < q.1) ∧ ∀ p ∈ s.live, p.2 ≠ defaultOf p.1

/-- What every state is meant to satisfy. -/
structure Inv (s : State) : Prop where
  ring : RingOk s
  live : LiveOk s

/-- A fuse byte that is written keeps its value (R176). -/
def FuseKept (old new : Option Byte) : Prop := ∀ b, old = some b → new = some b

/-- What holds of a state `s` that the device reaches from `r` inside one command: the queue of the commands that wait
is untouched, the identity and the written fuses stand, and what every state is meant to satisfy still holds. -/
structure Kept (r s : State) : Prop where
  pending : s.pending = r.pending
  ring    : RingOk r → RingOk s
  live    : LiveOk r → LiveOk s
  siliconRev  : s.id.siliconRev = r.id.siliconRev
  serial      : s.id.serial = r.id.serial
  codeVersion : s.id.codeVersion = r.id.codeVersion
  xoCfg   : FuseKept r.id.xoCfg s.id.xoCfg
  region  : FuseKept r.id.region s.id.region

/-- The parts of the device, one for each field of `State`. -/
inductive Part where
  | sys
  | boot
  | sup
  | live
  | ring
  | evtLost
  | spi
  | field
  | engine
  | courses
  | mortar
  | jrn
  | qe
  | repair
  | scarab
  | rx
  | radio
  | swarm
  | net
  | tb
  | sec
  | id
  | timer
  | pulse
  | adc
  | hod
  | pins
  | clk
  | draws
  | pending
  deriving DecidableEq, Repr

/-- A part of the device is the same in two states. -/
@[reducible] def Part.same : Part → State → State → Prop
  | .sys, r, s => s.sys = r.sys
  | .boot, r, s => s.boot = r.boot
  | .sup, r, s => s.sup = r.sup
  | .live, r, s => s.live = r.live
  | .ring, r, s => s.ring = r.ring
  | .evtLost, r, s => s.evtLost = r.evtLost
  | .spi, r, s => s.spi = r.spi
  | .field, r, s => s.field = r.field
  | .engine, r, s => s.engine = r.engine
  | .courses, r, s => s.courses = r.courses
  | .mortar, r, s => s.mortar = r.mortar
  | .jrn, r, s => s.jrn = r.jrn
  | .qe, r, s => s.qe = r.qe
  | .repair, r, s => s.repair = r.repair
  | .scarab, r, s => s.scarab = r.scarab
  | .rx, r, s => s.rx = r.rx
  | .radio, r, s => s.radio = r.radio
  | .swarm, r, s => s.swarm = r.swarm
  | .net, r, s => s.net = r.net
  | .tb, r, s => s.tb = r.tb
  | .sec, r, s => s.sec = r.sec
  | .id, r, s => s.id = r.id
  | .timer, r, s => s.timer = r.timer
  | .pulse, r, s => s.pulse = r.pulse
  | .adc, r, s => s.adc = r.adc
  | .hod, r, s => s.hod = r.hod
  | .pins, r, s => s.pins = r.pins
  | .clk, r, s => s.clk = r.clk
  | .draws, r, s => s.draws = r.draws
  | .pending, r, s => s.pending = r.pending

/-- The change from `r` to `s` is confined to the parts listed: every other part is the same. -/
structure Confined (w : List Part) (r s : State) : Prop where
  same : ∀ p, p ∉ w → p.same r s

/-- All parts but the pins and the queue of the commands that wait. -/
def wide : List Part :=
  [.sys, .boot, .sup, .live, .ring, .evtLost, .spi, .field, .engine, .courses, .mortar, .jrn, .qe, .repair,
   .scarab, .rx, .radio, .swarm, .net, .tb, .sec, .id, .timer, .pulse, .adc, .hod, .clk, .draws]

/-- The parts that a command may change. -/
def frameOf : Instr → List Part
  | .powerOnReset .. | .resetN | .vinReversal .. | .resetNRelease .. => .pins :: wide
  | .bodWarnClear .. => [.sup, .ring, .evtLost, .scarab, .rx, .radio, .swarm, .net, .pins, .draws]
  | .iovddLoss .. => [.field, .qe, .pins]
  | .iovddReturn .. => [.sup, .pins]
  | .quietEnd => [.sys, .ring, .evtLost, .scarab, .rx, .net, .draws]
  | .journalRestore .. => [.sys, .ring, .evtLost, .mortar, .jrn, .qe, .repair]
  | .lintelStepUp .. | .synthLock => [.sup, .ring, .evtLost, .jrn, .scarab, .rx, .radio, .swarm, .net, .sec, .draws]
  | .lintelStepDown | .plumbStepDown | .nearMiss => [.sup]
  | .lfxoQualified | .rcCalibration .. => [.clk]
  | .lfxoFailure => [.ring, .evtLost, .mortar, .repair, .clk]
  | .lossOfLock .. => [.sys, .sup, .ring, .evtLost, .mortar, .repair, .scarab, .rx, .radio, .net, .tb, .clk, .draws]
  | .ckenDeferredGate .. => [.sup, .ring, .evtLost, .field, .scarab, .rx, .radio, .swarm, .net, .clk, .draws]
  | .powerGood .. => [.sup, .ring, .evtLost, .rx, .radio, .clk, .draws]
  | .fcwLoad | .slewEnd => [.tb]
  | .holdoverEntry => [.ring, .evtLost, .tb]
  | .registerRead .. => [.ring, .evtLost, .spi, .timer, .clk, .draws]
  | .responseFetch .. | .statusOnly | .unknownOpcode .. => [.spi]
  | .queuePush .. => [.spi, .jrn, .qe]
  | .queuePop .. | .queuePeek .. => [.ring, .evtLost, .spi, .mortar, .jrn, .qe, .repair]
  | .eventFetch .. => [.ring, .spi]
  | .fieldReply | .replyRetry | .fieldConfigApply | .interCharacterGap | .idleLow => [.field]
  | .echoFault .. => [.field, .draws]
  | .listenEnd | .ccaBusy .. | .backoffEnd | .txEnd | .ackWaitExpiry | .ackTx | .earlySync .. | .sync ..
  | .signalLoss .. | .pilotLoss .. | .ffStayExpiry | .pollMiss | .fackWaitExpiry =>
    [.sup, .ring, .evtLost, .scarab, .rx, .radio, .swarm, .net, .draws]
  | .synthUnlock => [.sup, .ring, .evtLost, .scarab, .rx, .radio, .net, .clk, .draws]
  | .antVerdict .. => [.ring, .evtLost, .radio]
  | .syncWordTimeout .. | .ltsTimeout .. => [.ring, .evtLost, .scarab, .rx, .draws]
  | .noiseFloorWindow .. => [.rx, .draws]
  | .beaconReceived .. | .dataReceived .. | .nullReceived .. | .joinReceived .. | .fackReceived .. =>
    [.sup, .live, .ring, .evtLost, .courses, .mortar, .jrn, .qe, .scarab, .rx, .radio, .swarm, .net, .tb, .sec,
     .timer, .pulse, .adc, .hod, .draws]
  | .ackReceived .. => [.sup, .ring, .evtLost, .jrn, .qe, .scarab, .rx, .radio, .swarm, .net, .draws]
  | .airCommit .. =>
    [.sys, .sup, .ring, .evtLost, .mortar, .jrn, .qe, .repair, .scarab, .rx, .radio, .swarm, .net, .pulse, .hod,
     .clk, .draws]
  | .sniffWindow => [.radio, .clk, .draws]
  | .sniffWindowEnd => [.radio, .clk]
  | .wakeWord .. => [.sup, .ring, .evtLost, .mortar, .scarab, .rx, .radio, .pulse, .hod, .clk, .draws]
  | .beaconCycle => [.sup, .ring, .evtLost, .rx, .radio, .net, .draws]
  | .pollStart => [.sup, .ring, .evtLost, .mortar, .jrn, .qe, .repair, .rx, .radio, .swarm, .net, .draws]
  | .pollReply => [.sup, .ring, .evtLost, .qe, .rx, .radio, .swarm, .net, .draws]
  | .joinSlot => [.sys, .sup, .ring, .evtLost, .scarab, .rx, .radio, .net, .draws]
  | .relayCopyDue .. => [.sup, .ring, .evtLost, .rx, .radio, .swarm, .draws]
  | .seenExpiry .. => [.swarm]
  | .dutyBinRoll | .vcoCalibration .. => [.radio]
  | .stoneEviction | .evictionRetire .. | .sliceIdleOff .. => [.qe]
  | .segmentRefused .. => [.ring, .evtLost, .mortar, .jrn, .qe, .repair, .swarm]
  | .qto .. => [.ring, .evtLost, .qe]
  | .compaction | .eraseEnd .. | .marginScan .. | .migrationEnd => [.ring, .evtLost, .mortar, .repair]
  | .hotRefresh => [.ring, .evtLost, .mortar]
  | .timeStep .. => [.sup, .live, .ring, .evtLost, .courses, .mortar, .jrn, .qe, .timer, .pulse, .adc, .hod, .pins]
  | .captureEdge .. => [.timer]
  | .pulseSample .. => [.sup, .live, .ring, .evtLost, .courses, .mortar, .jrn, .qe, .timer, .pulse, .adc, .hod]
  | .adcSequenceEnd .. => [.sup, .ring, .evtLost, .jrn, .qe, .pulse, .adc, .hod, .draws]
  | .hodFlush .. => [.ring, .evtLost, .jrn, .qe, .hod]
  | .ashlarScrub .. | .keystoneScrub .. => [.ring, .evtLost, .mortar, .jrn, .qe, .repair]
  | .selfTest .. => [.sup, .ring, .evtLost, .mortar, .repair, .scarab, .rx, .radio, .draws]
  | .bistSkip => [.repair]
  | .laneReassign => [.ring, .evtLost, .mortar, .repair, .scarab]
  | .telemSample .. | .canaryCheck .. => [.sup, .repair]
  | .adcOffset .. => [.adc]
  | .iqImageCalibration .. => [.rx]
  | .brownOutReset | .watchdogReset .. | .bootWatchdog .. | .softwareReset .. | .resetCmd ..
  | .deferredReset .. | .jtagReset .. | .bodWarn .. | .xoStarted | .pllLock | .pllLockTimeout
  | .shutdownRequest .. | .dormantRequest .. | .sniffRequest .. | .wake .. | .spiWake .. | .thermSample ..
  | .xoFailure | .tbModeWrite .. | .registerWrite .. | .dictionaryRequest .. | .spiCsNRise .. | .errcodeClear
  | .dictRead .. | .dictWrite .. | .roleWrite .. | .footingCmd .. | .courseReq .. | .imageLoad ..
  | .imageCommit .. | .frameBoundary | .stateCmdConfig .. | .stateCmdRun .. | .stateCmdMaint ..
  | .stateCmdSafe .. | .fieldFrame .. | .radioRx .. | .radioStop .. | .radioTx .. | .radioAbort ..
  | .pollReceived .. | .airDreqWrite .. | .qPurge .. | .ledgerClear .. | .mortarAppend .. | .appendTimeout
  | .snap .. | .stagger .. | .compareConfigWrite .. | .compareValueWrite .. | .cntWrite .. | .captureRead ..
  | .adcStart .. | .telemClear .. | .decommission .. => wide

-- Where a command finds the device

/-- The host may use the SPI port, and the device takes every request: nothing of a sleep is pending (R3, R40). -/
def PortUp (s : State) : Prop := spiPresent s = true ∧ rdy s = true

/-- The host may write a register: the port is up, and the clock of the register's block runs (R86). -/
def RegFree (addr : Nat) (s : State) : Prop := PortUp s ∧ regGated s addr = false

/-- A port is free to present a request, and the dictionary engine to serve it (R9, R149, R159, R307). -/
def PortFree (port : Port) (s : State) : Prop :=
  s.engine.job = none ∧ absent s = false ∧
  match port with
  | .spi => spiPresent s = true ∧ s.spi.asked = false ∧ s.spi.resp = none
  | .field => fieldServed s = true ∧ s.field.busy = false ∧ s.field.mute = false
  | .air _ => s.sys.ready = true ∧ s.net.held = none ∧ airAsked s = false

/-- The state with the error of the transaction before cleared, as each transaction starts (R138). -/
def cleared (s : State) : State := { s with spi := { s.spi with err := false } }

/-- The state in which the engine judges a request of a port. -/
def atEngine (port : Port) (s : State) : State :=
  match port with
  | .spi => { s with spi := { s.spi with err := false, asked := true } }
  | .field => { s with field := { s.field with busy := true } }
  | .air _ => s

/-- The port is free, and a write passes every test of Table 7.2. -/
def Passes (port : Port) (tag : Byte) (key : Nat) (value : Bytes) (s : State) : Prop :=
  PortFree port s ∧ judge (atEngine port s) (writeRequest port tag key value) = .ok

/-- The port is free, and a read passes every test of Table 7.2. -/
def Reads (port : Port) (tag : Byte) (key : Nat) (s : State) : Prop :=
  PortFree port s ∧ judge (atEngine port s) (readRequest port tag key) = .ok

/-- The port has been handed a response to a request with an abort code and a value. -/
def Answered (r : Request) (code : Half) (value : Bytes) (t : State) : Prop :=
  match r.port with
  | .spi => t.spi.resp = some (responsePdu r code value) ∧ t.spi.asked = false
  | .field => t.field.reply = some (responsePdu r code value)
  | .air _ => t.net.held = some (responsePdu r code value)

/-- A control passes its tests: by its register, or as a write of its entry from a port. -/
def Takes (via : Via) (addr key v : Nat) (value : Bytes) (s : State) : Prop :=
  match via with
  | .register => RegFree addr s ∧ stateRefusal (cleared s) key v true = none ∧ busyRefusal (cleared s) key v true = false
  | .dict port tag => Passes port tag key value s

/-- A control is acknowledged: the transaction reports no error, or the port is handed abort 0. -/
def Told (via : Via) (key : Nat) (value : Bytes) (t : State) : Prop :=
  match via with
  | .register => t.spi.err = false
  | .dict port tag => Answered (writeRequest port tag key value) abOk [] t

/-- The parts that a port's own traffic changes. -/
def portParts : Port → List Part
  | .spi => [.spi]
  | .field => [.field]
  | .air _ => [.net]

/-- The parts that a control's own traffic changes. -/
def viaParts : Via → List Part
  | .register => [.spi]
  | .dict port _ => portParts port

/-- A write has been accepted and waits for the seal of its records: it has no answer, and nothing has its value yet. -/
def Awaits (port : Port) (tag : Byte) (key : Nat) (value : Bytes) (recs : List NewRec) (s t : State) : Prop :=
  Confined ([.engine, .mortar, .sys, .qe] ++ portParts port) s t ∧
    t.engine.job = some (writeRequest port tag key value, .seal s.sys.rolePending) ∧
    t.mortar = { s.mortar with waiting2 := s.mortar.waiting2 ++ [⟨recs, .request, false⟩] } ∧
    t.spi.resp = s.spi.resp ∧ t.field.reply = s.field.reply ∧ t.net = s.net ∧ t.qe.queues = s.qe.queues

/-- What a state command does that passes its tests: `v` is the code of the state `d`. -/
def Transits (d : DevState) (v : Fin 8) (via : Via) (c : Instr) (s : State) : Prop :=
  Takes via 0x0004 K.stateCmd v.val [BitVec.ofNat 8 v.val] s →
    (s.sys.dev = d → ∃ t, exec c s = .next t ∧ Confined (viaParts via) s t ∧
      Told via K.stateCmd [BitVec.ofNat 8 v.val] t) ∧
    (s.sys.dev ≠ d → atBoundary s = true → ∃ t, exec c s = .next t ∧ t.sys = { s.sys with dev := d } ∧
      Told via K.stateCmd [BitVec.ofNat 8 v.val] t) ∧
    (s.sys.dev ≠ d → atBoundary s = false → ∃ t, exec c s = .next t ∧ Confined (.engine :: viaParts via) s t ∧
      match via with
      | .register => t.engine.regTarget = some v ∧ t.spi.err = false
      | .dict port tag =>
        t.engine.job = some (writeRequest port tag K.stateCmd [BitVec.ofNat 8 v.val], .boundary v))

/-- A frame ends whole on its channel: the frame in reception there, of its LENGTH, decided by the decoder from the soft
values of its coded bits, with a good CRC-32, as Table 12.2 has its type, for this device, neither flooded nor secured,
where the policy lets it pass. -/
def Whole (f : RxFrame) (r : Reception) (m : MacFrame) (s : State) : Prop :=
  reception s f.chan = some r ∧ receiving s = true ∧ heard s r f = true ∧ crc32 f.psdu = f.crc ∧
    parseMac f.psdu = some m ∧ typeOk m = true ∧ m.flood = none ∧ m.aux = none ∧
    liveBool s K.rxRequire = false ∧ forMe s m = true

/-- A pair can be compacted now: no erase is in progress, nothing of a higher source waits, and there is room for its live
records (R383, R387, R393). -/
def Compactable (p : Pair) (s : State) : Prop :=
  s.mortar.erasing = none ∧ higherWaits s = false ∧
    (appendAll 2 (hotWrite s) (copiesOf s.mortar p) (if p.full then s.mortar else closePair s.mortar)).2 = []

/-- ERASES of a sector. -/
def eraseCount (s : State) (i : Nat) : Nat := (nth ⟨.unassigned, 0⟩ s.mortar.sectors i).erases.toNat

/-- A capture unit of two edges, of one edge, as the captures written so far leave it. -/
def capPair (s : State) (u : Fin 8) : CapPair := nth ⟨0, 0, 0, 0, false, false, false, false, false⟩ s.timer.capPairs u.val
def capSingle (s : State) (k : Fin 4) : CapSingle := nth ⟨0, false, false⟩ s.timer.capSingles k.val

/-- The cause bits of a reset (Table 5.1), bit 11 apart: the boot sets that one. -/
def causeBits (t : State) : Nat := t.boot.cause.toNat % 2048

/-- VCORE stands at its point's nominal voltage less `k` steps of Plumb, and the stored trim of the point says so (R57,
R58). -/
structure AtTrim (s : State) (k : Nat) : Prop where
  steps  : k ≤ 16
  points : s.sup.trims.length = 4
  trim   : nth 0 s.sup.trims s.sup.op.val = k
  vcore  : s.sup.vcore = pointMv s.sup.op.val k
  vend   : s.sup.vend = s.sup.vcore

/-- An operation of the device that needs it awake and powered may take place. -/
def Works (s : State) : Prop := absent s = false

end Sys2Proof.Safety
end

