-- ==== Sys2Proof/Certificates/Slice0/Obligations.lean ====
section
/-! DEFINITION. The statements about the device that are put to proof. -/

section

open Sys2Proof Sys2Proof.Machine Sys2Proof.Safety

-- The block as a machine

/-- A step takes the command at the front of the queue and executes it with the queue's rest (the model's own form of
the block's interface, log entry 1). With nothing waiting the block idles (the model's choice, log entry 2). -/
def Obligations.StepRunsTheFront : Prop :=
  (∀ (c : Instr) (q : List Instr) (s : State), step { s with pending := c :: q } = exec c { s with pending := q }) ∧
  ∀ s : State, s.pending = [] → step s = .next s

/-- The invariant holds right after reset. (The model's readings: log entry 15.) -/
def Obligations.ResetHasInvariant : Prop := Inv State.reset

/-- The invariant of the event ring (R151) and of the live values is kept by every step from every state that has it.
(The model's readings: log entry 15.) -/
def Obligations.StepKeepsInvariant : Prop := ∀ s t : State, Inv s → step s = .next t → Inv t

/-- R176 and the identity of the device: no step changes a written fuse byte, the serial number, the silicon revision or
the code version. -/
def Obligations.StepKeepsFuses : Prop :=
  ∀ s t : State, step s = .next t →
    FuseKept s.id.xoCfg t.id.xoCfg ∧ FuseKept s.id.region t.id.region ∧ t.id.serial = s.id.serial ∧
      t.id.siliconRev = s.id.siliconRev ∧ t.id.codeVersion = s.id.codeVersion

/-- The frame of every command: what lies outside the parts listed for it is unchanged, and so is the queue of the
commands that wait. (The model's readings: log entries 4, 19 and 31.) -/
def Obligations.CommandsAreConfined : Prop :=
  ∀ (c : Instr) (s t : State), exec c s = .next t → Confined (frameOf c) s t

/-- What the spec says holds at reset: the state code is not ready, nothing is queued for the host, no error is
reported, the radio is off, every register of an entry reads its default. The first boot of a device with an empty
Mortar (R117, R118, R122, Table 5.5): it reports ready in CONFIG, as a node whose Footing is absent, with bits 0 and 11
of RESET_CAUSE and the boot time measured. (The model's readings: log entries 11, 12 and 21.) -/
def Obligations.ResetValuesAndFirstBoot : Prop :=
  (State.reset.sys.ready = false ∧ State.reset.sys.dev = .notReady ∧ State.reset.ring = [] ∧
    State.reset.evtLost = 0 ∧ State.reset.spi.err = false ∧ State.reset.spi.errcode = 0 ∧
    State.reset.spi.resp = none ∧ State.reset.engine.job = none ∧ State.reset.radio.state = .off ∧
    State.reset.timer.time = 0 ∧ State.reset.timer.ntOffset = 0 ∧ State.reset.clk.mon = 0 ∧
    State.reset.qe.queues = [] ∧ State.reset.pending = [] ∧ ∀ k : Nat, liveBytes State.reset k = defaultOf k) ∧
  ∃ t, exec (.powerOnReset false ⟨none, 25000, 17000, 0, [], []⟩) State.reset = .next t ∧ t.sys.ready = true ∧
    t.sys.dev = .config ∧
    t.sys.role = .node ∧ t.boot.cause = 0x801 ∧ t.boot.readyUs = 25000 ∧ t.mortar.mountUs = 17000 ∧ t.boot.phase = 7

-- Resets (file 05)

/-- RESET_N low takes the warm reset and holds it (R111, Table 5.2): bit 2 of RESET_CAUSE, with bit 9 where the boot had
not reported ready; the ring is empty, TIME, NT_OFFSET, the accountant, LOCKVIOL and the receipt registers are kept, the
contents of the queues too, and every entry outside AON reads its default. The pin needs the supply of its bank (R17).
(The model's readings: log entries 19 and 22.) -/
def Obligations.ResetNTakesTheWarmReset : Prop :=
  ∀ s : State, s.boot.held = false → s.sup.power ≠ .shutdown → s.pins.bankA = true →
    ∃ t, exec .resetN s = .next t ∧ t.boot.held = true ∧ t.pins.resetLow = true ∧ t.sys.ready = false ∧
      t.boot.cause = BitVec.ofNat 16 (4 + 512 * b2n (inBoot s)) ∧ t.ring = [] ∧ t.timer = s.timer ∧
      t.radio.bins = s.radio.bins ∧ t.sys.lockviol = s.sys.lockviol ∧ t.spi.rcptQ = s.spi.rcptQ ∧
      t.spi.rcptSeq = s.spi.rcptSeq ∧ t.qe.queues = s.qe.queues ∧ t.tb.state = tbFree ∧ t.id = s.id ∧
      ∀ k : Nat, timerKey k = false → liveBytes t k = defaultOf k

/-- BROWN_OUT_RESET (R36, R111, Table 5.2): bit 1 of RESET_CAUSE, with bit 2 while RESET_N is low and bit 9 where the
boot that is cut off, or the one before the reset that is held, had not reported ready; TIME starts at 0, the queues are
lost, the ring is empty; what lies in Mortar and in fuses is kept. (The model's readings: log entry 19.) -/
def Obligations.BrownOutTakesTheColdReset : Prop :=
  ∀ s : State, s.sup.power ≠ .off →
    ∃ t, exec .brownOutReset s = .next t ∧ t.sup.power = .off ∧
      t.boot.cause = BitVec.ofNat 16 (2 + 4 * b2n s.pins.resetLow + 512 * b2n (cutBoot s)) ∧ t.sys.ready = false ∧
        t.timer = State.reset.timer ∧ t.qe = State.reset.qe ∧
      t.jrn = State.reset.jrn ∧ t.ring = [] ∧ t.live = [] ∧ t.sys.lockviol = false ∧
      t.mortar.pairs = s.mortar.pairs ∧ t.mortar.sectors = s.mortar.sectors ∧ t.mortar.waiting2 = [] ∧ t.id = s.id

/-- Every reset that ends at once starts the boot with its own bit of RESET_CAUSE, bit 9 where the boot before had not
reported ready, bit 10 where the reset commit was skipped (R111, R115), and the bits of the further sources of the same
cycle; after a brown-out the power-on reset is no second cause, unless VHOLD has dipped below 0.40 V. A reset that
RESET_N holds goes on, and every source that comes into force meanwhile sets its bit. A RESET_CMD is carried out once
its response has gone (R113). (The model's readings: log entries 18, 21, 22 and 110.) -/
def Obligations.ResetsStartTheBoot : Prop :=
  ∀ (run : BootRun) (s : State),
    (s.pins.resetLow = false → ∀ dipped, ∃ t, exec (.powerOnReset dipped run) s = .next t ∧ t.boot.held = false ∧
      causeBits t = if s.sup.power = .off ∧ bit s.boot.cause.toNat 1 = true ∧ dipped = false then causeBits s else 1) ∧
    (s.pins.resetLow = true → ∀ dipped, ∃ t, exec (.powerOnReset dipped run) s = .next t ∧ t.boot.held = true ∧
      bit t.boot.cause.toNat 2 = true ∧ t.sup.power ≠ .off) ∧
    (absent s = false → ∀ e, ∃ t, exec (.watchdogReset e run) s = .next t ∧ t.boot.held = false ∧
      causeBits t = (8 + 512 * b2n (inBoot s) + 1024 * b2n (e == .mortar)) ||| (alsoBits run s).toNat) ∧
    (inBoot s = true → ∃ t, exec (.bootWatchdog run) s = .next t ∧ t.boot.held = false ∧
      causeBits t = (8 + 512) ||| (alsoBits run s).toNat) ∧
    (PortUp s → ∃ t, exec (.softwareReset 0x5A true run) s = .next t ∧ t.boot.held = false ∧
      causeBits t = (16 + 512 * b2n (inBoot s)) ||| (alsoBits run s).toNat) ∧
    (s.boot.resetDue = true → s.boot.held = false → responseSent s = true → ∃ t, exec (.deferredReset run) s = .next t ∧
      t.boot.held = false ∧ causeBits t = (32 + 512 * b2n (inBoot s)) ||| (alsoBits run s).toNat) ∧
    (absent s = false → s.pins.bankA = true → ∃ t, exec (.jtagReset run) s = .next t ∧ t.boot.held = false ∧
      causeBits t = (64 + 512 * b2n (inBoot s)) ||| (alsoBits run s).toNat) ∧
    (inReset s = true →
      (∃ t, exec (.resetNRelease run) s = .next t ∧ t.boot.held = false ∧ t.pins.resetLow = false ∧
        causeBits t = causeBits s) ∧
      (∀ e, exec (.watchdogReset e run) s = .next (addCause 3 s)) ∧
      (s.pins.bankA = true → exec (.jtagReset run) s = .next (addCause 6 s) ∧
        exec (.softwareReset 0x5A true run) s = .next (addCause 4 s)))

/-- R113: a write to SYS.RSTCMD that does not carry KEY = 0x5A with GO has no effect; an accepted RESET_CMD is answered,
and the reset is due. (The model's readings: log entry 28.) -/
def Obligations.SoftwareResetKeys : Prop :=
  (∀ (key : Byte) (go : Bool) (run : BootRun) (s : State), PortUp s → (key ≠ 0x5A ∨ go = false) →
    ∃ t, exec (.softwareReset key go run) s = .next t ∧ Confined [.spi] s t ∧ t.spi.err = false) ∧
  ∀ (port : Port) (tag : Byte) (value : Bytes) (s : State), Passes port tag K.resetCmd value s →
    ∃ t, exec (.resetCmd port tag value) s = .next t ∧ Confined (.boot :: portParts port) s t ∧
      t.boot.resetDue = true ∧ t.boot.resetPort = port ∧ Answered (writeRequest port tag K.resetCmd value) abOk [] t

-- Supply (files 02 and 03)

/-- BOD_WARN, once armed and with VIN below its threshold (R50): the warning is in force and alerts, the power-fail
commit runs, is counted and measured, what the air had not committed is lost, Lintel is at OP1 at most, migrations and
an erase in progress are abandoned, and a Course commit that is not sealed is rejected with abort 0x0601 (R187); here no
sleep is pending. With VIN at the threshold or above nothing else changes. BOD_WARN clears where VIN has stayed above
the threshold plus the hysteresis of 30 mV (R51), and not at that value or below; reception that it stopped starts again
in IDLE. A reversal of VIN raises BOD_WARN in the same way, and completes from every state (R26). (The model's readings: log entries 32 and 33.) -/
def Obligations.BodWarnComesAndGoes : Prop :=
  (∀ (vin : Half) (run : CommitRun) (s : State), bodArmed s = true → s.sup.bodWarn = false → s.sup.sleepDue = none →
    (s.engine.waits = [] ∨ ∀ r was, s.engine.job = some (r, .seal was) → isImageCommit r.key = false) →
    (vin.toNat < bodThr s → ∃ t, exec (.bodWarn vin run) s = .next t ∧ t.sup.bodWarn = true ∧ t.sup.vinMv = vin ∧
      alert t = true ∧ t.radio.commits = [] ∧ t.jrn.pfCommits = inc s.jrn.pfCommits ∧ t.jrn.pfLastUs = run.us ∧
      t.jrn.pfEndMv = run.endMv ∧ t.repair.migrating = [] ∧ t.mortar.erasing = none ∧
      (canCommit s = true → s.jrn.relWait = [] → t.jrn.stage = []) ∧ (s.engine.job = none → t.sup.op.val ≤ 1) ∧
      ∀ r was, s.engine.job = some (r, .seal was) → isImageCommit r.key = true → s.engine.waits = [] →
        (r.port = .field → s.field.mute = false) → t.engine.job = none ∧ Answered r abPersist [] t) ∧
    (bodThr s ≤ vin.toNat → s.engine.job = none → exec (.bodWarn vin run) s =
      .next { s with sup := { s.sup with vinMv := vin } })) ∧
  (∀ (vin : Half) (s : State), s.sup.bodWarn = true →
    (bodThr s + 30 < vin.toNat → ∃ t, exec (.bodWarnClear vin) s = .next t ∧ t.sup.bodWarn = false ∧
      t.sup.vinMv = vin ∧ t.pins.reversed = false ∧ alert t = (s.clk.mon != 0) ∧ t.qe = s.qe ∧ t.sys = s.sys ∧
      (s.sup.bodRx = true → s.radio.state = .idle → radioPermitted s = true → rxBlocks s = true → modeOk s = true →
        rxChannelsOk s = true → s.sup.therm ≠ 3 → t.radio.state = .synthUp ∧ t.radio.up = .rx)) ∧
    (vin.toNat ≤ bodThr s + 30 → exec (.bodWarnClear vin) s = .next { s with
      sup := { s.sup with vinMv := vin }, pins := { s.pins with reversed := false } })) ∧
  ∀ (run : CommitRun) (s : State), ∃ t, exec (.vinReversal run) s = .next t ∧ t.pins.reversed = true ∧
    (bodArmed s = true → s.sup.sleepDue = none → t.sup.bodWarn = true)

/-- VIN_REVERSAL, IOVDD_LOSS and IOVDD_RETURN complete from every state. A VIN reversal stops the drive of every pin, and
raises BOD_WARN where it is armed (R26). R17: the loss of a bank's supply makes its ports absent, no pin of the bank is driven (R23), and its return makes them present; the return of bank
A is a wake source where WAKE_EN enables it (Table 3.4). What was in external segments is kept where the device runs
(R18). In reset and in SAFE the RF control outputs are low (R22); in work TXEN follows the PA, IRQ_N and ALERT_N their
causes and FP_DE the reply on the bus (R101, R153, R159). (The model's readings: log entries 34, 42 and 116.) -/
def Obligations.PinSuppliesComeAndGo : Prop :=
  (∀ (run : CommitRun) (s : State),
    ∃ t, exec (.vinReversal run) s = .next t ∧ t.pins.reversed = true ∧ spiPresent t = false ∧ fieldServed t = false ∧
      (∀ pin, pinOut pin t = .z) ∧ (bodArmed s = true → s.sup.bodWarn = false → s.sup.sleepDue = none →
        t.sup.bodWarn = true ∧ t.jrn.pfCommits = inc s.jrn.pfCommits)) ∧
  ∀ s : State,
    (∃ t, exec (.iovddLoss .a) s = .next t ∧ t.pins = { s.pins with bankA := false } ∧ t.qe.queues = s.qe.queues ∧
      spiPresent t = false ∧ (∀ pin, inBankB pin = false → pinOut pin t = .z) ∧
      (awake s = true → s.boot.held = false → t.qe = s.qe)) ∧
    (∃ t, exec (.iovddLoss .b) s = .next t ∧ t.pins = { s.pins with bankB := false } ∧ t.qe = s.qe ∧
      fieldServed t = false ∧ t.field.reply = none ∧ t.field.sending = false ∧
      ∀ pin, inBankB pin = true → pinOut pin t = .z) ∧
    (s.pins.bankA = false → ∃ t, exec (.iovddReturn .a) s = .next t ∧ t.pins = { s.pins with bankA := true } ∧
      (bit (liveNat s K.wakeEn) 6 = true → t.sup.wakeReq = s.sup.wakeReq ||| 64)) ∧
    (∃ t, exec (.iovddReturn .b) s = .next t ∧ t.pins = { s.pins with bankB := true } ∧ t.sup = s.sup) ∧
    (s.boot.held = true ∨ (awake s = true ∧ s.sys.dev = .safe) → s.sys.ready = true → ∀ n, rfControl n s = false) ∧
    (awake s = true → s.boot.held = false → s.sys.ready = true → s.pins.reversed = false →
      (s.pins.bankA = true → pinOut .irqN s = (if irq s = true then .low else .released) ∧
        pinOut .alertN s = (if alert s = true then .low else .released)) ∧
      (s.pins.bankB = true → pinOut .fpDe s = (if s.field.sending = true then .high else .low) ∧
        (s.sys.dev ≠ .safe → pinFunc s 9 = 4 → bit (liveNat s K.gpiood) 9 = false →
          pinOut (.gpio 9) s = (if s.radio.onAir.isSome = true then .high else .low))))

-- Oscillators, the root PLL and clock gating (file 04)

/-- XO_STARTED judges XO started, PLL_LOCK declares lock and ends the run of restarts, and a lock timeout restarts the
search up to three times in succession (R72, R77, R78); here outside a boot that waits for them. A wake reaches IDLE at
that lock (R44). LFXO_QUALIFIED (R74) changes LFCLK to LFXO, unless an LFXO failure stands; a calibration of the RC
oscillators against XO puts both trims in force (R75). (The model's readings: log entry 39.) -/
def Obligations.ClocksStart : Prop :=
  (∀ s : State, asleep s = false → s.boot.waiting = none →
    (s.clk.xoOk = false → s.clk.xoFailed = false →
      exec .xoStarted s = .next { s with clk := { s.clk with xoOk := true } }) ∧
    (s.clk.lock = false → s.clk.stopped = false → (s.clk.xoOk = true ∨ s.clk.refHfrc = true) →
      (∃ t, exec .pllLock s = .next t ∧ t.clk = { s.clk with lock := true, restarts := 0 } ∧ (s.sup.waking = true →
        t.sup.waking = false ∧ (t.radio.state = .idle ∨ t.radio.state = .off ∨ t.radio.state = .synthUp))) ∧
      (s.clk.restarts < 3 → exec .pllLockTimeout s = .next
        { s with clk := { s.clk with restarts := s.clk.restarts + 1 } }))) ∧
  ∀ s : State,
    (s.clk.lfxoFailed = false → s.sup.power ≠ .off →
      exec .lfxoQualified s = .next { s with clk := { s.clk with lfxoOk := true, lfSrc := true } }) ∧
    (∀ hfrc lfrc, background s = true → s.clk.xoOk = true →
      exec (.rcCalibration hfrc lfrc) s = .next { s with clk := { s.clk with hfrcTrim := hfrc, lfrcTrim := lfrc } })

/-- An XO failure (R97, R98, R101): the root PLL changes to HFRC, the time base is DEGRADED, ALERT_N is asserted through
its latch, the radio goes off and a device that was ready is in SAFE; here outside a boot that waits. A loss of lock
(R100) clears lock, sets its latch and counts; the third within 10 s is an XO failure (R507). An XO failure in a window
of SNIFF (R95) wakes the device, with its ports in work (R97).
(The model's readings: log entries 38, 108 and 111.) -/
def Obligations.XoAndLockFailures : Prop :=
  (∀ s : State, s.clk.xoOk = true → absent s = false → s.boot.waiting = none →
    ∃ t, exec .xoFailure s = .next t ∧ t.clk.xoFailed = true ∧ t.clk.xoOk = false ∧ t.clk.refHfrc = true ∧
      t.clk.lock = false ∧ t.tb.state = tbDegraded ∧ alert t = true ∧ t.radio.rxOn = false ∧ t.radio.cca = none ∧
      (s.sys.ready = true → t.sys.dev = .safe)) ∧
  (∀ s : State, s.clk.xoOk = true → s.radio.state = .sniff → s.sys.ready = true → ∃ t, exec .xoFailure s = .next t ∧
    asleep t = false ∧ t.clk.xoFailed = true ∧ t.clk.xoOk = false ∧ t.sys.dev = .safe ∧ alert t = true) ∧
  ∀ (within : Bool) (s : State), s.clk.lock = true →
    ∃ t, exec (.lossOfLock within) s = .next t ∧ t.clk.lock = false ∧
      t.clk.unlocks = (if s.clk.unlocks = 255 then 255 else s.clk.unlocks + 1) ∧
      ((within = true ∧ 2 ≤ s.clk.recent ∧ s.clk.refHfrc = false) → t.clk.xoFailed = true) ∧
      ((within = false ∨ s.clk.recent < 2) → t.clk.mon = s.clk.mon ||| 4 ∧ t.clk.xoFailed = s.clk.xoFailed)

/-- R99: on an LFXO failure LFCLK changes to LFRC, TIME continues, the device asserts ALERT_N and posts CLKFAIL with
argument 2, and the device state does not change. -/
def Obligations.LfxoFailureChangesToLfrc : Prop :=
  ∀ s : State, s.clk.lfxoOk = true →
    ∃ t, exec .lfxoFailure s = .next t ∧ t.clk.lfSrc = false ∧ t.timer = s.timer ∧ alert t = true ∧ t.sys = s.sys ∧
      (hasPlace s.ring evClkFail = true → t.ring = s.ring ++ [⟨evClkFail, 0, s.timer.time.setWidth 48, 2⟩])

/-- Clock gating (R46, R85): power-good starts the clocks of the blocks of its domain, and a block whose enable bit was
cleared while it was busy is gated once it is idle. (The model's readings: log entries 40 and 41.) -/
def Obligations.GatingFollowsThePower : Prop :=
  (∀ (d : Fin 206) (s : State), Works s → bit s.sup.rising.toNat d.val = true →
    ∃ t, exec (.powerGood d) s = .next t ∧ bit t.sup.rising.toNat d.val = false ∧
      ∀ n < 9, blockDomain n = d.val → blockOn t n = true) ∧
  (∀ (n : Fin 40) (s : State), blocks.contains n.val = true → n.val ≠ 0 → blockOn s n.val = true →
    enableBit s n.val = false → blockBusy s n.val = false → asleep s = false →
    ∃ t, exec (.ckenDeferredGate n) s = .next t ∧ blockOn t n.val = false) ∧
  ∀ s : State, s.field.sending = false → s.field.busy = false → blockOn s 0 = true → enableBit s 0 = false →
    asleep s = false → ∃ t, exec (.ckenDeferredGate 0) s = .next t ∧ blockOn t 0 = false

-- The time base (§4.5)

/-- FCW_LOAD puts the word that waits in force; SLEW_END ends the phase slew; HOLDOVER_ENTRY takes a disciplined node or
relay to HOLDOVER, at the frequency it has measured, with its event (R91, R93), unless a reference frame has come since
(R110). (The model's readings: log entry 43.) -/
def Obligations.TimeBaseMoves : Prop :=
  ∀ s : State,
    (∀ w, s.tb.load = some w → exec .fcwLoad s = .next { s with tb := { s.tb with fcw := w, load := none } }) ∧
    (s.tb.state = tbDisciplined → exec .slewEnd s = .next
      { s with tb := { s.tb with slew := 0, fcw := fcwOf s.tb.freq, load := none } }) ∧
    (holdExpired s = false → exec .holdoverEntry s = .next s) ∧
    (s.tb.state = tbDisciplined → s.sys.role ≠ .coordinator → holdExpired s = true →
      ∃ t, exec .holdoverEntry s = .next t ∧
        t.tb = { s.tb with state := tbHoldover, slew := 0, fcw := fcwOf s.tb.freq, load := none } ∧
        (unmasked s evTbHoldover = true → hasPlace s.ring evTbHoldover = true →
          t.ring = s.ring ++ [⟨evTbHoldover, 0, s.timer.time.setWidth 48, 1⟩]))
-- Power states, Lintel, Plumb and the thermal level (file 03), QUIET and restore (file 05)

/-- A request for a sleep state that passes its tests is acknowledged, and the state is entered at once where no append
and no commit is in progress (R40 to R42): the radio sleeps and every clock but LFCLK stops.
(The model's readings: log entry 30.) -/
def Obligations.SleepStatesAreEntered : Prop :=
  ∀ (via : Via) (s : State), s.mortar.waiting2 = [] → s.radio.commits = [] →
    (Takes via 0x0804 K.pstateCmd 1 [1] s → ∃ t, exec (.shutdownRequest via) s = .next t ∧
      t.sup.power = .shutdown ∧ t.sys.ready = false ∧ t.sup.op = 0 ∧ t.radio.state = .sleep ∧ t.clk.xoOk = false ∧
      t.clk.run0 = 0 ∧ t.clk.run1 = 0 ∧ t.sup.sleepDue = none ∧ Told via K.pstateCmd [1] t) ∧
    (Takes via 0x0804 K.pstateCmd 2 [2] s → ∃ t, exec (.dormantRequest via) s = .next t ∧
      t.sup.power = .dormant ∧ t.sup.op = 0 ∧ t.radio.state = .sleep ∧ t.clk.xoOk = false ∧ t.clk.run1 = 0 ∧
      t.qe.stones = [] ∧ t.live = s.live ∧ t.sup.sleepDue = none ∧ Told via K.pstateCmd [2] t) ∧
    (Takes via 0x0804 K.pstateCmd 3 [3] s → ∃ t, exec (.sniffRequest via) s = .next t ∧
      t.sup.power = .sniff ∧ t.sup.op = 0 ∧ t.radio.state = .sleep ∧ t.clk.xoOk = false ∧ t.clk.run1 = 0 ∧
      t.qe.stones = [] ∧ t.live = s.live ∧ t.sup.sleepDue = none ∧ Told via K.pstateCmd [3] t)

/-- A wake from DORMANT or SNIFF (R43, R44): the device is no longer asleep, its sources stand in PWR.WAKESRC, XO and
the root PLL start again, and until lock is declared the status byte reports RDY = 0 and the radio sleeps; where the PLL
is stopped (R507) IDLE is reached at once. One from SHUTDOWN boots, with bits 0 and 8 of RESET_CAUSE (R41). SPI_WAKE is
a wake whose status byte reads 0x00 (R136). (The model's readings: log entry 31.) -/
def Obligations.Wakes : Prop :=
  ∀ (run : BootRun) (s : State), s.boot.held = false →
    (∀ sources : BitVec 7, wakeSources sources s ≠ 0 →
      (s.sup.power = .dormant ∨ s.sup.power = .sniff → ∃ t, exec (.wake sources run) s = .next t ∧ asleep t = false ∧
        t.sup.wakeSrc = (wakeSources sources s).setWidth 16 ∧ t.sup.wakeReq = 0 ∧ t.clk.xoOk = s.clk.xoOk ∧
        t.clk.lock = s.clk.lock ∧ (s.clk.lock = false → s.clk.stopped = false →
          t.sup.waking = true ∧ rdy t = false ∧ t.radio.state = .sleep) ∧
        (s.clk.stopped = true → t.sup.waking = false)) ∧
      (s.sup.power = .shutdown → ∃ t, exec (.wake sources run) s = .next t ∧ t.boot.held = false ∧
        causeBits t = 0x101)) ∧
    (s.pins.bankA = true → s.pins.reversed = false →
      (s.sup.power = .dormant ∨ s.sup.power = .sniff → ∃ t, exec (.spiWake run) s = .next t ∧ asleep t = false ∧
        bit t.sup.wakeSrc.toNat 0 = true ∧ t.spi.miso = [0] ∧
        (s.clk.lock = false → s.clk.stopped = false → rdy t = false)) ∧
      (s.sup.power = .shutdown → ∃ t, exec (.spiWake run) s = .next t ∧ t.boot.held = false ∧
        causeBits t = 0x101 ∧ t.spi.miso = [0]))

/-- Lintel steps (R53 to R56): up to the target at a frame boundary, down to it while the radio is idle, and neither
while the root PLL is unlocked (R108). On entry to a point the trim is the stored one less 20 mV, and less 20 mV for
each confirmation that failed; VCORE ends at the nominal voltage less the trim, and falls to it where it was higher
(R55). (The model's readings: log entries 36, 37 and 107.) -/
def Obligations.LintelSteps : Prop :=
  ∀ s : State, awake s = true →
    (s.clk.lock = true →
      (∀ failed, s.sup.op.val < opTarget s → atBoundary s = true →
        ∃ t, exec (.lintelStepUp failed) s = .next t ∧ t.sup.op.val = opTarget s ∧
          t.sup.vcore = pointMv (opTarget s) (entryTrim s (opTarget s) failed)) ∧
      (opTarget s < s.sup.op.val → s.radio.state = .idle ∨ s.radio.state = .off →
        ∃ t, exec .lintelStepDown s = .next t ∧ Confined [.sup] s t ∧ t.sup.op.val = opTarget s ∧
          t.sup.vend = pointMv (opTarget s) (entryTrim s (opTarget s) 0) ∧ t.sup.vend.toNat ≤ t.sup.vcore.toNat ∧
          s.sup.vcore.toNat ≤ t.sup.vcore.toNat ∧
          t.sup.power = s.sup.power ∧ t.sup.therm = s.sup.therm ∧ t.sup.bodWarn = s.sup.bodWarn)) ∧
    (s.clk.lock = false → (∀ failed, exec (.lintelStepUp failed) s = .next s) ∧ exec .lintelStepDown s = .next s)

/-- Plumb (R57): a step down is 5 mV, to 80 mV below nominal at most; a near-miss above zero trim gives 20 mV back,
never above nominal. A near-miss at zero trim (R59) is counted in NEAR_MISS and locks the trim of the point at 0; it does
not change the operating point. Under the lock a step down changes nothing at nominal. A near-miss while VCORE still
falls raises it by 20 mV and ends the fall there, above nominal too, from where the steps down go on (R68).
(The model's readings: log entry 36.) -/
def Obligations.PlumbSteps : Prop :=
  (∀ (k : Nat) (s : State), awake s = true → liveBool s K.plumbEn = true → AtTrim s k →
    (k < 16 → bit s.sup.trimLock.toNat s.sup.op.val = false →
      ∃ t, exec .plumbStepDown s = .next t ∧ Confined [.sup] s t ∧ t.sup.vcore = s.sup.vcore - 5 ∧
        plumbTrim t = k + 1 ∧ t.sup.op = s.sup.op) ∧
    (k = 16 → exec .plumbStepDown s = .next s) ∧
    (0 < k → ∃ t, exec .nearMiss s = .next t ∧ Confined [.sup] s t ∧ t.sup.nearMiss = inc s.sup.nearMiss ∧
        plumbTrim t = k - 4 ∧ t.sup.op = s.sup.op ∧ t.sup.vcore = pointMv s.sup.op.val (k - 4))) ∧
  (∀ s : State, awake s = true → liveBool s K.plumbEn = true → nominalMv s.sup.op.val < s.sup.vend.toNat →
    ∃ t, exec .plumbStepDown s = .next t ∧ Confined [.sup] s t ∧ t.sup.vcore = s.sup.vend - 5 ∧
      t.sup.vend = s.sup.vend - 5 ∧ t.sup.op = s.sup.op) ∧
  ∀ s : State, awake s = true →
    (AtTrim s 0 →
      ∃ t, exec .nearMiss s = .next t ∧ t.sup.nearMiss = inc s.sup.nearMiss ∧ t.sup.op = s.sup.op ∧
        bit t.sup.trimLock.toNat s.sup.op.val = true ∧ t.sup.trims = s.sup.trims ∧ exec .plumbStepDown t = .next t) ∧
    (falling s = true → ∃ t, exec .nearMiss s = .next t ∧ Confined [.sup] s t ∧ t.sup.op = s.sup.op ∧
      t.sup.nearMiss = inc s.sup.nearMiss ∧ t.sup.vcore = s.sup.vcore + 20 ∧ falling t = false)

/-- A temperature sample (R61 to R64): a valid one is the die temperature, is kept among the last eight and counts the
thresholds between it and the one before; one out of range is discarded and counted, and the eighth in succession sets
HOT, with THERM_STEP and its bit 16 at HOT too. (The model's readings: log entry 35.) -/
def Obligations.ThermSamples : Prop :=
  ∀ (temp : Half) (s : State), awake s = true → s.sup.waking = false →
    (-550 ≤ temp.toInt ∧ temp.toInt ≤ 1500 → ∃ t, exec (.thermSample temp) s = .next t ∧ t.sup.temp = temp ∧
      t.sup.samples = (temp :: s.sup.samples).take 8 ∧ t.sup.badRun = 0 ∧
      t.sup.crossings = incBy (if s.sup.sampled then crossed s.sup.temp.toInt temp.toInt else 0) s.sup.crossings) ∧
    (temp.toInt < -550 ∨ 1500 < temp.toInt → ∃ t, exec (.thermSample temp) s = .next t ∧ t.sup.temp = s.sup.temp ∧
      t.sup.discards = inc s.sup.discards ∧ t.sup.badRun = s.sup.badRun + 1 ∧
      (s.sup.badRun = 7 → s.sup.therm.val < 2 → t.sup.therm = 2) ∧
      (s.sup.badRun = 7 → s.sup.therm = 2 → hasPlace s.ring evThermStep = true → t.sup.therm = 2 ∧
        t.ring = s.ring ++ [⟨evThermStep, 0, s.timer.time.setWidth 48, 2 + 256 * 2 + 65536⟩]) ∧ (s.sup.badRun ≠ 7 →
          t.sup.therm = s.sup.therm))

/-- QUIET_END (R126): a node or relay in QUIET enters RUN; a pending detection ends with the change of state (R238); in
any other state nothing happens. JOURNAL_RESTORE (R129, R367): the next queues are restored, as many as named, in
ascending number; no other queue is touched, a frame whose records are sealed comes back to its chain with its sequence
and its payload, and with nothing sealed the queue stays as it is. BOD_WARN stops the restore (R132). (The model's
readings: log entry 29.) -/
def Obligations.QuietAndRestoreEnd : Prop :=
  (∀ s : State, Works s →
    (s.sys.dev = .quiet → ∃ t, exec .quietEnd s = .next t ∧
      Confined [.sys, .ring, .evtLost, .scarab, .rx, .net, .draws] s t ∧
      t.sys = { s.sys with dev := .run } ∧ t.net = { s.net with beaconOf := none, open_ := none } ∧ t.scarab.dets = [] ∧
      (s.scarab.dets = [] → t.ring = s.ring ∧ t.scarab = s.scarab ∧ t.rx = s.rx)) ∧
    (s.sys.dev ≠ .quiet → exec .quietEnd s = .next s)) ∧
  ∀ s : State, s.sys.ready = true → Works s →
    (∀ n, s.sup.bodWarn = false → ∃ t, exec (.journalRestore n) s = .next t ∧ t.sys.restore = s.sys.restore.drop n) ∧
    (∀ n, s.sup.bodWarn = true → exec (.journalRestore n) s = .next s) ∧
    ∀ q rest, s.sup.bodWarn = false → s.sys.restore = q :: rest → chainSeqs s.mortar q false = [] →
      (∃ t, exec (.journalRestore 1) s = .next t ∧ t.sys = { s.sys with restore := rest } ∧
        ∀ k, k ≠ q → getQueue t k = getQueue s k) ∧
      (chainSeqs s.mortar q true = [] →
        exec (.journalRestore 1) s = .next { s with sys := { s.sys with restore := rest } }) ∧
      ∀ x f segs, chainSeqs s.mortar q true = [x] → sealedFrame s.mortar q true x = some f →
        allocate s q f.payload.length = some segs → (getQueue s q).inCh.length < 65535 →
        ∃ t g, exec (.journalRestore 1) s = .next t ∧ (getQueue t q).inCh = (getQueue s q).inCh ++ [g] ∧
          g.payload = f.payload ∧ g.seq = f.seq ∧ g.segs = segs ∧ (getQueue t q).outCh = (getQueue s q).outCh

-- The SPI host port (file 06)

/-- R137: the first byte that the device sends in every transaction is the status byte, sampled at its start: its bits
are those of Table 6.1, and it is 0x00 before the device is up (R136). -/
def Obligations.FirstByteIsStatus : Prop :=
  ∀ s : State, spiPresent s = true →
    (∀ addr n c8, ∃ t, exec (.registerRead addr n c8) s = .next t ∧ t.spi.miso.head? = some (statusByte s)) ∧
    (∀ addr n d c8, ∃ t, exec (.registerWrite addr n d c8) s = .next t ∧ t.spi.miso.head? = some (statusByte s)) ∧
    (∀ n p c8, ∃ t, exec (.dictionaryRequest n p c8) s = .next t ∧ t.spi.miso.head? = some (statusByte s)) ∧
    (∀ c8, ∃ t, exec (.responseFetch c8) s = .next t ∧ t.spi.miso.head? = some (statusByte s)) ∧
    (∀ q n c8 p crc, ∃ t, exec (.queuePush q n c8 p crc) s = .next t ∧ t.spi.miso.head? = some (statusByte s)) ∧
    (∀ q f n c8, ∃ t, exec (.queuePop q f n c8) s = .next t ∧ t.spi.miso.head? = some (statusByte s)) ∧
    (∀ q i c8, ∃ t, exec (.queuePeek q i c8) s = .next t ∧ t.spi.miso.head? = some (statusByte s)) ∧
    (∀ n c8, ∃ t, exec (.eventFetch n c8) s = .next t ∧ t.spi.miso.head? = some (statusByte s)) ∧
    (∃ t, exec .statusOnly s = .next t ∧ t.spi.miso.head? = some (statusByte s)) ∧
    (∀ op, opcodes.contains op.toNat = false →
      ∃ t, exec (.unknownOpcode op) s = .next t ∧ t.spi.miso.head? = some (statusByte s)) ∧
    (∀ b m fill, ∃ t, exec (.spiCsNRise (b :: m) fill) s = .next t ∧ t.spi.miso.head? = some (statusByte s)) ∧
    (s.sys.dev = .notReady → statusByte s = 0) ∧
    (s.sys.dev ≠ .notReady → (statusByte s).toNat % 8 = s.sys.dev.code ∧ bit (statusByte s).toNat 3 = s.spi.err ∧
      bit (statusByte s).toNat 4 = (s.ring.any fun e => e.code == evPktNotice || e.code == evQto) ∧
      bit (statusByte s).toNat 5 = !s.ring.isEmpty ∧ bit (statusByte s).toNat 6 = alert s ∧
      bit (statusByte s).toNat 7 = rdy s)

/-- R142: an unknown opcode sets ERR with OPCODE, and the device sends 0x00 for the rest of the transaction; opcode 0x5F
has no effect beyond the status byte and does not clear PORT.ERRCODE. -/
def Obligations.OpcodesWithoutEffect : Prop :=
  ∀ s : State, spiPresent s = true →
    (∀ op, opcodes.contains op.toNat = false → exec (.unknownOpcode op) s = .next { s with
      spi := { s.spi with err := true, errcode := errOpcode, miso := [statusByte s] } }) ∧
    (∀ op m fill, opcodes.contains op.toNat = false → exec (.spiCsNRise (op :: m) fill) s = .next { s with
      spi := { s.spi with err := true, errcode := errOpcode, miso := statusByte s :: zeros (m.length + fill) } }) ∧
    exec .statusOnly s = .next { s with spi := { s.spi with err := false, miso := [statusByte s] } }

/-- A register read of one register that is served (R141) sends its value low byte first; a read of several sends each
in address order. (The model's readings: log entries 44 and 47.) -/
def Obligations.RegisterReads : Prop :=
  ∀ (addr : Half) (c8 : Option Byte) (s : State), RegFree addr.toNat s → addr.toNat % 4 = 0 →
    (∀ n v, n = 1 → c8Error s ([0x20] ++ leBytes 2 addr.toNat ++ [n]) c8 = none →
      regValue (cleared s) addr.toNat = some v →
      ∃ t, exec (.registerRead addr n c8) s = .next t ∧ t.spi.err = false ∧
        t.spi.miso = statusByte s :: zeros (3 + c8Len s) ++ 0 :: withC8 s (leBytes 4 v)) ∧
    (∀ n : Byte, 1 ≤ n.toNat → n.toNat ≤ 64 → c8Error s ([0x20] ++ leBytes 2 addr.toNat ++ [n]) c8 = none →
      ∃ t, exec (.registerRead addr n c8) s = .next t ∧
        t.spi.miso = statusByte s :: zeros (3 + c8Len s) ++ 0 :: withC8 s (readRegs n.toNat addr.toNat (cleared s)).1)

/-- A register write (R141) gives each register its value in address order; here any run of registers, and GPIO_OUT,
whose write leaves every other entry as it is. R138: a write of 0 to PORT.ERRCODE clears it, and nothing else.
(The model's readings: log entry 47.) -/
def Obligations.RegisterWrites : Prop :=
  ((∀ (addr : Half) (n : Byte) (d : Bytes) (c8 : Option Byte) (s : State), spiPresent s = true → addr.toNat % 4 = 0 →
    1 ≤ n.toNat → n.toNat ≤ 64 → d.length = 4 * n.toNat →
    c8Error s ([0x21] ++ leBytes 2 addr.toNat ++ [n] ++ d) c8 = none →
    ∃ t, exec (.registerWrite addr n d c8) s = .next t ∧
      Confined [.spi] (writeRegs n.toNat addr.toNat d (cleared s)) t ∧
      t.spi.err = (writeRegs n.toNat addr.toNat d (cleared s)).spi.err) ∧
  ∀ (v : BitVec 12) (c8 : Option Byte) (s : State), Inv s → RegFree 0x1118 s →
    c8Error s ([0x21, 0x18, 0x11, 1] ++ leBytes 4 v.toNat) c8 = none →
    ∃ t, exec (.registerWrite 0x1118 1 (leBytes 4 v.toNat) c8) s = .next t ∧ t.spi.err = false ∧
      liveNat t K.gpioout = v.toNat ∧ ∀ k, k ≠ K.gpioout → liveBytes t k = liveBytes s k) ∧
  ∀ s : State, RegFree 0x1004 s → ∃ t, exec .errcodeClear s = .next t ∧ Confined [.spi] s t ∧ t.spi.errcode = 0 ∧
    t.spi.err = false ∧ t.spi.resp = s.spi.resp

/-- A dictionary request over SPI (R149): with the port free it reaches the engine, and its response, once fetched, is
gone; while an earlier one is unanswered or unfetched it is refused with BUSY and does nothing.
(The model's readings: log entry 48.) -/
def Obligations.DictionaryTransport : Prop :=
  ∀ (n : Byte) (p : Bytes) (c8 : Option Byte) (s : State),
    (PortFree .spi s → 5 ≤ n.toNat → p.length = n.toNat → c8Error s ([0x30, n] ++ p) c8 = none →
      ∃ t, exec (.dictionaryRequest n p c8) s = .next t ∧
        Confined [.spi] (serve (requestOf .spi p) [] (atEngine .spi s)) t ∧
        t.spi.resp = (serve (requestOf .spi p) [] (atEngine .spi s)).spi.resp) ∧
    (spiPresent s = true → (s.spi.asked = true ∨ s.spi.resp.isSome = true) → 5 ≤ n.toNat → p.length = n.toNat →
      c8Error s ([0x30, n] ++ p) c8 = none →
      ∃ t, exec (.dictionaryRequest n p c8) s = .next t ∧ Confined [.spi] s t ∧ t.spi.err = true ∧
        t.spi.errcode = errBusy ∧ t.spi.resp = s.spi.resp) ∧
    (∀ r, spiPresent s = true → s.spi.resp = some r → c8Error s [0x30, 0] c8 = none →
      exec (.responseFetch c8) s = .next { s with spi := { s.spi with
        err := false, resp := none
        miso := statusByte s :: zeros (1 + c8Len s) ++ 0 :: withC8 s (BitVec.ofNat 8 r.length :: r) } })

/-- R328 and R143: an accepted push appends the frame to the chain of its queue with ACC_SEQ as its sequence, ACC_SEQ
advances by 1 and wraps, and the receipt names the queue and the sequence.
(The model's readings: log entries 44 and 80.) -/
def Obligations.PushIsAccepted : Prop :=
  ∀ (q len : Half) (c8 : Option Byte) (p : Bytes) (s : State), spiPresent s = true →
    c8Error s ([0x40] ++ leBytes 2 q.toNat ++ leBytes 2 len.toNat) c8 = none → p.length = len.toNat →
    pushError q.toNat len.toNat p (crc32 p).toNat (cleared s) = none →
    ∃ t f, exec (.queuePush q len c8 p (crc32 p)) s = .next t ∧ t.spi.err = false ∧ t.spi.rcptQ = q ∧
      t.spi.rcptSeq = (getQueue s q.toNat).accSeq ∧ f.payload = p ∧ f.seq = (getQueue s q.toNat).accSeq ∧
      (getQueue t q.toNat).accSeq = (getQueue s q.toNat).accSeq + 1 ∧
      (isLocal s q.toNat = true → (getQueue t q.toNat).inCh = (getQueue s q.toNat).inCh ++ [f] ∧
        (getQueue t q.toNat).outCh = (getQueue s q.toNat).outCh) ∧
      (isLocal s q.toNat = false → (getQueue t q.toNat).outCh = (getQueue s q.toNat).outCh ++ [f] ∧
        (getQueue t q.toNat).inCh = (getQueue s q.toNat).inCh)

/-- R143: a push that is refused leaves every queue, the stage and the receipt as they are, and sends the refusal with
its code. (The model's readings: log entries 46 and 136.) -/
def Obligations.PushIsRefused : Prop :=
  ∀ (q len : Half) (c8 : Option Byte) (p : Bytes) (crc : Word) (e : Byte) (s : State), spiPresent s = true →
    c8Error s ([0x40] ++ leBytes 2 q.toNat ++ leBytes 2 len.toNat) c8 = none → p.length = len.toNat →
    pushError q.toNat len.toNat p crc.toNat (cleared s) = some e →
    ∃ t, exec (.queuePush q len c8 p crc) s = .next t ∧ t.spi.err = true ∧ t.spi.errcode = e ∧
      t.spi.miso = statusByte s :: zeros (4 + c8Len s) ++ zeros (len.toNat + 4) ++ [0x5A, e] ∧
      t.qe.queues = s.qe.queues ∧ t.jrn.stage = s.jrn.stage ∧ t.spi.rcptQ = s.spi.rcptQ ∧
      t.spi.rcptSeq = s.spi.rcptSeq

/-- R148: a pop of a queue whose head can be read sends the frame after the marker 0xA5, removes it, and sets READ_MS; a
peek sends the frame at a place and removes nothing. R150: an event fetch sends the oldest records, at most as many as
asked and there are, and they leave the ring. (The model's readings: log entry 46.) -/
def Obligations.PopPeekAndFetch : Prop :=
  (∀ (q : Half) (f : Sys2Proof.Machine.Frame) (c8 : Option Byte) (s : State), PortUp s →
    s.sys.restore.contains q.toNat = false → f.segs.any (segmentLost s) = false →
    (∀ (flags : Byte) (seq : Word) (rest : List Sys2Proof.Machine.Frame), (getQueue s q.toNat).inCh = f :: rest →
      c8Error s ([0x41] ++ leBytes 2 q.toNat ++ [flags] ++ leBytes 4 seq.toNat) c8 = none →
      popError q.toNat flags seq f (cleared s) = none →
      ∃ t, exec (.queuePop q flags seq c8) s = .next t ∧ t.spi.err = false ∧
        t.spi.miso = statusByte s :: zeros (7 + c8Len s) ++ 0xA5 :: delivered f ∧
        t.qe.queues = (setQueue q.toNat
          { getQueue s q.toNat with inCh := rest, readMs := nowMs s, qto := false } s).qe.queues) ∧
    (∀ (i : Half), (getQueue s q.toNat).inCh[i.toNat]? = some f →
      c8Error s ([0x42] ++ leBytes 2 q.toNat ++ leBytes 2 i.toNat) c8 = none →
      ∃ t, exec (.queuePeek q i c8) s = .next t ∧ t.spi.err = false ∧
        t.spi.miso = statusByte s :: zeros (4 + c8Len s) ++ 0xA5 :: delivered f ∧ t.qe.queues = s.qe.queues)) ∧
  ∀ (n : Byte) (c8 : Option Byte) (s : State), spiPresent s = true → s.sys.ready = true → 1 ≤ n.toNat → n.toNat ≤ 16 →
    c8Error s [0x50, n] c8 = none →
    ∃ t, exec (.eventFetch n c8) s = .next t ∧ t.ring = s.ring.drop n.toNat ∧ t.spi.err = false ∧
      t.spi.miso = statusByte s :: zeros (1 + c8Len s) ++ 0 ::
        withC8 s (BitVec.ofNat 8 (min n.toNat s.ring.length) :: ((s.ring.take n.toNat).map eventBytes).flatten)

-- The dictionary engine and the Courses (file 07)

/-- An accepted read is answered at once with abort 0 and the value of its entry (R168); it changes nothing else, but
for the flags that reading a capture unit clears (R420). (The model's readings: log entry 99.) -/
def Obligations.DictionaryReads : Prop :=
  ∀ (port : Port) (tag : Byte) (index : Half) (sub : Byte) (s : State), Reads port tag (entryKey index sub) s →
    ∃ t, exec (.dictRead port tag index sub) s = .next t ∧ Confined (.timer :: portParts port) s t ∧
      Answered (readRequest port tag (entryKey index sub)) abOk
        (readEntry (atEngine port s) (entryKey index sub)) t ∧
      (inRun (entryKey index sub) K.cappVal 8 = false → inRun (entryKey index sub) K.capsVal 4 = false →
        t.timer = s.timer)

/-- A write that a test of Table 7.2 refuses is answered with the abort of that test, and no entry takes a value: what
changes is the report of the refusal (R86, R174, R177, R480), and the partial load of a Course (R186).
(The model's readings: log entry 51.) -/
def Obligations.RefusedWritesChangeNoEntry : Prop :=
  ∀ (port : Port) (tag : Byte) (index : Half) (sub : Byte) (value : Bytes) (s : State) (r : Request) (v : Verdict),
    PortFree port s → r = writeRequest port tag (entryKey index sub) value → judge (atEngine port s) r = v → v ≠ .ok →
    ∃ t, exec (.dictWrite port tag index sub value) s = .next t ∧
      Confined ([.sys, .ring, .evtLost, .engine, .courses, .mortar, .repair, .clk, .sec] ++ portParts port) s t ∧
      (∀ code, v = .abort code → Confined (.courses :: portParts port) s t ∧ Answered r code [] t) ∧
      (∀ block, v = .gated block → Answered r abGated [] t ∧ t.clk.gateCount = inc s.clk.gateCount) ∧
      (∀ radio, v = .state radio → Answered r abState [] t ∧ t.engine.illegalCount = inc s.engine.illegalCount) ∧
      (v = .denied → Answered r abSecurity [] t ∧ t.sec.denied = inc s.sec.denied) ∧
      (v = .locked → Answered r abLocked [] t ∧ t.sys.lockviol = true) ∧
      ∀ reason place code, v = .image reason place code → Answered r code [] t ∧
        t.courses.err = BitVec.ofNat 32 (reason + 65536 * place)

/-- A write of an entry that is kept in Mortar (R170), such as TB_MODE, and ROLE, FOOTING_CMD, LEDGER_CLEAR,
IMAGE_COMMIT and DECOMMISSION with them: once accepted it waits for the seal of its records, and neither answers nor
gives any entry its value before that. With a new ROLE and with FOOTING_CMD the role in force is about to end (R12).
(The model's readings: log entry 49.) -/
def Obligations.WritesAwaitTheirSeal : Prop :=
  ∀ (port : Port) (tag : Byte) (s : State),
    (∀ (index : Half) (sub : Byte) (value : Bytes) (row : Row), rowOf index.toNat sub.toNat = some row →
      row.access = .rwp → entryKey index sub ≠ K.pollAttr → entryKey index sub ≠ K.qAttr →
      Passes port tag (entryKey index sub) value s →
      ∃ t, exec (.dictWrite port tag index sub value) s = .next t ∧ t.sys = s.sys ∧
        Awaits port tag (entryKey index sub) value
          [⟨rtFoot, entryKey index sub, stored (entryKey index sub) value⟩] s t) ∧
    (∀ value, Passes port tag K.tbMode value s → ∃ t, exec (.tbModeWrite port tag value) s = .next t ∧ t.sys = s.sys ∧
      Awaits port tag K.tbMode value [⟨rtFoot, K.tbMode, stored K.tbMode value⟩] s t) ∧
    (∀ value, Passes port tag K.role value s → ∃ t, exec (.roleWrite port tag value) s = .next t ∧
      Awaits port tag K.role value [⟨rtFoot, K.role, stored K.role value⟩] s t ∧
      t.sys = { s.sys with rolePending := s.sys.rolePending || leNat value != s.sys.role.code }) ∧
    (∀ value, Passes port tag K.footingCmd value s → ∃ t, exec (.footingCmd port tag value) s = .next t ∧
      Awaits port tag K.footingCmd value [⟨rtFclr, 0, []⟩] s t ∧ t.sys = { s.sys with rolePending := true }) ∧
    (∀ value, Passes port tag K.ledgerClear value s → ∃ t, exec (.ledgerClear port tag value) s = .next t ∧
      Awaits port tag K.ledgerClear value [⟨rtLedger, 0, ledgerEntryBytes (selQueue s, false, 0)⟩] s t ∧
      t.sys = s.sys) ∧
    (∀ (c : Fin 8) (value : Bytes), Passes port tag (K.imageCommit + 256 * c.val) value s →
      ∃ t, exec (.imageCommit c port tag value) s = .next t ∧ t.sys = s.sys ∧
        Awaits port tag (K.imageCommit + 256 * c.val) value (imageRecords s c.val (loadOf s c.val)) s t) ∧
    ∀ value, Passes port tag K.decommission value s → ∃ t, exec (.decommission port tag value) s = .next t ∧
      Awaits port tag K.decommission value (onceKeys.map fun k => ⟨rtOnce, k, []⟩) s t ∧ t.sys = s.sys

/-- MORTAR_APPEND at source 2 (R383), with room for what waits first: sectors that are DIRTY are prepared again and torn
records copied before it (R378, R390), what waits behind it stalls, the records are sealed, the request in the engine
takes its effect and is answered with abort 0 (R170); here no state command and no Course switch waits for a boundary
that is reached, which would come next (R189). TB_MODE is one such entry: at a node or relay 0 returns the time base to
FREE at the word of TB_TRIM, and 1 starts ACQUIRE from FREE at the nominal word (R89). (The model's readings: log
entries 16 and 49.) -/
def Obligations.SealsTakeEffect : Prop :=
  ∀ (n : Nat) (a : Append2) (rest : List Append2) (r : Request) (was : Bool) (s u : State),
    u = stallLower true true (tidyFlash s) → s.mortar.state = 1 → u.mortar.state = 1 → Works s → hot s = false →
    u.mortar.waiting2 = a :: rest → a.owner = .request →
    s.engine.job = some (r, .seal was) → s.engine.waits = [] → (r.port = .field → s.field.mute = false) →
    s.sup.sleepDue = none → (atBoundary s = false ∨ (s.courses.pend = none ∧ s.engine.regTarget = none)) →
    overLimit u a.recs = false → (appendBatch 3 (hotWrite s) .done a.recs u.mortar).2 = [] →
    ∃ t, exec (.mortarAppend n .done) s = .next t ∧ t.engine.job = none ∧ Answered r abOk [] t ∧
      t.mortar.pairs = (appendBatch 3 (hotWrite s) .done a.recs u.mortar).1.pairs ∧ t.mortar.waiting2 = rest ∧
      (r.key = K.role → Inv s → liveBytes t K.role = r.value ∧ t.sys = s.sys) ∧
      (r.key = K.footingCmd → t.courses.cleared = true ∧ t.courses.pend = none ∧ t.live = s.live) ∧
      (r.key = K.ledgerClear → t.qe.queues = (setQueue (selQueue s)
        { getQueue s (selQueue s) with valid := false, lastSeq := 0 } s).qe.queues ∧ t.live = s.live) ∧
      (r.key = K.decommission → t.sec.decomCount = inc s.sec.decomCount ∧ t.sec.valid = false) ∧
      (r.key = K.gpioout → Inv s → liveBytes t K.gpioout = stored K.gpioout r.value) ∧
      (r.key = K.tbMode → Inv s → s.sys.role ≠ .coordinator → s.tb.state ≠ tbDegraded →
        (r.value = [0] → t.tb.state = tbFree ∧ (s.tb.state ≠ tbFree → t.tb.fcw = fcwOf (liveInt s 32 K.tbTrim))) ∧
        (r.value = [1] → s.tb.state = tbFree → t.tb.state = tbAcquire ∧ t.tb.fcw = fcwOf 0))

/-- Commands that act at once, and are answered with abort 0: a Course request waits for a frame boundary (R188), a
segment joins the partial load (R186), a request for a station waits for its POLL (R307), Q_PURGE empties both chains of
the queue that is selected and keeps its ACC_SEQ (R336), TELEM_CLEAR clears the extremes (R454).
(The model's readings: log entries 83 and 94.) -/
def Obligations.CommandsActAtOnce : Prop :=
  ∀ (port : Port) (tag : Byte) (value : Bytes) (s : State),
    (Passes port tag K.courseReq value s → ∃ t, exec (.courseReq port tag value) s = .next t ∧
      Confined (.courses :: portParts port) s t ∧ Answered (writeRequest port tag K.courseReq value) abOk [] t ∧
      t.courses = { s.courses with pend := some (Fin.ofNat 16 (leNat value), 0) }) ∧
    (∀ c : Fin 8, Passes port tag (K.imageLoad + 256 * c.val) value s →
      ∃ t, exec (.imageLoad c port tag value) s = .next t ∧ Confined (.courses :: portParts port) s t ∧
        Answered (writeRequest port tag (K.imageLoad + 256 * c.val) value) abOk [] t ∧
        t.courses.loads = setNth s.courses.loads c.val
          (some ((if leNat (value.take 2) = 0 then [] else loadOf s c.val) ++ value.drop 2)) ∧
        t.courses.pend = s.courses.pend) ∧
    (Passes port tag K.airDreq value s → ∃ t, exec (.airDreqWrite port tag value) s = .next t ∧
      Confined (.net :: portParts port) s t ∧ Answered (writeRequest port tag K.airDreq value) abOk [] t ∧
      t.net.dreq = some (BitVec.ofNat 16 (leNat (value.take 2)), value.drop 2)) ∧
    (Passes port tag K.qPurge value s → ∃ t, exec (.qPurge port tag value) s = .next t ∧
      Confined (.qe :: .jrn :: portParts port) s t ∧ Answered (writeRequest port tag K.qPurge value) abOk [] t ∧
      t.qe.queues = (setQueue (selQueue s) { getQueue s (selQueue s) with inCh := [], outCh := [] } s).qe.queues) ∧
    (Passes port tag K.telemClear value s → ∃ t, exec (.telemClear port tag value) s = .next t ∧
      Confined (.repair :: portParts port) s t ∧ Answered (writeRequest port tag K.telemClear value) abOk [] t ∧
      t.repair = { s.repair with tempMin := 0, tempMax := 0, vinMin := 0, vholdMin := 0, telemSeen := false })

/-- A state command (R172, R173), from its register or from its entry: to the state in force it changes nothing; at a
frame boundary the transition is made at once; elsewhere it waits for the boundary. Here no Course switch is pending.
FRAME_BOUNDARY (R173, R189): a pending switch takes effect, unless FOOTING_CMD has cleared the Footing (R180); a
transition that waits is judged again, and is made or refused. (The model's readings: log entry 97.) -/
def Obligations.StateCommandsAndBoundaries : Prop :=
  (∀ (via : Via) (s : State), s.courses.pend = none →
    Transits .config 3 via (.stateCmdConfig via) s ∧ Transits .run 4 via (.stateCmdRun via) s ∧
      Transits .maint 5 via (.stateCmdMaint via) s ∧ Transits .safe 6 via (.stateCmdSafe via) s) ∧
  ∀ s : State, atBoundary s = true → Works s →
    (∀ c cause, s.courses.pend = some (c, cause) → s.courses.cleared = false → s.engine.job = none →
      s.engine.regTarget = none →
      ∃ t, exec .frameBoundary s = .next t ∧ t.courses.active = c ∧ t.courses.pend = none ∧
        t.courses.image = if c.val < 8 then (courseImage s.mortar c.val).getD [] else []) ∧
    (∀ v : Fin 8, s.courses.pend = none → s.engine.job = none → s.engine.regTarget = some v → 3 ≤ v.val → v.val ≤ 6 →
      ∃ t, exec .frameBoundary s = .next t ∧ t.engine.regTarget = none ∧
        (transitionLegal s v.val = true → t.sys.dev.code = v.val) ∧
        (transitionLegal s v.val = false → t.sys.dev = s.sys.dev ∧
          t.engine.illegalCount = inc s.engine.illegalCount)) ∧
    ∀ r v, s.courses.pend = none → s.engine.regTarget = none → s.engine.job = some (r, .boundary v) →
      s.engine.waits = [] → 3 ≤ v.val → v.val ≤ 6 →
      (r.port = .field → s.field.mute = false) →
      ∃ t, exec .frameBoundary s = .next t ∧ t.engine.job = none ∧
        (transitionLegal s v.val = true → t.sys.dev.code = v.val ∧ Answered r abOk [] t) ∧
        (transitionLegal s v.val = false → t.sys.dev = s.sys.dev ∧ Answered r abState [] t)

-- The field port (§6.7 to §6.9)

/-- The field port takes a frame for its address whose CRC is good and answers a read from the entry (R158, R159); a
frame for another device changes nothing but the mark of a line that stays low; one that is damaged is counted; one that
is good in the other polarity only, under FP_POLARITY 0, changes the polarity (R161). The reply goes on the bus (R159);
an echo fault stops it and is recorded, and after 4 to 36 character times it is sent again, FP_RETRY times at most, the
last of which abandons it (R162). FP_ADDR and FP_BAUD take effect once the line is idle, after the reply to their own
write (R160); a gap between characters counts nothing (R158); a line that stays low is reported (R161). The loss of bank
B's supply ends the port's work, and its return serves the port again (R17); IOVDD_LOSS and IOVDD_RETURN complete for
either bank, from every state. (The model's readings: log entry 53.) -/
def Obligations.FieldPortServes : Prop :=
  (∀ (other : Bytes) (s u : State), fieldServed s = true → Works s → s.field.sending = false →
    s.field.addr ≠ 0 → u = { s with field := { s.field with idleLow := false } } →
    (∀ tag index sub, Reads .field tag (entryKey index sub) u →
      ∃ t, exec (.fieldFrame (fieldBytes s.field.addr ([1, tag] ++ leBytes 2 index.toNat ++ [sub])) other) s = .next t ∧
        Confined [.field, .timer] s t ∧ t.field.busy = true ∧
        Answered (readRequest .field tag (entryKey index sub)) abOk
          (readEntry (atEngine .field u) (entryKey index sub)) t) ∧
    (∀ addr pdu, 5 ≤ pdu.length → pdu.length ≤ 255 → addr ≠ s.field.addr → addr ≠ 0 →
      exec (.fieldFrame (fieldBytes addr pdu) other) s = .next u) ∧
    (∀ f, f.head? = some 0x7E → fieldGood f = false → fieldGood other = false →
      exec (.fieldFrame f other) s = .next { s with field := { s.field with badFrames := inc16 s.field.badFrames } }) ∧
    ∀ f addr pdu, fieldGood f = false → liveNat s K.fpPolarity = 0 → other = fieldBytes addr pdu → 5 ≤ pdu.length →
      pdu.length ≤ 255 → addr ≠ s.field.addr → addr ≠ 0 →
      exec (.fieldFrame f other) s = .next { s with field := { s.field with
        rev := !s.field.rev, turns := inc8 s.field.turns, idleLow := false } }) ∧
  (∀ s : State, fieldServed s = true → Works s →
    (∀ pdu, s.field.reply = some pdu → s.field.sending = false → s.field.waitChars = 0 → exec .fieldReply s = .next
      { s with field := { s.field with sending := true, sent := fieldBytes s.field.addr pdu } }) ∧
    (∀ noTransition, s.field.sending = true → ∃ t, exec (.echoFault noTransition) s = .next t ∧
      Confined [.field, .draws] s t ∧ t.field.sending = false ∧
      t.field.echoes = inc8 s.field.echoes ∧ t.field.short = (s.field.short || noTransition) ∧
      t.field.contend = (s.field.contend || !noTransition) ∧
      (s.field.retries < liveNat s K.fpRetry → t.field.reply = s.field.reply ∧ 4 ≤ t.field.waitChars ∧
        t.field.waitChars ≤ 36) ∧
      (liveNat s K.fpRetry ≤ s.field.retries → t.field.reply = none ∧ t.field.busy = false ∧
        t.field.waitChars = 0)) ∧
    (s.field.waitChars ≠ 0 →
      (s.field.retries < liveNat s K.fpRetry → exec .replyRetry s = .next { s with field := { s.field with
        waitChars := 0, retries := s.field.retries + 1, sending := true } }) ∧
      (liveNat s K.fpRetry ≤ s.field.retries → exec .replyRetry s = .next { s with field := { s.field with
        sending := false, waitChars := 0, reply := none, busy := false, retries := 0, own := none } })) ∧
    (s.field.sending = false →
      exec .fieldConfigApply s = .next { s with field := { s.field with
        addr := if s.field.own = some K.fpAddr then s.field.addr else BitVec.ofNat 8 (liveNat s K.fpAddr)
        baud := if s.field.own = some K.fpBaud then s.field.baud else BitVec.ofNat 8 (liveNat s K.fpBaud) } } ∧
      exec .interCharacterGap s = .next s ∧
      exec .idleLow s = .next { s with field := { s.field with idleLow := true } })) ∧
  ∀ (bank : IoBank) (s : State),
    (∃ t, exec (.iovddLoss bank) s = .next t ∧ (bank = .b → t.pins.bankB = false ∧ fieldServed t = false ∧
      t.field.reply = none ∧ t.field.sending = false)) ∧
    ∃ t, exec (.iovddReturn bank) s = .next t ∧ (bank = .a → t.pins.bankA = true) ∧
      (bank = .b → t.pins.bankB = true ∧
        (s.sys.ready = true → blockOn s 0 = true → s.pins.reversed = false → fieldServed t = true))

-- The radio sequencer (files 08 and 11)

/-- A radio command that passes its tests (R274, R275): RX brings the synthesizer up for reception; STOP ends reception,
at the end of a frame that is confirmed; TX of a node or relay starts channel access for the head of the queue that is
selected, as the MAC reads it (R344); ABORT ends everything at once, and has no effect where nothing is under way.
(The model's readings: log entries 69, 129 and 135.) -/
def Obligations.RadioCommandsAct : Prop :=
  ∀ (via : Via) (s : State),
    (Takes via 0x4004 K.radioCmd 1 [1] s → s.radio.state = .idle → ∃ t, exec (.radioRx via) s = .next t ∧
      t.radio.state = .synthUp ∧ t.radio.up = .rx ∧ t.radio.lo = rxLo s ∧ Told via K.radioCmd [1] t) ∧
    (Takes via 0x4004 K.radioCmd 1 [1] s → s.radio.state = .rx ∨ s.radio.state = .cca → ∃ t,
      exec (.radioRx via) s = .next t ∧ Confined (viaParts via) s t ∧ Told via K.radioCmd [1] t) ∧
    (Takes via 0x4004 K.radioCmd 2 [2] s → s.radio.state = .rx → ∃ t, exec (.radioStop via) s = .next t ∧
      Told via K.radioCmd [2] t ∧
      (confirmed s = true → t.radio = { s.radio with stopping := true }) ∧
      (confirmed s = false → t.radio.rxOn = false ∧ t.radio.cca = none ∧
        (t.radio.state = .idle ∨ t.radio.state = .off))) ∧
    (∀ f j u, Takes via 0x4004 K.radioCmd 3 [3] s → s.sys.role ≠ .coordinator → u = macRead (liveNat s K.txQueue) s →
      outHead u (liveNat s K.txQueue) = some f → j = dataJob u (liveNat s K.txQueue) f → j.fits u = true →
      canStart u j = true → dutyRefusal u j = none →
      ∃ t, exec (.radioTx via) s = .next t ∧ t.radio.state = .synthUp ∧ Told via K.radioCmd [3] t ∧
        (exempt u j = true → t.radio.up = .tx j) ∧
        (exempt u j = false → t.radio.up = .cca ∧ ∃ us, t.radio.cca = some ⟨j, 0, true, false, us⟩)) ∧
    (Takes via 0x4004 K.radioCmd 15 [15] s →
      (s.radio.state ≠ .idle → s.radio.state ≠ .off → s.radio.state ≠ .sleep → ∃ t, exec (.radioAbort via) s = .next t ∧
        Told via K.radioCmd [15] t ∧ t.radio.tx = none ∧ t.radio.cca = none ∧ t.radio.acks = [] ∧
        t.radio.rxOn = false ∧ t.net.exch = none ∧ t.rx.recA = none ∧ t.rx.recB = none ∧
        (t.radio.state = .idle ∨ t.radio.state = .off ∨ t.radio.state = .sleep)) ∧
      (s.radio.state = .idle ∨ s.radio.state = .off ∨ s.radio.state = .sleep → ∃ t,
        exec (.radioAbort via) s = .next t ∧ Confined (viaParts via) s t ∧ Told via K.radioCmd [15] t))

/-- Channel access (R277 to R279): a listen that ends clear leads to the transmission, unless the accountant refuses it;
a listen that turns busy counts, and the attempt backs off, or ends with its last try; the next listen follows the
back-off; an attempt that may no longer send ends. (The model's readings: log entries 5 and 69.) -/
def Obligations.ChannelAccessProceeds : Prop :=
  ∀ (a : Attempt) (s : State), Works s → s.radio.cca = some a →
    (s.radio.state = .cca → a.listen = true →
      (detected s (jobChan s a.job) = false →
        (maySend s a.job = true → dutyRefusal s a.job = none →
          ∃ t, exec .listenEnd s = .next t ∧ t.radio.state = .synthUp ∧ t.radio.up = .tx a.job ∧ t.radio.cca = none ∧
            t.radio.lo = a.job.freq) ∧
        (maySend s a.job = false → ∃ t, exec .listenEnd s = .next t ∧ t.radio.cca = none ∧
          t.radio.tx = none)) ∧
      (∀ x, (listenPaths s a.job).any (fun p => decide (ccaThr s (p == .b) ≤ x)) = true →
        ∃ t, exec (.ccaBusy (some x)) s = .next t ∧ t.radio.ccaBusy = inc s.radio.ccaBusy ∧
          t.radio.ccaLast = clipRssi x ∧
          (a.busy + 1 < liveNat s K.lbtTries → ∃ k, t.radio.state = .cca ∧ 1 ≤ k ∧
            t.radio.cca = some { a with
              busy := a.busy + 1, listen := false, ready := false, us := k * liveNat s K.lbtBoSlot }) ∧
          (liveNat s K.lbtTries ≤ a.busy + 1 → t.radio.cca = none))) ∧
    (a.listen = false → s.radio.state = .cca → confirmed s = false → s.radio.acks = [] → s.radio.commits = [] →
      detected s (jobChan s a.job) = false → maySend s a.job = true →
      (∀ k ≤ liveNat s K.lbtRand, listenFits s a.job (liveNat s K.lbtListen + k * 500) = true) → ∃ t k, exec .backoffEnd s = .next t ∧ t.radio.state = .cca ∧ k ≤ liveNat s K.lbtRand ∧ t.radio.cca = some { a with
        listen := true, ready := false, us := liveNat s K.lbtListen + k * 500 })

/-- Lock of the synthesizer leads to what it came up for (R203, R273): reception, a listen, the frame with the next MSEQ
(R295), or the ACK; the signal of the frame is then on the air (R224, R259). A loss of lock ends what was under way, is
counted, and reception comes up again (R202). (The model's readings: log entry 37.) -/
def Obligations.SynthesizerLocks : Prop :=
  ∀ s : State, Works s →
    (s.radio.state = .synthUp → s.clk.lock = true → opTarget s ≤ s.sup.op.val →
      ∃ t, exec .synthLock s = .next t ∧ t.radio.lock = true ∧
        (s.radio.up = .rx → rxReady s = true → t.radio.state = .rx ∧ t.radio.rxOn = true ∧ t.sup.power = .rx) ∧
        (s.radio.up = .cca → (∀ a, s.radio.cca = some a → detected s (jobChan s a.job) = false) →
          t.radio.state = .cca ∧ t.radio.cca = s.radio.cca) ∧
        (∀ j, s.radio.up = .tx j → maySend s j = true → t.radio.state = .tx ∧ t.sup.power = .tx ∧ t.net.mseq = s.net.mseq + 1 ∧
          ∃ k, t.radio.tx = some k ∧ k.kind = j.kind ∧ k.freq = j.freq ∧ k.hdata = s.net.mseq + 1 ∧
            t.radio.onAir = some (signalOf k s)) ∧
        (∀ j, s.radio.up = .ack j → maySend s j = true → t.radio.state = .ackTx ∧ t.sup.power = .tx ∧ t.radio.tx = some j ∧
          t.radio.onAir = some (signalOf j s) ∧ t.net.mseq = s.net.mseq)) ∧
    (s.radio.lock = true → s.radio.state ≠ .off → s.radio.state ≠ .sleep → ∃ t, exec .synthUnlock s = .next t ∧
      t.radio.unlocks = inc s.radio.unlocks ∧
      t.radio.lock = false ∧ t.radio.tx = none ∧ t.radio.cca = none ∧ t.radio.onAir = none ∧
      (s.radio.state ≠ .sniff → s.radio.rxOn = true → radioPermitted s = true → rxReady s = true →
        t.radio.state = .synthUp ∧ t.radio.up = .rx))

/-- The end of a transmission (R38, R286): the PA is off and VPA is discharged; an ACK that has been sent counts; a
frame that asks for an ACK waits for it; a POLL leaves the receiver on. A wait that expires counts as missed. The
antenna's verdict (R207, R208): a return loss of at least 2.92 dB is good; one below it is counted and takes the power
down for the rest of the frame. ACK_TX (R284, R285): an ACK whose commit has completed goes out when the accountant has
room for it and the device still acknowledges; one whose commit has not is suppressed and counted. (The model's
readings: log entry 68.) -/
def Obligations.TransmissionsEnd : Prop :=
  (∀ (j : TxJob) (s : State), Works s → s.radio.tx = some j →
    (s.radio.state = .ackTx → ∃ t, exec .txEnd s = .next t ∧ t.radio.ackSent = inc s.radio.ackSent ∧
      t.radio.endedAt = s.timer.time.toNat ∧ t.radio.tx = none ∧ t.radio.onAir = none ∧ t.radio.vpa = 0 ∧
      t.radio.state ≠ .ackTx) ∧
    (s.radio.state = .tx → j.frame.ar = true → ∃ t, exec .txEnd s = .next t ∧ t.radio.state = .ackWait ∧
      t.sup.power = .rx ∧ t.radio.endedAt = s.timer.time.toNat ∧ t.radio.tx = some j ∧ t.radio.onAir = none ∧
      t.radio.vpa = 0) ∧
    (s.radio.state = .tx → j.frame.ar = false → j.kind = .poll → s.radio.stopping = false →
      (∀ m, modeOk (setMosaic m s) = true ∧ rxChannelsOk (setMosaic m s) = true) → ∃ t, exec .txEnd s = .next t ∧ t.radio.state = .rx ∧ t.radio.rxOn = true ∧ t.radio.tx = none) ∧
    (s.radio.state = .ackWait → ∃ t, exec .ackWaitExpiry s = .next t ∧ t.radio.ackMiss = inc s.radio.ackMiss ∧
      t.radio.tx = none ∧ t.radio.state ≠ .ackWait) ∧
    (∀ (rl : Byte) (phase : Int), s.radio.state = .tx ∨ s.radio.state = .ackTx → s.radio.untested = true →
      ∃ t, exec (.antVerdict rl phase) s = .next t ∧ Confined [.radio] s t ∧ t.radio.antLoss = rl ∧
        t.radio.untested = false ∧
        (12 ≤ rl.toNat → t.radio.antClass = 0 ∧ t.radio.effective = s.radio.effective) ∧
        (rl.toNat < 12 → t.radio.antClass ≠ 0 ∧ t.radio.effective = 0 ∧
          t.radio.antFaults = inc s.radio.antFaults))) ∧
  ∀ (a : AckDue) (rest : List AckDue) (s : State), Works s → s.radio.acks = a :: rest → s.radio.state = .rx →
    s.radio.cca = none →
    (a.armed = true → acknowledges s = true → dutyRefusal s a.job = none → maySend s a.job = true → ∃ t, exec .ackTx s = .next t ∧ t.radio.state = .synthUp ∧ t.radio.lo = a.job.freq ∧ t.radio.acks = rest ∧
        t.radio.ackSupp = s.radio.ackSupp ∧
        t.radio.up = .ack { a.job with item := some (a.queue.toNat, 0) }) ∧
    (a.armed = false → ∃ t, exec .ackTx s = .next t ∧ t.radio.acks = rest ∧
      t.radio.ackSupp = inc s.radio.ackSupp ∧ t.radio.tx = s.radio.tx)

-- Detection and reception (files 08 to 10)

/-- Detections (R225, R234 to R238, R268): a new one that its lane or the Mosaic detector may raise takes the next tag
and is kept, and a listen on its channel is busy with it (R277); one whose sync word is within SYNC_TOL, where the decoder decides on the header, becomes the frame in
reception on its channel if the header passes, and ends every other detection there; one whose header fails, or whose
window ends, is cancelled and counted. (The model's readings: log entries 64, 127 and 145.) -/
def Obligations.DetectionsRun : Prop :=
  ∀ s : State, Works s →
    (∀ e : Early, canDetect s e = true → (∀ d ∈ s.scarab.dets, sameDet d.seen e = false) →
      (detsOn s e.chan).length < 4 → (∀ a, s.radio.cca = some a → a.busy + 1 < liveNat s K.lbtTries) →
      ∃ t, exec (.earlySync [e]) s = .next t ∧
        t.scarab.dets = s.scarab.dets ++ [⟨s.scarab.nextTag, e, (reception s e.chan).isSome⟩] ∧
        (∀ a, s.radio.cca = some a → a.listen = true → s.radio.state = .cca → jobChan s a.job = e.chan →
          t.radio.ccaBusy = inc s.radio.ccaBusy) ∧
        t.scarab.lastTag = s.scarab.nextTag ∧ t.scarab.nextTag = nextTag s.scarab.nextTag ∧
        t.scarab.earlyCount = inc s.scarab.earlyCount ∧ (e.pathA = true → t.rx.provA = clipRssi e.rssiA)) ∧
    (∀ (d : Det) (c : Confirm), receiving s = true → foundDet s c = some d → reception s d.seen.chan = none →
      (headerOk (d.seen.sf == 7) c.header = true → ∃ t, exec (.sync ⟨[c], []⟩) s = .next t ∧
        (∃ b, reception t d.seen.chan = some ⟨d.tag, d.seen, c, timeSyncOf s c, b⟩ ∧ (d.seen.chan = .b → b = true) ∧
          (s.radio.state = .rx → b = (d.seen.chan == .b))) ∧ detsOn t d.seen.chan = [] ∧
        t.rx.hdrOk = true ∧ t.rx.length = BitVec.ofNat 16 (headerLength (d.seen.sf == 7) c.header)) ∧
      (headerOk (d.seen.sf == 7) c.header = false → ∃ t, exec (.sync ⟨[c], []⟩) s = .next t ∧
        reception t d.seen.chan = none ∧ t.rx.hdrFails = inc s.rx.hdrFails ∧
        t.scarab.cancelCount = inc s.scarab.cancelCount ∧
        t.scarab.dets = s.scarab.dets.filter fun x => x.tag != d.tag)) ∧
    ∀ (d : Det) (tag : Half), s.scarab.dets.find? (fun d => d.tag == tag) = some d →
      (d.seen.sf ≠ 7 → ∃ t, exec (.syncWordTimeout tag) s = .next t ∧
        t.scarab.cancelCount = inc s.scarab.cancelCount ∧
        t.scarab.dets = s.scarab.dets.filter fun x => x.tag != d.tag) ∧
      (d.seen.sf = 7 → ∃ t, exec (.ltsTimeout tag) s = .next t ∧
        t.scarab.cancelCount = inc s.scarab.cancelCount ∧
        t.scarab.dets = s.scarab.dets.filter fun x => x.tag != d.tag)

/-- A spread frame whose despread quality stays below EARLY_THR - 12 over eight symbols before its payload is whole
counts in SIGNAL_LOSS and ends (R254); a Mosaic frame whose pilots stay below 0 dB over four counts in PILOT_LOSS too
(R267); one whose last symbols are not all below goes on. A window of 64 samples of a path in use, with nothing detected
on its channel, gives its noise floor: the mean of the middle 48 (R217). A frame that the decoder ends with a bad CRC-32
is counted, with the coded bits corrected (R270), and processed no further, whichever its type (R251). (The model's
readings: log entries 66, 67 and 72.) -/
def Obligations.BadFramesAndFloors : Prop :=
  (∀ s : State, Works s →
    (∀ c r q received ta tb, reception s c = some r → r.seen.sf ≠ 7 →
      (lost 8 ((phyNat s K.earlyThr : Int) - 12) q received r = true →
        ∃ t, exec (.signalLoss ⟨c, q, received, ta, tb⟩) s = .next t ∧ reception t c = none ∧ t.rx.losses = inc s.rx.losses ∧
          t.rx.pilotLosses = s.rx.pilotLosses) ∧
      (lost 8 ((phyNat s K.earlyThr : Int) - 12) q received r = false →
        exec (.signalLoss ⟨c, q, received, ta, tb⟩) s = .next s)) ∧
    (∀ c r snr received ta tb, reception s c = some r → r.seen.sf = 7 →
      (lost 4 0 snr received r = true → ∃ t, exec (.pilotLoss ⟨c, snr, received, ta, tb⟩) s = .next t ∧
        reception t c = none ∧ t.rx.losses = inc s.rx.losses ∧ t.rx.pilotLosses = inc s.rx.pilotLosses) ∧
      (lost 4 0 snr received r = false → exec (.pilotLoss ⟨c, snr, received, ta, tb⟩) s = .next s)) ∧
    ∀ (p : Path) (samples : List Int), receiving s = true → samples.length = 64 →
      (pathsOf s .a ++ pathsOf s .b).contains p = true → detected s (chanOfPath s p) = false →
      (((sortInts samples).drop 8).take 48).sum % 48 ≠ 24 →
      ∃ t, exec (.noiseFloorWindow p samples) s = .next t ∧ Confined [.rx] s t ∧
        bit t.rx.nfValid.toNat (pathIndex p) = true ∧
        (match p with
         | .a => t.rx.nfA
         | .b => t.rx.nfB) = clipRssi (((((sortInts samples).drop 8).take 48).sum + 24) / 48)) ∧
  ∀ (f : RxFrame) (r : Reception) (s : State), Works s → reception s f.chan = some r → receiving s = true →
    heard s r f = true → crc32 f.psdu ≠ f.crc →
    ∀ c ∈ [Instr.beaconReceived f, .pollReceived f, .dataReceived f, .nullReceived f, .joinReceived f, .fackReceived f],
      ∃ t, exec c s = .next t ∧ t.rx.crcFails = inc s.rx.crcFails ∧ t.rx.crcOk = false ∧
        t.rx.corrected = BitVec.ofNat 16 ((frameCoding r).differing (whitened f.psdu f.crc) (softOf s r f)) ∧
        reception t f.chan = none ∧ t.qe.queues = s.qe.queues ∧ t.live = s.live ∧
        t.radio.acks = s.radio.acks ∧ t.radio.commits = s.radio.commits

/-- Frames that are received whole, for this device and without security (file 12). BEACON_RECEIVED gives its cycle;
POLL_RECEIVED asks a station for its reply, which is taken from the state at the end of the POLL (R303); DATA_RECEIVED, with
a frame that is new, waits for its commit with its ACK (R354); NULL_RECEIVED answers the exchange; JOIN_RECEIVED records the
station and acknowledges it (R309); FACK_RECEIVED retires the frame that it names (R317). Each completes from every
state and with every frame that meets these conditions: its reception ends, with CRC_OK.
(The model's readings: log entries 66, 68, 75 and 128.) -/
def Obligations.FramesAreTaken : Prop :=
  ∀ (f : RxFrame) (r : Reception) (m : MacFrame) (s : State), Works s → Whole f r m s →
    (∀ c ty, (c, ty) ∈ [(Instr.beaconReceived f, tyBeacon), (.pollReceived f, tyPoll), (.dataReceived f, tyData),
        (.nullReceived f, tyNull), (.joinReceived f, tyJoin), (.fackReceived f, tyFack)] → m.type = ty →
      ∃ t, exec c s = .next t ∧ reception t f.chan = none ∧ t.rx.crcOk = true ∧ t.rx.crcFails = s.rx.crcFails) ∧
    (m.type = tyBeacon → 22 ≤ m.body.length → ∃ t, exec (.beaconReceived f) s = .next t ∧
      reception t f.chan = none ∧ t.net.cycle = BitVec.ofNat 32 (leNat ((m.body.drop 6).take 4)) ∧
      t.net.lastHash = BitVec.ofNat 32 (leNat ((m.body.drop 18).take 4))) ∧
    (∀ flags, m.type = tyPoll → s.sys.role ≠ .coordinator → myAddr s ≠ 0 → running s = true →
      pollBody m.body = some (flags, none, none) → ∃ t, exec (.pollReceived f) s = .next t ∧
        reception t f.chan = none ∧
        t.net.reply = some { replyTo (macRead 0 s) r flags false with dr := s.net.held }) ∧
    (∀ seq payload rest, m.type = tyData → s.sys.role = .coordinator → takesAir s m.src.toNat = true →
      replyFields m.body = some (none, none, rest) → takeSeq true rest = some (some seq, payload) →
      isReply s r m = false → judgedDuplicate s m.src.toNat seq = false → ∃ t, exec (.dataReceived f) s = .next t ∧
        reception t f.chan = none ∧ (∃ c, t.radio.commits = s.radio.commits ++ [c] ∧ c.chan = f.chan ∧
          c.queue = m.src.toNat ∧ c.seq = seq ∧ c.payload = payload) ∧
        t.radio.acks = s.radio.acks ++ [⟨ackJob s r, m.src, false, r.tag⟩]) ∧
    (∀ e, m.type = tyNull → s.sys.role = .coordinator → s.net.exch = some e → isReply s r m = true →
      replyFields m.body = some (none, none, []) → ∃ t, exec (.nullReceived f) s = .next t ∧
        reception t f.chan = none ∧ t.net.exch = none) ∧
    (m.type = tyJoin → s.sys.role = .coordinator → 10 ≤ m.body.length → tabGet none m.src.toNat s.net.stations = none →
      ∃ t, exec (.joinReceived f) s = .next t ∧ reception t f.chan = none ∧
        t.net.joinCount = inc s.net.joinCount ∧
        (∃ st, tabGet none m.src.toNat t.net.stations = some st ∧
          st.serial = BitVec.ofNat 64 (leNat (m.body.take 8))) ∧
        (mayCommit s = true → t.radio.acks = s.radio.acks ++ [⟨ackJob s r, m.src, true, r.tag⟩])) ∧
    ∀ q, m.type = tyFack → s.sys.role ≠ .coordinator → 4 ≤ m.body.length → outHead s 0 = some q →
      q.seq = BitVec.ofNat 32 (leNat (m.body.take 4)) → ∃ t, exec (.fackReceived f) s = .next t ∧
        reception t f.chan = none ∧
        t.qe.queues = (setQueue 0 { getQueue s 0 with outCh := (getQueue s 0).outCh.tail } s).qe.queues

/-- An ACK that answers the frame in ACK_WAIT retires it (R286), and a commit of a channel puts the frame into its queue
and its sequence into the ledger window, and arms its own ACK (R354). (The model's readings: log entry 84.) -/
def Obligations.AcksAndCommitsComplete : Prop :=
  ∀ s : State, Works s →
    (∀ c r j q seq, reception s c = some r → headerLength (r.seen.sf == 7) r.conf.header = 0 →
      ackMatches s c r = true → s.radio.tx = some j → j.item = some (q, seq) →
      (outHead s q).any (fun f => f.seq == seq) = true →
      ∃ t, exec (.ackReceived c) s = .next t ∧ reception t c = none ∧ t.radio.tx = none ∧
        t.radio.state ≠ .ackWait ∧
        t.qe.queues = (setQueue q { getQueue s q with outCh := (getQueue s q).outCh.tail } s).qe.queues) ∧
    ∀ chan c, nextCommit s chan = some c → s.sup.sleepDue = none → takesAir s c.queue = true →
      isDuplicate (getQueue s c.queue) c.seq = false → ledgerFullFor s c.queue = false → noRoom s c.queue true c.src c.payload = none →
      ∃ t f, exec (.airCommit chan) s = .next t ∧ t.radio.commits = s.radio.commits.erase c ∧
        (getQueue t c.queue).inCh = (getQueue s c.queue).inCh ++ [f] ∧ f.payload = c.payload ∧
        f.seq = (getQueue s c.queue).accSeq ∧ (getQueue t c.queue).accSeq = (getQueue s c.queue).accSeq + 1 ∧
        (getQueue t c.queue).lastSeq = c.seq ∧ (getQueue t c.queue).valid = true ∧
        (c.dl = false → c.fack = none → ∀ a ∈ t.radio.acks, a.tag = c.done.1 → a.armed = true)

-- Firefly and the polled network (files 11 and 12)

/-- Firefly (R288 to R290): a window of SNIFF starts XO and the synthesizer on the Firefly channel, and closes again;
the node's own word wakes it into reception, any other word counts, and one that the detector does not hear does nothing;
the stay after a wake ends in IDLE. (The model's readings: log entry 77.) -/
def Obligations.FireflyListensAndWakes : Prop :=
  ∀ s : State,
    (s.sup.power = .sniff → s.radio.state = .sleep → windowBlocks s = true → s.sup.bodWarn = false →
      s.clk.xoFailed = false → s.clk.stopped = false → channelOk s (chanHz s false) false = true →
      ∃ t, exec .sniffWindow s = .next t ∧ Confined [.radio, .clk, .draws] s t ∧
        t.clk = { s.clk with xoOk := true, lock := true } ∧ t.radio.state = .sniff ∧ t.radio.lock = true ∧
        t.radio.lo = chanHz s false - 250000) ∧
    (s.radio.state = .sniff → exec .sniffWindowEnd s = .next { s with
      clk := { s.clk with xoOk := false, lock := false }
      radio := { s.radio with state := .sleep, lock := false, window := false } }) ∧
    (s.radio.state ≠ .sniff → exec .sniffWindowEnd s = .next { s with radio := { s.radio with window := false } }) ∧
    (∀ x, fireflyHears s x = false → exec (.wakeWord x) s = .next s) ∧
    (∀ x, s.radio.state = .sniff → fireflyHears s x = true → wakeMatches s x.word = false →
      ∃ t, exec (.wakeWord x) s = .next t ∧ Confined [.clk, .radio] s t ∧ t.radio.ffFalse = inc s.radio.ffFalse ∧
        t.radio.state = .sleep ∧ t.radio.ffWakes = s.radio.ffWakes) ∧
    (∀ x, s.radio.state = .sniff → fireflyHears s x = true → wakeMatches s x.word = true →
      ∃ t, exec (.wakeWord x) s = .next t ∧ t.radio.ffWakes = inc s.radio.ffWakes ∧ asleep t = false ∧
        bit t.sup.wakeSrc.toNat 5 = true ∧
      (s.clk.lock = true → s.sys.role = .node → s.sys.dev = .run → s.sys.ready = true → s.sys.skipped = false →
        s.clk.xoFailed = false → (∀ n ∈ [1, 7, 32, 33, 34, 35, 36, 37, 39], enableBit s n = true) →
        s.rx.mosaic = 0 → modeOk s = true → rxChannelsOk s = true → t.radio.state = .synthUp ∧ t.radio.up = .rx ∧ t.radio.temp = true ∧ t.radio.ffStay = true)) ∧
    (Works s → s.radio.ffStay = true → s.radio.state = .rx → s.radio.temp = true → confirmed s = false →
      s.radio.acks = [] → s.radio.commits = [] → s.radio.cca = none → s.net.reply = none → s.net.exch = none →
      s.net.fackWait = none → ∃ t, exec .ffStayExpiry s = .next t ∧ t.radio.ffStay = false ∧ t.radio.rxOn = false ∧
        (t.radio.state = .idle ∨ t.radio.state = .off))

/-- The coordinator's timers (R298, R301, R305): the beacon of a cycle and the POLL of the next enabled address begin
channel access once the radio can and the accountant lets them; a reply that has not begun in time ends its exchange.
(The model's readings: log entries 78 and 135.) -/
def Obligations.CoordinatorTimersAct : Prop :=
  ∀ s : State, Works s → s.sys.role = .coordinator → running s = true →
    (∀ j, j = beaconJob s (cycleNow s) s.net.beaconOf.isSome → s.net.beaconOf ≠ some (cycleNow s) →
      inWindow s = false → s.net.exch = none → canStart s j = true → dutyRefusal s j = none →
      ∃ t, exec .beaconCycle s = .next t ∧ t.net.beaconOf = some (cycleNow s) ∧ t.radio.state = .synthUp ∧
        (exempt s j = true → t.radio.up = .tx j) ∧ (exempt s j = false → t.radio.up = .cca)) ∧
    (∀ a u x, s.net.again = none → nextPoll s.net.polls s.net.pollNext.toNat = some a → u = macRead a s →
      x = pollJob u (BitVec.ofNat 16 a) → (BitVec.ofNat 16 a).toNat = a → mayPoll u x.1 = true →
      dutyRefusal u x.1 = none →
      ∃ t, exec .pollStart s = .next t ∧ t.radio.state = .synthUp ∧ t.net.exch = some { x.2 with burst := 1 } ∧
        (exempt u x.1 = true → t.radio.up = .tx x.1)) ∧
    (∀ e, s.net.exch = some e → e.sent = true →
      (replyBegun s = false → ∃ t, exec .pollMiss s = .next t ∧ t.net.exch = none ∧
        t.net.again = none ∧ t.net.pollMiss = inc s.net.pollMiss) ∧
      (replyBegun s = true → exec .pollMiss s = .next s))

/-- A station's timers (R303, R309, R315, R317): the reply to a POLL, the JOIN of its slot, which ends QUIET, and a
relay copy begin channel access; a copy that has been heard often enough is suppressed; a FACK that does not come counts
as a missed ACK; the seen cache and the accountant's bins move on.
(The model's readings: log entries 5, 74 and 76.) -/
def Obligations.StationTimersAct : Prop :=
  ∀ s : State, Works s →
    (∀ r, s.net.reply = some r → canStart s (buildReply s r).1 = true →
      dutyRefusal s (buildReply s r).1 = none → ∃ t, exec .pollReply s = .next t ∧ t.net.reply = none ∧
        t.radio.state = .synthUp ∧ (exempt s (buildReply s r).1 = true → t.radio.up = .tx (buildReply s r).1)) ∧
    (∀ w, s.net.slot = some w → s.sys.role ≠ .coordinator → s.sys.dev = .quiet ∨ s.sys.dev = .run →
      s.net.joined = false → myAddr s ≠ 0 → canStart (quietEnd s) (joinJob s) = true →
      dutyRefusal (quietEnd s) (joinJob s) = none →
      (∀ k ≤ liveNat s K.lbtRand, listenFits s (joinJob s) (liveNat s K.lbtListen + k * 500) = true) →
      ∃ t, exec .joinSlot s = .next t ∧ t.net.slot = none ∧ t.sys.dev = .run ∧ t.radio.state = .synthUp ∧
        (exempt s (joinJob s) = true → t.radio.up = .tx (joinJob s))) ∧
    (∀ o q b, s.swarm.buffers.find? (fun b => b.orig == o && b.fseq == q) = some b → confirmed s = false →
      s.net.reply = none → s.net.fackWait = none → s.radio.acks = [] → s.radio.commits = [] →
      running s = true → s.radio.state = .rx ∨ s.radio.state = .idle →
      (liveNat s K.swSuppress ≤ b.repeats → exec (.relayCopyDue o q) s = .next { s with swarm := { s.swarm with
        buffers := s.swarm.buffers.filter fun x => x != b, suppressed := inc s.swarm.suppressed } }) ∧
      (b.repeats < liveNat s K.swSuppress → b.job.frame.type ≠ tyBeacon → b.job.latest = none → canStart s b.job = true →
        dutyRefusal s b.job = none → ∃ t, exec (.relayCopyDue o q) s = .next t ∧ t.radio.state = .synthUp ∧
          t.swarm.buffers = s.swarm.buffers.filter (fun x => x != b) ∧ t.swarm.drops = s.swarm.drops)) ∧
    (∀ q seq, s.net.fackWait = some (q, seq) → ∃ t, exec .fackWaitExpiry s = .next t ∧ t.net.fackWait = none ∧
      t.radio.ackMiss = inc s.radio.ackMiss) ∧
    (∀ o q, ∃ t, exec (.seenExpiry o q) s = .next t ∧ Confined [.swarm] s t ∧ inSeen t (o, q) = false ∧
      ∀ k, k ≠ (o, q) → inSeen t k = inSeen s k) ∧
    ∃ t, exec .dutyBinRoll s = .next t ∧ Confined [.radio] s t ∧
      t.radio.bins = s.radio.bins.map fun l => if l = [] then [] else (0 :: l).take 360

-- Queues and Mortar (files 13 to 15)

/-- The upkeep of the queue engine (R338 to R341, R349): the least recently used stone without PIN and not at work
goes to the eviction buffer; an entry retires; a refused segment write is reissued with a new GEN; an empty slice is switched off; a queue
that has been idle for too long is reported once. (The model's readings: log entries 80 and 81.) -/
def Obligations.QueueUpkeep : Prop :=
  ∀ s : State, Works s →
    (∀ l₁ v l₂ i, s.qe.stones = l₁ ++ v :: l₂ → (∀ u ∈ l₁, pinned s u.queue = true ∨ inProgress s u.queue = true) →
      pinned s v.queue = false → inProgress s v.queue = false →
      (stonePlaces s).length ≤ s.qe.stones.length → s.qe.evb.findIdx? (fun e => e.isNone) = some i →
      exec .stoneEviction s = .next { s with qe := { s.qe with
        evb := setNth s.qe.evb i (some ⟨v.queue, v.dirty⟩)
        stones := s.qe.stones.filter fun u => u.queue != v.queue
        evictions := inc s.qe.evictions } }) ∧
    (∀ (i : Fin 4) (e : EvEntry), nth none s.qe.evb i.val = some e → ∃ t, exec (.evictionRetire i) s = .next t ∧
      Confined [.qe] s t ∧ t.qe.evb = setNth s.qe.evb i.val none ∧ t.qe.queues = s.qe.queues ∧
      t.qe.segGen = s.qe.segGen + BitVec.ofNat 12 (tailWrites e.dirty)) ∧
    (∀ i, i < 96256 → tabGet 0 i s.qe.refusals < 3 → ∃ t, exec (.segmentRefused i) s = .next t ∧
      Confined [.qe] s t ∧ t.qe.reissues = inc s.qe.reissues ∧ t.qe.segGen = s.qe.segGen + 1 ∧
      tabGet 0 i t.qe.refusals = tabGet 0 i s.qe.refusals + 1 ∧ t.qe.queues = s.qe.queues) ∧
    (∀ k : Fin 8, (∀ u ∈ s.qe.stones, u.place / 64 ≠ k.val) → ∃ t, exec (.sliceIdleOff k) s = .next t ∧
      Confined [.qe] s t ∧ bit t.qe.slicesOn.toNat k.val = false ∧
      ∀ n < 8, n ≠ k.val → bit t.qe.slicesOn.toNat n = bit s.qe.slicesOn.toNat n) ∧
    ∀ q : Half, idleDue s q.toNat = true → unmasked s evQto = true → hasPlace s.ring evQto = true →
      ∃ t, exec (.qto q) s = .next t ∧ (getQueue t q.toNat).qto = true ∧ idleDue t q.toNat = false ∧
        t.ring = s.ring ++ [⟨evQto, q, s.timer.time.setWidth 48,
          BitVec.ofNat 32 ((getQueue s q.toNat).inCh.length + 65536 * groupOf s q.toNat)⟩]

/-- The writer's other turns (R365, R383, R387): with nothing at source 2 it seals the stage, in stage order; what found
no room in the stage is staged then (R366), which is nothing where none waits; an append
of source 2 that has waited too long is rejected with abort 0x0601, and nothing of its write remains (R170).
(The model's readings: log entries 85 and 88.) -/
def Obligations.WriterTurns : Prop :=
  ∀ s : State, Works s →
    (∀ n u, u = stallLower false true (tidyFlash s) → 1 ≤ n → n ≤ s.jrn.stage.length → s.mortar.state = 1 →
      u.mortar.state = 1 → s.mortar.waiting2 = [] → s.sup.bodWarn = false →
      hot s = false → s.mortar.erasing = none → overLimit u (s.jrn.stage.take n) = false →
      (appendBatch 3 (hotWrite s) .done (s.jrn.stage.take n) u.mortar).2 = [] →
      ∃ t, exec (.mortarAppend n .done) s = .next t ∧ (s.jrn.relWait = [] → t.jrn.stage = s.jrn.stage.drop n) ∧
        t.mortar.pairs = (appendBatch 3 (hotWrite s) .done (s.jrn.stage.take n) u.mortar).1.pairs) ∧
    (∀ a rest r was, s.mortar.waiting2 = a :: rest → a.owner = .request → a.stalled = false →
      s.engine.job = some (r, .seal was) → s.engine.waits = [] → (r.port = .field → s.field.mute = false) →
      s.sup.sleepDue = none → (atBoundary s = false ∨ (s.courses.pend = none ∧ s.engine.regTarget = none)) →
      ∃ t, exec .appendTimeout s = .next t ∧ t.engine.job = none ∧ Answered r abPersist [] t ∧
        t.sys = { s.sys with rolePending := was } ∧ t.live = s.live ∧ t.mortar.pairs = s.mortar.pairs ∧
        t.mortar.waiting2 = rest ∧ t.mortar.writeStalls = inc s.mortar.writeStalls)

/-- The upkeep of Mortar (R393 to R397): compaction takes the oldest pair out of the log and begins the erase of its
sectors; an erase that ends prepares them with ERASES advanced; a weak pair, one with a damaged copy, and one that holds
hot-written records, is refreshed and counted; a record with both copies damaged is known as such from then on. What is
DIRTY or torn is mended first, and nothing of a higher source waits. (The model's readings: log entries 89, 130 and 131.) -/
def Obligations.MortarUpkeep : Prop :=
  ∀ s : State, backgroundFlash s = true →
    (∀ p rest u, u = tidyFlash s → u.mortar.refresh = [] → prepared u.mortar true ≤ 4 ∨ prepared u.mortar false ≤ 4 →
      wearPair u.mortar = none → u.mortar.pairs = p :: rest → Compactable p u →
      ∃ t, exec .compaction s = .next t ∧ Confined [.mortar] u t ∧ t.mortar.erasing = some (p.secA, p.secB) ∧
        (∀ x ∈ t.mortar.pairs, x.sseq ≠ p.sseq) ∧ t.mortar.refreshes = u.mortar.refreshes) ∧
    (∀ (a b : Nat) (okA okB : Bool), Works s → s.mortar.erasing = some (a, b) →
      ∃ t, exec (.eraseEnd okA okB) s = .next t ∧ t.mortar.erasing = none ∧
        (okA = true → okB = true → a ≠ b → s.mortar.failing = [] → eraseCount s a < 20000 → eraseCount s b < 20000 →
          Confined [.mortar] s t ∧ t.mortar.sectors =
            setNth (setNth s.mortar.sectors a ⟨.prepared, BitVec.ofNat 32 (eraseCount s a + 1)⟩) b
              ⟨.prepared, BitVec.ofNat 32 (eraseCount s b + 1)⟩)) ∧
    (∀ (ssq : Word) (found : Margin) (p : Pair), s.mortar.pairs.find? (fun p => p.sseq == ssq.toNat) = some p →
      (found = .clean → exec (.marginScan ssq found) s = .next s) ∧
      (found = .weak ∨ found = .oneCopyBad → Compactable p s → ∃ t, exec (.marginScan ssq found) s = .next t ∧
        t.mortar.erasing = some (p.secA, p.secB) ∧ t.mortar.refreshes = inc s.mortar.refreshes) ∧
      ∀ i rec, found = .bothBad i → p.recs[i]? = some rec → ∃ t, exec (.marginScan ssq found) s = .next t ∧
        t.mortar.erasing = s.mortar.erasing ∧ ∀ x ∈ t.mortar.pairs, x.sseq = p.sseq →
          ∃ bad, x.recs[i]? = some bad ∧ bad.okA = false ∧ bad.okB = false) ∧
    (s.sup.therm = 0 →
      (s.mortar.pairs.filter (hotPair s.mortar) = [] → exec .hotRefresh s = .next s) ∧
      ∀ p, s.mortar.pairs.filter (hotPair s.mortar) = [p] → Compactable p s → ∃ t, exec .hotRefresh s = .next t ∧
        t.mortar.erasing = some (p.secA, p.secB) ∧ t.mortar.refreshes = inc s.mortar.refreshes)

-- TIME, compare, counters and capture (file 16)

/-- TIME_STEP (R403 to R408): TIME advances, NTIME keeps its offset, and a channel of TIME whose VAL the step crosses
matches. SNAP copies TIME, NTIME and the counters at once (R406). (The model's readings: log entry 63.) -/
def Obligations.TimeStepsAndSnaps : Prop :=
  ∀ s : State,
    (∀ pins : BitVec 12, s.sup.power ≠ .off → ∃ t, exec (.timeStep pins) s = .next t ∧
      t.timer.time = s.timer.time + BitVec.ofNat 64 (timeAdvance s).1 ∧ t.timer.frac = (timeAdvance s).2 ∧
      t.timer.ntOffset = s.timer.ntOffset ∧
      ∀ n < s.timer.cmps.length, n < 16 → cmpEn s n = true → cmpBase s n = false →
        crosses (getCmp s n).val (s.timer.time.setWidth 48)
          ((s.timer.time + BitVec.ofNat 64 (timeAdvance s).1).setWidth 48) = true →
        (getCmp t n).matched = true ∧ (getCmp t n).matches_ = (getCmp s n).matches_ + 1) ∧
    ∀ via : Via, Takes via 0x6004 K.snapCmd 1 [1] s → ∃ t, exec (.snap via) s = .next t ∧
      Confined (.timer :: viaParts via) s t ∧ Told via K.snapCmd [1] t ∧ t.timer = { s.timer with
        snapTime := s.timer.time
        snapNtime := s.timer.time + s.timer.ntOffset
        snapCnt := s.timer.cnts.map fun c => c.val
        snapSeq := inc s.timer.snapSeq }

/-- Writes of the compare channels and the counters (R409, R411, R414, R424): a configuration by its register takes
effect at once, and sets LATE where it enables a channel whose VAL is not ahead of its base; over its entry it awaits
its seal. VAL takes its half, or the whole; a counter takes the value written; STAGGER spaces the channels that it
selects. (The model's readings: log entry 17.) -/
def Obligations.CompareAndCounterWrites : Prop :=
  ∀ s : State, Inv s → s.timer.cmps.length = 16 → s.timer.cnts.length = 8 →
    (∀ (ch : Fin 16) (value : Word), RegFree (0x6100 + 16 * ch.val) s →
      cmpCfgOk s ch.val (value.toNat &&& 0x00FF0F3F) = true →
      ∃ t, exec (.compareConfigWrite ch .register value) s = .next t ∧ t.spi.err = false ∧
        cmpCfg t ch.val = value.toNat &&& 0x00FF0F3F ∧
        (cmpEn s ch.val = false → bit value.toNat 0 = true →
          ahead (getCmp s ch.val).val (if bit value.toNat 1 then (ntime s).setWidth 48
            else s.timer.time.setWidth 48) = false → (getCmp t ch.val).late = true)) ∧
    (∀ (ch : Fin 16) (port : Port) (tag : Byte) (value : Word),
      Passes port tag (K.cmpCfg + ch.val) (leBytes 4 value.toNat) s →
      ∃ t, exec (.compareConfigWrite ch (.dict port tag) value) s = .next t ∧ t.sys = s.sys ∧
        Awaits port tag (K.cmpCfg + ch.val) (leBytes 4 value.toNat)
          [⟨rtFoot, K.cmpCfg + ch.val, stored (K.cmpCfg + ch.val) (leBytes 4 value.toNat)⟩] s t) ∧
    (∀ (ch : Fin 16) (v : Word), RegFree (0x6104 + 16 * ch.val) s →
      ∃ t, exec (.compareValueWrite ch (.low v)) s = .next t ∧ Confined [.spi, .timer] s t ∧ t.spi.err = false ∧
        (getCmp t ch.val).val = BitVec.ofNat 48 ((getCmp s ch.val).val.toNat / 2 ^ 32 * 2 ^ 32 + v.toNat)) ∧
    (∀ (ch : Fin 16) (v : Half), RegFree (0x6108 + 16 * ch.val) s →
      ∃ t, exec (.compareValueWrite ch (.high v)) s = .next t ∧ Confined [.spi, .timer] s t ∧ t.spi.err = false ∧
        (getCmp t ch.val).val = BitVec.ofNat 48 (v.toNat * 2 ^ 32 + (getCmp s ch.val).val.toNat % 2 ^ 32)) ∧
    (∀ (ch : Fin 16) (port : Port) (tag : Byte) (value : Bytes), Passes port tag (K.cmpVal + ch.val) value s →
      ∃ t, exec (.compareValueWrite ch (.whole port tag value)) s = .next t ∧
        Confined (.timer :: portParts port) s t ∧ (getCmp t ch.val).val = BitVec.ofNat 48 (leNat value) ∧
        Answered (writeRequest port tag (K.cmpVal + ch.val) value) abOk [] t) ∧
    (∀ (n : Fin 8) (via : Via) (value : Half),
      Takes via (0x6404 + 8 * n.val) (K.cnt + n.val) value.toNat (leBytes 2 value.toNat) s →
      ∃ t, exec (.cntWrite n via value) s = .next t ∧ Confined (.timer :: viaParts via) s t ∧
        (getCnt t n.val).val = value ∧ Told via (K.cnt + n.val) (leBytes 2 value.toNat) t) ∧
    (RegFree 0x6064 s → staggerBad s.timer.stgMask.toNat s.timer.stgBase s.timer.stgSpace.toNat s = false →
      ∃ t, exec (.stagger .go) s = .next t ∧ Confined [.spi, .timer, .live] s t ∧ t.spi.err = false ∧
        ∀ n i, (maskChans s.timer.stgMask.toNat)[i]? = some n → cmpEn t n = true ∧
          (getCmp t n).val = s.timer.stgBase + BitVec.ofNat 48 (i * s.timer.stgSpace.toNat)) ∧
    ∀ (port : Port) (tag : Byte) (value : Bytes), Passes port tag K.stagger value s →
      ∃ t, exec (.stagger (.dict port tag value)) s = .next t ∧ Confined (.timer :: .live :: portParts port) s t ∧
        Answered (writeRequest port tag K.stagger value) abOk [] t ∧
        ∀ n i, (maskChans (stgMaskOf value))[i]? = some n → cmpEn t n = true ∧
          (getCmp t n).val = stgBaseOf value + BitVec.ofNat 48 (i * stgSpaceOf value)

/-- Capture (R420, R421): an edge that the filter has accepted is written to its unit, a new edge of a value not yet
read sets the overrun flag, and a read clears the NEW flag of what it reads. What a read sees counts an edge as
captured from the step that accepted it on, whether its capture is still to be written or not (R404).
(The model's readings: log entry 58.) -/
def Obligations.CapturesLatchEdges : Prop :=
  ∀ s : State, s.timer.capPairs.length = 8 → s.timer.capSingles.length = 4 → s.timer.edges.length = 12 →
    (∀ (u : Fin 8) (rising : Bool) (at_ : Word) (rest : List (Bool × Word)), nth [] s.timer.edges u.val = (rising, at_) :: rest →
      ∃ t, exec (.captureEdge ⟨u.val, by omega⟩) s = .next t ∧ Confined [.timer] s t ∧
        (rising = true → (capPair t u).rise = at_ ∧ (capPair t u).rnew = true ∧
          (capPair t u).rovr = ((capPair s u).rovr || (capPair s u).rnew) ∧
          ((capPair s u).seen = true → (capPair t u).per = at_ - (capPair s u).rise)) ∧
        (rising = false → (capPair t u).fall = at_ ∧ (capPair t u).fnew = true ∧
          (capPair t u).fovr = ((capPair s u).fovr || (capPair s u).fnew) ∧
          ((capPair s u).seen = true → (capPair t u).width = at_ - (capPair s u).rise)) ∧
        nth [] t.timer.edges u.val = rest ∧ capPairNow t u.val = capPairNow s u.val) ∧
    (∀ (k : Fin 4) (rising : Bool) (at_ : Word) (rest : List (Bool × Word)),
      nth [] s.timer.edges (8 + k.val) = (rising, at_) :: rest →
      ∃ t, exec (.captureEdge ⟨8 + k.val, by omega⟩) s = .next t ∧ Confined [.timer] s t ∧
        (capSingle t k).val = at_ ∧ (capSingle t k).new_ = true ∧
        (capSingle t k).ovr = ((capSingle s k).ovr || (capSingle s k).new_)) ∧
    (∀ u : Fin 8, RegFree (0x6204 + 32 * u.val) s → ∃ t, exec (.captureRead ⟨u.val, by omega⟩ .rise) s = .next t ∧
      t.spi.err = false ∧ capPairNow t u.val = { capPairNow s u.val with rnew := false } ∧
      t.spi.miso = statusByte s :: zeros (4 + c8Len s) ++ withC8 s (leBytes 4 (capPairNow s u.val).rise.toNat)) ∧
    (∀ u : Fin 8, RegFree (0x6208 + 32 * u.val) s → ∃ t, exec (.captureRead ⟨u.val, by omega⟩ .fall) s = .next t ∧
      t.spi.err = false ∧ capPairNow t u.val = { capPairNow s u.val with fnew := false } ∧
      t.spi.miso = statusByte s :: zeros (4 + c8Len s) ++ withC8 s (leBytes 4 (capPairNow s u.val).fall.toNat)) ∧
    (∀ u : Fin 8, (∀ k < 4, RegFree (0x6204 + 32 * u.val + 4 * k) s) →
      ∃ t, exec (.captureRead ⟨u.val, by omega⟩ .unit) s = .next t ∧ t.spi.err = false ∧
        capPairNow t u.val = { capPairNow s u.val with rnew := false, fnew := false }) ∧
    (∀ k : Fin 4, RegFree (0x6304 + 8 * k.val) s →
      ∃ t, exec (.captureRead ⟨8 + k.val, by omega⟩ .value) s = .next t ∧ t.spi.err = false ∧
        capSingleNow t k.val = { capSingleNow s k.val with new_ := false }) ∧
    ∀ (u : Fin 8) (port : Port) (tag : Byte), Reads port tag (K.cappVal + u.val) s →
      ∃ t, exec (.captureRead ⟨u.val, by omega⟩ (.dict port tag)) s = .next t ∧
        capPairNow t u.val = { capPairNow s u.val with rnew := false, fnew := false } ∧
        Answered (readRequest port tag (K.cappVal + u.val)) abOk
          (readEntry (atEngine port s) (K.cappVal + u.val)) t

-- Pulse channels, the ADC and Hod (file 17)

/-- A sample of a pulse channel (R432, R433): the comparator's output must hold for DEB samples before the level follows
it, and a rise counts where the counter's source is the pulse input. The ADC and Hod (R443, R446): a start runs its
sequence at once when none runs, waits one deep, and is discarded beyond that; the end of a sequence starts the one that
waits; FLUSH puts an open frame into its queue. (The model's readings: log entries 60 to 62.) -/
def Obligations.PulsesSequencesAndFlushes : Prop :=
  (∀ (n : Fin 8) (ratio : Nat) (s : State) (c : PulseCh) (v : Bool) (run : Nat), s.pulse.chans.length = 8 →
    pulseEn s n.val = true → blockOn s 4 = true → s.pins.bankB = true → s.pins.reversed = false → s.pulse.stopped = false → Works s →
    c = getPulse s n.val → c.line ≠ .open_ → c.line ≠ .short →
    v = comparator c.out (strobed s n.val ratio).1 (strobed s n.val ratio).2 →
    run = (if v = c.out then c.run + 1 else 1) →
    (run < field (pulseCfg s n.val) 4 4 ∨ v = c.level →
      exec (.pulseSample n ratio) s = .next (setPulse n.val { c with out := v, run := run } s)) ∧
    (field (pulseCfg s n.val) 4 4 ≤ run → v ≠ c.level →
      (v = false → exec (.pulseSample n ratio) s =
        .next (setPulse n.val { c with out := v, run := run, level := v } s)) ∧
      (v = true → cntEn s n.val = true → cntSrc s n.val = 0 → (getCnt s n.val).val ≠ 0xFFFF →
        exec (.pulseSample n ratio) s = .next (setCnt n.val { getCnt s n.val with val := (getCnt s n.val).val + 1 }
          (setPulse n.val { c with out := v, run := run, level := v } s))))) ∧
  ∀ (codes : List AdcCode) (s : State), Works s →
    (s.adc.trig ≠ 0 →
      (s.adc.running = false → ∃ t, exec (.adcStart .trigger codes) s = .next t ∧ t.adc.running = true ∧
        t.adc.trig = s.adc.trig - 1) ∧
      (s.adc.running = true → s.adc.pend = false → exec (.adcStart .trigger codes) s =
        .next { s with adc := { s.adc with trig := s.adc.trig - 1, pend := true } }) ∧
      (s.adc.running = true → s.adc.pend = true → exec (.adcStart .trigger codes) s =
        .next { s with adc := { s.adc with trig := s.adc.trig - 1, overrun := inc s.adc.overrun } })) ∧
    (RegFree 0x6C40 s → liveNat s K.adcSeqLen ≤ 16 → s.adc.running = false →
      ∃ t, exec (.adcStart .go codes) s = .next t ∧ t.adc.running = true ∧ t.spi.err = false) ∧
    (∀ port tag value, Passes port tag K.adcCmd value s → s.adc.running = false →
      ∃ t, exec (.adcStart (.cmd port tag value) codes) s = .next t ∧ t.adc.running = true ∧
        Answered (writeRequest port tag K.adcCmd value) abOk [] t) ∧
    (s.adc.running = true →
      (s.adc.pend = false → exec (.adcSequenceEnd codes) s = .next { s with adc := { s.adc with running := false } }) ∧
      (s.adc.pend = true → ∃ t, exec (.adcSequenceEnd codes) s = .next t ∧ t.adc.running = true ∧
        t.adc.pend = false)) ∧
    ∀ (n : Fin 8) (payload : Bytes), payload = (nth [] s.hod.frames n.val).flatten → payload ≠ [] →
      field (hodCfg s n.val) 16 16 ≠ 0 → blockOn s 6 = true → s.sys.ready = true →
      payload.length ≤ liveNat s K.qMaxlen → pushRefusal s (hodQueue s n.val) true 0x02 payload = none →
      ∃ t f, exec (.hodFlush n) s = .next t ∧ nth [] t.hod.frames n.val = [] ∧ f.payload = payload ∧ f.src = 0x02 ∧
        (getQueue t (hodQueue s n.val)).inCh = (getQueue s (hodQueue s n.val)).inCh ++ [f] ∧
        t.hod.drops = s.hod.drops

-- Background work and self-repair (file 18)

/-- Scrubbing and repair (R233, R452, R458, R459): corrections are counted, and a row that reaches ROW_LIMIT takes one
more spare row of its bank; a bank that has migrated is served by its spare; a failed lane is replaced by the spare of
lowest number. (The model's readings: log entry 92.) -/
def Obligations.RepairsAreMade : Prop :=
  ∀ s : State, background s = true →
    (∀ (bank : Fin 132) (row : Byte), bankLive s bank.val = true →
      exec (.ashlarScrub bank row .clean) s = .next s ∧
      ((watchRow bank.val row.toNat s.repair.watch).2 < liveNat s K.rowLimit →
        exec (.ashlarScrub bank row .corrected) s = .next { s with repair := { s.repair with
          eccCorrected := inc s.repair.eccCorrected, watch := (watchRow bank.val row.toNat s.repair.watch).1 } }) ∧
      (liveNat s K.rowLimit ≤ (watchRow bank.val row.toNat s.repair.watch).2 → rowsUsedIn s bank.val < 8 →
        ∃ t, exec (.ashlarScrub bank row .corrected) s = .next t ∧ rowsUsedIn t bank.val = rowsUsedIn s bank.val + 1 ∧
          t.repair.eccCorrected = inc s.repair.eccCorrected ∧ t.repair.repairCount = inc s.repair.repairCount ∧
          t.qe = s.qe)) ∧
    (∀ (slice : Fin 8) (stone : Fin 64), slice = 0 ∨ bit s.qe.slicesOn.toNat slice.val = true →
      exec (.keystoneScrub slice stone .clean) s = .next s ∧
      exec (.keystoneScrub slice stone .corrected) s = .next { s with repair := { s.repair with
        eccCorrected := inc s.repair.eccCorrected } } ∧
      ((∀ x ∈ s.repair.badStones, x.1 = slice.val → x.2 = stone.val) →
        exec (.keystoneScrub slice stone .uncorrectable) s = .next { s with repair := { s.repair with
          eccUncorrected := inc s.repair.eccUncorrected
          badStones := s.repair.badStones ++ [(slice.val, stone.val)] } })) ∧
    (∀ bank k rest, Works s → s.repair.migrating = (bank, k) :: rest → k < s.repair.spareOf.length →
      ∃ t, exec .migrationEnd s = .next t ∧ t.repair.migrating = rest ∧ nth none t.repair.spareOf k = some bank ∧
        t.repair.repairCount = inc s.repair.repairCount) ∧
    ∀ p rest n, Works s → s.scarab.laneDue = p :: rest → s.scarab.lanePhys.findIdx? (fun x => x == p) = some n →
      s.scarab.dets = [] → p < 32 → ¬ 32 ∈ s.scarab.lanePhys → ¬ 32 ∈ s.scarab.physFail →
      ∃ t, exec .laneReassign s = .next t ∧ t.scarab.laneDue = rest ∧
        t.scarab.lanePhys = setNth s.scarab.lanePhys n 32 ∧ p ∈ t.scarab.physFail ∧
        t.repair.repairCount = inc s.repair.repairCount

/-- Calibration and telemetry (R203, R452 to R456): a test that waits too long is skipped and counted; the extremes take
in what is measured; the ADC's offset, a VCO band and the IQ and image correction are calibrated when due; a failed
canary locks every trim at zero. (The model's readings: log entries 36, 73 and 94.) -/
def Obligations.CalibrationsAndTelemetry : Prop :=
  ∀ s : State,
    (Works s → ∃ t, exec .bistSkip s = .next t ∧ Confined [.repair] s t ∧
      t.repair.bistSkips = inc s.repair.bistSkips ∧
      t.repair.bistUnit.val = (s.repair.bistUnit.val + 1) % 37 ∧ t.repair.bistFails = s.repair.bistFails) ∧
    (background s = true →
      (∀ vin vhold : Half, ∃ t, exec (.telemSample vin vhold) s = .next t ∧ Confined [.sup, .repair] s t ∧
        t.sup.vinMv = vin ∧ t.sup.vholdMv = vhold ∧ t.repair.telemSeen = true ∧
        t.repair.tempMin.toInt ≤ s.sup.temp.toInt ∧ s.sup.temp.toInt ≤ t.repair.tempMax.toInt ∧
        t.repair.vinMin.toNat ≤ vin.toNat ∧ t.repair.vholdMin.toNat ≤ vhold.toNat ∧
        (s.repair.telemSeen = false → t.repair.tempMin = s.sup.temp ∧ t.repair.tempMax = s.sup.temp ∧
          t.repair.vinMin = vin ∧ t.repair.vholdMin = vhold)) ∧
      (∀ code, blockOn s 5 = true → s.adc.running = false →
        exec (.adcOffset code) s = .next { s with adc := { s.adc with offset := code } }) ∧
      (∃ t, exec (.canaryCheck false) s = .next t ∧ Confined [.sup, .repair] s t ∧ t.sup.trimLock = 15 ∧
        t.sup.trims = [0, 0, 0, 0] ∧ t.repair.bgFaults = inc s.repair.bgFaults ∧ t.sup.op = s.sup.op) ∧
      exec (.canaryCheck true) s = .next s ∧
      (∀ (band : Fin 5) (setting : Byte), s.radio.state = .idle → s.clk.xoOk = true → s.clk.refHfrc = false →
        vcoValid s band.val = false → s.radio.vco.length = 5 → s.radio.vcoAt.length = 5 →
        ∃ t, exec (.vcoCalibration band setting) s = .next t ∧ Confined [.radio] s t ∧ vcoValid t band.val = true ∧
          nth 0 t.radio.vco band.val = setting) ∧
      ∀ p : Path, s.radio.state = .idle → bit s.rx.pathsOk.toNat (pathIndex p) = true → s.rx.iqAt.length = 2 →
        iqDue s p = true → ∃ t, exec (.iqImageCalibration p) s = .next t ∧ Confined [.rx] s t ∧ iqDue t p = false)

/-- R457: a unit is declared failed when two consecutive tests of it fail: a lane is due for replacement, a path is
taken out of use, a synthesizer test is reported. BIST_FAILS counts failed tests, and a single one changes nothing else.
(The model's readings: log entry 93.) -/
def Obligations.SelfTestsDeclareFailures : Prop :=
  ∀ (u : Nat) (s : State), u = s.repair.bistUnit.val → testable s = true → (u < 34 → s.scarab.laneDue = []) →
    (∃ t, exec (.selfTest true) s = .next t ∧ Confined [.repair] s t ∧ t.repair.bistFails = s.repair.bistFails ∧
      t.repair.bistUnit.val = (u + 1) % 37 ∧ t.repair.bistOnce = s.repair.bistOnce.filter fun x => x != u) ∧
    (s.repair.bistOnce.contains u = false → ∃ t, exec (.selfTest false) s = .next t ∧ Confined [.repair] s t ∧
      t.repair = { s.repair with
        bistFails := inc s.repair.bistFails
        bistOnce := s.repair.bistOnce ++ [u]
        bistUnit := Fin.ofNat 37 (u + 1) }) ∧
    (s.repair.bistOnce.contains u = true → ∃ t, exec (.selfTest false) s = .next t ∧
      t.repair.bistFails = inc s.repair.bistFails ∧ t.repair.bistUnit.val = (u + 1) % 37 ∧
      t.repair.bistOnce = s.repair.bistOnce.filter (fun x => x != u) ∧
      (u < 34 → s.scarab.physFail.contains u = false → t.scarab.laneDue = [u]) ∧
      (34 ≤ u → u < 36 → bit s.rx.pathsOk.toNat (u - 34) = true → bit t.rx.pathsOk.toNat (u - 34) = false ∧
        t.repair.repairCount = inc s.repair.repairCount) ∧
      (u = 36 → t.repair.repairCount = inc s.repair.repairCount))

/-- What a frame carries comes back from what is sent (R246, R250): whitening a second time gives the bits of the PSDU
and of its CRC-32, low byte first and each byte least significant bit first (R242, R244), and a block that is
interleaved and put back is the block. The coded bits of a spread payload are as many as Np of R249 gives. -/
def Obligations.FrameBitsComeBack : Prop :=
  (∀ (psdu : Bytes) (crc : Word), (whitened psdu crc).zipWith xor (whitening (8 * (psdu.length + 4))) =
    bytesBits (psdu ++ leBytes 4 crc.toNat)) ∧
  (∀ (d : Bool) (rows cols : Nat) (b : List Bool), b.length = rows * cols → 0 < rows → 0 < cols →
    deinterleaveBlock d rows cols (interleaveBlock d rows cols b) = b ∧
      ∀ k, k < rows * cols → nth d (interleaveBlock d rows cols b) (rows * (k % cols) + k / cols) = nth d b k) ∧
  ∀ x : OnAir, x.mosaic = false → x.psdu ≠ [] → x.payloadBits.length = codedBits x.psdu.length

end
end

