-- ==== Sys2Proof/Laws/Kept.lean ====
section
/-! SUPPORT. Every operation of the device keeps the relation `Safety.Kept`: one lemma per operation, in the order of the
definitions. -/

namespace Sys2Proof.Machine

open Sys2Proof.Safety

theorem kept_refl (s : State) : Kept s s :=
  ⟨rfl, id, id, rfl, rfl, rfl, fun _ h => h, fun _ h => h⟩

theorem kept_trans {r s t : State} (h : Kept r s) (k : Kept s t) : Kept r t :=
  ⟨k.pending.trans h.pending, fun x => k.ring (h.ring x), fun x => k.live (h.live x), k.siliconRev.trans h.siliconRev,
    k.serial.trans h.serial, k.codeVersion.trans h.codeVersion, fun b x => k.xoCfg b (h.xoCfg b x),
    fun b x => k.region b (h.region b x)⟩

/-- An update of the fields that the relation does not speak of. -/
theorem kept_mk {r s : State} (h : Kept r s) (a b c d e f g i j k l m n o p q t u v w x y z aa bb cc) :
    Kept r { sys := a, boot := b, sup := c, live := s.live, ring := s.ring, evtLost := d, spi := e, field := f,
             engine := g, courses := i, mortar := j, jrn := k, qe := l, repair := m, scarab := n, rx := o, radio := p,
             swarm := q, net := t, tb := u, sec := v, id := s.id, timer := w, pulse := x, adc := y, hod := z,
             pins := aa, clk := bb, draws := cc, pending := s.pending } :=
  ⟨h.pending, h.ring, h.live, h.siliconRev, h.serial, h.codeVersion, h.xoCfg, h.region⟩

theorem foldl_kept {α : Type} {r : State} (g : State → α → State) (l : List α) (s : State) (h : Kept r s)
    (hg : ∀ t a, Kept r t → Kept r (g t a)) : Kept r (l.foldl g s) := by
  induction l generalizing s with
  | nil => exact h
  | cons a l ih => exact ih _ (hg s a h)

/-- A place taken as R151 has it keeps the ring in order. -/
theorem ringOk_append (s : State) (e : Event) (h : RingOk s) (hp : hasPlace s.ring e.code = true) :
    RingOk { s with ring := s.ring ++ [e] } := by
  obtain ⟨h1, h2⟩ := h
  have hp' : s.ring.length < if keptEvent e.code then ringSize else ringSize - ringKept := by
    simpa [hasPlace] using hp
  refine ⟨?_, ?_⟩
  · simp only [List.length_append, List.length_singleton]
    split at hp' <;> simp only [ringSize, ringKept] at * <;> omega
  · intro x hx
    rw [List.drop_append] at hx
    rcases List.mem_append.1 hx with hx | hx
    · exact h2 x hx
    · have hx' := List.mem_of_mem_drop hx
      rw [List.mem_singleton] at hx'
      subst hx'
      refine Classical.byContradiction fun hk => ?_
      rw [if_neg hk] at hp'
      rw [List.drop_eq_nil_of_le (by simp only [List.length_singleton]; omega)] at hx
      cases hx

/-- Events that leave from the front keep the ring in order. -/
theorem ringOk_drop (s : State) (n : Nat) (h : RingOk s) : RingOk { s with ring := s.ring.drop n } := by
  refine ⟨?_, ?_⟩
  · have := h.1
    simp only [List.length_drop]
    omega
  · intro x hx
    rw [List.drop_drop] at hx
    have : x ∈ s.ring.drop (ringSize - ringKept) := by
      rw [Nat.add_comm, ← List.drop_drop] at hx
      exact List.mem_of_mem_drop hx
    exact h.2 x this

theorem tabSet_mem {α : Type} [DecidableEq α] (d v : α) (k : Nat) (p : Nat × α) :
    ∀ m : List (Nat × α), p ∈ tabSet d k v m → (p = (k, v) ∧ v ≠ d) ∨ p ∈ m := by
  intro m
  induction m with
  | nil =>
    intro h
    simp only [tabSet] at h
    split at h
    · cases h
    · rename_i hv
      exact .inl ⟨List.mem_singleton.1 h, hv⟩
  | cons x m ih =>
    obtain ⟨j, w⟩ := x
    intro h
    simp only [tabSet] at h
    split at h
    · split at h
      · exact .inr h
      · rename_i hv
        rcases List.mem_cons.1 h with h | h
        · exact .inl ⟨h, hv⟩
        · exact .inr h
    · split at h
      · split at h
        · exact .inr (List.mem_cons_of_mem _ h)
        · rename_i hv
          rcases List.mem_cons.1 h with h | h
          · exact .inl ⟨h, hv⟩
          · exact .inr (List.mem_cons_of_mem _ h)
      · rcases List.mem_cons.1 h with h | h
        · exact .inr (h ▸ List.mem_cons_self ..)
        · rcases ih h with h | h
          · exact .inl h
          · exact .inr (List.mem_cons_of_mem _ h)

theorem tabSet_rising {α : Type} [DecidableEq α] (d v : α) (k : Nat) :
    ∀ m : List (Nat × α), m.Pairwise (fun p q => p.1 < q.1) → (tabSet d k v m).Pairwise (fun p q => p.1 < q.1) := by
  intro m
  induction m with
  | nil =>
    intro _
    simp only [tabSet]
    split <;> simp
  | cons x m ih =>
    obtain ⟨j, w⟩ := x
    intro h
    obtain ⟨h1, h2⟩ := List.pairwise_cons.1 h
    simp only [tabSet]
    split
    · rename_i hk
      split
      · exact h
      · refine List.pairwise_cons.2 ⟨?_, h⟩
        intro p hp
        rcases List.mem_cons.1 hp with hp | hp
        · subst hp; exact hk
        · exact Nat.lt_trans hk (h1 p hp)
    · split
      · rename_i hk
        split
        · exact h2
        · exact List.pairwise_cons.2 ⟨fun p hp => hk ▸ h1 p hp, h2⟩
      · refine List.pairwise_cons.2 ⟨?_, ih h2⟩
        intro p hp
        rcases tabSet_mem d v k p m hp with ⟨hp, _⟩ | hp
        · subst hp; show j < k; omega
        · exact h1 p hp

/-- A live value set keeps the canonical form. -/
theorem setLive_liveOk (s : State) (key : Nat) (v : Bytes) (h : LiveOk s) : LiveOk (setLive s key v) := by
  refine ⟨tabSet_rising _ _ _ _ h.1, ?_⟩
  intro p hp
  rcases tabSet_mem _ _ _ p _ hp with ⟨hp, hv⟩ | hp
  · subst hp; exact hv
  · exact h.2 p hp

theorem kept_ite {r : State} {c : Prop} [Decidable c] {a b : State} (ha : Kept r a) (hb : Kept r b) :
    Kept r (if c then a else b) := by
  split
  · exact ha
  · exact hb

theorem getD_kept {r : State} (o : Option State) (s : State) (h : Kept r s) (ho : ∀ t, o = some t → Kept r t) :
    Kept r (o.getD s) := by
  cases o with
  | none => exact h
  | some t => exact ho t rfl

theorem foldl2_kept {α β : Type} {r : State} (g : State × β → α → State × β) (l : List α) (x : State × β)
    (h : Kept r x.1) (hg : ∀ y a, Kept r y.1 → Kept r (g y a).1) : Kept r (l.foldl g x).1 := by
  induction l generalizing x with
  | nil => exact h
  | cons a l ih => exact ih _ (hg x a h)

theorem ringOk_empty (s : State) (h : s.ring = []) : RingOk s :=
  ⟨by rw [h]; exact Nat.zero_le _, by rw [h]; intro _ x; cases x⟩

theorem liveOk_empty (s : State) (h : s.live = []) : LiveOk s :=
  ⟨by rw [h]; exact List.Pairwise.nil, by rw [h]; intro _ x; cases x⟩

theorem draw_kept {r : State} (n : Nat) (s : State) (h : Kept r s) :
    Kept r (draw n s).2 := by
  unfold draw
  try dsimp only
  repeat first
    | with_reducible exact h | with_reducible assumption | with_reducible apply kept_ite | split
    | fail_if_no_progress with_reducible apply kept_mk | (intro _ _ _) | (intro _ _) | (intro _)

theorem freeBits_kept {r : State} (w : Nat) (s : State) (h : Kept r s) :
    Kept r (freeBits w s).2 := by
  unfold freeBits
  try dsimp only
  repeat first
    | with_reducible exact h | with_reducible assumption | with_reducible apply kept_ite | split
    | fail_if_no_progress with_reducible apply kept_mk | (intro _ _ _) | (intro _ _) | (intro _)

theorem setLive_kept {r : State} (s : State) (key : Nat) (v : Bytes) (h : Kept r s) : Kept r (setLive s key v) :=
  ⟨h.pending, h.ring, fun x => setLive_liveOk s key v (h.live x), h.siliconRev, h.serial, h.codeVersion, h.xoCfg, h.region⟩

theorem post_kept {r : State} (code tag : Half) (arg : Word) (s : State) (h : Kept r s) :
    Kept r (post code tag arg s) := by
  unfold post
  split
  · split
    · rename_i hp
      exact ⟨h.pending, fun x => ringOk_append s _ (h.ring x) hp, h.live, h.siliconRev, h.serial, h.codeVersion,
        h.xoCfg, h.region⟩
    · exact kept_mk h ..
  · exact h

theorem spiError_kept {r : State} (code : Byte) (s : State) (h : Kept r s) :
    Kept r (spiError code s) := by
  unfold spiError
  try dsimp only
  repeat first
    | with_reducible exact h | with_reducible assumption | with_reducible apply kept_ite | split
    | fail_if_no_progress with_reducible apply kept_mk | (intro _ _ _) | (intro _ _) | (intro _)

theorem illegalState_kept {r : State} (addr sub : Nat) (write dict : Bool) (source : Nat) (radio : Bool) (s : State)
    (h : Kept r s) :
    Kept r (illegalState addr sub write dict source radio s) := by
  unfold illegalState
  try dsimp only
  repeat first
    | with_reducible exact h | with_reducible assumption | with_reducible apply post_kept
    | with_reducible apply kept_ite | split | fail_if_no_progress with_reducible apply kept_mk | (intro _ _ _)
    | (intro _ _) | (intro _)

theorem logEvent_kept {r : State} (code tag : Half) (arg : Word) (s : State) (h : Kept r s) :
    Kept r (logEvent code tag arg s) := by
  unfold logEvent
  try dsimp only
  repeat first
    | with_reducible exact h | with_reducible assumption | with_reducible apply kept_ite | split
    | fail_if_no_progress with_reducible apply kept_mk | (intro _ _ _) | (intro _ _) | (intro _)

theorem postLogged_kept {r : State} (code tag : Half) (arg : Word) (s : State) (h : Kept r s) :
    Kept r (postLogged code tag arg s) := by
  unfold postLogged
  try dsimp only
  repeat first
    | with_reducible exact h | with_reducible assumption | with_reducible apply post_kept
    | with_reducible apply logEvent_kept | with_reducible apply kept_ite | split | (intro _ _ _) | (intro _ _)
    | (intro _)

theorem postRepair_kept {r : State} (tag arg : Nat) (s : State) (h : Kept r s) :
    Kept r (postRepair tag arg s) := by
  unfold postRepair
  try dsimp only
  repeat first
    | with_reducible exact h | with_reducible assumption | with_reducible apply postLogged_kept
    | with_reducible apply kept_ite | split | fail_if_no_progress with_reducible apply kept_mk | (intro _ _ _)
    | (intro _ _) | (intro _)

theorem lockViolation_kept {r : State} (addr sub : Nat) (dict : Bool) (source : Nat) (s : State) (h : Kept r s) :
    Kept r (lockViolation addr sub dict source s) := by
  unfold lockViolation
  try dsimp only
  repeat first
    | with_reducible exact h | with_reducible assumption | with_reducible apply postLogged_kept
    | with_reducible apply kept_ite | split | fail_if_no_progress with_reducible apply kept_mk | (intro _ _ _)
    | (intro _ _) | (intro _)

theorem stageMap_kept {r : State} (l : List MapEntry) (s : State) (h : Kept r s) :
    Kept r (stageMap l s) := by
  unfold stageMap
  try dsimp only
  repeat first
    | with_reducible exact h | with_reducible assumption | with_reducible apply kept_ite | split
    | fail_if_no_progress with_reducible apply kept_mk | (intro _ _ _) | (intro _ _) | (intro _)

theorem enterRepair_kept {r : State} (tag arg : Nat) (e : MapEntry) (drop : MapEntry → Bool) (s : State) (h : Kept r s) :
    Kept r (enterRepair tag arg e drop s) := by
  unfold enterRepair
  try dsimp only
  repeat first
    | with_reducible exact h | with_reducible assumption | with_reducible apply stageMap_kept
    | with_reducible apply postRepair_kept | with_reducible apply kept_ite | split
    | fail_if_no_progress with_reducible apply kept_mk | (intro _ _ _) | (intro _ _) | (intro _)

theorem commitRecs_kept {r : State} (rs : List NewRec) (s : State) (h : Kept r s) :
    Kept r (commitRecs rs s) := by
  unfold commitRecs
  try dsimp only
  repeat first
    | with_reducible exact h | with_reducible assumption | with_reducible apply kept_ite | split
    | fail_if_no_progress with_reducible apply kept_mk | (intro _ _ _) | (intro _ _) | (intro _)

theorem commitFail_kept {r : State} (l : List (Nat × Bool)) (rs : List NewRec) (s : State) (h : Kept r s) :
    Kept r (commitFail l rs s) := by
  induction l generalizing rs s with
  | nil => exact commitRecs_kept rs s h
  | cons x l ih =>
    simp only [commitFail]
    split
    · exact commitRecs_kept rs s h
    · exact ih _ _ (kept_mk (commitRecs_kept _ _ h) ..)

theorem retireSector_kept {r : State} (i : Nat) (s : State) (h : Kept r s) :
    Kept r (retireSector i s) := by
  unfold retireSector
  try dsimp only
  repeat first
    | with_reducible exact h | with_reducible assumption | with_reducible apply enterRepair_kept
    | with_reducible apply kept_ite | split | fail_if_no_progress with_reducible apply kept_mk | (intro _ _ _)
    | (intro _ _) | (intro _)

theorem endErase_kept {r : State} (i : Nat) (ok : Bool) (s : State) (h : Kept r s) :
    Kept r (endErase i ok s) := by
  unfold endErase
  try dsimp only
  repeat first
    | with_reducible exact h | with_reducible assumption | with_reducible apply retireSector_kept
    | with_reducible apply kept_ite | split | fail_if_no_progress with_reducible apply kept_mk | (intro _ _ _)
    | (intro _ _) | (intro _)

theorem tidyFlash_kept {r : State} (s : State) (h : Kept r s) :
    Kept r (tidyFlash s) := by
  unfold tidyFlash
  try dsimp only
  repeat first
    | with_reducible exact h | with_reducible assumption | with_reducible apply retireSector_kept
    | with_reducible apply commitRecs_kept | with_reducible apply kept_ite | split
    | fail_if_no_progress with_reducible apply kept_mk | with_reducible apply foldl_kept | (intro _ _ _) | (intro _ _)
    | (intro _)

theorem mount_kept {r : State} (us : Word) (written : Bool) (s : State) (h : Kept r s) :
    Kept r (mount us written s) := by
  unfold mount
  try dsimp only
  repeat first
    | with_reducible exact h | with_reducible assumption | with_reducible apply tidyFlash_kept
    | with_reducible apply postRepair_kept | with_reducible apply kept_ite | split
    | fail_if_no_progress with_reducible apply kept_mk | with_reducible apply foldl_kept | (intro _ _ _) | (intro _ _)
    | (intro _)

theorem setQueue_kept {r : State} (q : Nat) (v : Queue) (s : State) (h : Kept r s) :
    Kept r (setQueue q v s) := by
  unfold setQueue
  try dsimp only
  repeat first
    | with_reducible exact h | with_reducible assumption | with_reducible apply kept_ite | split
    | fail_if_no_progress with_reducible apply kept_mk | (intro _ _ _) | (intro _ _) | (intro _)

theorem advanceGen_kept {r : State} (n : Nat) (s : State) (h : Kept r s) :
    Kept r (advanceGen n s) := by
  unfold advanceGen
  try dsimp only
  repeat first
    | with_reducible exact h | with_reducible assumption | with_reducible apply kept_ite | split
    | fail_if_no_progress with_reducible apply kept_mk | (intro _ _ _) | (intro _ _) | (intro _)

theorem retireEntry_kept {r : State} (i : Nat) (s : State) (h : Kept r s) :
    Kept r (retireEntry i s) := by
  unfold retireEntry
  try dsimp only
  repeat first
    | with_reducible exact h | with_reducible assumption | with_reducible apply advanceGen_kept
    | with_reducible apply kept_ite | split | fail_if_no_progress with_reducible apply kept_mk | (intro _ _ _)
    | (intro _ _) | (intro _)

theorem evictStone_kept {r : State} (t : Stone) (s : State) (h : Kept r s) :
    Kept r (evictStone t s) := by
  unfold evictStone
  try dsimp only
  repeat first
    | with_reducible exact h | with_reducible assumption | with_reducible apply kept_ite | split
    | fail_if_no_progress with_reducible apply kept_mk | (intro _ _ _) | (intro _ _) | (intro _)

theorem freeStone_kept {r : State} (s : State) (h : Kept r s) :
    Kept r (freeStone s) := by
  unfold freeStone
  try dsimp only
  repeat first
    | with_reducible exact h | with_reducible assumption | with_reducible apply retireEntry_kept
    | with_reducible apply evictStone_kept | with_reducible apply kept_ite | split | (intro _ _ _) | (intro _ _)
    | (intro _)

theorem stoneEviction_kept {r : State} (s : State) (h : Kept r s) :
    Kept r (stoneEviction s) := by
  unfold stoneEviction
  try dsimp only
  repeat first
    | with_reducible exact h | with_reducible assumption | with_reducible apply evictStone_kept
    | with_reducible apply kept_ite | split | (intro _ _ _) | (intro _ _) | (intro _)

theorem touch_kept {r : State} (q : Nat) (s : State) (h : Kept r s) :
    Kept r (touch q s) := by
  unfold touch
  try dsimp only
  repeat first
    | with_reducible exact h | with_reducible assumption | with_reducible apply freeStone_kept
    | with_reducible apply kept_ite | split | fail_if_no_progress with_reducible apply kept_mk | (intro _ _ _)
    | (intro _ _) | (intro _)

theorem markParts_kept {r : State} (q : Nat) (change : Parts → Parts) (s : State) (h : Kept r s) :
    Kept r (markParts q change s) := by
  unfold markParts
  try dsimp only
  repeat first
    | with_reducible exact h | with_reducible assumption | with_reducible apply kept_ite | split
    | fail_if_no_progress with_reducible apply kept_mk | (intro _ _ _) | (intro _ _) | (intro _)

theorem stageRel_kept {r : State} (q : Nat) (inCh : Bool) (seq : Word) (s : State) (h : Kept r s) :
    Kept r (stageRel q inCh seq s) := by
  unfold stageRel
  try dsimp only
  repeat first
    | with_reducible exact h | with_reducible assumption | with_reducible apply kept_ite | split
    | fail_if_no_progress with_reducible apply kept_mk | (intro _ _ _) | (intro _ _) | (intro _)

theorem stageRelease_kept {r : State} (q : Nat) (inCh : Bool) (seq : Word) (s : State) (h : Kept r s) :
    Kept r (stageRelease q inCh seq s) := by
  unfold stageRelease
  try dsimp only
  repeat first
    | with_reducible exact h | with_reducible assumption | with_reducible apply stageRel_kept
    | with_reducible apply kept_ite | split | fail_if_no_progress with_reducible apply kept_mk
    | with_reducible apply foldl_kept | (intro _ _ _) | (intro _ _) | (intro _)

theorem stageWaiting_kept {r : State} (s : State) (h : Kept r s) :
    Kept r (stageWaiting s) := by
  unfold stageWaiting
  try dsimp only
  repeat first
    | with_reducible exact h | with_reducible assumption | with_reducible apply stageRel_kept
    | with_reducible apply kept_ite | split | fail_if_no_progress with_reducible apply kept_mk
    | with_reducible apply foldl_kept | (intro _ _ _) | (intro _ _) | (intro _)

theorem stageEpoch_kept {r : State} (seq : Word) (s : State) (h : Kept r s) :
    Kept r (stageEpoch seq s) := by
  unfold stageEpoch
  try dsimp only
  repeat first
    | with_reducible exact h | with_reducible assumption | with_reducible apply kept_ite | split
    | fail_if_no_progress with_reducible apply kept_mk | (intro _ _ _) | (intro _ _) | (intro _)

theorem stall_kept {r : State} (s : State) (h : Kept r s) :
    Kept r (stall s) := by
  unfold stall
  try dsimp only
  repeat first
    | with_reducible exact h | with_reducible assumption | with_reducible apply kept_ite | split
    | fail_if_no_progress with_reducible apply kept_mk | (intro _ _ _) | (intro _ _) | (intro _)

theorem streamed_kept {r : State} (q len : Nat) (s : State) (h : Kept r s) :
    Kept r (streamed q len s) := by
  unfold streamed
  try dsimp only
  repeat first
    | with_reducible exact h | with_reducible assumption | with_reducible apply advanceGen_kept
    | with_reducible apply touch_kept | with_reducible apply kept_ite | split | (intro _ _ _) | (intro _ _)
    | (intro _)

theorem postNotice_kept {r : State} (q : Nat) (seq : Word) (s : State) (h : Kept r s) :
    Kept r (postNotice q seq s) := by
  unfold postNotice
  try dsimp only
  repeat first
    | with_reducible exact h | with_reducible assumption | with_reducible apply post_kept
    | with_reducible apply kept_ite | split | fail_if_no_progress with_reducible apply kept_mk | (intro _ _ _)
    | (intro _ _) | (intro _)

theorem accept_kept {r : State} (q : Nat) (inCh : Bool) (src : Byte) (payload : Bytes) (s : State) (h : Kept r s) :
    Kept r (accept q inCh src payload s) := by
  unfold accept
  try dsimp only
  repeat first
    | with_reducible exact h | with_reducible assumption | with_reducible apply advanceGen_kept
    | with_reducible apply touch_kept | with_reducible apply markParts_kept | with_reducible apply setQueue_kept
    | with_reducible apply stageEpoch_kept | with_reducible apply kept_ite | split
    | fail_if_no_progress with_reducible apply kept_mk | (intro _ _ _) | (intro _ _) | (intro _)

theorem popHead_kept {r : State} (q : Nat) (s : State) (h : Kept r s) :
    Kept r (popHead q s) := by
  unfold popHead
  try dsimp only
  repeat first
    | with_reducible exact h | with_reducible assumption | with_reducible apply markParts_kept
    | with_reducible apply setQueue_kept | with_reducible apply stageRelease_kept | with_reducible apply kept_ite
    | split | (intro _ _ _) | (intro _ _) | (intro _)

theorem retireHead_kept {r : State} (q : Nat) (s : State) (h : Kept r s) :
    Kept r (retireHead q s) := by
  unfold retireHead
  try dsimp only
  repeat first
    | with_reducible exact h | with_reducible assumption | with_reducible apply touch_kept
    | with_reducible apply markParts_kept | with_reducible apply setQueue_kept
    | with_reducible apply stageRelease_kept | with_reducible apply kept_ite | split | (intro _ _ _) | (intro _ _)
    | (intro _)

theorem purge_kept {r : State} (q : Nat) (s : State) (h : Kept r s) :
    Kept r (purge q s) := by
  unfold purge
  try dsimp only
  repeat first
    | with_reducible exact h | with_reducible assumption | with_reducible apply markParts_kept
    | with_reducible apply setQueue_kept | with_reducible apply stageRelease_kept | with_reducible apply kept_ite
    | split | (intro _ _ _) | (intro _ _) | (intro _)

theorem countLost_kept {r : State} (q n : Nat) (s : State) (h : Kept r s) :
    Kept r (countLost q n s) := by
  unfold countLost
  try dsimp only
  repeat first
    | with_reducible exact h | with_reducible assumption | with_reducible apply postRepair_kept
    | with_reducible apply kept_ite | split | fail_if_no_progress with_reducible apply kept_mk | (intro _ _ _)
    | (intro _ _) | (intro _)

theorem releaseLost_kept {r : State} (q : Nat) (inCh : Bool) (seq : Word) (s : State) (h : Kept r s) :
    Kept r (releaseLost q inCh seq s) := by
  unfold releaseLost
  try dsimp only
  repeat first
    | with_reducible exact h | with_reducible assumption | with_reducible apply stageRelease_kept
    | with_reducible apply kept_ite | split | fail_if_no_progress with_reducible apply kept_mk | (intro _ _ _)
    | (intro _ _) | (intro _)

theorem loseFrames_kept {r : State} (q : Nat) (inCh : Bool) (keep : Nat) (forGood : Bool) (s : State) (h : Kept r s) :
    Kept r (loseFrames q inCh keep forGood s) := by
  unfold loseFrames
  try dsimp only
  repeat first
    | with_reducible exact h | with_reducible assumption | with_reducible apply markParts_kept
    | with_reducible apply setQueue_kept | with_reducible apply countLost_kept | with_reducible apply releaseLost_kept
    | with_reducible apply kept_ite | split | (intro _ _ _) | (intro _ _) | (intro _)

theorem dropUnreadable_kept {r : State} (q : Nat) (inCh : Bool) (i : Nat) (s : State) (h : Kept r s) :
    Kept r (dropUnreadable q inCh i s) := by
  unfold dropUnreadable
  try dsimp only
  repeat first
    | with_reducible exact h | with_reducible assumption | with_reducible apply loseFrames_kept
    | with_reducible apply kept_ite | split | (intro _ _ _) | (intro _ _) | (intro _)

theorem macRead_kept {r : State} (q : Nat) (s : State) (h : Kept r s) :
    Kept r (macRead q s) := by
  unfold macRead
  try dsimp only
  repeat first
    | with_reducible exact h | with_reducible assumption | with_reducible apply dropUnreadable_kept
    | with_reducible apply touch_kept | with_reducible apply kept_ite | split | (intro _ _ _) | (intro _ _)
    | (intro _)

theorem commitStage_kept {r : State} (fails : List (Nat × Bool)) (more : List NewRec) (s : State) (h : Kept r s) :
    Kept r (commitStage fails more s) := by
  unfold commitStage
  try dsimp only
  repeat first
    | with_reducible exact h | with_reducible assumption | with_reducible apply commitFail_kept
    | with_reducible apply stageWaiting_kept | with_reducible apply kept_ite | split
    | fail_if_no_progress with_reducible apply kept_mk | (intro _ _ _) | (intro _ _) | (intro _)

theorem postQto_kept {r : State} (q : Nat) (s : State) (h : Kept r s) :
    Kept r (postQto q s) := by
  unfold postQto
  try dsimp only
  repeat first
    | with_reducible exact h | with_reducible assumption | with_reducible apply post_kept
    | with_reducible apply setQueue_kept | with_reducible apply kept_ite | split | (intro _ _ _) | (intro _ _)
    | (intro _)

theorem refuseSegment_kept {r : State} (i : Nat) (s : State) (h : Kept r s) :
    Kept r (refuseSegment i s).1 := by
  unfold refuseSegment
  try dsimp only
  repeat first
    | with_reducible exact h | with_reducible assumption | with_reducible apply advanceGen_kept
    | with_reducible apply kept_ite | split | fail_if_no_progress with_reducible apply kept_mk | (intro _ _ _)
    | (intro _ _) | (intro _)

theorem requestWake_kept {r : State} (b : Nat) (s : State) (h : Kept r s) :
    Kept r (requestWake b s) := by
  unfold requestWake
  try dsimp only
  repeat first
    | with_reducible exact h | with_reducible assumption | with_reducible apply kept_ite | split
    | fail_if_no_progress with_reducible apply kept_mk | (intro _ _ _) | (intro _ _) | (intro _)

theorem postRefusedSwitch_kept {r : State} (s : State) (h : Kept r s) :
    Kept r (postRefusedSwitch s) := by
  unfold postRefusedSwitch
  try dsimp only
  repeat first
    | with_reducible exact h | with_reducible assumption | with_reducible apply post_kept
    | with_reducible apply kept_ite | split | (intro _ _ _) | (intro _ _) | (intro _)

theorem courseTrigger_kept {r : State} (matched : List Nat) (s : State) (h : Kept r s) :
    Kept r (courseTrigger matched s) := by
  unfold courseTrigger
  try dsimp only
  repeat first
    | with_reducible exact h | with_reducible assumption | with_reducible apply postRefusedSwitch_kept
    | with_reducible apply kept_ite | split | fail_if_no_progress with_reducible apply kept_mk | (intro _ _ _)
    | (intro _ _) | (intro _)

theorem pinAction_kept {r : State} (act pin : Nat) (s : State) (h : Kept r s) :
    Kept r (pinAction act pin s) := by
  unfold pinAction
  try dsimp only
  repeat first
    | with_reducible exact h | with_reducible assumption | with_reducible apply setLive_kept
    | with_reducible apply kept_ite | split | (intro _ _ _) | (intro _ _) | (intro _)

theorem setCmp_kept {r : State} (n : Nat) (c : Compare) (s : State) (h : Kept r s) :
    Kept r (setCmp n c s) := by
  unfold setCmp
  try dsimp only
  repeat first
    | with_reducible exact h | with_reducible assumption | with_reducible apply kept_ite | split
    | fail_if_no_progress with_reducible apply kept_mk | (intro _ _ _) | (intro _ _) | (intro _)

theorem setCnt_kept {r : State} (n : Nat) (c : Counter) (s : State) (h : Kept r s) :
    Kept r (setCnt n c s) := by
  unfold setCnt
  try dsimp only
  repeat first
    | with_reducible exact h | with_reducible assumption | with_reducible apply kept_ite | split
    | fail_if_no_progress with_reducible apply kept_mk | (intro _ _ _) | (intro _ _) | (intro _)

theorem armCmp_kept {r : State} (n : Nat) (s : State) (h : Kept r s) :
    Kept r (armCmp n s) := by
  unfold armCmp
  try dsimp only
  repeat first
    | with_reducible exact h | with_reducible assumption | with_reducible apply setCmp_kept
    | with_reducible apply kept_ite | split | (intro _ _ _) | (intro _ _) | (intro _)

theorem setCmpCfg_kept {r : State} (n v : Nat) (s : State) (h : Kept r s) :
    Kept r (setCmpCfg n v s) := by
  unfold setCmpCfg
  try dsimp only
  repeat first
    | with_reducible exact h | with_reducible assumption | with_reducible apply setLive_kept
    | with_reducible apply armCmp_kept | with_reducible apply kept_ite | split | (intro _ _ _) | (intro _ _)
    | (intro _)

theorem setCmpEn_kept {r : State} (n : Nat) (on : Bool) (s : State) (h : Kept r s) :
    Kept r (setCmpEn n on s) := by
  unfold setCmpEn
  try dsimp only
  repeat first
    | with_reducible exact h | with_reducible assumption | with_reducible apply setCmpCfg_kept
    | with_reducible apply kept_ite | split | (intro _ _ _) | (intro _ _) | (intro _)

theorem setCntCfg_kept {r : State} (n v : Nat) (s : State) (h : Kept r s) :
    Kept r (setCntCfg n v s) := by
  unfold setCntCfg
  try dsimp only
  repeat first
    | with_reducible exact h | with_reducible assumption | with_reducible apply setLive_kept
    | with_reducible apply kept_ite | split | fail_if_no_progress with_reducible apply kept_mk | (intro _ _ _)
    | (intro _ _) | (intro _)

theorem putPair_kept {r : State} (u : Nat) (c : CapPair) (s : State) (h : Kept r s) :
    Kept r (putPair u c s) := by
  unfold putPair
  try dsimp only
  repeat first
    | with_reducible exact h | with_reducible assumption | with_reducible apply kept_ite | split
    | fail_if_no_progress with_reducible apply kept_mk | (intro _ _ _) | (intro _ _) | (intro _)

theorem putSingle_kept {r : State} (k : Nat) (c : CapSingle) (s : State) (h : Kept r s) :
    Kept r (putSingle k c s) := by
  unfold putSingle
  try dsimp only
  repeat first
    | with_reducible exact h | with_reducible assumption | with_reducible apply kept_ite | split
    | fail_if_no_progress with_reducible apply kept_mk | (intro _ _ _) | (intro _ _) | (intro _)

theorem flushEdges_kept {r : State} (s : State) (h : Kept r s) :
    Kept r (flushEdges s) := by
  unfold flushEdges
  try dsimp only
  repeat first
    | with_reducible exact h | with_reducible assumption | with_reducible apply putPair_kept
    | with_reducible apply putSingle_kept | with_reducible apply kept_ite | split
    | fail_if_no_progress with_reducible apply kept_mk | with_reducible apply foldl_kept | (intro _ _ _) | (intro _ _)
    | (intro _)

theorem captureEdge_kept {r : State} (u : Nat) (s : State) (h : Kept r s) :
    Kept r (captureEdge u s) := by
  unfold captureEdge
  try dsimp only
  repeat first
    | with_reducible exact h | with_reducible assumption | with_reducible apply putPair_kept
    | with_reducible apply putSingle_kept | with_reducible apply kept_ite | split
    | fail_if_no_progress with_reducible apply kept_mk | (intro _ _ _) | (intro _ _) | (intro _)

theorem clearNew_kept {r : State} (u : Nat) (rise fall : Bool) (s : State) (h : Kept r s) :
    Kept r (clearNew u rise fall s) := by
  unfold clearNew
  try dsimp only
  repeat first
    | with_reducible exact h | with_reducible assumption | with_reducible apply putPair_kept
    | with_reducible apply putSingle_kept | with_reducible apply kept_ite | split | (intro _ _ _) | (intro _ _)
    | (intro _)

theorem setCapCfg_kept {r : State} (u v : Nat) (s : State) (h : Kept r s) :
    Kept r (setCapCfg u v s) := by
  unfold setCapCfg
  try dsimp only
  repeat first
    | with_reducible exact h | with_reducible assumption | with_reducible apply flushEdges_kept
    | with_reducible apply setLive_kept | with_reducible apply kept_ite | split
    | fail_if_no_progress with_reducible apply kept_mk | (intro _ _ _) | (intro _ _) | (intro _)

theorem hodDrop_kept {r : State} (s : State) (h : Kept r s) :
    Kept r (hodDrop s) := by
  unfold hodDrop
  try dsimp only
  repeat first
    | with_reducible exact h | with_reducible assumption | with_reducible apply kept_ite | split
    | fail_if_no_progress with_reducible apply kept_mk | (intro _ _ _) | (intro _ _) | (intro _)

theorem journalStall_kept {r : State} (q : Nat) (inCh : Bool) (src : Byte) (payload : Bytes) (s : State) (h : Kept r s) :
    Kept r (journalStall q inCh src payload s) := by
  unfold journalStall
  try dsimp only
  repeat first
    | with_reducible exact h | with_reducible assumption | with_reducible apply stall_kept
    | with_reducible apply kept_ite | split | (intro _ _ _) | (intro _ _) | (intro _)

theorem hodAppend_kept {r : State} (n : Nat) (s : State) (h : Kept r s) :
    Kept r (hodAppend n s) := by
  unfold hodAppend
  try dsimp only
  repeat first
    | with_reducible exact h | with_reducible assumption | with_reducible apply hodDrop_kept
    | with_reducible apply journalStall_kept | with_reducible apply postNotice_kept | with_reducible apply accept_kept
    | with_reducible apply kept_ite | split | fail_if_no_progress with_reducible apply kept_mk | (intro _ _ _)
    | (intro _ _) | (intro _)

theorem hodRecord_kept {r0 : State} (n : Nat) (r : Bytes) (s : State) (h : Kept r0 s) :
    Kept r0 (hodRecord n r s) := by
  unfold hodRecord
  try dsimp only
  repeat first
    | with_reducible exact h | with_reducible assumption | with_reducible apply hodDrop_kept
    | with_reducible apply hodAppend_kept | with_reducible apply kept_ite | split
    | fail_if_no_progress with_reducible apply kept_mk | (intro _ _ _) | (intro _ _) | (intro _)

theorem stageCkpt_kept {r : State} (k : Checkpoint) (s : State) (h : Kept r s) :
    Kept r (stageCkpt k s) := by
  unfold stageCkpt
  try dsimp only
  repeat first
    | with_reducible exact h | with_reducible assumption | with_reducible apply kept_ite | split
    | fail_if_no_progress with_reducible apply kept_mk | (intro _ _ _) | (intro _ _) | (intro _)

theorem hodRequest_kept {r : State} (n : Nat) (s : State) (h : Kept r s) :
    Kept r (hodRequest n s) := by
  unfold hodRequest
  try dsimp only
  repeat first
    | with_reducible exact h | with_reducible assumption | with_reducible apply hodRecord_kept
    | with_reducible apply putPair_kept | with_reducible apply putSingle_kept | with_reducible apply stageCkpt_kept
    | with_reducible apply kept_ite | split | fail_if_no_progress with_reducible apply kept_mk | (intro _ _ _)
    | (intro _ _) | (intro _)

theorem matchCmp_kept {r : State} (y : Time48) (late : Bool) (n : Nat) (s : State) (h : Kept r s) :
    Kept r (matchCmp y late n s) := by
  unfold matchCmp
  try dsimp only
  repeat first
    | with_reducible exact h | with_reducible assumption | with_reducible apply setCmp_kept
    | with_reducible apply requestWake_kept | with_reducible apply kept_ite | split
    | fail_if_no_progress with_reducible apply kept_mk | (intro _ _ _) | (intro _ _) | (intro _)

theorem loseTriggers_kept {r : State} (n : Nat) (s : State) (h : Kept r s) :
    Kept r (loseTriggers n s) := by
  unfold loseTriggers
  try dsimp only
  repeat first
    | with_reducible exact h | with_reducible assumption | with_reducible apply kept_ite | split
    | fail_if_no_progress with_reducible apply kept_mk | (intro _ _ _) | (intro _ _) | (intro _)

theorem deliver_kept {r : State} (n : Nat) (on : Bool) (act : State → State) (s : State)
    (ha : ∀ t, Kept r t → Kept r (act t)) (h : Kept r s) : Kept r (deliver n on act s) := by
  unfold deliver
  exact kept_ite h (kept_ite (ha _ (loseTriggers_kept _ _ h)) (loseTriggers_kept _ _ h))

theorem deliverTriggers_kept {r : State} (ts : List Nat) (s : State) (h : Kept r s) : Kept r (deliverTriggers ts s) := by
  unfold deliverTriggers
  refine foldl_kept _ _ _ (foldl_kept _ _ _ (deliver_kept _ _ _ _ (fun t ht => kept_mk ht ..) h) fun t n ht =>
    deliver_kept _ _ _ _ (fun u hu => hodRequest_kept _ _ hu) ht) fun t n ht =>
      kept_ite (setCmpEn_kept _ _ _ ht) (kept_ite (setCmpEn_kept _ _ _ ht) ht)

theorem sampleCaptures_kept {r : State} (pins : BitVec 12) (s : State) (h : Kept r s) :
    Kept r (sampleCaptures pins s) := by
  unfold sampleCaptures
  try dsimp only
  repeat first
    | with_reducible exact h | with_reducible assumption | with_reducible apply requestWake_kept
    | with_reducible apply kept_ite | split | fail_if_no_progress with_reducible apply kept_mk
    | with_reducible apply foldl_kept | (intro _ _ _) | (intro _ _) | (intro _)

theorem countOne_kept {r : State} (fuel n : Nat) (x : State × List Nat) (h : Kept r x.1) :
    Kept r (countOne fuel n x).1 := by
  induction fuel generalizing n x with
  | zero => exact h
  | succ fuel ih =>
    obtain ⟨s, ov⟩ := x
    unfold countOne
    extract_lets c t
    have ht : Kept r t := setCnt_kept _ _ _ h
    split
    · rename_i u y z w k hc
      have hu : Kept r u := kept_ite (requestWake_kept _ _ ht) ht
      have hz : Kept r z.1 := by
        unfold z
        split
        · exact ih _ _ hu
        · exact hu
      split
      · exact ih _ _ hz
      · exact hz
    · exact ht

theorem sampleCounters_kept {r : State} (pins : BitVec 12) (s : State) (h : Kept r s) :
    Kept r (sampleCounters pins s).1 := by
  unfold sampleCounters
  refine foldl2_kept _ _ _ h fun x n hx => ?_
  dsimp only
  split
  · split
    · split
      · exact countOne_kept _ _ _ (kept_ite (requestWake_kept 3 _ (kept_mk hx ..)) (kept_mk hx ..))
      · exact kept_ite (requestWake_kept 3 _ (kept_mk hx ..)) (kept_mk hx ..)
    · exact kept_mk hx ..
  · exact hx

theorem fallStep_kept {r : State} (s : State) (h : Kept r s) :
    Kept r (fallStep s) := by
  unfold fallStep
  try dsimp only
  repeat first
    | with_reducible exact h | with_reducible assumption | with_reducible apply kept_ite | split
    | fail_if_no_progress with_reducible apply kept_mk | (intro _ _ _) | (intro _ _) | (intro _)

theorem countTrigger_kept {r : State} (x : State × List Nat) (t : Nat) (h : Kept r x.1) :
    Kept r (countTrigger x t).1 := by
  unfold countTrigger
  dsimp only
  split
  · exact countOne_kept _ _ _ h
  · exact h

theorem stepActions_kept {r : State} (matched : List Nat) (x : State × List Nat) (h : Kept r x.1) :
    Kept r (stepActions matched x) := by
  unfold stepActions
  refine courseTrigger_kept _ _ (deliverTriggers_kept _ _ (foldl_kept _ _ _ (foldl_kept _ _ _
    (foldl2_kept _ _ _ h fun y t hy => countTrigger_kept y t hy) fun t n ht => pinAction_kept _ _ _ ht)
    fun t n ht => pinAction_kept _ _ _ ht))

theorem timeStep_kept {r : State} (pins : BitVec 12) (s : State) (h : Kept r s) : Kept r (timeStep pins s) := by
  unfold timeStep
  refine kept_ite h (stepActions_kept _ _ (sampleCounters_kept _ _ (sampleCaptures_kept _ _ ?_)))
  exact foldl_kept _ _ _ (kept_mk (fallStep_kept _ (flushEdges_kept _ h)) ..) fun t n ht => matchCmp_kept _ _ _ _ ht

theorem stepNtime_kept {r : State} (e : Int) (s : State) (h : Kept r s) : Kept r (stepNtime e s) := by
  unfold stepNtime
  refine kept_ite (stepActions_kept _ _ ?_) (kept_mk h ..)
  exact foldl_kept _ _ _ (kept_mk h ..) fun t n ht => matchCmp_kept _ _ _ _ ht

theorem snapshot_kept {r : State} (s : State) (h : Kept r s) :
    Kept r (snapshot s) := by
  unfold snapshot
  try dsimp only
  repeat first
    | with_reducible exact h | with_reducible assumption | with_reducible apply kept_ite | split
    | fail_if_no_progress with_reducible apply kept_mk | (intro _ _ _) | (intro _ _) | (intro _)

theorem staggerGo_kept {r : State} (mask : Nat) (base : Time48) (spacing period : Nat) (s : State) (h : Kept r s) :
    Kept r (staggerGo mask base spacing period s) := by
  unfold staggerGo
  try dsimp only
  repeat first
    | with_reducible exact h | with_reducible assumption | with_reducible apply setCmp_kept
    | with_reducible apply armCmp_kept | with_reducible apply setLive_kept | with_reducible apply kept_ite | split
    | fail_if_no_progress with_reducible apply kept_mk | with_reducible apply foldl_kept | (intro _ _ _) | (intro _ _)
    | (intro _)

theorem clearCmpStat_kept {r : State} (w : Nat) (s : State) (h : Kept r s) :
    Kept r (clearCmpStat w s) := by
  unfold clearCmpStat
  try dsimp only
  repeat first
    | with_reducible exact h | with_reducible assumption | with_reducible apply setCmp_kept
    | with_reducible apply kept_ite | split | fail_if_no_progress with_reducible apply kept_mk
    | with_reducible apply foldl_kept | (intro _ _ _) | (intro _ _) | (intro _)

theorem setPulse_kept {r : State} (n : Nat) (c : PulseCh) (s : State) (h : Kept r s) :
    Kept r (setPulse n c s) := by
  unfold setPulse
  try dsimp only
  repeat first
    | with_reducible exact h | with_reducible assumption | with_reducible apply kept_ite | split
    | fail_if_no_progress with_reducible apply kept_mk | (intro _ _ _) | (intro _ _) | (intro _)

theorem countPulse_kept {r : State} (n : Nat) (s : State) (h : Kept r s) : Kept r (countPulse n s) :=
  kept_ite (stepActions_kept _ _ (countOne_kept _ _ _ h)) h

theorem samplePulse_kept {r : State} (n ratio : Nat) (s : State) (h : Kept r s) :
    Kept r (samplePulse n ratio s) := by
  unfold samplePulse
  try dsimp only
  repeat first
    | with_reducible exact h | with_reducible assumption | with_reducible apply setPulse_kept
    | with_reducible apply countPulse_kept | with_reducible apply kept_ite | split | (intro _ _ _) | (intro _ _)
    | (intro _)

theorem pulseSample_kept {r : State} (n ratio : Nat) (s : State) (h : Kept r s) :
    Kept r (pulseSample n ratio s) := by
  unfold pulseSample
  try dsimp only
  repeat first
    | with_reducible exact h | with_reducible assumption | with_reducible apply samplePulse_kept
    | with_reducible apply kept_ite | split | (intro _ _ _) | (intro _ _) | (intro _)

theorem setLine_kept {r : State} (n : Nat) (new : LineState) (s : State) (h : Kept r s) :
    Kept r (setLine n new s) := by
  unfold setLine
  try dsimp only
  repeat first
    | with_reducible exact h | with_reducible assumption | with_reducible apply setPulse_kept
    | with_reducible apply requestWake_kept | with_reducible apply post_kept | with_reducible apply kept_ite | split
    | (intro _ _ _) | (intro _ _) | (intro _)

theorem supervise_kept {r : State} (n : Nat) (code : AdcCode) (s : State) (h : Kept r s) :
    Kept r (supervise n code s) := by
  unfold supervise
  try dsimp only
  repeat first
    | with_reducible exact h | with_reducible assumption | with_reducible apply setPulse_kept
    | with_reducible apply setLine_kept | with_reducible apply kept_ite | split
    | fail_if_no_progress with_reducible apply kept_mk | (intro _ _ _) | (intro _ _) | (intro _)

theorem corrected_kept {r : State} (raw : BitVec 12) (s : State) (h : Kept r s) :
    Kept r (corrected raw s).2 := by
  unfold corrected
  try dsimp only
  repeat first
    | with_reducible exact h | with_reducible assumption | with_reducible apply freeBits_kept
    | with_reducible apply kept_ite | split | (intro _ _ _) | (intro _ _) | (intro _)

theorem takeCode_kept {r : State} (codes : List AdcCode) (s : State) (h : Kept r s) :
    Kept r (takeCode codes s).2.2 := by
  unfold takeCode
  split
  · exact corrected_kept _ _ (corrected_kept _ _ h)
  · repeat first | with_reducible exact h | with_reducible apply corrected_kept | with_reducible apply freeBits_kept

theorem startChannel_kept {r : State} (n : Nat) (s : State) (h : Kept r s) : Kept r (startChannel n s) := by
  have h1 := setLine_kept n .unknown _ (setPulse_kept n { getPulse s n with out := (getPulse s n).level, run := 0 } _ h)
  unfold startChannel
  dsimp only
  generalize setLine n .unknown _ = t at h1
  exact kept_ite h1 (kept_ite (supervise_kept _ _ _ (takeCode_kept _ _ (setPulse_kept _ _ _ h1))) (setPulse_kept _ _ _ h1))

theorem setPulseCfg_kept {r : State} (n v : Nat) (s : State) (h : Kept r s) :
    Kept r (setPulseCfg n v s) := by
  unfold setPulseCfg
  try dsimp only
  repeat first
    | with_reducible exact h | with_reducible assumption | with_reducible apply setLive_kept
    | with_reducible apply startChannel_kept | with_reducible apply setPulse_kept | with_reducible apply kept_ite
    | split | (intro _ _ _) | (intro _ _) | (intro _)

theorem routeResult_kept {r : State} (k entry result : Nat) (s : State) (h : Kept r s) :
    Kept r (routeResult k entry result s) := by
  unfold routeResult
  try dsimp only
  repeat first
    | with_reducible exact h | with_reducible assumption | with_reducible apply hodRecord_kept
    | with_reducible apply kept_ite | split | (intro _ _ _) | (intro _ _) | (intro _)

theorem runEntry_kept {r : State} (k : Nat) (codes : List AdcCode) (s : State) (h : Kept r s) :
    Kept r (runEntry k codes s).2 := by
  simp only [runEntry]
  refine routeResult_kept _ _ _ _ ?_
  split
  · split
    · exact kept_mk h ..
    · exact kept_mk (supervise_kept _ _ _ (takeCode_kept _ _ h)) ..
  · exact kept_mk (takeCode_kept _ _ h) ..

theorem runEntries_kept {r : State} (n k : Nat) (codes : List AdcCode) (s : State) (h : Kept r s) :
    Kept r (runEntries n k codes s) := by
  induction n generalizing k codes s with
  | zero => exact h
  | succ n ih => exact ih _ _ _ (runEntry_kept k codes s h)

theorem runStarts_kept {r : State} (l : List Nat) (codes : List AdcCode) (s : State) (h : Kept r s) :
    Kept r (runStarts l codes s).2 := by
  induction l generalizing codes s with
  | nil => exact h
  | cons n ns ih =>
    simp only [runStarts]
    split
    · exact ih _ _ (supervise_kept _ _ _ (takeCode_kept _ _ h))
    · exact ih _ _ h

theorem runSequence_kept {r : State} (codes : List AdcCode) (s : State) (h : Kept r s) :
    Kept r (runSequence codes s) := by
  unfold runSequence
  try dsimp only
  repeat first
    | with_reducible exact h | with_reducible assumption | with_reducible apply runStarts_kept
    | with_reducible apply runEntries_kept | with_reducible apply kept_ite | split
    | fail_if_no_progress with_reducible apply kept_mk | (intro _ _ _) | (intro _ _) | (intro _)

theorem adcBegin_kept {r : State} (codes : List AdcCode) (s : State) (h : Kept r s) :
    Kept r (adcBegin codes s) := by
  unfold adcBegin
  try dsimp only
  repeat first
    | with_reducible exact h | with_reducible assumption | with_reducible apply runSequence_kept
    | with_reducible apply kept_ite | split | fail_if_no_progress with_reducible apply kept_mk | (intro _ _ _)
    | (intro _ _) | (intro _)

theorem adcTriggered_kept {r : State} (codes : List AdcCode) (s : State) (h : Kept r s) :
    Kept r (adcTriggered codes s) := by
  unfold adcTriggered
  try dsimp only
  repeat first
    | with_reducible exact h | with_reducible assumption | with_reducible apply adcBegin_kept
    | with_reducible apply kept_ite | split | fail_if_no_progress with_reducible apply kept_mk | (intro _ _ _)
    | (intro _ _) | (intro _)

theorem adcEnd_kept {r : State} (codes : List AdcCode) (s : State) (h : Kept r s) :
    Kept r (adcEnd codes s) := by
  unfold adcEnd
  try dsimp only
  repeat first
    | with_reducible exact h | with_reducible assumption | with_reducible apply runSequence_kept
    | with_reducible apply kept_ite | split | fail_if_no_progress with_reducible apply kept_mk | (intro _ _ _)
    | (intro _ _) | (intro _)

theorem hodFlush_kept {r : State} (n : Nat) (s : State) (h : Kept r s) :
    Kept r (hodFlush n s) := by
  unfold hodFlush
  try dsimp only
  repeat first
    | with_reducible exact h | with_reducible assumption | with_reducible apply hodAppend_kept
    | with_reducible apply kept_ite | split | (intro _ _ _) | (intro _ _) | (intro _)

theorem restoreCounters_kept {r : State} (s : State) (h : Kept r s) :
    Kept r (restoreCounters s) := by
  unfold restoreCounters
  try dsimp only
  repeat first
    | with_reducible exact h | with_reducible assumption | with_reducible apply setCnt_kept
    | with_reducible apply setPulse_kept | with_reducible apply kept_ite | split
    | fail_if_no_progress with_reducible apply kept_mk | with_reducible apply foldl_kept | (intro _ _ _) | (intro _ _)
    | (intro _)

theorem cutChains_kept {r : State} (lost : Nat → Bool) (s : State) (h : Kept r s) :
    Kept r (cutChains lost s) := by
  unfold cutChains
  try dsimp only
  repeat first
    | with_reducible exact h | with_reducible assumption | with_reducible apply loseFrames_kept
    | with_reducible apply kept_ite | split | fail_if_no_progress with_reducible apply kept_mk
    | with_reducible apply foldl_kept | (intro _ _ _) | (intro _ _) | (intro _)

theorem bankFailed_kept {r : State} (bank : Nat) (s : State) (h : Kept r s) :
    Kept r (bankFailed bank s) := by
  unfold bankFailed
  try dsimp only
  repeat first
    | with_reducible exact h | with_reducible assumption | with_reducible apply cutChains_kept
    | with_reducible apply enterRepair_kept | with_reducible apply kept_ite | split
    | fail_if_no_progress with_reducible apply kept_mk | (intro _ _ _) | (intro _ _) | (intro _)

theorem remapRow_kept {r : State} (bank row : Nat) (s : State) (h : Kept r s) :
    Kept r (remapRow bank row s) := by
  unfold remapRow
  try dsimp only
  repeat first
    | with_reducible exact h | with_reducible assumption | with_reducible apply bankFailed_kept
    | with_reducible apply enterRepair_kept | with_reducible apply kept_ite | split
    | fail_if_no_progress with_reducible apply kept_mk | (intro _ _ _) | (intro _ _) | (intro _)

theorem uncorrectableRow_kept {r : State} (bank row : Nat) (s : State) (h : Kept r s) :
    Kept r (uncorrectableRow bank row s) := by
  unfold uncorrectableRow
  try dsimp only
  repeat first
    | with_reducible exact h | with_reducible assumption | with_reducible apply cutChains_kept
    | with_reducible apply bankFailed_kept | with_reducible apply remapRow_kept | with_reducible apply kept_ite
    | split | fail_if_no_progress with_reducible apply kept_mk | (intro _ _ _) | (intro _ _) | (intro _)

theorem ashlarScrub_kept {r : State} (bank row : Nat) (found : Ecc) (s : State) (h : Kept r s) :
    Kept r (ashlarScrub bank row found s) := by
  unfold ashlarScrub
  try dsimp only
  repeat first
    | with_reducible exact h | with_reducible assumption | with_reducible apply remapRow_kept
    | with_reducible apply uncorrectableRow_kept | with_reducible apply kept_ite | split
    | fail_if_no_progress with_reducible apply kept_mk | (intro _ _ _) | (intro _ _) | (intro _)

theorem takeSpare_kept {r : State} (bank k : Nat) (s : State) (h : Kept r s) :
    Kept r (takeSpare bank k s) := by
  unfold takeSpare
  try dsimp only
  repeat first
    | with_reducible exact h | fail_if_no_progress with_reducible apply kept_mk

theorem migrationEnd_kept {r : State} (s : State) (h : Kept r s) :
    Kept r (migrationEnd s) := by
  unfold migrationEnd
  try dsimp only
  repeat first
    | with_reducible exact h | with_reducible assumption | with_reducible apply takeSpare_kept
    | with_reducible apply enterRepair_kept
    | with_reducible apply kept_ite | split | fail_if_no_progress with_reducible apply kept_mk | (intro _ _ _)
    | (intro _ _) | (intro _)

theorem segmentRefused_kept {r : State} (i : Nat) (s : State) (h : Kept r s) :
    Kept r (segmentRefused i s) := by
  unfold segmentRefused
  try dsimp only
  repeat first
    | with_reducible exact h | with_reducible assumption | with_reducible apply refuseSegment_kept
    | with_reducible apply bankFailed_kept | with_reducible apply kept_ite | split
    | fail_if_no_progress with_reducible apply kept_mk | (intro _ _ _) | (intro _ _) | (intro _)

theorem sliceFailed_kept {r : State} (slice : Nat) (s : State) (h : Kept r s) :
    Kept r (sliceFailed slice s) := by
  unfold sliceFailed
  try dsimp only
  repeat first
    | with_reducible exact h | with_reducible assumption | with_reducible apply loseFrames_kept
    | with_reducible apply enterRepair_kept | with_reducible apply kept_ite | split
    | fail_if_no_progress with_reducible apply kept_mk | with_reducible apply foldl_kept | (intro _ _ _) | (intro _ _)
    | (intro _)

theorem keystoneScrub_kept {r : State} (slice stone : Nat) (found : Ecc) (s : State) (h : Kept r s) :
    Kept r (keystoneScrub slice stone found s) := by
  unfold keystoneScrub
  try dsimp only
  repeat first
    | with_reducible exact h | with_reducible assumption | with_reducible apply sliceFailed_kept
    | with_reducible apply kept_ite | split | fail_if_no_progress with_reducible apply kept_mk | (intro _ _ _)
    | (intro _ _) | (intro _)

theorem sliceIdleOff_kept {r : State} (slice : Nat) (s : State) (h : Kept r s) :
    Kept r (sliceIdleOff slice s) := by
  unfold sliceIdleOff
  try dsimp only
  repeat first
    | with_reducible exact h | with_reducible assumption | with_reducible apply kept_ite | split
    | fail_if_no_progress with_reducible apply kept_mk | (intro _ _ _) | (intro _ _) | (intro _)

theorem applyLaneFail_kept {r : State} (p : Nat) (s : State) (h : Kept r s) :
    Kept r (applyLaneFail p s) := by
  unfold applyLaneFail
  try dsimp only
  repeat first
    | with_reducible exact h | with_reducible assumption | with_reducible apply kept_ite | split
    | fail_if_no_progress with_reducible apply kept_mk | (intro _ _ _) | (intro _ _) | (intro _)

theorem laneReassign_kept {r : State} (s : State) (h : Kept r s) :
    Kept r (laneReassign s) := by
  unfold laneReassign
  try dsimp only
  repeat first
    | with_reducible exact h | with_reducible assumption | with_reducible apply enterRepair_kept
    | with_reducible apply applyLaneFail_kept | with_reducible apply kept_ite | split
    | fail_if_no_progress with_reducible apply kept_mk | (intro _ _ _) | (intro _ _) | (intro _)

theorem pathFailed_kept {r : State} (p : Nat) (s : State) (h : Kept r s) :
    Kept r (pathFailed p s) := by
  unfold pathFailed
  try dsimp only
  repeat first
    | with_reducible exact h | with_reducible assumption | with_reducible apply enterRepair_kept
    | with_reducible apply kept_ite | split | fail_if_no_progress with_reducible apply kept_mk | (intro _ _ _)
    | (intro _ _) | (intro _)

theorem nextUnit_kept {r : State} (s : State) (h : Kept r s) :
    Kept r (nextUnit s) := by
  unfold nextUnit
  try dsimp only
  repeat first
    | with_reducible exact h | with_reducible assumption | with_reducible apply kept_ite | split
    | fail_if_no_progress with_reducible apply kept_mk | (intro _ _ _) | (intro _ _) | (intro _)

theorem selfTest_kept {r : State} (pass : Bool) (s : State) (h : Kept r s) :
    Kept r (selfTest pass s) := by
  unfold selfTest
  try dsimp only
  repeat first
    | with_reducible exact h | with_reducible assumption | with_reducible apply nextUnit_kept
    | with_reducible apply pathFailed_kept | with_reducible apply postRepair_kept | with_reducible apply kept_ite
    | split | fail_if_no_progress with_reducible apply kept_mk | (intro _ _ _) | (intro _ _) | (intro _)

theorem bistSkip_kept {r : State} (s : State) (h : Kept r s) :
    Kept r (bistSkip s) := by
  unfold bistSkip
  try dsimp only
  repeat first
    | with_reducible exact h | with_reducible assumption | with_reducible apply nextUnit_kept
    | with_reducible apply kept_ite | split | fail_if_no_progress with_reducible apply kept_mk | (intro _ _ _)
    | (intro _ _) | (intro _)

theorem telemSample_kept {r : State} (vin vhold : Half) (s : State) (h : Kept r s) :
    Kept r (telemSample vin vhold s) := by
  unfold telemSample
  try dsimp only
  repeat first
    | with_reducible exact h | with_reducible assumption | with_reducible apply kept_ite | split
    | fail_if_no_progress with_reducible apply kept_mk | (intro _ _ _) | (intro _ _) | (intro _)

theorem telemClear_kept {r : State} (s : State) (h : Kept r s) :
    Kept r (telemClear s) := by
  unfold telemClear
  try dsimp only
  repeat first
    | with_reducible exact h | with_reducible assumption | with_reducible apply kept_ite | split
    | fail_if_no_progress with_reducible apply kept_mk | (intro _ _ _) | (intro _ _) | (intro _)

theorem adcOffset_kept {r : State} (code : BitVec 12) (s : State) (h : Kept r s) :
    Kept r (adcOffset code s) := by
  unfold adcOffset
  try dsimp only
  repeat first
    | with_reducible exact h | with_reducible assumption | with_reducible apply kept_ite | split
    | fail_if_no_progress with_reducible apply kept_mk | (intro _ _ _) | (intro _ _) | (intro _)

theorem applySector_kept {r : State} (i spare : Nat) (s : State) (h : Kept r s) :
    Kept r (applySector i spare s) := by
  unfold applySector
  try dsimp only
  repeat first
    | with_reducible exact h | with_reducible assumption | with_reducible apply kept_ite | split
    | fail_if_no_progress with_reducible apply kept_mk | (intro _ _ _) | (intro _ _) | (intro _)

theorem applyEntry_kept {r : State} (e : MapEntry) (s : State) (h : Kept r s) :
    Kept r (applyEntry e s) := by
  unfold applyEntry
  try dsimp only
  repeat first
    | with_reducible exact h | with_reducible assumption | with_reducible apply takeSpare_kept
    | with_reducible apply applyLaneFail_kept
    | with_reducible apply applySector_kept | with_reducible apply kept_ite | split
    | fail_if_no_progress with_reducible apply kept_mk | (intro _ _ _) | (intro _ _) | (intro _)

theorem postDutyBlock_kept {r : State} (j : TxJob) (why : Option Nat × Nat) (s : State) (h : Kept r s) :
    Kept r (postDutyBlock j why s) := by
  unfold postDutyBlock
  try dsimp only
  repeat first
    | with_reducible exact h | with_reducible assumption | with_reducible apply post_kept
    | with_reducible apply freeBits_kept | with_reducible apply kept_ite | split
    | fail_if_no_progress with_reducible apply kept_mk | (intro _ _ _) | (intro _ _) | (intro _)

theorem enterAirtime_kept {r : State} (j : TxJob) (s : State) (h : Kept r s) :
    Kept r (enterAirtime j s) := by
  unfold enterAirtime
  try dsimp only
  repeat first
    | with_reducible exact h | with_reducible assumption | with_reducible apply kept_ite | split
    | fail_if_no_progress with_reducible apply kept_mk | with_reducible apply foldl_kept | (intro _ _ _) | (intro _ _)
    | (intro _)

theorem rollBins_kept {r : State} (s : State) (h : Kept r s) :
    Kept r (rollBins s) := by
  unfold rollBins
  try dsimp only
  repeat first
    | with_reducible exact h | with_reducible assumption | with_reducible apply kept_ite | split
    | fail_if_no_progress with_reducible apply kept_mk | (intro _ _ _) | (intro _ _) | (intro _)

theorem setReception_kept {r0 : State} (c : Path) (r : Option Reception) (s : State) (h : Kept r0 s) :
    Kept r0 (setReception c r s) := by
  unfold setReception
  try dsimp only
  repeat first
    | with_reducible exact h | with_reducible assumption | with_reducible apply kept_ite | split
    | fail_if_no_progress with_reducible apply kept_mk | (intro _ _ _) | (intro _ _) | (intro _)

theorem freezeGain_kept {r : State} (c : Path) (s : State) (h : Kept r s) :
    Kept r (freezeGain c s) := by
  unfold freezeGain
  try dsimp only
  repeat first
    | with_reducible exact h | with_reducible assumption | with_reducible apply freeBits_kept
    | with_reducible apply kept_ite | split | fail_if_no_progress with_reducible apply kept_mk
    | with_reducible apply foldl_kept | (intro _ _ _) | (intro _ _) | (intro _)

theorem releaseGain_kept {r : State} (s : State) (h : Kept r s) :
    Kept r (releaseGain s) := by
  unfold releaseGain
  try dsimp only
  repeat first
    | with_reducible exact h | with_reducible assumption | with_reducible apply kept_ite | split
    | fail_if_no_progress with_reducible apply kept_mk | (intro _ _ _) | (intro _ _) | (intro _)

theorem discardProv_kept {r : State} (d : Det) (s : State) (h : Kept r s) :
    Kept r (discardProv d s) := by
  unfold discardProv
  try dsimp only
  repeat first
    | with_reducible exact h | with_reducible assumption | with_reducible apply freeBits_kept
    | with_reducible apply kept_ite | split | fail_if_no_progress with_reducible apply kept_mk | (intro _ _ _)
    | (intro _ _) | (intro _)

theorem cancelDet_kept {r : State} (reason : Nat) (d : Det) (s : State) (h : Kept r s) :
    Kept r (cancelDet reason d s) := by
  unfold cancelDet
  try dsimp only
  repeat first
    | with_reducible exact h | with_reducible assumption | with_reducible apply releaseGain_kept
    | with_reducible apply discardProv_kept | with_reducible apply post_kept | with_reducible apply kept_ite | split
    | fail_if_no_progress with_reducible apply kept_mk | (intro _ _ _) | (intro _ _) | (intro _)

theorem cancelDets_kept {r : State} (reason : Nat) (p : Det → Bool) (s : State) (h : Kept r s) :
    Kept r (cancelDets reason p s) := by
  unfold cancelDets
  try dsimp only
  repeat first
    | with_reducible exact h | with_reducible assumption | with_reducible apply cancelDet_kept
    | with_reducible apply kept_ite | split | fail_if_no_progress with_reducible apply kept_mk
    | with_reducible apply foldl_kept | (intro _ _ _) | (intro _ _) | (intro _)

theorem cancelTag_kept {r : State} (reason : Nat) (tag : Half) (s : State) (h : Kept r s) :
    Kept r (cancelTag reason tag s) := by
  unfold cancelTag
  try dsimp only
  repeat first
    | with_reducible exact h | with_reducible assumption | with_reducible apply cancelDet_kept
    | with_reducible apply kept_ite | split | (intro _ _ _) | (intro _ _) | (intro _)

theorem raiseDet_kept {r : State} (e : Early) (s : State) (h : Kept r s) :
    Kept r (raiseDet e s) := by
  unfold raiseDet
  try dsimp only
  repeat first
    | with_reducible exact h | with_reducible assumption | with_reducible apply freezeGain_kept
    | with_reducible apply post_kept | with_reducible apply kept_ite | split
    | fail_if_no_progress with_reducible apply kept_mk | (intro _ _ _) | (intro _ _) | (intro _)

theorem oneEarly_kept {r : State} (e : Early) (s : State) (h : Kept r s) :
    Kept r (oneEarly e s) := by
  unfold oneEarly
  try dsimp only
  repeat first
    | with_reducible exact h | with_reducible assumption | with_reducible apply raiseDet_kept
    | with_reducible apply cancelDet_kept | with_reducible apply kept_ite | split
    | fail_if_no_progress with_reducible apply kept_mk | (intro _ _ _) | (intro _ _) | (intro _)

theorem earlySync_kept {r : State} (l : List Early) (s : State) (h : Kept r s) :
    Kept r (earlySync l s) := by
  unfold earlySync
  try dsimp only
  repeat first
    | with_reducible exact h | with_reducible assumption | with_reducible apply oneEarly_kept
    | with_reducible apply kept_ite | split | fail_if_no_progress with_reducible apply kept_mk
    | with_reducible apply foldl_kept | (intro _ _ _) | (intro _ _) | (intro _)

theorem postRxDone_kept {r : State} (tag : Half) (outcome type : Nat) (dr : Bool) (src : Half) (s : State) (h : Kept r s) :
    Kept r (postRxDone tag outcome type dr src s) := by
  unfold postRxDone
  try dsimp only
  repeat first
    | with_reducible exact h | with_reducible assumption | with_reducible apply post_kept
    | with_reducible apply kept_ite | split | (intro _ _ _) | (intro _ _) | (intro _)

theorem suppressAck_kept {r : State} (reason : Nat) (a : AckDue) (s : State) (h : Kept r s) :
    Kept r (suppressAck reason a s) := by
  unfold suppressAck
  try dsimp only
  repeat first
    | with_reducible exact h | with_reducible assumption | with_reducible apply post_kept
    | with_reducible apply kept_ite | split | fail_if_no_progress with_reducible apply kept_mk | (intro _ _ _)
    | (intro _ _) | (intro _)

theorem suppressOther_kept {r : State} (a : AckDue) (s : State) (h : Kept r s) :
    Kept r (suppressOther a s) := by
  unfold suppressOther
  try dsimp only
  repeat first
    | with_reducible exact h | with_reducible assumption | with_reducible apply freeBits_kept
    | with_reducible apply suppressAck_kept | with_reducible apply kept_ite | split | (intro _ _ _) | (intro _ _)
    | (intro _)

theorem loseReception_kept {r : State} (outcome : Nat) (c : Path) (s : State) (h : Kept r s) :
    Kept r (loseReception outcome c s) := by
  unfold loseReception
  try dsimp only
  repeat first
    | with_reducible exact h | with_reducible assumption | with_reducible apply freeBits_kept
    | with_reducible apply postRxDone_kept | with_reducible apply releaseGain_kept
    | with_reducible apply setReception_kept | with_reducible apply kept_ite | split | (intro _ _ _) | (intro _ _)
    | (intro _)

theorem loseCommits_kept {r : State} (s : State) (h : Kept r s) :
    Kept r (loseCommits s) := by
  unfold loseCommits
  try dsimp only
  repeat first
    | with_reducible exact h | with_reducible assumption | with_reducible apply postRxDone_kept
    | with_reducible apply kept_ite | split | fail_if_no_progress with_reducible apply kept_mk
    | with_reducible apply foldl_kept | (intro _ _ _) | (intro _ _) | (intro _)

theorem loseReceptions_kept {r : State} (s : State) (h : Kept r s) :
    Kept r (loseReceptions s) := by
  unfold loseReceptions
  try dsimp only
  repeat first
    | with_reducible exact h | with_reducible assumption | with_reducible apply loseReception_kept
    | with_reducible apply kept_ite | split | (intro _ _ _) | (intro _ _) | (intro _)

theorem abandonAcks_kept {r : State} (s : State) (h : Kept r s) :
    Kept r (abandonAcks s) := by
  unfold abandonAcks
  try dsimp only
  repeat first
    | with_reducible exact h | with_reducible assumption | with_reducible apply suppressAck_kept
    | with_reducible apply kept_ite | split | fail_if_no_progress with_reducible apply kept_mk
    | with_reducible apply foldl_kept | (intro _ _ _) | (intro _ _) | (intro _)

theorem calibrateVco_kept {r : State} (band : Nat) (setting : Byte) (s : State) (h : Kept r s) :
    Kept r (calibrateVco band setting s) := by
  unfold calibrateVco
  try dsimp only
  repeat first
    | with_reducible exact h | with_reducible assumption | with_reducible apply kept_ite | split
    | fail_if_no_progress with_reducible apply kept_mk | (intro _ _ _) | (intro _ _) | (intro _)

theorem calibrateOnLock_kept {r : State} (s : State) (h : Kept r s) :
    Kept r (calibrateOnLock s) := by
  unfold calibrateOnLock
  try dsimp only
  repeat first
    | with_reducible exact h | with_reducible assumption | with_reducible apply freeBits_kept
    | with_reducible apply calibrateVco_kept | with_reducible apply kept_ite | split | (intro _ _ _) | (intro _ _)
    | (intro _)

theorem postAntFault_kept {r : State} (s : State) (h : Kept r s) :
    Kept r (postAntFault s) := by
  unfold postAntFault
  try dsimp only
  repeat first
    | with_reducible exact h | with_reducible assumption | with_reducible apply post_kept
    | with_reducible apply kept_ite | split | fail_if_no_progress with_reducible apply kept_mk | (intro _ _ _)
    | (intro _ _) | (intro _)

theorem paOff_kept {r : State} (s : State) (h : Kept r s) :
    Kept r (paOff s) := by
  unfold paOff
  try dsimp only
  repeat first
    | with_reducible exact h | with_reducible assumption | with_reducible apply postAntFault_kept
    | with_reducible apply kept_ite | split | fail_if_no_progress with_reducible apply kept_mk | (intro _ _ _)
    | (intro _ _) | (intro _)

theorem goto_kept {r0 : State} (r : RadioState) (s : State) (h : Kept r0 s) :
    Kept r0 (goto r s) := by
  unfold goto
  try dsimp only
  repeat first
    | with_reducible exact h | with_reducible assumption | with_reducible apply kept_ite | split
    | fail_if_no_progress with_reducible apply kept_mk | (intro _ _ _) | (intro _ _) | (intro _)

theorem gotoIdle_kept {r : State} (s : State) (h : Kept r s) :
    Kept r (gotoIdle s) := by
  unfold gotoIdle
  try dsimp only
  repeat first
    | with_reducible exact h | with_reducible assumption | with_reducible apply cancelDets_kept
    | with_reducible apply goto_kept | with_reducible apply kept_ite | split
    | fail_if_no_progress with_reducible apply kept_mk | (intro _ _ _) | (intro _ _) | (intro _)

theorem tune_kept {r : State} (lo : Nat) (s : State) (h : Kept r s) :
    Kept r (tune lo s) := by
  unfold tune
  try dsimp only
  repeat first
    | with_reducible exact h | with_reducible assumption | with_reducible apply kept_ite | split
    | fail_if_no_progress with_reducible apply kept_mk | (intro _ _ _) | (intro _ _) | (intro _)

theorem stopReceiving_kept {r : State} (s : State) (h : Kept r s) :
    Kept r (stopReceiving s) := by
  unfold stopReceiving
  try dsimp only
  repeat first
    | with_reducible exact h | with_reducible assumption | with_reducible apply loseReception_kept
    | with_reducible apply kept_ite | split | fail_if_no_progress with_reducible apply kept_mk | (intro _ _ _)
    | (intro _ _) | (intro _)

theorem startUp_kept {r : State} (u : UpFor) (s : State) (h : Kept r s) :
    Kept r (startUp u s) := by
  unfold startUp
  try dsimp only
  repeat first
    | with_reducible exact h | with_reducible assumption | with_reducible apply stopReceiving_kept
    | with_reducible apply goto_kept | with_reducible apply tune_kept | with_reducible apply kept_ite | split
    | fail_if_no_progress with_reducible apply kept_mk | (intro _ _ _) | (intro _ _) | (intro _)

theorem resumeRx_kept {r : State} (s : State) (h : Kept r s) :
    Kept r (resumeRx s) := by
  unfold resumeRx
  try dsimp only
  repeat first
    | with_reducible exact h | with_reducible assumption | with_reducible apply goto_kept
    | with_reducible apply calibrateOnLock_kept | with_reducible apply tune_kept | with_reducible apply gotoIdle_kept
    | with_reducible apply kept_ite | split | (intro _ _ _) | (intro _ _) | (intro _)

theorem endSecond_kept {r : State} (s : State) (h : Kept r s) :
    Kept r (endSecond s) := by
  unfold endSecond
  try dsimp only
  repeat first
    | with_reducible exact h | with_reducible assumption | with_reducible apply cancelDets_kept
    | with_reducible apply kept_ite | split | fail_if_no_progress with_reducible apply kept_mk | (intro _ _ _)
    | (intro _ _) | (intro _)

theorem setMosaic_kept {r : State} (m : BitVec 2) (s : State) (h : Kept r s) :
    Kept r (setMosaic m s) := by
  unfold setMosaic
  try dsimp only
  repeat first
    | with_reducible exact h | with_reducible assumption | with_reducible apply endSecond_kept
    | with_reducible apply kept_ite | split | fail_if_no_progress with_reducible apply kept_mk | (intro _ _ _)
    | (intro _ _) | (intro _)

theorem goReturn_kept {r : State} (s : State) (h : Kept r s) :
    Kept r (goReturn s) := by
  unfold goReturn
  try dsimp only
  repeat first
    | with_reducible exact h | with_reducible assumption | with_reducible apply setMosaic_kept
    | with_reducible apply resumeRx_kept | with_reducible apply gotoIdle_kept | with_reducible apply kept_ite | split
    | fail_if_no_progress with_reducible apply kept_mk | (intro _ _ _) | (intro _ _) | (intro _)

theorem retuneRx_kept {r : State} (s : State) (h : Kept r s) :
    Kept r (retuneRx s) := by
  unfold retuneRx
  try dsimp only
  repeat first
    | with_reducible exact h | with_reducible assumption | with_reducible apply gotoIdle_kept
    | with_reducible apply startUp_kept | with_reducible apply kept_ite | split | (intro _ _ _) | (intro _ _)
    | (intro _)

theorem closeWindow_kept {r : State} (s : State) (h : Kept r s) :
    Kept r (closeWindow s) := by
  unfold closeWindow
  try dsimp only
  repeat first
    | with_reducible exact h | with_reducible assumption | with_reducible apply kept_ite | split
    | fail_if_no_progress with_reducible apply kept_mk | (intro _ _ _) | (intro _ _) | (intro _)

theorem halt_kept {r : State} (reason : Nat) (s : State) (h : Kept r s) :
    Kept r (halt reason s) := by
  unfold halt
  try dsimp only
  repeat first
    | with_reducible exact h | with_reducible assumption | with_reducible apply cancelDets_kept
    | with_reducible apply loseReceptions_kept | with_reducible apply abandonAcks_kept
    | with_reducible apply paOff_kept | with_reducible apply closeWindow_kept | with_reducible apply gotoIdle_kept
    | with_reducible apply kept_ite | split | fail_if_no_progress with_reducible apply kept_mk | (intro _ _ _)
    | (intro _ _) | (intro _)

theorem stopPa_kept {r : State} (s : State) (h : Kept r s) :
    Kept r (stopPa s) := by
  unfold stopPa
  try dsimp only
  repeat first
    | with_reducible exact h | with_reducible assumption | with_reducible apply abandonAcks_kept
    | with_reducible apply paOff_kept | with_reducible apply goReturn_kept | with_reducible apply kept_ite | split
    | fail_if_no_progress with_reducible apply kept_mk | (intro _ _ _) | (intro _ _) | (intro _)

theorem vcoCalibration_kept {r : State} (band : Nat) (setting : Byte) (s : State) (h : Kept r s) :
    Kept r (vcoCalibration band setting s) := by
  unfold vcoCalibration
  try dsimp only
  repeat first
    | with_reducible exact h | with_reducible assumption | with_reducible apply calibrateVco_kept
    | with_reducible apply kept_ite | split | (intro _ _ _) | (intro _ _) | (intro _)

theorem iqImageCalibration_kept {r : State} (p : Path) (s : State) (h : Kept r s) :
    Kept r (iqImageCalibration p s) := by
  unfold iqImageCalibration
  try dsimp only
  repeat first
    | with_reducible exact h | with_reducible assumption | with_reducible apply kept_ite | split
    | fail_if_no_progress with_reducible apply kept_mk | (intro _ _ _) | (intro _ _) | (intro _)

theorem countFcnt_kept {r : State} (s : State) (h : Kept r s) :
    Kept r (countFcnt s) := by
  unfold countFcnt
  try dsimp only
  repeat first
    | with_reducible exact h | with_reducible assumption | with_reducible apply kept_ite | split
    | fail_if_no_progress with_reducible apply kept_mk | (intro _ _ _) | (intro _ _) | (intro _)

theorem replayJudge_kept {r : State} (origin : Half) (f : Word) (s : State) (h : Kept r s) :
    Kept r (replayJudge origin f s).2 := by
  unfold replayJudge
  try dsimp only
  repeat first
    | with_reducible exact h | with_reducible assumption | with_reducible apply kept_ite | split
    | fail_if_no_progress with_reducible apply kept_mk | (intro _ _ _) | (intro _ _) | (intro _)

theorem securityCheck_kept {r : State} (f : MacFrame) (s : State) (h : Kept r s) :
    Kept r (securityCheck f s).2 := by
  unfold securityCheck
  try dsimp only
  repeat first
    | with_reducible exact h | with_reducible assumption | with_reducible apply replayJudge_kept
    | with_reducible apply kept_ite | split | fail_if_no_progress with_reducible apply kept_mk | (intro _ _ _)
    | (intro _ _) | (intro _)

theorem drawListen_kept {r : State} (s : State) (h : Kept r s) :
    Kept r (drawListen s).2 := by
  unfold drawListen
  try dsimp only
  repeat first
    | with_reducible exact h | with_reducible assumption | with_reducible apply draw_kept
    | with_reducible apply kept_ite | split | (intro _ _ _) | (intro _ _) | (intro _)

theorem beginAccess_kept {r : State} (j : TxJob) (s : State) (h : Kept r s) :
    Kept r (beginAccess j s) := by
  unfold beginAccess
  try dsimp only
  repeat first
    | with_reducible exact h | with_reducible assumption | with_reducible apply postDutyBlock_kept
    | with_reducible apply startUp_kept | with_reducible apply drawListen_kept | with_reducible apply kept_ite | split
    | fail_if_no_progress with_reducible apply kept_mk | (intro _ _ _) | (intro _ _) | (intro _)

theorem dropAttempt_kept {r : State} (s : State) (h : Kept r s) :
    Kept r (dropAttempt s) := by
  unfold dropAttempt
  try dsimp only
  repeat first
    | with_reducible exact h | with_reducible assumption | with_reducible apply suppressOther_kept
    | with_reducible apply kept_ite | split | fail_if_no_progress with_reducible apply kept_mk | (intro _ _ _)
    | (intro _ _) | (intro _)

theorem endAttempt_kept {r : State} (s : State) (h : Kept r s) :
    Kept r (endAttempt s) := by
  unfold endAttempt
  try dsimp only
  repeat first
    | with_reducible exact h | with_reducible assumption | with_reducible apply goReturn_kept
    | with_reducible apply dropAttempt_kept | with_reducible apply kept_ite | split | (intro _ _ _) | (intro _ _)
    | (intro _)

theorem busyListen_kept {r : State} (rssi : Option Int) (s : State) (h : Kept r s) :
    Kept r (busyListen rssi s) := by
  unfold busyListen
  try dsimp only
  repeat first
    | with_reducible exact h | with_reducible assumption | with_reducible apply post_kept
    | with_reducible apply endAttempt_kept | with_reducible apply draw_kept | with_reducible apply kept_ite | split
    | fail_if_no_progress with_reducible apply kept_mk | (intro _ _ _) | (intro _ _) | (intro _)

theorem ccaBusy_kept {r : State} (rssi : Option Int) (s : State) (h : Kept r s) :
    Kept r (ccaBusy rssi s) := by
  unfold ccaBusy
  try dsimp only
  repeat first
    | with_reducible exact h | with_reducible assumption | with_reducible apply busyListen_kept
    | with_reducible apply kept_ite | split | (intro _ _ _) | (intro _ _) | (intro _)

theorem listenNow_kept {r : State} (s : State) (h : Kept r s) :
    Kept r (listenNow s) := by
  unfold listenNow
  try dsimp only
  repeat first
    | with_reducible exact h | with_reducible assumption | with_reducible apply ccaBusy_kept
    | with_reducible apply kept_ite | split | (intro _ _ _) | (intro _ _) | (intro _)

theorem earlyHeard_kept {r : State} (l : List Early) (s : State) (h : Kept r s) :
    Kept r (earlyHeard l s) := by
  unfold earlyHeard
  try dsimp only
  repeat first
    | with_reducible exact h | with_reducible assumption | with_reducible apply listenNow_kept
    | with_reducible apply earlySync_kept | with_reducible apply kept_ite | split | (intro _ _ _) | (intro _ _)
    | (intro _)

theorem nextListen_kept {r : State} (a : Attempt) (s : State) (h : Kept r s) :
    Kept r (nextListen a s) := by
  unfold nextListen
  try dsimp only
  repeat first
    | with_reducible exact h | with_reducible assumption | with_reducible apply drawListen_kept
    | with_reducible apply endAttempt_kept | with_reducible apply listenNow_kept | with_reducible apply startUp_kept
    | with_reducible apply kept_ite | split | fail_if_no_progress with_reducible apply kept_mk | (intro _ _ _)
    | (intro _ _) | (intro _)

theorem resumeAttempt_kept {r : State} (s : State) (h : Kept r s) :
    Kept r (resumeAttempt s) := by
  unfold resumeAttempt
  try dsimp only
  repeat first
    | with_reducible exact h | with_reducible assumption | with_reducible apply nextListen_kept
    | with_reducible apply kept_ite | split | (intro _ _ _) | (intro _ _) | (intro _)

theorem settle_kept {r : State} (s : State) (h : Kept r s) :
    Kept r (settle s) := by
  unfold settle
  try dsimp only
  repeat first
    | with_reducible exact h | with_reducible assumption | with_reducible apply gotoIdle_kept
    | with_reducible apply resumeAttempt_kept | with_reducible apply kept_ite | split | (intro _ _ _) | (intro _ _)
    | (intro _)

theorem backoffEnd_kept {r : State} (s : State) (h : Kept r s) :
    Kept r (backoffEnd s) := by
  unfold backoffEnd
  try dsimp only
  repeat first
    | with_reducible exact h | with_reducible assumption | with_reducible apply resumeAttempt_kept
    | with_reducible apply kept_ite | split | fail_if_no_progress with_reducible apply kept_mk | (intro _ _ _)
    | (intro _ _) | (intro _)

theorem listenEnd_kept {r : State} (s : State) (h : Kept r s) :
    Kept r (listenEnd s) := by
  unfold listenEnd
  try dsimp only
  repeat first
    | with_reducible exact h | with_reducible assumption | with_reducible apply busyListen_kept
    | with_reducible apply endAttempt_kept | with_reducible apply postDutyBlock_kept
    | with_reducible apply startUp_kept | with_reducible apply kept_ite | split
    | fail_if_no_progress with_reducible apply kept_mk | (intro _ _ _) | (intro _ _) | (intro _)

theorem finalFrame_kept {r : State} (hash : Word) (j : TxJob) (s : State) (h : Kept r s) :
    Kept r (finalFrame hash j s).2 := by
  unfold finalFrame
  try dsimp only
  repeat first
    | with_reducible exact h | with_reducible assumption | with_reducible apply countFcnt_kept
    | with_reducible apply kept_ite | split | (intro _ _ _) | (intro _ _) | (intro _)

theorem startPa_kept {r : State} (j : TxJob) (s : State) (h : Kept r s) :
    Kept r (startPa j s) := by
  unfold startPa
  try dsimp only
  repeat first
    | with_reducible exact h | with_reducible assumption | with_reducible apply cancelDets_kept
    | with_reducible apply enterAirtime_kept | with_reducible apply kept_ite | split
    | fail_if_no_progress with_reducible apply kept_mk | (intro _ _ _) | (intro _ _) | (intro _)

theorem recordStart_kept {r : State} (j : TxJob) (f : MacFrame) (s : State) (h : Kept r s) :
    Kept r (recordStart j f s) := by
  unfold recordStart
  try dsimp only
  repeat first
    | with_reducible exact h | with_reducible assumption | with_reducible apply kept_ite | split
    | fail_if_no_progress with_reducible apply kept_mk | (intro _ _ _) | (intro _ _) | (intro _)

theorem startFrame_kept {r : State} (j : TxJob) (s : State) (h : Kept r s) :
    Kept r (startFrame j s) := by
  unfold startFrame
  try dsimp only
  repeat first
    | with_reducible exact h | with_reducible assumption | with_reducible apply finalFrame_kept
    | with_reducible apply recordStart_kept | with_reducible apply goto_kept | with_reducible apply startPa_kept
    | with_reducible apply kept_ite | split | fail_if_no_progress with_reducible apply kept_mk | (intro _ _ _)
    | (intro _ _) | (intro _)

theorem startAck_kept {r : State} (j : TxJob) (s : State) (h : Kept r s) :
    Kept r (startAck j s) := by
  unfold startAck
  try dsimp only
  repeat first
    | with_reducible exact h | with_reducible assumption | with_reducible apply goto_kept
    | with_reducible apply startPa_kept | with_reducible apply kept_ite | split | (intro _ _ _) | (intro _ _)
    | (intro _)

theorem leaveSynthUp_kept {r : State} (s : State) (h : Kept r s) :
    Kept r (leaveSynthUp s) := by
  unfold leaveSynthUp
  try dsimp only
  repeat first
    | with_reducible exact h | with_reducible assumption | with_reducible apply goto_kept
    | with_reducible apply gotoIdle_kept | with_reducible apply listenNow_kept | with_reducible apply startFrame_kept
    | with_reducible apply settle_kept | with_reducible apply endAttempt_kept | with_reducible apply startAck_kept
    | with_reducible apply goReturn_kept | with_reducible apply suppressOther_kept | with_reducible apply kept_ite
    | split | fail_if_no_progress with_reducible apply kept_mk | (intro _ _ _) | (intro _ _) | (intro _)

theorem synthLock_kept {r : State} (s : State) (h : Kept r s) :
    Kept r (synthLock s) := by
  unfold synthLock
  try dsimp only
  repeat first
    | with_reducible exact h | with_reducible assumption | with_reducible apply calibrateOnLock_kept
    | with_reducible apply leaveSynthUp_kept | with_reducible apply kept_ite | split
    | fail_if_no_progress with_reducible apply kept_mk | (intro _ _ _) | (intro _ _) | (intro _)

theorem startRx_kept {r : State} (s : State) (h : Kept r s) :
    Kept r (startRx s) := by
  unfold startRx
  try dsimp only
  repeat first
    | with_reducible exact h | with_reducible assumption | with_reducible apply startUp_kept
    | with_reducible apply kept_ite | split | (intro _ _ _) | (intro _ _) | (intro _)

theorem awaitAck_kept {r : State} (j : TxJob) (s : State) (h : Kept r s) :
    Kept r (awaitAck j s) := by
  unfold awaitAck
  try dsimp only
  repeat first
    | with_reducible exact h | with_reducible assumption | with_reducible apply setMosaic_kept
    | with_reducible apply goto_kept | with_reducible apply calibrateOnLock_kept | with_reducible apply tune_kept
    | with_reducible apply kept_ite | split | (intro _ _ _) | (intro _ _) | (intro _)

theorem synthUnlock_kept {r : State} (s : State) (h : Kept r s) :
    Kept r (synthUnlock s) := by
  unfold synthUnlock
  try dsimp only
  repeat first
    | with_reducible exact h | with_reducible assumption | with_reducible apply halt_kept
    | with_reducible apply startRx_kept | with_reducible apply kept_ite | split
    | fail_if_no_progress with_reducible apply kept_mk | (intro _ _ _) | (intro _ _) | (intro _)

theorem postTxDonePlain_kept {r : State} (j : TxJob) (s : State) (h : Kept r s) :
    Kept r (postTxDonePlain j s) := by
  unfold postTxDonePlain
  try dsimp only
  repeat first
    | with_reducible exact h | with_reducible assumption | with_reducible apply post_kept
    | with_reducible apply kept_ite | split | (intro _ _ _) | (intro _ _) | (intro _)

theorem awaitReply_kept {r : State} (s : State) (h : Kept r s) :
    Kept r (awaitReply s) := by
  unfold awaitReply
  try dsimp only
  repeat first
    | with_reducible exact h | with_reducible assumption | with_reducible apply kept_ite | split
    | fail_if_no_progress with_reducible apply kept_mk | (intro _ _ _) | (intro _ _) | (intro _)

theorem txEnd_kept {r : State} (s : State) (h : Kept r s) :
    Kept r (txEnd s) := by
  unfold txEnd
  try dsimp only
  repeat first
    | with_reducible exact h | with_reducible assumption | with_reducible apply settle_kept
    | with_reducible apply goReturn_kept | with_reducible apply paOff_kept | with_reducible apply awaitAck_kept
    | with_reducible apply awaitReply_kept | with_reducible apply postTxDonePlain_kept | with_reducible apply kept_ite
    | split | fail_if_no_progress with_reducible apply kept_mk | (intro _ _ _) | (intro _ _) | (intro _)

theorem antVerdict_kept {r : State} (rl : Byte) (phase : Int) (s : State) (h : Kept r s) :
    Kept r (antVerdict rl phase s) := by
  unfold antVerdict
  try dsimp only
  repeat first
    | with_reducible exact h | with_reducible assumption | with_reducible apply post_kept
    | with_reducible apply kept_ite | split | fail_if_no_progress with_reducible apply kept_mk | (intro _ _ _)
    | (intro _ _) | (intro _)

theorem ackTx_kept {r : State} (s : State) (h : Kept r s) :
    Kept r (ackTx s) := by
  unfold ackTx
  try dsimp only
  repeat first
    | with_reducible exact h | with_reducible assumption | with_reducible apply settle_kept
    | with_reducible apply suppressAck_kept | with_reducible apply suppressOther_kept
    | with_reducible apply busyListen_kept | with_reducible apply startUp_kept | with_reducible apply kept_ite | split
    | fail_if_no_progress with_reducible apply kept_mk | (intro _ _ _) | (intro _ _) | (intro _)

theorem retireItem_kept {r : State} (q : Nat) (seq : Word) (s : State) (h : Kept r s) :
    Kept r (retireItem q seq s) := by
  unfold retireItem
  try dsimp only
  repeat first
    | with_reducible exact h | with_reducible assumption | with_reducible apply post_kept
    | with_reducible apply retireHead_kept | with_reducible apply kept_ite | split | (intro _ _ _) | (intro _ _)
    | (intro _)

theorem ackWaitExpiry_kept {r : State} (s : State) (h : Kept r s) :
    Kept r (ackWaitExpiry s) := by
  unfold ackWaitExpiry
  try dsimp only
  repeat first
    | with_reducible exact h | with_reducible assumption | with_reducible apply post_kept
    | with_reducible apply freeBits_kept | with_reducible apply settle_kept | with_reducible apply goReturn_kept
    | with_reducible apply kept_ite | split | fail_if_no_progress with_reducible apply kept_mk | (intro _ _ _)
    | (intro _ _) | (intro _)

theorem refreshFcw_kept {r : State} (s : State) (h : Kept r s) :
    Kept r (refreshFcw s) := by
  unfold refreshFcw
  try dsimp only
  repeat first
    | with_reducible exact h | with_reducible assumption | with_reducible apply kept_ite | split
    | fail_if_no_progress with_reducible apply kept_mk | (intro _ _ _) | (intro _ _) | (intro _)

theorem setTb_kept {r : State} (st : Fin 5) (s : State) (h : Kept r s) :
    Kept r (setTb st s) := by
  unfold setTb
  try dsimp only
  repeat first
    | with_reducible exact h | with_reducible assumption | with_reducible apply refreshFcw_kept
    | with_reducible apply kept_ite | split | fail_if_no_progress with_reducible apply kept_mk | (intro _ _ _)
    | (intro _ _) | (intro _)

theorem leaveBootTb_kept {r : State} (s : State) (h : Kept r s) :
    Kept r (leaveBootTb s) := by
  unfold leaveBootTb
  try dsimp only
  repeat first
    | with_reducible exact h | with_reducible assumption | with_reducible apply setTb_kept
    | with_reducible apply refreshFcw_kept | with_reducible apply kept_ite | split | (intro _ _ _) | (intro _ _)
    | (intro _)

theorem tbModeEffect_kept {r : State} (s : State) (h : Kept r s) :
    Kept r (tbModeEffect s) := by
  unfold tbModeEffect
  try dsimp only
  repeat first
    | with_reducible exact h | with_reducible assumption | with_reducible apply setTb_kept
    | with_reducible apply kept_ite | split | (intro _ _ _) | (intro _ _) | (intro _)

theorem applyReference_kept {r0 : State} (stamp : Nat) (r : Reception) (mPpb : Int) (s : State) (h : Kept r0 s) :
    Kept r0 (applyReference stamp r mPpb s) := by
  unfold applyReference
  try dsimp only
  repeat first
    | with_reducible exact h | with_reducible assumption | with_reducible apply stepNtime_kept
    | with_reducible apply post_kept | with_reducible apply kept_ite | split
    | fail_if_no_progress with_reducible apply kept_mk | (intro _ _ _) | (intro _ _) | (intro _)

theorem judgeReference_kept {r : State} (src : Half) (depth : Nat) (snr : Int) (cycle : Word) (s : State) (h : Kept r s) :
    Kept r (judgeReference src depth snr cycle s) := by
  unfold judgeReference
  try dsimp only
  repeat first
    | with_reducible exact h | with_reducible assumption | with_reducible apply kept_ite | split
    | fail_if_no_progress with_reducible apply kept_mk | (intro _ _ _) | (intro _ _) | (intro _)

theorem timeFromBeacon_kept {r0 : State} (f : MacFrame) (r : Reception) (mPpb : Int) (s : State) (h : Kept r0 s) :
    Kept r0 (timeFromBeacon f r mPpb s) := by
  unfold timeFromBeacon
  try dsimp only
  repeat first
    | with_reducible exact h | with_reducible assumption | with_reducible apply judgeReference_kept
    | with_reducible apply applyReference_kept | with_reducible apply kept_ite | split
    | fail_if_no_progress with_reducible apply kept_mk | (intro _ _ _) | (intro _ _) | (intro _)

theorem fcwLoad_kept {r : State} (s : State) (h : Kept r s) :
    Kept r (fcwLoad s) := by
  unfold fcwLoad
  try dsimp only
  repeat first
    | with_reducible exact h | with_reducible assumption | with_reducible apply kept_ite | split
    | fail_if_no_progress with_reducible apply kept_mk | (intro _ _ _) | (intro _ _) | (intro _)

theorem slewEnd_kept {r : State} (s : State) (h : Kept r s) :
    Kept r (slewEnd s) := by
  unfold slewEnd
  try dsimp only
  repeat first
    | with_reducible exact h | with_reducible assumption | with_reducible apply refreshFcw_kept
    | with_reducible apply kept_ite | split | fail_if_no_progress with_reducible apply kept_mk | (intro _ _ _)
    | (intro _ _) | (intro _)

theorem holdoverEntry_kept {r : State} (s : State) (h : Kept r s) :
    Kept r (holdoverEntry s) := by
  unfold holdoverEntry
  try dsimp only
  repeat first
    | with_reducible exact h | with_reducible assumption | with_reducible apply post_kept
    | with_reducible apply setTb_kept | with_reducible apply kept_ite | split | (intro _ _ _) | (intro _ _)
    | (intro _)

theorem radioStop_kept {r : State} (s : State) (h : Kept r s) :
    Kept r (radioStop s) := by
  unfold radioStop
  try dsimp only
  repeat first
    | with_reducible exact h | with_reducible assumption | with_reducible apply gotoIdle_kept
    | with_reducible apply cancelDets_kept | with_reducible apply dropAttempt_kept
    | with_reducible apply endAttempt_kept | with_reducible apply kept_ite | split
    | fail_if_no_progress with_reducible apply kept_mk | (intro _ _ _) | (intro _ _) | (intro _)

theorem startPoll_kept {r : State} (x : TxJob × Exchange) (n : Nat) (s : State) (h : Kept r s) :
    Kept r (startPoll x n s) := by
  unfold startPoll
  try dsimp only
  repeat first
    | with_reducible exact h | with_reducible assumption | with_reducible apply beginAccess_kept
    | with_reducible apply kept_ite | split | fail_if_no_progress with_reducible apply kept_mk | (intro _ _ _)
    | (intro _ _) | (intro _)

theorem radioTx_kept {r : State} (s : State) (h : Kept r s) :
    Kept r (radioTx s) := by
  unfold radioTx
  try dsimp only
  repeat first
    | with_reducible exact h | with_reducible assumption | with_reducible apply macRead_kept
    | with_reducible apply startPoll_kept | with_reducible apply beginAccess_kept | with_reducible apply kept_ite
    | split | fail_if_no_progress with_reducible apply kept_mk | (intro _ _ _) | (intro _ _) | (intro _)

theorem radioAbort_kept {r : State} (s : State) (h : Kept r s) :
    Kept r (radioAbort s) := by
  unfold radioAbort
  try dsimp only
  repeat first
    | with_reducible exact h | with_reducible assumption | with_reducible apply halt_kept
    | with_reducible apply kept_ite | split | (intro _ _ _) | (intro _ _) | (intro _)

theorem radioCommand_kept {r : State} (code : Nat) (s : State) (h : Kept r s) :
    Kept r (radioCommand code s) := by
  unfold radioCommand
  try dsimp only
  repeat first
    | with_reducible exact h | with_reducible assumption | with_reducible apply startRx_kept
    | with_reducible apply radioStop_kept | with_reducible apply radioTx_kept | with_reducible apply radioAbort_kept
    | with_reducible apply kept_ite | split | (intro _ _ _) | (intro _ _) | (intro _)

theorem autoReceive_kept {r : State} (s : State) (h : Kept r s) :
    Kept r (autoReceive s) := by
  unfold autoReceive
  try dsimp only
  repeat first
    | with_reducible exact h | with_reducible assumption | with_reducible apply startRx_kept
    | with_reducible apply kept_ite | split | (intro _ _ _) | (intro _ _) | (intro _)

theorem judgeOff_kept {r : State} (s : State) (h : Kept r s) :
    Kept r (judgeOff s) := by
  unfold judgeOff
  try dsimp only
  repeat first
    | with_reducible exact h | with_reducible assumption | with_reducible apply goto_kept
    | with_reducible apply gotoIdle_kept | with_reducible apply dropAttempt_kept | with_reducible apply kept_ite
    | split | (intro _ _ _) | (intro _ _) | (intro _)

theorem beaconCycle_kept {r : State} (s : State) (h : Kept r s) :
    Kept r (beaconCycle s) := by
  unfold beaconCycle
  try dsimp only
  repeat first
    | with_reducible exact h | with_reducible assumption | with_reducible apply beginAccess_kept
    | with_reducible apply kept_ite | split | fail_if_no_progress with_reducible apply kept_mk | (intro _ _ _)
    | (intro _ _) | (intro _)

theorem pollStart_kept {r : State} (s : State) (h : Kept r s) :
    Kept r (pollStart s) := by
  unfold pollStart
  try dsimp only
  repeat first
    | with_reducible exact h | with_reducible assumption | with_reducible apply macRead_kept
    | with_reducible apply startPoll_kept | with_reducible apply kept_ite | split | (intro _ _ _) | (intro _ _)
    | (intro _)

theorem endExchange_kept {r : State} (pend : Bool) (s : State) (h : Kept r s) :
    Kept r (endExchange pend s) := by
  unfold endExchange
  try dsimp only
  repeat first
    | with_reducible exact h | with_reducible assumption | with_reducible apply kept_ite | split
    | fail_if_no_progress with_reducible apply kept_mk | (intro _ _ _) | (intro _ _) | (intro _)

theorem pollMiss_kept {r : State} (s : State) (h : Kept r s) :
    Kept r (pollMiss s) := by
  unfold pollMiss
  try dsimp only
  repeat first
    | with_reducible exact h | with_reducible assumption | with_reducible apply settle_kept
    | with_reducible apply endExchange_kept | with_reducible apply kept_ite | split
    | fail_if_no_progress with_reducible apply kept_mk | (intro _ _ _) | (intro _ _) | (intro _)

theorem enterRun_kept {r : State} (s : State) (h : Kept r s) :
    Kept r (enterRun s) := by
  unfold enterRun
  try dsimp only
  repeat first
    | with_reducible exact h | with_reducible assumption | with_reducible apply cancelDets_kept
    | with_reducible apply kept_ite | split | fail_if_no_progress with_reducible apply kept_mk | (intro _ _ _)
    | (intro _ _) | (intro _)

theorem quietEnd_kept {r : State} (s : State) (h : Kept r s) :
    Kept r (quietEnd s) := by
  unfold quietEnd
  try dsimp only
  repeat first
    | with_reducible exact h | with_reducible assumption | with_reducible apply enterRun_kept
    | with_reducible apply kept_ite | split | (intro _ _ _) | (intro _ _) | (intro _)

theorem joinSlot_kept {r : State} (s : State) (h : Kept r s) :
    Kept r (joinSlot s) := by
  unfold joinSlot
  try dsimp only
  repeat first
    | with_reducible exact h | with_reducible assumption | with_reducible apply quietEnd_kept
    | with_reducible apply beginAccess_kept | with_reducible apply kept_ite | split
    | fail_if_no_progress with_reducible apply kept_mk | (intro _ _ _) | (intro _ _) | (intro _)

theorem pollReply_kept {r : State} (s : State) (h : Kept r s) : Kept r (pollReply s) := by
  unfold pollReply
  split
  · exact h
  · dsimp only
    repeat first
      | with_reducible exact h
      | with_reducible apply kept_ite
      | with_reducible apply beginAccess_kept
      | with_reducible apply kept_mk

theorem addSeen_kept {r : State} (k : Half × Half) (s : State) (h : Kept r s) :
    Kept r (addSeen k s) := by
  unfold addSeen
  try dsimp only
  repeat first
    | with_reducible exact h | with_reducible assumption | with_reducible apply kept_ite | split
    | fail_if_no_progress with_reducible apply kept_mk | (intro _ _ _) | (intro _ _) | (intro _)

theorem countRepeat_kept {r : State} (o q : Half) (s : State) (h : Kept r s) :
    Kept r (countRepeat o q s) := by
  unfold countRepeat
  try dsimp only
  repeat first
    | with_reducible exact h | with_reducible assumption | with_reducible apply kept_ite | split
    | fail_if_no_progress with_reducible apply kept_mk | (intro _ _ _) | (intro _ _) | (intro _)

theorem scheduleCopy_kept {r0 : State} (f : MacFrame) (r : Reception) (s : State) (h : Kept r0 s) :
    Kept r0 (scheduleCopy f r s) := by
  unfold scheduleCopy
  try dsimp only
  repeat first
    | with_reducible exact h | with_reducible assumption | with_reducible apply draw_kept
    | with_reducible apply advanceGen_kept | with_reducible apply kept_ite | split
    | fail_if_no_progress with_reducible apply kept_mk | with_reducible apply foldl_kept | (intro _ _ _) | (intro _ _)
    | (intro _)

theorem relayCopyDue_kept {r : State} (o q : Half) (s : State) (h : Kept r s) :
    Kept r (relayCopyDue o q s) := by
  unfold relayCopyDue
  try dsimp only
  repeat first
    | with_reducible exact h | with_reducible assumption | with_reducible apply beginAccess_kept
    | with_reducible apply kept_ite | split | fail_if_no_progress with_reducible apply kept_mk | (intro _ _ _)
    | (intro _ _) | (intro _)

theorem swEnEffect_kept {r : State} (s : State) (h : Kept r s) :
    Kept r (swEnEffect s) := by
  unfold swEnEffect
  try dsimp only
  repeat first
    | with_reducible exact h | with_reducible assumption | with_reducible apply kept_ite | split
    | fail_if_no_progress with_reducible apply kept_mk | (intro _ _ _) | (intro _ _) | (intro _)

theorem seenExpiry_kept {r : State} (k : Half × Half) (s : State) (h : Kept r s) :
    Kept r (seenExpiry k s) := by
  unfold seenExpiry
  try dsimp only
  repeat first
    | with_reducible exact h | with_reducible assumption | with_reducible apply kept_ite | split
    | fail_if_no_progress with_reducible apply kept_mk | (intro _ _ _) | (intro _ _) | (intro _)

theorem fackWaitExpiry_kept {r : State} (s : State) (h : Kept r s) :
    Kept r (fackWaitExpiry s) := by
  unfold fackWaitExpiry
  try dsimp only
  repeat first
    | with_reducible exact h | with_reducible assumption | with_reducible apply settle_kept
    | with_reducible apply post_kept | with_reducible apply kept_ite | split
    | fail_if_no_progress with_reducible apply kept_mk | (intro _ _ _) | (intro _ _) | (intro _)

theorem sendFacks_kept {r : State} (s : State) (h : Kept r s) :
    Kept r (sendFacks s) := by
  unfold sendFacks
  try dsimp only
  repeat first
    | with_reducible exact h | with_reducible assumption | with_reducible apply beginAccess_kept
    | with_reducible apply kept_ite | split | fail_if_no_progress with_reducible apply kept_mk | (intro _ _ _)
    | (intro _ _) | (intro _)

theorem setDreq_kept {r : State} (v : Bytes) (s : State) (h : Kept r s) :
    Kept r (setDreq v s) := by
  unfold setDreq
  try dsimp only
  repeat first
    | with_reducible exact h | with_reducible assumption | with_reducible apply kept_ite | split
    | fail_if_no_progress with_reducible apply kept_mk | (intro _ _ _) | (intro _ _) | (intro _)

theorem gateBlock_kept {r : State} (n : Nat) (s : State) (h : Kept r s) :
    Kept r (gateBlock n s) := by
  unfold gateBlock
  try dsimp only
  repeat first
    | with_reducible exact h | with_reducible assumption | with_reducible apply kept_ite | split
    | fail_if_no_progress with_reducible apply kept_mk | (intro _ _ _) | (intro _ _) | (intro _)

theorem enableBlock_kept {r : State} (s : State) (n : Nat) (h : Kept r s) :
    Kept r (enableBlock s n) := by
  unfold enableBlock
  try dsimp only
  repeat first
    | with_reducible exact h | with_reducible assumption | with_reducible apply gateBlock_kept
    | with_reducible apply kept_ite | split | fail_if_no_progress with_reducible apply kept_mk | (intro _ _ _)
    | (intro _ _) | (intro _)

theorem applyEnables_kept {r : State} (s : State) (h : Kept r s) :
    Kept r (applyEnables s) := by
  unfold applyEnables
  try dsimp only
  repeat first
    | with_reducible exact h | with_reducible assumption | with_reducible apply autoReceive_kept
    | with_reducible apply judgeOff_kept | with_reducible apply enableBlock_kept | with_reducible apply kept_ite
    | split | fail_if_no_progress with_reducible apply kept_mk | with_reducible apply foldl_kept | (intro _ _ _)
    | (intro _ _) | (intro _)

theorem judgeFloors_kept {r : State} (s t : State) (h : Kept r t) :
    Kept r (judgeFloors s t) := by
  unfold judgeFloors
  try dsimp only
  repeat first
    | with_reducible exact h | with_reducible assumption | with_reducible apply kept_ite | split
    | fail_if_no_progress with_reducible apply kept_mk | (intro _ _ _) | (intro _ _) | (intro _)

theorem channelsChanged_kept {r : State} (s t : State) (h : Kept r t) :
    Kept r (channelsChanged s t) := by
  unfold channelsChanged
  try dsimp only
  repeat first
    | with_reducible exact h | with_reducible assumption | with_reducible apply retuneRx_kept
    | with_reducible apply judgeFloors_kept | with_reducible apply kept_ite | split | (intro _ _ _) | (intro _ _)
    | (intro _)

theorem selfTested_kept {r : State} (pass : Bool) (s : State) (h : Kept r s) :
    Kept r (selfTested pass s) := by
  unfold selfTested
  try dsimp only
  repeat first
    | with_reducible exact h | with_reducible assumption | with_reducible apply selfTest_kept
    | with_reducible apply channelsChanged_kept | with_reducible apply kept_ite | split | (intro _ _ _) | (intro _ _)
    | (intro _)

theorem holdSetting_kept {r : State} (key : Nat) (s t : State) (h : Kept r t) :
    Kept r (holdSetting key s t) := by
  unfold holdSetting
  try dsimp only
  repeat first
    | with_reducible exact h | with_reducible assumption | with_reducible apply kept_ite | split
    | fail_if_no_progress with_reducible apply kept_mk | (intro _ _ _) | (intro _ _) | (intro _)

theorem settingsInForce_kept {r : State} (s : State) (h : Kept r s) :
    Kept r (settingsInForce s) := by
  unfold settingsInForce
  try dsimp only
  repeat first
    | with_reducible exact h | with_reducible assumption | with_reducible apply channelsChanged_kept
    | with_reducible apply kept_ite | split | fail_if_no_progress with_reducible apply kept_mk | (intro _ _ _)
    | (intro _ _) | (intro _)

theorem cancelChanged_kept {r : State} (s : State) (h : Kept r s) :
    Kept r (cancelChanged s) := by
  unfold cancelChanged
  try dsimp only
  repeat first
    | with_reducible exact h | with_reducible assumption | with_reducible apply cancelDets_kept
    | with_reducible apply kept_ite | split | fail_if_no_progress with_reducible apply kept_mk | (intro _ _ _)
    | (intro _ _) | (intro _)

theorem plumbEffect_kept {r : State} (s : State) (h : Kept r s) :
    Kept r (plumbEffect s) := by
  unfold plumbEffect
  try dsimp only
  repeat first
    | with_reducible exact h | with_reducible assumption | with_reducible apply kept_ite | split
    | fail_if_no_progress with_reducible apply kept_mk | (intro _ _ _) | (intro _ _) | (intro _)

theorem polarityEffect_kept {r : State} (s : State) (h : Kept r s) :
    Kept r (polarityEffect s) := by
  unfold polarityEffect
  try dsimp only
  repeat first
    | with_reducible exact h | with_reducible assumption | with_reducible apply kept_ite | split
    | fail_if_no_progress with_reducible apply kept_mk | (intro _ _ _) | (intro _ _) | (intro _)

theorem entryEffect_kept {r : State} (key : Nat) (old s : State) (h : Kept r s) :
    Kept r (entryEffect key old s) := by
  unfold entryEffect
  try dsimp only
  repeat first
    | with_reducible exact h | with_reducible assumption | with_reducible apply applyEnables_kept
    | with_reducible apply tbModeEffect_kept | with_reducible apply refreshFcw_kept
    | with_reducible apply swEnEffect_kept | with_reducible apply plumbEffect_kept
    | with_reducible apply polarityEffect_kept | with_reducible apply channelsChanged_kept
    | with_reducible apply cancelChanged_kept | with_reducible apply kept_ite | split
    | fail_if_no_progress with_reducible apply kept_mk | (intro _ _ _) | (intro _ _) | (intro _)

theorem setQAttr_kept {r : State} (v : Nat) (s : State) (h : Kept r s) :
    Kept r (setQAttr v s) := by
  unfold setQAttr
  try dsimp only
  repeat first
    | with_reducible exact h | with_reducible assumption | with_reducible apply setQueue_kept
    | with_reducible apply kept_ite | split | (intro _ _ _) | (intro _ _) | (intro _)

theorem setPollAttr_kept {r : State} (v : Byte) (s : State) (h : Kept r s) :
    Kept r (setPollAttr v s) := by
  unfold setPollAttr
  try dsimp only
  repeat first
    | with_reducible exact h | with_reducible assumption | with_reducible apply kept_ite | split
    | fail_if_no_progress with_reducible apply kept_mk | (intro _ _ _) | (intro _ _) | (intro _)

theorem setEntry_kept {r : State} (key : Nat) (b : Bytes) (s : State) (h : Kept r s) :
    Kept r (setEntry key b s) := by
  unfold setEntry
  try dsimp only
  repeat first
    | with_reducible exact h | with_reducible assumption | with_reducible apply setQAttr_kept
    | with_reducible apply setPollAttr_kept | with_reducible apply setCmpCfg_kept | with_reducible apply setCmp_kept
    | with_reducible apply setCapCfg_kept | with_reducible apply setCntCfg_kept | with_reducible apply setCnt_kept
    | with_reducible apply setPulseCfg_kept | with_reducible apply entryEffect_kept
    | with_reducible apply holdSetting_kept | with_reducible apply setLive_kept | with_reducible apply kept_ite
    | split | fail_if_no_progress with_reducible apply kept_mk | (intro _ _ _) | (intro _ _) | (intro _)

theorem enterPoint_kept {r : State} (point : Fin 4) (failed : Nat) (s : State) (h : Kept r s) :
    Kept r (enterPoint point failed s) := by
  unfold enterPoint
  try dsimp only
  repeat first
    | with_reducible exact h | with_reducible assumption | with_reducible apply kept_ite | split
    | fail_if_no_progress with_reducible apply kept_mk | (intro _ _ _) | (intro _ _) | (intro _)

theorem fallTo_kept {r : State} (point : Fin 4) (s : State) (h : Kept r s) :
    Kept r (fallTo point s) := by
  unfold fallTo
  try dsimp only
  repeat first
    | with_reducible exact h | with_reducible assumption | with_reducible apply enterPoint_kept
    | with_reducible apply kept_ite | split | fail_if_no_progress with_reducible apply kept_mk | (intro _ _ _)
    | (intro _ _) | (intro _)

theorem lintelStepUp_kept {r : State} (failed : Nat) (s : State) (h : Kept r s) :
    Kept r (lintelStepUp failed s) := by
  unfold lintelStepUp
  try dsimp only
  repeat first
    | with_reducible exact h | with_reducible assumption | with_reducible apply leaveSynthUp_kept
    | with_reducible apply enterPoint_kept | with_reducible apply kept_ite | split | (intro _ _ _) | (intro _ _)
    | (intro _)

theorem lintelStepDown_kept {r : State} (s : State) (h : Kept r s) :
    Kept r (lintelStepDown s) := by
  unfold lintelStepDown
  try dsimp only
  repeat first
    | with_reducible exact h | with_reducible assumption | with_reducible apply fallTo_kept
    | with_reducible apply kept_ite | split | (intro _ _ _) | (intro _ _) | (intro _)

theorem setVcore_kept {r : State} (mv : Half) (s : State) (h : Kept r s) :
    Kept r (setVcore mv s) := by
  unfold setVcore
  try dsimp only
  repeat first
    | with_reducible exact h | with_reducible assumption | with_reducible apply kept_ite | split
    | fail_if_no_progress with_reducible apply kept_mk | (intro _ _ _) | (intro _ _) | (intro _)

theorem plumbStepDown_kept {r : State} (s : State) (h : Kept r s) :
    Kept r (plumbStepDown s) := by
  unfold plumbStepDown
  try dsimp only
  repeat first
    | with_reducible exact h | with_reducible assumption | with_reducible apply setVcore_kept
    | with_reducible apply kept_ite | split | (intro _ _ _) | (intro _ _) | (intro _)

theorem nearMiss_kept {r : State} (s : State) (h : Kept r s) :
    Kept r (nearMiss s) := by
  unfold nearMiss
  try dsimp only
  repeat first
    | with_reducible exact h | with_reducible assumption | with_reducible apply setVcore_kept
    | with_reducible apply kept_ite | split | fail_if_no_progress with_reducible apply kept_mk | (intro _ _ _)
    | (intro _ _) | (intro _)

theorem canaryCheck_kept {r : State} (pass : Bool) (s : State) (h : Kept r s) :
    Kept r (canaryCheck pass s) := by
  unfold canaryCheck
  try dsimp only
  repeat first
    | with_reducible exact h | with_reducible assumption | with_reducible apply kept_ite | split
    | fail_if_no_progress with_reducible apply kept_mk | (intro _ _ _) | (intro _ _) | (intro _)

theorem enterSafe_kept {r : State} (s : State) (h : Kept r s) :
    Kept r (enterSafe s) := by
  unfold enterSafe
  try dsimp only
  repeat first
    | with_reducible exact h | with_reducible assumption | with_reducible apply cancelDets_kept
    | with_reducible apply stopPa_kept | with_reducible apply kept_ite | split
    | fail_if_no_progress with_reducible apply kept_mk | (intro _ _ _) | (intro _ _) | (intro _)

theorem setTherm_kept {r : State} (level flag : Nat) (s : State) (h : Kept r s) :
    Kept r (setTherm level flag s) := by
  unfold setTherm
  try dsimp only
  repeat first
    | with_reducible exact h | with_reducible assumption | with_reducible apply postLogged_kept
    | with_reducible apply post_kept | with_reducible apply endSecond_kept | with_reducible apply enterSafe_kept
    | with_reducible apply stopPa_kept | with_reducible apply kept_ite | split
    | fail_if_no_progress with_reducible apply kept_mk | (intro _ _ _) | (intro _ _) | (intro _)

theorem enterCrit_kept {r : State} (s : State) (h : Kept r s) :
    Kept r (enterCrit s) := by
  unfold enterCrit
  try dsimp only
  repeat first
    | with_reducible exact h | with_reducible assumption | with_reducible apply setTherm_kept
    | with_reducible apply kept_ite | split | fail_if_no_progress with_reducible apply kept_mk
    | with_reducible apply foldl_kept | (intro _ _ _) | (intro _ _) | (intro _)

theorem judgeTherm_kept {r : State} (s : State) (h : Kept r s) :
    Kept r (judgeTherm s) := by
  unfold judgeTherm
  try dsimp only
  repeat first
    | with_reducible exact h | with_reducible assumption | with_reducible apply enterCrit_kept
    | with_reducible apply setTherm_kept | with_reducible apply kept_ite | split | (intro _ _ _) | (intro _ _)
    | (intro _)

theorem senseLost_kept {r : State} (s : State) (h : Kept r s) :
    Kept r (senseLost s) := by
  unfold senseLost
  try dsimp only
  repeat first
    | with_reducible exact h | with_reducible assumption | with_reducible apply setTherm_kept
    | with_reducible apply postLogged_kept | with_reducible apply post_kept | with_reducible apply kept_ite | split
    | (intro _ _ _) | (intro _ _) | (intro _)

theorem thermSample_kept {r : State} (temp : Half) (s : State) (h : Kept r s) :
    Kept r (thermSample temp s) := by
  unfold thermSample
  try dsimp only
  repeat first
    | with_reducible exact h | with_reducible assumption | with_reducible apply senseLost_kept
    | with_reducible apply judgeTherm_kept | with_reducible apply kept_ite | split
    | fail_if_no_progress with_reducible apply kept_mk | (intro _ _ _) | (intro _ _) | (intro _)

theorem fullCommit_kept {r : State} (fails : List (Nat × Bool)) (s : State) (h : Kept r s) :
    Kept r (fullCommit fails s) := by
  unfold fullCommit
  try dsimp only
  repeat first
    | with_reducible exact h | with_reducible assumption | with_reducible apply commitStage_kept
    | with_reducible apply kept_ite | split | fail_if_no_progress with_reducible apply kept_mk | (intro _ _ _)
    | (intro _ _) | (intro _)

theorem powerFail_kept {r : State} (run : CommitRun) (s : State) (h : Kept r s) :
    Kept r (powerFail run s) := by
  unfold powerFail
  try dsimp only
  repeat first
    | with_reducible exact h | with_reducible assumption | with_reducible apply fullCommit_kept
    | with_reducible apply kept_ite | split | fail_if_no_progress with_reducible apply kept_mk | (intro _ _ _)
    | (intro _ _) | (intro _)

theorem enterBod_kept {r : State} (run : CommitRun) (s : State) (h : Kept r s) :
    Kept r (enterBod run s) := by
  unfold enterBod
  try dsimp only
  repeat first
    | with_reducible exact h | with_reducible assumption | with_reducible apply halt_kept
    | with_reducible apply loseCommits_kept | with_reducible apply post_kept | with_reducible apply powerFail_kept
    | with_reducible apply fallTo_kept | with_reducible apply kept_ite | split
    | fail_if_no_progress with_reducible apply kept_mk | (intro _ _ _) | (intro _ _) | (intro _)

theorem bodWarn_kept {r : State} (vin : Half) (run : CommitRun) (s : State) (h : Kept r s) :
    Kept r (bodWarn vin run s) := by
  unfold bodWarn
  try dsimp only
  repeat first
    | with_reducible exact h | with_reducible assumption | with_reducible apply enterBod_kept
    | with_reducible apply kept_ite | split | fail_if_no_progress with_reducible apply kept_mk | (intro _ _ _)
    | (intro _ _) | (intro _)

theorem bodWarnClear_kept {r : State} (vin : Half) (s : State) (h : Kept r s) :
    Kept r (bodWarnClear vin s) := by
  unfold bodWarnClear
  try dsimp only
  repeat first
    | with_reducible exact h | with_reducible assumption | with_reducible apply post_kept
    | with_reducible apply judgeOff_kept | with_reducible apply startRx_kept | with_reducible apply autoReceive_kept
    | with_reducible apply kept_ite | split | fail_if_no_progress with_reducible apply kept_mk | (intro _ _ _)
    | (intro _ _) | (intro _)

theorem vinReversal_kept {r : State} (run : CommitRun) (s : State) (h : Kept r s) :
    Kept r (vinReversal run s) := by
  unfold vinReversal
  try dsimp only
  repeat first
    | with_reducible exact h | with_reducible assumption | with_reducible apply freeBits_kept
    | with_reducible apply enterBod_kept | with_reducible apply kept_ite | split
    | fail_if_no_progress with_reducible apply kept_mk | (intro _ _ _) | (intro _ _) | (intro _)

theorem iovddLoss_kept {r : State} (bank : IoBank) (s : State) (h : Kept r s) :
    Kept r (iovddLoss bank s) := by
  unfold iovddLoss
  try dsimp only
  repeat first
    | with_reducible exact h | with_reducible assumption | with_reducible apply kept_ite | split
    | fail_if_no_progress with_reducible apply kept_mk | (intro _ _ _) | (intro _ _) | (intro _)

theorem iovddReturn_kept {r : State} (bank : IoBank) (s : State) (h : Kept r s) :
    Kept r (iovddReturn bank s) := by
  unfold iovddReturn
  try dsimp only
  repeat first
    | with_reducible exact h | with_reducible assumption | with_reducible apply requestWake_kept
    | with_reducible apply kept_ite | split | fail_if_no_progress with_reducible apply kept_mk | (intro _ _ _)
    | (intro _ _) | (intro _)

theorem measureLf_kept {r : State} (s : State) (h : Kept r s) :
    Kept r (measureLf s) := by
  unfold measureLf
  try dsimp only
  repeat first
    | with_reducible exact h | with_reducible assumption | with_reducible apply kept_ite | split
    | fail_if_no_progress with_reducible apply kept_mk | (intro _ _ _) | (intro _ _) | (intro _)

theorem stopClocks_kept {r : State} (power : PowerState) (s : State) (h : Kept r s) :
    Kept r (stopClocks power s) := by
  unfold stopClocks
  try dsimp only
  repeat first
    | with_reducible exact h | with_reducible assumption | with_reducible apply measureLf_kept
    | with_reducible apply kept_ite | split | fail_if_no_progress with_reducible apply kept_mk | (intro _ _ _)
    | (intro _ _) | (intro _)

theorem sealWaiting_kept {r : State} (stage : Bool) (s : State) (h : Kept r s) :
    Kept r (sealWaiting stage s) := by
  unfold sealWaiting
  try dsimp only
  repeat first
    | with_reducible exact h | with_reducible assumption | with_reducible apply stageWaiting_kept
    | with_reducible apply kept_ite | split | fail_if_no_progress with_reducible apply kept_mk | (intro _ _ _)
    | (intro _ _) | (intro _)

theorem enterShutdown_kept {r : State} (s : State) (h : Kept r s) :
    Kept r (enterShutdown s) := by
  unfold enterShutdown
  try dsimp only
  repeat first
    | with_reducible exact h | with_reducible assumption | with_reducible apply sealWaiting_kept
    | with_reducible apply fullCommit_kept | with_reducible apply stopClocks_kept | with_reducible apply kept_ite
    | split | fail_if_no_progress with_reducible apply kept_mk | (intro _ _ _) | (intro _ _) | (intro _)

theorem enterDormant_kept {r : State} (power : PowerState) (s : State) (h : Kept r s) :
    Kept r (enterDormant power s) := by
  unfold enterDormant
  try dsimp only
  repeat first
    | with_reducible exact h | with_reducible assumption | with_reducible apply sealWaiting_kept
    | with_reducible apply retireEntry_kept | with_reducible apply advanceGen_kept
    | with_reducible apply stopClocks_kept | with_reducible apply kept_ite | split
    | fail_if_no_progress with_reducible apply kept_mk | with_reducible apply foldl_kept | (intro _ _ _) | (intro _ _)
    | (intro _)

theorem enterSleep_kept {r : State} (code : Nat) (s : State) (h : Kept r s) :
    Kept r (enterSleep code s) := by
  unfold enterSleep
  try dsimp only
  repeat first
    | with_reducible exact h | with_reducible assumption | with_reducible apply migrationEnd_kept
    | with_reducible apply enterShutdown_kept | with_reducible apply enterDormant_kept | with_reducible apply kept_ite
    | split | fail_if_no_progress with_reducible apply kept_mk | with_reducible apply foldl_kept | (intro _ _ _)
    | (intro _ _) | (intro _)

theorem finishSleep_kept {r : State} (s : State) (h : Kept r s) :
    Kept r (finishSleep s) := by
  unfold finishSleep
  try dsimp only
  repeat first
    | with_reducible exact h | with_reducible assumption | with_reducible apply enterSleep_kept
    | with_reducible apply kept_ite | split | fail_if_no_progress with_reducible apply kept_mk | (intro _ _ _)
    | (intro _ _) | (intro _)

theorem requestSleep_kept {r : State} (code : Fin 8) (s : State) (h : Kept r s) :
    Kept r (requestSleep code s) := by
  unfold requestSleep
  try dsimp only
  repeat first
    | with_reducible exact h | with_reducible assumption | with_reducible apply finishSleep_kept
    | with_reducible apply kept_ite | split | fail_if_no_progress with_reducible apply kept_mk | (intro _ _ _)
    | (intro _ _) | (intro _)

theorem reachIdle_kept {r : State} (s : State) (h : Kept r s) :
    Kept r (reachIdle s) := by
  unfold reachIdle
  try dsimp only
  repeat first
    | with_reducible exact h | with_reducible assumption | with_reducible apply autoReceive_kept
    | with_reducible apply gotoIdle_kept | with_reducible apply kept_ite | split
    | fail_if_no_progress with_reducible apply kept_mk | (intro _ _ _) | (intro _ _) | (intro _)

theorem wakeIdle_kept {r : State} (sources : BitVec 7) (s : State) (h : Kept r s) :
    Kept r (wakeIdle sources s) := by
  unfold wakeIdle
  try dsimp only
  repeat first
    | with_reducible exact h | with_reducible assumption | with_reducible apply fallTo_kept
    | with_reducible apply stageCkpt_kept | with_reducible apply reachIdle_kept | with_reducible apply kept_ite
    | split | fail_if_no_progress with_reducible apply kept_mk | (intro _ _ _) | (intro _ _) | (intro _)

theorem xoStart_kept {r : State} (s : State) (h : Kept r s) :
    Kept r (xoStart s) := by
  unfold xoStart
  try dsimp only
  repeat first
    | with_reducible exact h | with_reducible assumption | with_reducible apply kept_ite | split
    | fail_if_no_progress with_reducible apply kept_mk | (intro _ _ _) | (intro _ _) | (intro _)

theorem pllLock_kept {r : State} (s : State) (h : Kept r s) :
    Kept r (pllLock s) := by
  unfold pllLock
  try dsimp only
  repeat first
    | with_reducible exact h | with_reducible assumption | with_reducible apply reachIdle_kept
    | with_reducible apply leaveSynthUp_kept | with_reducible apply kept_ite | split
    | fail_if_no_progress with_reducible apply kept_mk | (intro _ _ _) | (intro _ _) | (intro _)

theorem lfxoQualified_kept {r : State} (s : State) (h : Kept r s) :
    Kept r (lfxoQualified s) := by
  unfold lfxoQualified
  try dsimp only
  repeat first
    | with_reducible exact h | with_reducible assumption | with_reducible apply kept_ite | split
    | fail_if_no_progress with_reducible apply kept_mk | (intro _ _ _) | (intro _ _) | (intro _)

theorem xoFail_kept {r : State} (s : State) (h : Kept r s) :
    Kept r (xoFail s) := by
  unfold xoFail
  try dsimp only
  repeat first
    | with_reducible exact h | with_reducible assumption | with_reducible apply freeBits_kept
    | with_reducible apply postLogged_kept | with_reducible apply enterSafe_kept | with_reducible apply halt_kept
    | with_reducible apply kept_ite | split | fail_if_no_progress with_reducible apply kept_mk | (intro _ _ _)
    | (intro _ _) | (intro _)

theorem stopPll_kept {r : State} (s : State) (h : Kept r s) :
    Kept r (stopPll s) := by
  unfold stopPll
  try dsimp only
  repeat first
    | with_reducible exact h | with_reducible assumption | with_reducible apply freeBits_kept
    | with_reducible apply reachIdle_kept | with_reducible apply fallTo_kept | with_reducible apply kept_ite | split
    | fail_if_no_progress with_reducible apply kept_mk | (intro _ _ _) | (intro _ _) | (intro _)

theorem lockTimeout_kept {r : State} (s : State) (h : Kept r s) :
    Kept r (lockTimeout s) := by
  unfold lockTimeout
  try dsimp only
  repeat first
    | with_reducible exact h | with_reducible assumption | with_reducible apply stopPll_kept
    | with_reducible apply xoFail_kept | with_reducible apply kept_ite | split
    | fail_if_no_progress with_reducible apply kept_mk | (intro _ _ _) | (intro _ _) | (intro _)

theorem lfxoFailure_kept {r : State} (s : State) (h : Kept r s) :
    Kept r (lfxoFailure s) := by
  unfold lfxoFailure
  try dsimp only
  repeat first
    | with_reducible exact h | with_reducible assumption | with_reducible apply postLogged_kept
    | with_reducible apply kept_ite | split | fail_if_no_progress with_reducible apply kept_mk | (intro _ _ _)
    | (intro _ _) | (intro _)

theorem unlock_kept {r : State} (s : State) (h : Kept r s) :
    Kept r (unlock s) := by
  unfold unlock
  try dsimp only
  repeat first
    | with_reducible exact h | with_reducible assumption | with_reducible apply postLogged_kept
    | with_reducible apply halt_kept | with_reducible apply startRx_kept | with_reducible apply kept_ite | split
    | fail_if_no_progress with_reducible apply kept_mk | (intro _ _ _) | (intro _ _) | (intro _)

theorem lossOfLock_kept {r : State} (within10s : Bool) (s : State) (h : Kept r s) :
    Kept r (lossOfLock within10s s) := by
  unfold lossOfLock
  try dsimp only
  repeat first
    | with_reducible exact h | with_reducible assumption | with_reducible apply stopPll_kept
    | with_reducible apply unlock_kept | with_reducible apply xoFail_kept | with_reducible apply kept_ite | split
    | fail_if_no_progress with_reducible apply kept_mk | (intro _ _ _) | (intro _ _) | (intro _)

theorem rcCalibration_kept {r : State} (hfrc lfrc : BitVec 10) (s : State) (h : Kept r s) :
    Kept r (rcCalibration hfrc lfrc s) := by
  unfold rcCalibration
  try dsimp only
  repeat first
    | with_reducible exact h | with_reducible assumption | with_reducible apply kept_ite | split
    | fail_if_no_progress with_reducible apply kept_mk | (intro _ _ _) | (intro _ _) | (intro _)

theorem deferredGate_kept {r : State} (n : Nat) (s : State) (h : Kept r s) :
    Kept r (deferredGate n s) := by
  unfold deferredGate
  try dsimp only
  repeat first
    | with_reducible exact h | with_reducible assumption | with_reducible apply judgeOff_kept
    | with_reducible apply gateBlock_kept | with_reducible apply kept_ite | split | (intro _ _ _) | (intro _ _)
    | (intro _)

theorem powerGood_kept {r : State} (d : Nat) (s : State) (h : Kept r s) :
    Kept r (powerGood d s) := by
  unfold powerGood
  try dsimp only
  repeat first
    | with_reducible exact h | with_reducible assumption | with_reducible apply autoReceive_kept
    | with_reducible apply kept_ite | split | fail_if_no_progress with_reducible apply kept_mk
    | with_reducible apply foldl_kept | (intro _ _ _) | (intro _ _) | (intro _)

theorem recompute_kept {r : State} (keys : List Nat) (s : State) (h : Kept r s) :
    Kept r (recompute keys s) := by
  unfold recompute
  try dsimp only
  repeat first
    | with_reducible exact h | with_reducible assumption | with_reducible apply setEntry_kept
    | with_reducible apply kept_ite | split | fail_if_no_progress with_reducible apply kept_mk
    | with_reducible apply foldl_kept | (intro _ _ _) | (intro _ _) | (intro _)

theorem switchCourse_kept {r : State} (target : Fin 16) (cause : Nat) (s : State) (h : Kept r s) :
    Kept r (switchCourse target cause s) := by
  unfold switchCourse
  try dsimp only
  repeat first
    | with_reducible exact h | with_reducible assumption | with_reducible apply recompute_kept
    | with_reducible apply post_kept | with_reducible apply kept_ite | split
    | fail_if_no_progress with_reducible apply kept_mk | (intro _ _ _) | (intro _ _) | (intro _)

theorem pendingSwitch_kept {r : State} (s : State) (h : Kept r s) :
    Kept r (pendingSwitch s) := by
  unfold pendingSwitch
  try dsimp only
  repeat first
    | with_reducible exact h | with_reducible assumption | with_reducible apply switchCourse_kept
    | with_reducible apply kept_ite | split | (intro _ _ _) | (intro _ _) | (intro _)

theorem enterState_kept {r : State} (code : Nat) (s : State) (h : Kept r s) :
    Kept r (enterState code s) := by
  unfold enterState
  try dsimp only
  repeat first
    | with_reducible exact h | with_reducible assumption | with_reducible apply cancelDets_kept
    | with_reducible apply endAttempt_kept | with_reducible apply enterRun_kept
    | with_reducible apply autoReceive_kept | with_reducible apply kept_ite | split
    | fail_if_no_progress with_reducible apply kept_mk | (intro _ _ _) | (intro _ _) | (intro _)

theorem respond_kept {r0 : State} (r : Request) (code : Half) (value : Bytes) (s : State) (h : Kept r0 s) :
    Kept r0 (respond r code value s) := by
  unfold respond
  try dsimp only
  repeat first
    | with_reducible exact h | with_reducible assumption | with_reducible apply kept_ite | split
    | fail_if_no_progress with_reducible apply kept_mk | (intro _ _ _) | (intro _ _) | (intro _)

theorem gateError_kept {r : State} (addr block : Nat) (write dict : Bool) (source : Nat) (s : State) (h : Kept r s) :
    Kept r (gateError addr block write dict source s) := by
  unfold gateError
  try dsimp only
  repeat first
    | with_reducible exact h | with_reducible assumption | with_reducible apply post_kept
    | with_reducible apply kept_ite | split | fail_if_no_progress with_reducible apply kept_mk | (intro _ _ _)
    | (intro _ _) | (intro _)

theorem refuse_kept {r0 : State} (r : Request) (v : Verdict) (s : State) (h : Kept r0 s) :
    Kept r0 (refuse r v s) := by
  unfold refuse
  try dsimp only
  repeat first
    | with_reducible exact h | with_reducible assumption | with_reducible apply respond_kept
    | with_reducible apply gateError_kept | with_reducible apply illegalState_kept
    | with_reducible apply lockViolation_kept | with_reducible apply kept_ite | split
    | fail_if_no_progress with_reducible apply kept_mk | (intro _ _ _) | (intro _ _) | (intro _)

theorem sealedEffect_kept {r : State} (key : Nat) (value : Bytes) (s : State) (h : Kept r s) :
    Kept r (sealedEffect key value s) := by
  unfold sealedEffect
  try dsimp only
  repeat first
    | with_reducible exact h | with_reducible assumption | with_reducible apply setQueue_kept
    | with_reducible apply setLive_kept | with_reducible apply setEntry_kept | with_reducible apply kept_ite | split
    | fail_if_no_progress with_reducible apply kept_mk | (intro _ _ _) | (intro _ _) | (intro _)

theorem readEffect_kept {r : State} (key : Nat) (s : State) (h : Kept r s) :
    Kept r (readEffect key s) := by
  unfold readEffect
  try dsimp only
  repeat first
    | with_reducible exact h | with_reducible assumption | with_reducible apply clearNew_kept
    | with_reducible apply kept_ite | split | (intro _ _ _) | (intro _ _) | (intro _)

theorem askSeal_kept {r0 : State} (r : Request) (recs : List NewRec) (s : State) (h : Kept r0 s) :
    Kept r0 (askSeal r recs s) := by
  unfold askSeal
  try dsimp only
  repeat first
    | with_reducible exact h | with_reducible assumption | with_reducible apply kept_ite | split
    | fail_if_no_progress with_reducible apply kept_mk | (intro _ _ _) | (intro _ _) | (intro _)

theorem transitionAt_kept {r : State} (addr sub : Nat) (dict : Bool) (source code : Nat) (s : State) (h : Kept r s) :
    Kept r (transitionAt addr sub dict source code s).2 := by
  unfold transitionAt
  try dsimp only
  repeat first
    | with_reducible exact h | with_reducible assumption | with_reducible apply pendingSwitch_kept
    | with_reducible apply enterState_kept | with_reducible apply illegalState_kept | with_reducible apply kept_ite
    | split | (intro _ _ _) | (intro _ _) | (intro _)

theorem rowOf_region : rowOf (K.region / 256) (K.region % 256) = some ⟨0x1060, 0x01, 1, .u8, .w1, 0, .between 0 3,
    none⟩ := by
  decide +kernel

theorem stored_region (v : Bytes) : stored K.region v = v := by
  unfold stored
  rw [rowOf_region]
  rfl

theorem judge_unlocked (s : State) (q : Request) (h : judge s q = .ok) (hw : q.write = true)
    (hk : (onceKey q.key || fuseKey q.key) = true) (v : Bytes) (hv : lockedValue s q.key = some v) :
    v = stored q.key q.value := by
  refine Classical.byContradiction fun hne => ?_
  have hl : ((onceKey q.key || fuseKey q.key) && (lockedValue s q.key).any (fun v => v != stored q.key q.value)) = true
      := by
    rw [hk, hv]
    simpa using hne
  unfold judge at h
  split at h
  · rename_i w hw'
    subst h
    unfold earlyTests at hw'
    repeat' split at hw'
    all_goals cases hw'
  · split at h
    · cases h
    · split at h
      · cases h
      · unfold writeTests at h
        simp only [hl, if_true] at h
        repeat' split at h
        all_goals cases h

theorem writeEffect_kept {r : State} (q : Request) (codes : List AdcCode) (s : State) (hj : judge s q = .ok)
    (hw : q.write = true) (h : Kept r s) : Kept r (writeEffect q codes s) := by
  unfold writeEffect
  extract_lets key v
  by_cases hk : key = K.xoCfg
  · rw [if_pos hk]
    refine kept_ite h ⟨h.pending, h.ring, h.live, h.siliconRev, h.serial, h.codeVersion, ?_, h.region⟩
    intro b hb
    have hv := judge_unlocked s q hj hw (by show (onceKey key || fuseKey key) = true; rw [hk]; decide) [b]
      (by show lockedValue s key = _; rw [hk]; unfold lockedValue; rw [if_pos rfl, h.xoCfg b hb]; rfl)
    show (stored key q.value).head? = some b
    rw [show stored key q.value = [b] from hv.symm]
    rfl
  · rw [if_neg hk]
    by_cases hk : key = K.region
    · rw [if_pos hk]
      refine kept_ite h ⟨h.pending, h.ring, h.live, h.siliconRev, h.serial, h.codeVersion, h.xoCfg, ?_⟩
      intro b hb
      have hv := judge_unlocked s q hj hw (by show (onceKey key || fuseKey key) = true; rw [hk]; decide) [b]
        (by show lockedValue s key = _; rw [hk]; unfold lockedValue; rw [if_neg (by decide), if_pos rfl,
            h.region b hb]; rfl)
      have hq : q.value = [b] := by
        have h2 : stored key q.value = q.value := by rw [hk]; exact stored_region q.value
        rw [← h2]
        exact hv.symm
      show q.value.head? = some b
      rw [hq]
      rfl
    · rw [if_neg hk]
      repeat first
        | with_reducible exact h
        | with_reducible apply kept_ite
        | with_reducible apply radioCommand_kept
        | with_reducible apply purge_kept
        | with_reducible apply snapshot_kept
        | with_reducible apply staggerGo_kept
        | with_reducible apply clearCmpStat_kept
        | with_reducible apply adcBegin_kept
        | with_reducible apply telemClear_kept
        | with_reducible apply setDreq_kept
        | with_reducible apply setEntry_kept
        | with_reducible apply kept_mk

theorem perform_kept {r : State} (q : Request) (codes : List AdcCode) (s : State) (hj : judge s q = .ok)
    (h : Kept r s) : Kept r (perform q codes s) := by
  unfold perform
  split
  · exact respond_kept _ _ _ _ (readEffect_kept _ _ h)
  · rename_i hw
    have hw' : q.write = true := by simpa using hw
    repeat first
      | with_reducible exact h
      | with_reducible apply kept_ite
      | with_reducible apply respond_kept
      | with_reducible apply transitionAt_kept
      | with_reducible apply requestSleep_kept
      | with_reducible apply askSeal_kept
      | exact writeEffect_kept q codes s hj hw' h
      | with_reducible apply kept_mk

theorem serve_kept {r : State} (q : Request) (codes : List AdcCode) (s : State) (h : Kept r s) :
    Kept r (serve q codes s) := by
  unfold serve
  split
  · rename_i hj
    exact perform_kept q codes s hj h
  · exact refuse_kept _ _ _ h

theorem drain_kept {r : State} (n : Nat) (s : State) (h : Kept r s) : Kept r (drain n s) := by
  induction n generalizing s with
  | zero => exact h
  | succ n ih =>
    unfold drain
    refine kept_ite h ?_
    split
    · exact ih _ (serve_kept _ _ _ (kept_mk h ..))
    · exact h

theorem reach_kept {r0 : State} (r : Request) (codes : List AdcCode) (s : State) (h : Kept r0 s) :
    Kept r0 (reach r codes s) := by
  unfold reach
  try dsimp only
  repeat first
    | with_reducible exact h | with_reducible assumption | with_reducible apply serve_kept
    | with_reducible apply kept_ite | split | fail_if_no_progress with_reducible apply kept_mk | (intro _ _ _)
    | (intro _ _) | (intro _)

theorem present_kept {r : State} (f : State → State) (s : State) (hf : ∀ t, Kept r t → Kept r (f t)) (h : Kept r s) :
    Kept r (present f s) := kept_ite h (hf s h)

theorem submit_kept {r0 : State} (r : Request) (codes : List AdcCode) (s : State) (h : Kept r0 s) :
    Kept r0 (submit r codes s) := by
  unfold submit
  try dsimp only
  repeat first
    | with_reducible exact h | with_reducible assumption | with_reducible apply spiError_kept
    | with_reducible apply reach_kept | with_reducible apply kept_ite | split
    | fail_if_no_progress with_reducible apply kept_mk | (intro _ _ _) | (intro _ _) | (intro _)

theorem atBoundaryWork_kept {r : State} (s : State) (h : Kept r s) :
    Kept r (atBoundaryWork s) := by
  unfold atBoundaryWork
  try dsimp only
  repeat first
    | with_reducible exact h | with_reducible assumption | with_reducible apply pendingSwitch_kept
    | with_reducible apply transitionAt_kept | with_reducible apply kept_ite | split
    | fail_if_no_progress with_reducible apply kept_mk | (intro _ _ _) | (intro _ _) | (intro _)

theorem ownConfig_kept {r0 : State} (r : Request) (s : State) (h : Kept r0 s) :
    Kept r0 (ownConfig r s) := by
  unfold ownConfig
  try dsimp only
  repeat first
    | with_reducible exact h | with_reducible assumption | with_reducible apply kept_ite | split
    | fail_if_no_progress with_reducible apply kept_mk | (intro _ _ _) | (intro _ _) | (intro _)

theorem sealDone_kept {r : State} (s : State) (h : Kept r s) :
    Kept r (sealDone s) := by
  unfold sealDone
  try dsimp only
  repeat first
    | with_reducible exact h | with_reducible assumption | with_reducible apply sealedEffect_kept
    | with_reducible apply ownConfig_kept | with_reducible apply drain_kept | with_reducible apply atBoundaryWork_kept
    | with_reducible apply respond_kept | with_reducible apply kept_ite | split
    | fail_if_no_progress with_reducible apply kept_mk | (intro _ _ _) | (intro _ _) | (intro _)

theorem sealFailed_kept {r : State} (s : State) (h : Kept r s) :
    Kept r (sealFailed s) := by
  unfold sealFailed
  try dsimp only
  repeat first
    | with_reducible exact h | with_reducible assumption | with_reducible apply drain_kept
    | with_reducible apply atBoundaryWork_kept | with_reducible apply respond_kept | with_reducible apply kept_ite
    | split | fail_if_no_progress with_reducible apply kept_mk | (intro _ _ _) | (intro _ _) | (intro _)

theorem frameBoundary_kept {r : State} (s : State) (h : Kept r s) :
    Kept r (frameBoundary s) := by
  unfold frameBoundary
  try dsimp only
  repeat first
    | with_reducible exact h | with_reducible assumption | with_reducible apply atBoundaryWork_kept
    | with_reducible apply transitionAt_kept | with_reducible apply drain_kept | with_reducible apply respond_kept
    | with_reducible apply sendFacks_kept | with_reducible apply settle_kept | with_reducible apply endSecond_kept
    | with_reducible apply cancelChanged_kept | with_reducible apply retuneRx_kept
    | with_reducible apply settingsInForce_kept | with_reducible apply kept_ite | split
    | fail_if_no_progress with_reducible apply kept_mk | (intro _ _ _) | (intro _ _) | (intro _)

theorem stall2_kept {r : State} (s : State) (h : Kept r s) :
    Kept r (stall2 s) := by
  unfold stall2
  try dsimp only
  repeat first
    | with_reducible exact h | with_reducible assumption | with_reducible apply kept_ite | split
    | fail_if_no_progress with_reducible apply kept_mk | (intro _ _ _) | (intro _ _) | (intro _)

theorem stall3_kept {r : State} (s : State) (h : Kept r s) :
    Kept r (stall3 s) := by
  unfold stall3
  try dsimp only
  repeat first
    | with_reducible exact h | with_reducible assumption | with_reducible apply kept_ite | split
    | fail_if_no_progress with_reducible apply kept_mk | (intro _ _ _) | (intro _ _) | (intro _)

theorem stall4_kept {r : State} (s : State) (h : Kept r s) :
    Kept r (stall4 s) := by
  unfold stall4
  try dsimp only
  repeat first
    | with_reducible exact h | with_reducible assumption | with_reducible apply kept_ite | split
    | fail_if_no_progress with_reducible apply kept_mk | (intro _ _ _) | (intro _ _) | (intro _)

theorem recordStation_kept {r : State} (a : Nat) (st : Station) (s : State) (h : Kept r s) :
    Kept r (recordStation a st s) := by
  unfold recordStation
  try dsimp only
  repeat first
    | with_reducible exact h | with_reducible assumption | with_reducible apply kept_ite | split
    | fail_if_no_progress with_reducible apply kept_mk | (intro _ _ _) | (intro _ _) | (intro _)

theorem joinCleared_kept {r : State} (q : Nat) (st : Station) (tag : Half) (s : State) (h : Kept r s) :
    Kept r (joinCleared q st tag s) := by
  unfold joinCleared
  try dsimp only
  repeat first
    | with_reducible exact h | with_reducible assumption | with_reducible apply recordStation_kept
    | with_reducible apply setQueue_kept | with_reducible apply kept_ite | split
    | fail_if_no_progress with_reducible apply kept_mk | (intro _ _ _) | (intro _ _) | (intro _)

theorem joinUncleared_kept {r : State} (tag : Half) (s : State) (h : Kept r s) :
    Kept r (joinUncleared tag s) := by
  unfold joinUncleared
  try dsimp only
  repeat first
    | with_reducible exact h | with_reducible assumption | with_reducible apply kept_ite | split
    | fail_if_no_progress with_reducible apply kept_mk | (intro _ _ _) | (intro _ _) | (intro _)

theorem end2_kept {r : State} (done : Bool) (s : State) (h : Kept r s) :
    Kept r (end2 done s) := by
  unfold end2
  try dsimp only
  repeat first
    | with_reducible exact h | with_reducible assumption | with_reducible apply finishSleep_kept
    | with_reducible apply sealDone_kept | with_reducible apply sealFailed_kept
    | with_reducible apply joinCleared_kept | with_reducible apply settle_kept
    | with_reducible apply joinUncleared_kept | with_reducible apply kept_ite | split
    | fail_if_no_progress with_reducible apply kept_mk | (intro _ _ _) | (intro _ _) | (intro _)

theorem append2_kept {r : State} (a : Append2) (ending : AppendEnd) (s : State) (h : Kept r s) :
    Kept r (append2 a ending s) := by
  unfold append2
  try dsimp only
  repeat first
    | with_reducible exact h | with_reducible assumption | with_reducible apply stall2_kept
    | with_reducible apply end2_kept | with_reducible apply kept_ite | split
    | fail_if_no_progress with_reducible apply kept_mk | (intro _ _ _) | (intro _ _) | (intro _)

theorem freeStage_kept {r : State} (n : Nat) (s : State) (h : Kept r s) :
    Kept r (freeStage n s) := by
  unfold freeStage
  try dsimp only
  repeat first
    | with_reducible exact h | with_reducible assumption | with_reducible apply stageWaiting_kept
    | with_reducible apply kept_ite | split | fail_if_no_progress with_reducible apply kept_mk | (intro _ _ _)
    | (intro _ _) | (intro _)

theorem append3_kept {r : State} (n : Nat) (ending : AppendEnd) (s : State) (h : Kept r s) :
    Kept r (append3 n ending s) := by
  unfold append3
  try dsimp only
  repeat first
    | with_reducible exact h | with_reducible assumption | with_reducible apply stall3_kept
    | with_reducible apply freeStage_kept | with_reducible apply kept_ite | split
    | fail_if_no_progress with_reducible apply kept_mk | (intro _ _ _) | (intro _ _) | (intro _)

theorem append4_kept {r : State} (n : Nat) (ending : AppendEnd) (s : State) (h : Kept r s) :
    Kept r (append4 n ending s) := by
  unfold append4
  try dsimp only
  repeat first
    | with_reducible exact h | with_reducible assumption | with_reducible apply stall4_kept
    | with_reducible apply kept_ite | split | fail_if_no_progress with_reducible apply kept_mk | (intro _ _ _)
    | (intro _ _) | (intro _)

theorem stallLower_kept {r : State} (three four : Bool) (s : State) (h : Kept r s) :
    Kept r (stallLower three four s) := by
  unfold stallLower
  try dsimp only
  repeat first
    | with_reducible exact h | with_reducible assumption | with_reducible apply stall3_kept
    | with_reducible apply stall4_kept | with_reducible apply kept_ite | split | (intro _ _ _) | (intro _ _)
    | (intro _)

theorem mortarAppend_kept {r : State} (records : Nat) (ending : AppendEnd) (s : State) (h : Kept r s) :
    Kept r (mortarAppend records ending s) := by
  unfold mortarAppend
  try dsimp only
  repeat first
    | with_reducible exact h | with_reducible assumption | with_reducible apply tidyFlash_kept
    | with_reducible apply stallLower_kept | with_reducible apply stall2_kept | with_reducible apply append2_kept
    | with_reducible apply append3_kept | with_reducible apply append4_kept | with_reducible apply kept_ite | split
    | (intro _ _ _) | (intro _ _) | (intro _)

theorem compactPair_kept {r : State} (p : Pair) (s t : State) (h : Kept r s) (ht : compactPair p s = some t) :
    Kept r t := by
  simp only [compactPair] at ht
  generalize (if p.full = true then s.mortar else closePair s.mortar) = m0 at ht
  split at ht
  · obtain rfl := Option.some.inj ht
    exact kept_mk h ..
  · cases ht

theorem refreshPair_kept {r : State} (p : Pair) (reason : Nat) (s t : State) (h : Kept r s)
    (ht : refreshPair p reason s = some t) : Kept r t := by
  unfold refreshPair at ht
  split at ht
  · cases ht
  · rename_i u hu
    obtain rfl := Option.some.inj ht
    exact post_kept _ _ _ _ (kept_mk (compactPair_kept p s u h hu) ..)

theorem compact_kept {r : State} (s0 : State) (h0 : Kept r s0) : Kept r (compact s0) := by
  have h := tidyFlash_kept s0 h0
  unfold compact
  dsimp only
  generalize tidyFlash s0 = s at h
  apply kept_ite h0
  split
  · split
    · exact getD_kept _ _ h fun t => refreshPair_kept _ _ s t h
    · exact kept_mk h ..
  · apply kept_ite _ h
    split
    · exact getD_kept _ _ h fun t => refreshPair_kept _ _ s t h
    · split
      · exact getD_kept _ _ h fun t => compactPair_kept _ s t h
      · exact h

theorem hotRefresh_kept {r : State} (s : State) (h : Kept r s) : Kept r (hotRefresh s) := by
  unfold hotRefresh
  apply kept_ite _ h
  exact foldl_kept _ _ _ h fun t p ht => getD_kept _ _ (kept_mk ht ..) fun u => refreshPair_kept _ _ t u ht

theorem damageRec_kept {r : State} (p : Pair) (i : Nat) (s : State) (h : Kept r s) :
    Kept r (damageRec p i s) := by
  unfold damageRec
  try dsimp only
  repeat first
    | with_reducible exact h | with_reducible assumption | with_reducible apply postRepair_kept
    | with_reducible apply kept_ite | split | fail_if_no_progress with_reducible apply kept_mk | (intro _ _ _)
    | (intro _ _) | (intro _)

theorem marginScan_kept {r : State} (sseq : Nat) (found : Margin) (s : State) (h : Kept r s) :
    Kept r (marginScan sseq found s) := by
  unfold marginScan
  apply kept_ite h
  split
  · exact h
  · dsimp only
    split
    · exact h
    · exact getD_kept _ _ (kept_mk h ..) fun t => refreshPair_kept _ _ s t h
    · exact getD_kept _ _ (kept_mk h ..) fun t => refreshPair_kept _ _ s t h
    · exact damageRec_kept _ _ _ h

theorem rejectImage_kept {r : State} (s : State) (h : Kept r s) :
    Kept r (rejectImage s) := by
  unfold rejectImage
  try dsimp only
  repeat first
    | with_reducible exact h | with_reducible assumption | with_reducible apply sealFailed_kept
    | with_reducible apply kept_ite | split | fail_if_no_progress with_reducible apply kept_mk | (intro _ _ _)
    | (intro _ _) | (intro _)

theorem bodSettled_kept {r : State} (s : State) (h : Kept r s) :
    Kept r (bodSettled s) := by
  unfold bodSettled
  try dsimp only
  repeat first
    | with_reducible exact h | with_reducible assumption | with_reducible apply finishSleep_kept
    | with_reducible apply rejectImage_kept | with_reducible apply kept_ite | split | (intro _ _ _) | (intro _ _)
    | (intro _)

theorem appendTimeout_kept {r : State} (s : State) (h : Kept r s) :
    Kept r (appendTimeout s) := by
  unfold appendTimeout
  try dsimp only
  repeat first
    | with_reducible exact h | with_reducible assumption | with_reducible apply end2_kept
    | with_reducible apply stall2_kept | with_reducible apply kept_ite | split | (intro _ _ _) | (intro _ _)
    | (intro _)

theorem eraseEnd_kept {r : State} (okA okB : Bool) (s : State) (h : Kept r s) :
    Kept r (eraseEnd okA okB s) := by
  unfold eraseEnd
  try dsimp only
  repeat first
    | with_reducible exact h | with_reducible assumption | with_reducible apply endErase_kept
    | with_reducible apply kept_ite | split | fail_if_no_progress with_reducible apply kept_mk | (intro _ _ _)
    | (intro _ _) | (intro _)

theorem wholeHz_kept {r : State} (x : Int) (s : State) (h : Kept r s) :
    Kept r (wholeHz x s).2 := by
  unfold wholeHz
  try dsimp only
  repeat first
    | with_reducible exact h | with_reducible assumption | with_reducible apply freeBits_kept
    | with_reducible apply kept_ite | split | (intro _ _ _) | (intro _ _) | (intro _)

theorem latchSync_kept {r : State} (d : Det) (c : Confirm) (s : State) (h : Kept r s) :
    Kept r (latchSync d c s) := by
  unfold latchSync
  try dsimp only
  repeat first
    | with_reducible exact h | with_reducible assumption | with_reducible apply wholeHz_kept
    | with_reducible apply kept_ite | split | fail_if_no_progress with_reducible apply kept_mk | (intro _ _ _)
    | (intro _ _) | (intro _)

theorem confirmDet_kept {r : State} (d : Det) (c : Confirm) (s : State) (h : Kept r s) :
    Kept r (confirmDet d c s) := by
  unfold confirmDet
  try dsimp only
  repeat first
    | with_reducible exact h | with_reducible assumption | with_reducible apply latchSync_kept
    | with_reducible apply post_kept | with_reducible apply setReception_kept | with_reducible apply busyListen_kept
    | with_reducible apply goto_kept | with_reducible apply kept_ite | split
    | fail_if_no_progress with_reducible apply kept_mk | (intro _ _ _) | (intro _ _) | (intro _)

theorem headerFails_kept {r : State} (d : Det) (s : State) (h : Kept r s) :
    Kept r (headerFails d s) := by
  unfold headerFails
  try dsimp only
  repeat first
    | with_reducible exact h | with_reducible assumption | with_reducible apply cancelDet_kept
    | with_reducible apply kept_ite | split | fail_if_no_progress with_reducible apply kept_mk | (intro _ _ _)
    | (intro _ _) | (intro _)

theorem confirmOn_kept {r : State} (chan : Path) (good : List (Det × Confirm)) (s : State) (h : Kept r s) :
    Kept r (confirmOn chan good s) := by
  unfold confirmOn
  try dsimp only
  repeat first
    | with_reducible exact h | with_reducible assumption | with_reducible apply confirmDet_kept
    | with_reducible apply kept_ite | split | (intro _ _ _) | (intro _ _) | (intro _)

theorem syncFound_kept {r : State} (l : List Confirm) (expired : List Half) (s : State) (h : Kept r s) :
    Kept r (syncFound l expired s) := by
  unfold syncFound
  try dsimp only
  repeat first
    | with_reducible exact h | with_reducible assumption | with_reducible apply confirmOn_kept
    | with_reducible apply headerFails_kept | with_reducible apply cancelTag_kept
    | with_reducible apply cancelDets_kept | with_reducible apply kept_ite | split
    | fail_if_no_progress with_reducible apply kept_mk | with_reducible apply foldl_kept | (intro _ _ _) | (intro _ _)
    | (intro _)

theorem syncTimeout_kept {r : State} (mosaic : Bool) (tag : Half) (s : State) (h : Kept r s) :
    Kept r (syncTimeout mosaic tag s) := by
  unfold syncTimeout
  try dsimp only
  repeat first
    | with_reducible exact h | with_reducible assumption | with_reducible apply cancelDet_kept
    | with_reducible apply kept_ite | split | (intro _ _ _) | (intro _ _) | (intro _)

theorem meanOf48_kept {r : State} (sum : Int) (s : State) (h : Kept r s) :
    Kept r (meanOf48 sum s).2 := by
  unfold meanOf48
  try dsimp only
  repeat first
    | with_reducible exact h | with_reducible assumption | with_reducible apply freeBits_kept
    | with_reducible apply kept_ite | split | (intro _ _ _) | (intro _ _) | (intro _)

theorem noiseWindow_kept {r : State} (p : Path) (samples : List Int) (s : State) (h : Kept r s) :
    Kept r (noiseWindow p samples s) := by
  unfold noiseWindow
  try dsimp only
  repeat first
    | with_reducible exact h | with_reducible assumption | with_reducible apply meanOf48_kept
    | with_reducible apply kept_ite | split | fail_if_no_progress with_reducible apply kept_mk | (intro _ _ _)
    | (intro _ _) | (intro _)

theorem frameOver_kept {r : State} (c : Path) (s : State) (h : Kept r s) :
    Kept r (frameOver c s) := by
  unfold frameOver
  try dsimp only
  repeat first
    | with_reducible exact h | with_reducible assumption | with_reducible apply sendFacks_kept
    | with_reducible apply settle_kept | with_reducible apply endSecond_kept | with_reducible apply releaseGain_kept
    | with_reducible apply setReception_kept | with_reducible apply kept_ite | split | (intro _ _ _) | (intro _ _)
    | (intro _)

theorem trackPaths_kept {r0 : State} (r : Reception) (n : Nat) (a b : List ToneRow) (s : State) (h : Kept r0 s) :
    Kept r0 (trackPaths r n a b s) := by
  unfold trackPaths
  try dsimp only
  repeat first
    | with_reducible exact h | with_reducible assumption | with_reducible apply kept_ite | split
    | fail_if_no_progress with_reducible apply kept_mk | (intro _ _ _) | (intro _ _) | (intro _)

theorem signalLoss_kept {r : State} (c : Path) (q : List Int) (received : Nat) (s : State) (h : Kept r s) :
    Kept r (signalLoss c q received s) := by
  unfold signalLoss
  try dsimp only
  repeat first
    | with_reducible exact h | with_reducible assumption | with_reducible apply frameOver_kept
    | with_reducible apply loseReception_kept | with_reducible apply kept_ite | split
    | fail_if_no_progress with_reducible apply kept_mk | (intro _ _ _) | (intro _ _) | (intro _)

theorem pilotLoss_kept {r : State} (f : Fading) (s : State) (h : Kept r s) :
    Kept r (pilotLoss f s) := by
  unfold pilotLoss
  try dsimp only
  repeat first
    | with_reducible exact h | with_reducible assumption | with_reducible apply trackPaths_kept
    | with_reducible apply frameOver_kept | with_reducible apply loseReception_kept | with_reducible apply kept_ite
    | split | fail_if_no_progress with_reducible apply kept_mk | (intro _ _ _) | (intro _ _) | (intro _)

theorem finish_kept {r0 : State} (r : Reception) (m : MacFrame) (outcome : Nat) (dr : Bool) (s : State) (h : Kept r0 s) :
    Kept r0 (finish r m outcome dr s) := by
  unfold finish
  try dsimp only
  repeat first
    | with_reducible exact h | with_reducible assumption | with_reducible apply postRxDone_kept
    | with_reducible apply kept_ite | split | (intro _ _ _) | (intro _ _) | (intro _)

theorem macDiscard_kept {r0 : State} (r : Reception) (type : Nat) (src : Half) (s : State) (h : Kept r0 s) :
    Kept r0 (macDiscard r type src s) := by
  unfold macDiscard
  try dsimp only
  repeat first
    | with_reducible exact h | with_reducible assumption | with_reducible apply postRxDone_kept
    | with_reducible apply kept_ite | split | fail_if_no_progress with_reducible apply kept_mk | (intro _ _ _)
    | (intro _ _) | (intro _)

theorem countDuplicate_kept {r : State} (s : State) (h : Kept r s) :
    Kept r (countDuplicate s) := by
  unfold countDuplicate
  try dsimp only
  repeat first
    | with_reducible exact h | with_reducible assumption | with_reducible apply kept_ite | split
    | fail_if_no_progress with_reducible apply kept_mk | (intro _ _ _) | (intro _ _) | (intro _)

theorem ackDue_kept {r0 : State} (r : Reception) (q : Half) (armed : Bool) (s : State) (h : Kept r0 s) :
    Kept r0 (ackDue r q armed s) := by
  unfold ackDue
  try dsimp only
  repeat first
    | with_reducible exact h | with_reducible assumption | with_reducible apply kept_ite | split
    | fail_if_no_progress with_reducible apply kept_mk | (intro _ _ _) | (intro _ _) | (intro _)

theorem fackDue_kept {r : State} (orig : Half) (seq : Word) (ttl : Nat) (chanB : Bool) (s : State) (h : Kept r s) :
    Kept r (fackDue orig seq ttl chanB s) := by
  unfold fackDue
  try dsimp only
  repeat first
    | with_reducible exact h | with_reducible assumption | with_reducible apply kept_ite | split
    | fail_if_no_progress with_reducible apply kept_mk | (intro _ _ _) | (intro _ _) | (intro _)

theorem processBeacon_kept {r0 : State} (r : Reception) (mPpb : Int) (f : MacFrame) (s : State) (h : Kept r0 s) :
    Kept r0 (processBeacon r mPpb f s) := by
  unfold processBeacon
  try dsimp only
  repeat first
    | with_reducible exact h | with_reducible assumption | with_reducible apply timeFromBeacon_kept
    | with_reducible apply kept_ite | split | fail_if_no_progress with_reducible apply kept_mk | (intro _ _ _)
    | (intro _ _) | (intro _)

theorem repeatBeacon_kept {r0 : State} (r : Reception) (mPpb : Int) (f : MacFrame) (s : State) (h : Kept r0 s) :
    Kept r0 (repeatBeacon r mPpb f s) := by
  unfold repeatBeacon
  try dsimp only
  repeat first
    | with_reducible exact h | with_reducible assumption | with_reducible apply timeFromBeacon_kept
    | with_reducible apply kept_ite | split | (intro _ _ _) | (intro _ _) | (intro _)

theorem receiveDl_kept {r0 : State} (c : Path) (r : Reception) (m : MacFrame) (seq : Word) (payload : Bytes)
    (s : State) (h : Kept r0 s) :
    Kept r0 (receiveDl c r m seq payload s) := by
  unfold receiveDl
  try dsimp only
  repeat first
    | with_reducible exact h | with_reducible assumption | with_reducible apply finish_kept
    | with_reducible apply countDuplicate_kept | with_reducible apply kept_ite | split
    | fail_if_no_progress with_reducible apply kept_mk | (intro _ _ _) | (intro _ _) | (intro _)

theorem receiveDq_kept {r : State} (m : MacFrame) (valid : Bool) (pdu : Bytes) (s : State) (h : Kept r s) :
    Kept r (receiveDq m valid pdu s) := by
  unfold receiveDq
  try dsimp only
  repeat first
    | with_reducible exact h | with_reducible assumption | with_reducible apply submit_kept
    | with_reducible apply kept_ite | split | (intro _ _ _) | (intro _ _) | (intro _)

theorem keepReply_kept {r : State} (s : State) (h : Kept r s) :
    Kept r (keepReply s) := by
  unfold keepReply
  try dsimp only
  repeat first
    | with_reducible exact h | with_reducible assumption | with_reducible apply kept_ite | split
    | fail_if_no_progress with_reducible apply kept_mk | (intro _ _ _) | (intro _ _) | (intro _)

theorem processPoll_kept {r0 : State} (c : Path) (r : Reception) (valid : Bool) (m : MacFrame) (s : State) (h : Kept r0 s) :
    Kept r0 (processPoll c r valid m s) := by
  unfold processPoll
  try dsimp only
  repeat first
    | with_reducible exact h | with_reducible assumption | with_reducible apply finish_kept
    | with_reducible apply macDiscard_kept | with_reducible apply macRead_kept | with_reducible apply receiveDl_kept
    | with_reducible apply receiveDq_kept | with_reducible apply keepReply_kept | with_reducible apply kept_ite
    | split | fail_if_no_progress with_reducible apply kept_mk | (intro _ _ _) | (intro _ _) | (intro _)

theorem takeReply_kept {r : State} (a : Half) (dl : Option Word) (dr : Option Bytes) (pend : Bool) (s : State)
    (h : Kept r s) :
    Kept r (takeReply a dl dr pend s) := by
  unfold takeReply
  try dsimp only
  repeat first
    | with_reducible exact h | with_reducible assumption | with_reducible apply retireItem_kept
    | with_reducible apply endExchange_kept | with_reducible apply kept_ite | split
    | fail_if_no_progress with_reducible apply kept_mk | (intro _ _ _) | (intro _ _) | (intro _)

theorem commitData_kept {r0 : State} (c : Path) (r : Reception) (m : MacFrame) (dr : Bool) (seq : Word)
    (payload : Bytes) (s : State) (h : Kept r0 s) :
    Kept r0 (commitData c r m dr seq payload s) := by
  unfold commitData
  try dsimp only
  repeat first
    | with_reducible exact h | with_reducible assumption | with_reducible apply finish_kept
    | with_reducible apply countDuplicate_kept | with_reducible apply fackDue_kept | with_reducible apply ackDue_kept
    | with_reducible apply kept_ite | split | fail_if_no_progress with_reducible apply kept_mk | (intro _ _ _)
    | (intro _ _) | (intro _)

theorem processData_kept {r0 : State} (c : Path) (r : Reception) (m : MacFrame) (s : State) (h : Kept r0 s) :
    Kept r0 (processData c r m s) := by
  unfold processData
  try dsimp only
  repeat first
    | with_reducible exact h | with_reducible assumption | with_reducible apply finish_kept
    | with_reducible apply macDiscard_kept | with_reducible apply takeReply_kept
    | with_reducible apply commitData_kept | with_reducible apply kept_ite | split | (intro _ _ _) | (intro _ _)
    | (intro _)

theorem processNull_kept {r0 : State} (r : Reception) (m : MacFrame) (s : State) (h : Kept r0 s) :
    Kept r0 (processNull r m s) := by
  unfold processNull
  try dsimp only
  repeat first
    | with_reducible exact h | with_reducible assumption | with_reducible apply macDiscard_kept
    | with_reducible apply finish_kept | with_reducible apply takeReply_kept | with_reducible apply kept_ite | split
    | (intro _ _ _) | (intro _ _) | (intro _)

theorem processJoin_kept {r0 : State} (r : Reception) (m : MacFrame) (s : State) (h : Kept r0 s) :
    Kept r0 (processJoin r m s) := by
  unfold processJoin
  try dsimp only
  repeat first
    | with_reducible exact h | with_reducible assumption | with_reducible apply finish_kept
    | with_reducible apply macDiscard_kept | with_reducible apply ackDue_kept
    | with_reducible apply recordStation_kept | with_reducible apply kept_ite | split
    | fail_if_no_progress with_reducible apply kept_mk | (intro _ _ _) | (intro _ _) | (intro _)

theorem processFack_kept {r0 : State} (r : Reception) (m : MacFrame) (s : State) (h : Kept r0 s) :
    Kept r0 (processFack r m s) := by
  unfold processFack
  try dsimp only
  repeat first
    | with_reducible exact h | with_reducible assumption | with_reducible apply macDiscard_kept
    | with_reducible apply finish_kept | with_reducible apply retireItem_kept | with_reducible apply kept_ite | split
    | fail_if_no_progress with_reducible apply kept_mk | (intro _ _ _) | (intro _ _) | (intro _)

theorem secured_kept {r : State} (x : Reception) (m : MacFrame) (process : MacFrame → State → State) (s : State)
    (hp : ∀ g t, Kept r t → Kept r (process g t)) (h : Kept r s) : Kept r (secured x m process s) := by
  have h1 := securityCheck_kept m s h
  unfold secured
  split
  · rename_i t ht
    rw [ht] at h1
    exact finish_kept _ _ _ _ _ (kept_ite (endExchange_kept _ _ h1) h1)
  · rename_i g t ht
    rw [ht] at h1
    exact hp _ _ h1

theorem takeFrame_kept {r : State} (x : Reception) (m : MacFrame) (process : MacFrame → State → State) (s : State)
    (hp : ∀ g t, Kept r t → Kept r (process g t)) (h : Kept r s) : Kept r (takeFrame x m process s) := by
  unfold takeFrame
  repeat first
    | with_reducible assumption
    | with_reducible apply finish_kept
    | with_reducible apply scheduleCopy_kept
    | (with_reducible apply secured_kept; intro _ _ _)
    | with_reducible apply hp
    | with_reducible apply kept_ite
    | with_reducible apply kept_mk

theorem judgeFlood_kept {r : State} (x : Reception) (m : MacFrame) (mPpb : Int)
    (process : MacFrame → State → State) (s : State) (hp : ∀ g t, Kept r t → Kept r (process g t)) (h : Kept r s) :
    Kept r (judgeFlood x m mPpb process s) := by
  unfold judgeFlood
  split
  · exact takeFrame_kept _ _ _ _ hp h
  · exact kept_ite (finish_kept _ _ _ _ _ (repeatBeacon_kept _ _ _ _ (countRepeat_kept _ _ _ h)))
      (takeFrame_kept _ _ _ _ hp (addSeen_kept _ _ h))

theorem latchFrame_kept {r0 : State} (r : Reception) (f : RxFrame) (s : State) (h : Kept r0 s) :
    Kept r0 (latchFrame r f s) := by
  unfold latchFrame
  try dsimp only
  repeat first
    | with_reducible exact h | with_reducible assumption | with_reducible apply trackPaths_kept
    | with_reducible apply kept_ite | split | fail_if_no_progress with_reducible apply kept_mk | (intro _ _ _)
    | (intro _ _) | (intro _)

theorem typeSrcOf_kept {r : State} (p : Bytes) (s : State) (h : Kept r s) : Kept r (typeSrcOf p s).2.2 := by
  unfold typeSrcOf
  split
  · exact h
  · exact freeBits_kept 16 _ (freeBits_kept 4 s h)

theorem receiveFrame_kept {r : State} (type : Nat) (f : RxFrame) (process : Reception → MacFrame → State → State)
    (s : State) (hp : ∀ x g t, Kept r t → Kept r (process x g t)) (h : Kept r s) :
    Kept r (receiveFrame type f process s) := by
  unfold receiveFrame
  split
  · exact h
  · refine kept_ite h (frameOver_kept _ _ (kept_ite ?_ ?_))
    · exact postRxDone_kept _ _ _ _ _ _ (kept_mk (typeSrcOf_kept _ _ (kept_mk h ..)) ..)
    · split
      · exact macDiscard_kept _ _ _ _ (typeSrcOf_kept _ _ (kept_mk h ..))
      · exact kept_ite (judgeFlood_kept _ _ _ _ _ (hp _) (kept_mk h ..)) (macDiscard_kept _ _ _ _ (kept_mk h ..))

theorem beaconReceived_kept {r : State} (f : RxFrame) (s : State) (h : Kept r s) :
    Kept r (beaconReceived f s) := by
  unfold beaconReceived
  try dsimp only
  repeat first
    | with_reducible exact h | with_reducible assumption | with_reducible apply receiveFrame_kept
    | with_reducible apply macDiscard_kept | with_reducible apply finish_kept
    | with_reducible apply processBeacon_kept | with_reducible apply kept_ite | split
    | fail_if_no_progress with_reducible apply kept_mk | (intro _ _ _) | (intro _ _) | (intro _)

theorem pollReceived_kept {r : State} (f : RxFrame) (s : State) (h : Kept r s) :
    Kept r (pollReceived f s) := by
  unfold pollReceived
  try dsimp only
  repeat first
    | with_reducible exact h | with_reducible assumption | with_reducible apply receiveFrame_kept
    | with_reducible apply processPoll_kept | with_reducible apply kept_ite | split
    | fail_if_no_progress with_reducible apply kept_mk | (intro _ _ _) | (intro _ _) | (intro _)

theorem dataReceived_kept {r : State} (f : RxFrame) (s : State) (h : Kept r s) :
    Kept r (dataReceived f s) := by
  unfold dataReceived
  try dsimp only
  repeat first
    | with_reducible exact h | with_reducible assumption | with_reducible apply receiveFrame_kept
    | with_reducible apply processData_kept | with_reducible apply kept_ite | split | (intro _ _ _) | (intro _ _)
    | (intro _)

theorem nullReceived_kept {r : State} (f : RxFrame) (s : State) (h : Kept r s) :
    Kept r (nullReceived f s) := by
  unfold nullReceived
  try dsimp only
  repeat first
    | with_reducible exact h | with_reducible assumption | with_reducible apply receiveFrame_kept
    | with_reducible apply processNull_kept | with_reducible apply kept_ite | split | (intro _ _ _) | (intro _ _)
    | (intro _)

theorem joinReceived_kept {r : State} (f : RxFrame) (s : State) (h : Kept r s) :
    Kept r (joinReceived f s) := by
  unfold joinReceived
  try dsimp only
  repeat first
    | with_reducible exact h | with_reducible assumption | with_reducible apply receiveFrame_kept
    | with_reducible apply processJoin_kept | with_reducible apply kept_ite | split | (intro _ _ _) | (intro _ _)
    | (intro _)

theorem fackReceived_kept {r : State} (f : RxFrame) (s : State) (h : Kept r s) :
    Kept r (fackReceived f s) := by
  unfold fackReceived
  try dsimp only
  repeat first
    | with_reducible exact h | with_reducible assumption | with_reducible apply receiveFrame_kept
    | with_reducible apply processFack_kept | with_reducible apply kept_ite | split | (intro _ _ _) | (intro _ _)
    | (intro _)

theorem acceptAck_kept {r : State} (s : State) (h : Kept r s) :
    Kept r (acceptAck s) := by
  unfold acceptAck
  try dsimp only
  repeat first
    | with_reducible exact h | with_reducible assumption | with_reducible apply goReturn_kept
    | with_reducible apply retireItem_kept | with_reducible apply postTxDonePlain_kept | with_reducible apply kept_ite
    | split | fail_if_no_progress with_reducible apply kept_mk | (intro _ _ _) | (intro _ _) | (intro _)

theorem ackReceived_kept {r : State} (c : Path) (s : State) (h : Kept r s) :
    Kept r (ackReceived c s) := by
  unfold ackReceived
  try dsimp only
  repeat first
    | with_reducible exact h | with_reducible assumption | with_reducible apply setReception_kept
    | with_reducible apply postRxDone_kept | with_reducible apply frameOver_kept | with_reducible apply acceptAck_kept
    | with_reducible apply kept_ite | split | (intro _ _ _) | (intro _ _) | (intro _)

theorem commitEnded_kept {r : State} (outcome : Nat) (c : CommitDue) (s : State) (h : Kept r s) :
    Kept r (commitEnded outcome c s) := by
  unfold commitEnded
  try dsimp only
  repeat first
    | with_reducible exact h | with_reducible assumption | with_reducible apply postRxDone_kept
    | with_reducible apply kept_ite | split | fail_if_no_progress with_reducible apply kept_mk | (intro _ _ _)
    | (intro _ _) | (intro _)

theorem armAnswer_kept {r : State} (c : CommitDue) (s : State) (h : Kept r s) :
    Kept r (armAnswer c s) := by
  unfold armAnswer
  try dsimp only
  repeat first
    | with_reducible exact h | with_reducible assumption | with_reducible apply fackDue_kept
    | with_reducible apply kept_ite | split | fail_if_no_progress with_reducible apply kept_mk | (intro _ _ _)
    | (intro _ _) | (intro _)

theorem countNoRoom_kept {r : State} (why : NoRoom) (s : State) (h : Kept r s) :
    Kept r (countNoRoom why s) := by
  unfold countNoRoom
  try dsimp only
  repeat first
    | with_reducible exact h | with_reducible assumption | with_reducible apply stall_kept
    | with_reducible apply kept_ite | split | fail_if_no_progress with_reducible apply kept_mk | (intro _ _ _)
    | (intro _ _) | (intro _)

theorem commitFrame_kept {r : State} (c : CommitDue) (s : State) (h : Kept r s) :
    Kept r (commitFrame c s) := by
  unfold commitFrame
  try dsimp only
  repeat first
    | with_reducible exact h | with_reducible assumption | with_reducible apply accept_kept
    | with_reducible apply setQueue_kept | with_reducible apply postNotice_kept | with_reducible apply armAnswer_kept
    | with_reducible apply postRxDone_kept | with_reducible apply kept_ite | split | (intro _ _ _) | (intro _ _)
    | (intro _)

theorem commitDuplicate_kept {r : State} (c : CommitDue) (s : State) (h : Kept r s) :
    Kept r (commitDuplicate c s) := by
  unfold commitDuplicate
  try dsimp only
  repeat first
    | with_reducible exact h | with_reducible assumption | with_reducible apply armAnswer_kept
    | with_reducible apply postRxDone_kept | with_reducible apply countDuplicate_kept | with_reducible apply kept_ite
    | split | (intro _ _ _) | (intro _ _) | (intro _)

theorem airCommit_kept {r : State} (chan : Path) (s : State) (h : Kept r s) :
    Kept r (airCommit chan s) := by
  unfold airCommit
  try dsimp only
  repeat first
    | with_reducible exact h | with_reducible assumption | with_reducible apply commitEnded_kept
    | with_reducible apply commitDuplicate_kept | with_reducible apply countNoRoom_kept
    | with_reducible apply commitFrame_kept | with_reducible apply finishSleep_kept
    | with_reducible apply sendFacks_kept | with_reducible apply settle_kept | with_reducible apply kept_ite | split
    | fail_if_no_progress with_reducible apply kept_mk | (intro _ _ _) | (intro _ _) | (intro _)

theorem sniffWindow_kept {r : State} (s : State) (h : Kept r s) :
    Kept r (sniffWindow s) := by
  unfold sniffWindow
  try dsimp only
  repeat first
    | with_reducible exact h | with_reducible assumption | with_reducible apply calibrateOnLock_kept
    | with_reducible apply kept_ite | split | fail_if_no_progress with_reducible apply kept_mk | (intro _ _ _)
    | (intro _ _) | (intro _)

theorem sniffWindowEnd_kept {r : State} (s : State) (h : Kept r s) :
    Kept r (sniffWindowEnd s) := by
  unfold sniffWindowEnd
  try dsimp only
  repeat first
    | with_reducible exact h | with_reducible assumption | with_reducible apply closeWindow_kept
    | with_reducible apply kept_ite | split | fail_if_no_progress with_reducible apply kept_mk | (intro _ _ _)
    | (intro _ _) | (intro _)

theorem fireflyWake_kept {r : State} (s : State) (h : Kept r s) :
    Kept r (fireflyWake s) := by
  unfold fireflyWake
  try dsimp only
  repeat first
    | with_reducible exact h | with_reducible assumption | with_reducible apply wakeIdle_kept
    | with_reducible apply kept_ite | split | fail_if_no_progress with_reducible apply kept_mk | (intro _ _ _)
    | (intro _ _) | (intro _)

theorem wakeWord_kept {r : State} (x : WakeSeen) (s : State) (h : Kept r s) :
    Kept r (wakeWord x s) := by
  unfold wakeWord
  try dsimp only
  repeat first
    | with_reducible exact h | with_reducible assumption | with_reducible apply fireflyWake_kept
    | with_reducible apply startRx_kept | with_reducible apply closeWindow_kept | with_reducible apply kept_ite
    | split | fail_if_no_progress with_reducible apply kept_mk | (intro _ _ _) | (intro _ _) | (intro _)

theorem ffStayExpiry_kept {r : State} (s : State) (h : Kept r s) :
    Kept r (ffStayExpiry s) := by
  unfold ffStayExpiry
  try dsimp only
  repeat first
    | with_reducible exact h | with_reducible assumption | with_reducible apply settle_kept
    | with_reducible apply kept_ite | split | fail_if_no_progress with_reducible apply kept_mk | (intro _ _ _)
    | (intro _ _) | (intro _)

theorem regReadEffect_kept {r : State} (a : Nat) (s : State) (h : Kept r s) :
    Kept r (regReadEffect a s) := by
  unfold regReadEffect
  try dsimp only
  repeat first
    | with_reducible exact h | with_reducible assumption | with_reducible apply clearNew_kept
    | with_reducible apply kept_ite | split | fail_if_no_progress with_reducible apply kept_mk | (intro _ _ _)
    | (intro _ _) | (intro _)

theorem addCause_kept {r : State} (cause : Nat) (s : State) (h : Kept r s) :
    Kept r (addCause cause s) := by
  unfold addCause
  try dsimp only
  repeat first
    | with_reducible exact h | with_reducible assumption | with_reducible apply kept_ite | split
    | fail_if_no_progress with_reducible apply kept_mk | (intro _ _ _) | (intro _ _) | (intro _)

theorem coldState_kept {r : State} (s : State) (h : Kept r s) : Kept r (coldState s) :=
  ⟨h.pending, fun _ => ringOk_empty _ rfl, fun _ => liveOk_empty _ rfl, h.siliconRev, h.serial, h.codeVersion, h.xoCfg,
      h.region⟩

theorem warmState_kept {r : State} (ashlar : Bool) (s : State) (h : Kept r s) : Kept r (warmState ashlar s) :=
  ⟨h.pending, fun _ => ringOk_empty _ rfl,
    fun x => ⟨(h.live x).1.sublist List.filter_sublist, fun p hp => (h.live x).2 p (List.mem_filter.1 hp).1⟩,
    h.siliconRev, h.serial, h.codeVersion, h.xoCfg, h.region⟩

theorem factoryPhase_kept {r : State} (s : State) (h : Kept r s) :
    Kept r (factoryPhase s) := by
  unfold factoryPhase
  try dsimp only
  repeat first
    | with_reducible exact h | with_reducible assumption | with_reducible apply applyEntry_kept
    | with_reducible apply kept_ite | split | fail_if_no_progress with_reducible apply kept_mk
    | with_reducible apply foldl_kept | (intro _ _ _) | (intro _ _) | (intro _)

theorem clockPhase_kept {r : State} (s : State) (h : Kept r s) :
    Kept r (clockPhase s) := by
  unfold clockPhase
  try dsimp only
  repeat first
    | with_reducible exact h | with_reducible assumption | with_reducible apply kept_ite | split
    | fail_if_no_progress with_reducible apply kept_mk | (intro _ _ _) | (intro _ _) | (intro _)

theorem mountPhase_kept {r : State} (us : Word) (s : State) (h : Kept r s) :
    Kept r (mountPhase us s) := by
  unfold mountPhase
  try dsimp only
  repeat first
    | with_reducible exact h | with_reducible assumption | with_reducible apply mount_kept
    | with_reducible apply kept_ite | split | fail_if_no_progress with_reducible apply kept_mk | (intro _ _ _)
    | (intro _ _) | (intro _)

theorem applyMap_kept {r : State} (gen : Word) (l : List MapEntry) (rewrite : Bool) (s : State) (h : Kept r s) :
    Kept r (applyMap gen l rewrite s) := by
  unfold applyMap
  try dsimp only
  repeat first
    | with_reducible exact h | with_reducible assumption | with_reducible apply applyEntry_kept
    | with_reducible apply kept_ite | split | fail_if_no_progress with_reducible apply kept_mk
    | with_reducible apply foldl_kept | (intro _ _ _) | (intro _ _) | (intro _)

theorem fieldMap_kept {r : State} (s : State) (h : Kept r s) :
    Kept r (fieldMap s) := by
  unfold fieldMap
  try dsimp only
  repeat first
    | with_reducible exact h | with_reducible assumption | with_reducible apply applyMap_kept
    | with_reducible apply kept_ite | split | (intro _ _ _) | (intro _ _) | (intro _)

theorem repairPhase_kept {r : State} (run : BootRun) (s : State) (h : Kept r s) :
    Kept r (repairPhase run s) := by
  unfold repairPhase
  try dsimp only
  repeat first
    | with_reducible exact h | with_reducible assumption | with_reducible apply fieldMap_kept
    | with_reducible apply fullCommit_kept | with_reducible apply kept_ite | split | (intro _ _ _) | (intro _ _)
    | (intro _)

theorem loadWindows_kept {r : State} (s : State) (h : Kept r s) :
    Kept r (loadWindows s) := by
  unfold loadWindows
  try dsimp only
  repeat first
    | with_reducible exact h | with_reducible assumption | with_reducible apply setQueue_kept
    | with_reducible apply kept_ite | split | fail_if_no_progress with_reducible apply kept_mk
    | with_reducible apply foldl_kept | (intro _ _ _) | (intro _ _) | (intro _)

theorem loadReceipt_kept {r : State} (s : State) (h : Kept r s) :
    Kept r (loadReceipt s) := by
  unfold loadReceipt
  try dsimp only
  repeat first
    | with_reducible exact h | with_reducible assumption | with_reducible apply kept_ite | split
    | fail_if_no_progress with_reducible apply kept_mk | (intro _ _ _) | (intro _ _) | (intro _)

theorem eccCheck_kept {r : State} (x : EccFind) (s : State) (h : Kept r s) :
    Kept r (eccCheck x s) := by
  unfold eccCheck
  try dsimp only
  repeat first
    | with_reducible exact h | with_reducible assumption | with_reducible apply keystoneScrub_kept
    | with_reducible apply ashlarScrub_kept | with_reducible apply kept_ite | split | (intro _ _ _) | (intro _ _)
    | (intro _)

theorem setBlock_kept {r : State} (put : Nat → Nat → State → State) (width n i : Nat) (b : Bytes) (s : State)
    (hp : ∀ a v t, Kept r t → Kept r (put a v t)) (h : Kept r s) : Kept r (setBlock put width n i b s) := by
  induction n generalizing i b s with
  | zero => exact h
  | succ n ih => exact ih _ _ _ (hp _ _ _ h)

theorem loadTables_kept {r : State} (s : State) (h : Kept r s) :
    Kept r (loadTables s) := by
  unfold loadTables
  try dsimp only
  repeat first
    | with_reducible exact h | with_reducible assumption | with_reducible apply setQueue_kept
    | with_reducible apply setBlock_kept | with_reducible apply kept_ite | split
    | fail_if_no_progress with_reducible apply kept_mk | with_reducible apply foldl_kept | (intro _ _ _) | (intro _ _)
    | (intro _)

theorem bootCourse_kept {r : State} (s : State) (h : Kept r s) :
    Kept r (bootCourse s) := by
  unfold bootCourse
  try dsimp only
  repeat first
    | with_reducible exact h | with_reducible assumption | with_reducible apply kept_ite | split
    | fail_if_no_progress with_reducible apply kept_mk | (intro _ _ _) | (intro _ _) | (intro _)

theorem bootClocks_kept {r : State} (s : State) (h : Kept r s) :
    Kept r (bootClocks s) := by
  unfold bootClocks
  try dsimp only
  repeat first
    | with_reducible exact h | with_reducible assumption | with_reducible apply setLive_kept
    | with_reducible apply kept_ite | split | fail_if_no_progress with_reducible apply kept_mk | (intro _ _ _)
    | (intro _ _) | (intro _)

theorem footingPhase_kept {r : State} (s : State) (h : Kept r s) : Kept r (footingPhase s) := by
  have h1 : Kept r { s with live := s.live.filter fun p => p.1 != K.gpioout } :=
    ⟨h.pending, h.ring,
      fun x => ⟨(h.live x).1.sublist List.filter_sublist, fun p hp => (h.live x).2 p (List.mem_filter.1 hp).1⟩,
      h.siliconRev, h.serial, h.codeVersion, h.xoCfg, h.region⟩
  unfold footingPhase
  exact kept_mk (recompute_kept _ _ (bootClocks_kept _ (kept_mk (bootCourse_kept _ (loadTables_kept _ h1)) ..))) ..

theorem armBod_kept {r : State} (s : State) (h : Kept r s) :
    Kept r (armBod s) := by
  unfold armBod
  try dsimp only
  repeat first
    | with_reducible exact h | with_reducible assumption | with_reducible apply freeBits_kept
    | with_reducible apply enterBod_kept | with_reducible apply kept_ite | split | (intro _ _ _) | (intro _ _)
    | (intro _)

theorem unrestore_kept {r : State} (q : Nat) (s : State) (h : Kept r s) :
    Kept r (unrestore q s) := by
  unfold unrestore
  try dsimp only
  repeat first
    | with_reducible exact h | with_reducible assumption | with_reducible apply setQueue_kept
    | with_reducible apply kept_ite | split | (intro _ _ _) | (intro _ _) | (intro _)

theorem reportReady_kept {r : State} (run : BootRun) (s : State) (h : Kept r s) :
    Kept r (reportReady run s) := by
  unfold reportReady
  try dsimp only
  repeat first
    | with_reducible exact h | with_reducible assumption | with_reducible apply unrestore_kept
    | with_reducible apply postRepair_kept | with_reducible apply autoReceive_kept
    | with_reducible apply judgeOff_kept | with_reducible apply armBod_kept | with_reducible apply leaveBootTb_kept
    | with_reducible apply kept_ite | split | fail_if_no_progress with_reducible apply kept_mk
    | with_reducible apply foldl_kept | (intro _ _ _) | (intro _ _) | (intro _)

theorem rebuildPhase_kept {r : State} (s t : State) (h : Kept r s) (ht : rebuildPhase s = some t) : Kept r t := by
  simp only [rebuildPhase] at ht
  split at ht
  · cases ht
  · obtain rfl := Option.some.inj ht
    exact kept_ite (restoreCounters_kept _ (loadReceipt_kept _ (loadWindows_kept _ (kept_mk h ..))))
      (loadReceipt_kept _ (loadWindows_kept _ (kept_mk h ..)))

theorem queuePhase_kept {r : State} (run : BootRun) (s t : State) (h : Kept r s) (ht : queuePhase run s = some t) :
    Kept r t := by
  unfold queuePhase at ht
  split at ht
  · obtain rfl := Option.some.inj ht
    exact foldl_kept _ _ _ (foldl_kept _ _ _ h fun u x hu => eccCheck_kept x u hu) fun u i hu => retireEntry_kept i u hu
  · exact rebuildPhase_kept s t h ht

theorem phaseWork_kept {r : State} (p : Nat) (run : BootRun) (s t : State) (h : Kept r s)
    (ht : phaseWork p run s = some t) : Kept r t := by
  unfold phaseWork at ht
  split at ht
  · obtain rfl := Option.some.inj ht
    exact factoryPhase_kept _ h
  · split at ht
    · obtain rfl := Option.some.inj ht
      exact clockPhase_kept _ h
    · split at ht
      · obtain rfl := Option.some.inj ht
        exact mountPhase_kept _ _ h
      · split at ht
        · obtain rfl := Option.some.inj ht
          exact repairPhase_kept _ _ h
        · split at ht
          · exact queuePhase_kept _ s t h ht
          · split at ht
            · obtain rfl := Option.some.inj ht
              exact footingPhase_kept _ h
            · obtain rfl := Option.some.inj ht
              exact h

theorem runPhases_kept {r : State} (l : List Nat) (run : BootRun) (s : State) (h : Kept r s) :
    Kept r (runPhases l run s) := by
  induction l generalizing s with
  | nil => exact reportReady_kept _ _ h
  | cons p ps ih =>
    unfold runPhases
    refine kept_ite (kept_mk (kept_ite (mountPhase_kept _ _ (kept_mk h ..)) (kept_mk h ..)) ..) ?_
    split
    · rename_i t ht
      exact ih t (phaseWork_kept _ _ _ t (kept_mk h ..) ht)
    · exact kept_mk h ..

theorem startBoot_kept {r : State} (run : BootRun) (s : State) (h : Kept r s) :
    Kept r (startBoot run s) := by
  unfold startBoot
  try dsimp only
  repeat first
    | with_reducible exact h | with_reducible assumption | with_reducible apply runPhases_kept
    | with_reducible apply kept_ite | split | fail_if_no_progress with_reducible apply kept_mk | (intro _ _ _)
    | (intro _ _) | (intro _)

theorem resumeBoot_kept {r : State} (s : State) (h : Kept r s) :
    Kept r (resumeBoot s) := by
  unfold resumeBoot
  try dsimp only
  repeat first
    | with_reducible exact h | with_reducible assumption | with_reducible apply runPhases_kept
    | with_reducible apply kept_ite | split | fail_if_no_progress with_reducible apply kept_mk | (intro _ _ _)
    | (intro _ _) | (intro _)

theorem resumeQueues_kept {r : State} (s : State) (h : Kept r s) :
    Kept r (resumeQueues s) := by
  unfold resumeQueues
  try dsimp only
  repeat first
    | with_reducible exact h | with_reducible assumption | with_reducible apply runPhases_kept
    | with_reducible apply kept_ite | split | fail_if_no_progress with_reducible apply kept_mk | (intro _ _ _)
    | (intro _ _) | (intro _)

theorem thermSampled_kept {r : State} (temp : Half) (s : State) (h : Kept r s) :
    Kept r (thermSampled temp s) := by
  unfold thermSampled
  try dsimp only
  repeat first
    | with_reducible exact h | with_reducible assumption | with_reducible apply resumeQueues_kept
    | with_reducible apply thermSample_kept | with_reducible apply kept_ite | split | (intro _ _ _) | (intro _ _)
    | (intro _)

theorem resetCommit_kept {r : State} (fails : List (Nat × Bool)) (s : State) (h : Kept r s) :
    Kept r (resetCommit fails s) := by
  unfold resetCommit
  try dsimp only
  repeat first
    | with_reducible exact h | with_reducible assumption | with_reducible apply commitStage_kept
    | with_reducible apply fullCommit_kept | with_reducible apply kept_ite | split | (intro _ _ _) | (intro _ _)
    | (intro _)

theorem takeReset_kept {r : State} (cause : Nat) (commit : Bool) (fails : List (Nat × Bool)) (s : State) (h : Kept r s) :
    Kept r (takeReset cause commit fails s) := by
  unfold takeReset
  try dsimp only
  repeat first
    | with_reducible exact h | with_reducible assumption | with_reducible apply warmState_kept
    | with_reducible apply resetCommit_kept | with_reducible apply kept_ite | split
    | fail_if_no_progress with_reducible apply kept_mk | (intro _ _ _) | (intro _ _) | (intro _)

theorem powerOnReset_kept {r : State} (dipped : Bool) (run : BootRun) (s : State) (h : Kept r s) :
    Kept r (powerOnReset dipped run s) := by
  unfold powerOnReset
  try dsimp only
  repeat first
    | with_reducible exact h | with_reducible assumption | with_reducible apply coldState_kept
    | with_reducible apply addCause_kept | with_reducible apply startBoot_kept | with_reducible apply kept_ite | split
    | fail_if_no_progress with_reducible apply kept_mk | (intro _ _ _) | (intro _ _) | (intro _)

theorem brownOutReset_kept {r : State} (s : State) (h : Kept r s) :
    Kept r (brownOutReset s) := by
  unfold brownOutReset
  try dsimp only
  repeat first
    | with_reducible exact h | with_reducible assumption | with_reducible apply coldState_kept
    | with_reducible apply kept_ite | split | fail_if_no_progress with_reducible apply kept_mk | (intro _ _ _)
    | (intro _ _) | (intro _)

theorem resetN_kept {r : State} (s : State) (h : Kept r s) :
    Kept r (resetN s) := by
  unfold resetN
  try dsimp only
  repeat first
    | with_reducible exact h | with_reducible assumption | with_reducible apply addCause_kept
    | with_reducible apply takeReset_kept | with_reducible apply kept_ite | split
    | fail_if_no_progress with_reducible apply kept_mk | (intro _ _ _) | (intro _ _) | (intro _)

theorem resetNRelease_kept {r : State} (run : BootRun) (s : State) (h : Kept r s) :
    Kept r (resetNRelease run s) := by
  unfold resetNRelease
  try dsimp only
  repeat first
    | with_reducible exact h | with_reducible assumption | with_reducible apply startBoot_kept
    | with_reducible apply kept_ite | split | fail_if_no_progress with_reducible apply kept_mk | (intro _ _ _)
    | (intro _ _) | (intro _)

theorem resetAndBoot_kept {r : State} (cause : Nat) (commit : Bool) (run : BootRun) (s : State) (h : Kept r s) :
    Kept r (resetAndBoot cause commit run s) := by
  unfold resetAndBoot
  try dsimp only
  repeat first
    | with_reducible exact h | with_reducible assumption | with_reducible apply takeReset_kept
    | with_reducible apply startBoot_kept | with_reducible apply kept_ite | split
    | fail_if_no_progress with_reducible apply kept_mk | (intro _ _ _) | (intro _ _) | (intro _)

theorem watchdogReset_kept {r : State} (engine : Sys2Proof.Engine) (run : BootRun) (s : State) (h : Kept r s) :
    Kept r (watchdogReset engine run s) := by
  unfold watchdogReset
  try dsimp only
  repeat first
    | with_reducible exact h | with_reducible assumption | with_reducible apply addCause_kept
    | with_reducible apply resetAndBoot_kept | with_reducible apply kept_ite | split | (intro _ _ _) | (intro _ _)
    | (intro _)

theorem bootWatchdog_kept {r : State} (run : BootRun) (s : State) (h : Kept r s) :
    Kept r (bootWatchdog run s) := by
  unfold bootWatchdog
  try dsimp only
  repeat first
    | with_reducible exact h | with_reducible assumption | with_reducible apply resetAndBoot_kept
    | with_reducible apply addCause_kept | with_reducible apply kept_ite | split
    | fail_if_no_progress with_reducible apply kept_mk | (intro _ _ _) | (intro _ _) | (intro _)

theorem deferredReset_kept {r : State} (run : BootRun) (s : State) (h : Kept r s) :
    Kept r (deferredReset run s) := by
  unfold deferredReset
  try dsimp only
  repeat first
    | with_reducible exact h | with_reducible assumption | with_reducible apply addCause_kept
    | with_reducible apply resetAndBoot_kept | with_reducible apply kept_ite | split
    | fail_if_no_progress with_reducible apply kept_mk | (intro _ _ _) | (intro _ _) | (intro _)

theorem jtagReset_kept {r : State} (run : BootRun) (s : State) (h : Kept r s) :
    Kept r (jtagReset run s) := by
  unfold jtagReset
  try dsimp only
  repeat first
    | with_reducible exact h | with_reducible assumption | with_reducible apply addCause_kept
    | with_reducible apply resetAndBoot_kept | with_reducible apply kept_ite | split | (intro _ _ _) | (intro _ _)
    | (intro _)

theorem wakeFrom_kept {r : State} (sources : BitVec 7) (run : BootRun) (s : State) (h : Kept r s) :
    Kept r (wakeFrom sources run s) := by
  unfold wakeFrom
  try dsimp only
  repeat first
    | with_reducible exact h | with_reducible assumption | with_reducible apply warmState_kept
    | with_reducible apply startBoot_kept | with_reducible apply wakeIdle_kept | with_reducible apply kept_ite | split
    | fail_if_no_progress with_reducible apply kept_mk | (intro _ _ _) | (intro _ _) | (intro _)

theorem joinWake_kept {r : State} (sources : BitVec 7) (s : State) (h : Kept r s) :
    Kept r (joinWake sources s) := by
  unfold joinWake
  try dsimp only
  repeat first
    | with_reducible exact h | with_reducible assumption | with_reducible apply kept_ite | split
    | fail_if_no_progress with_reducible apply kept_mk | (intro _ _ _) | (intro _ _) | (intro _)

theorem wake_kept {r : State} (sources : BitVec 7) (run : BootRun) (s : State) (h : Kept r s) :
    Kept r (wake sources run s) := by
  unfold wake
  try dsimp only
  repeat first
    | with_reducible exact h | with_reducible assumption | with_reducible apply wakeFrom_kept
    | with_reducible apply joinWake_kept | with_reducible apply kept_ite | split | (intro _ _ _) | (intro _ _)
    | (intro _)

theorem spiWake_kept {r : State} (run : BootRun) (s : State) (h : Kept r s) :
    Kept r (spiWake run s) := by
  unfold spiWake
  try dsimp only
  repeat first
    | with_reducible exact h | with_reducible assumption | with_reducible apply wakeFrom_kept
    | with_reducible apply joinWake_kept | with_reducible apply kept_ite | split
    | fail_if_no_progress with_reducible apply kept_mk | (intro _ _ _) | (intro _ _) | (intro _)

theorem xoStarted_kept {r : State} (s : State) (h : Kept r s) :
    Kept r (xoStarted s) := by
  unfold xoStarted
  try dsimp only
  repeat first
    | with_reducible exact h | with_reducible assumption | with_reducible apply resumeBoot_kept
    | with_reducible apply xoStart_kept | with_reducible apply kept_ite | split | (intro _ _ _) | (intro _ _)
    | (intro _)

theorem pllLocked_kept {r : State} (s : State) (h : Kept r s) :
    Kept r (pllLocked s) := by
  unfold pllLocked
  try dsimp only
  repeat first
    | with_reducible exact h | with_reducible assumption | with_reducible apply resumeBoot_kept
    | with_reducible apply pllLock_kept | with_reducible apply kept_ite | split | (intro _ _ _) | (intro _ _)
    | (intro _)

theorem pllTimeout_kept {r : State} (s : State) (h : Kept r s) :
    Kept r (pllTimeout s) := by
  unfold pllTimeout
  try dsimp only
  repeat first
    | with_reducible exact h | with_reducible assumption | with_reducible apply resumeBoot_kept
    | with_reducible apply lockTimeout_kept | with_reducible apply kept_ite | split | (intro _ _ _) | (intro _ _)
    | (intro _)

theorem xoFailure_kept {r : State} (s : State) (h : Kept r s) :
    Kept r (xoFailure s) := by
  unfold xoFailure
  try dsimp only
  repeat first
    | with_reducible exact h | with_reducible assumption | with_reducible apply xoFail_kept
    | with_reducible apply wakeIdle_kept | with_reducible apply resumeBoot_kept | with_reducible apply kept_ite
    | split | fail_if_no_progress with_reducible apply kept_mk | (intro _ _ _) | (intro _ _) | (intro _)

theorem restoreFrame_kept {r : State} (q : Nat) (inCh : Bool) (f : Frame) (s t : State) (h : Kept r s)
    (ht : restoreFrame q inCh f s = some t) : Kept r t := by
  unfold restoreFrame at ht
  extract_lets v at ht
  split at ht
  · cases ht
  · generalize (if inCh = true then v.inCh else v.outCh) = l at ht
    split at ht
    · cases ht
    · obtain rfl := Option.some.inj ht
      exact kept_mk (markParts_kept _ _ _ (setQueue_kept _ _ _ (advanceGen_kept _ _ (touch_kept _ _ h)))) ..

theorem restoreFrames_kept {r : State} (q : Nat) (inCh : Bool) (l : List Frame) (s : State) (h : Kept r s) :
    Kept r (restoreFrames q inCh l s) := by
  induction l generalizing s with
  | nil => exact h
  | cons f l ih =>
    unfold restoreFrames
    split
    · rename_i t ht
      exact ih t (restoreFrame_kept _ _ _ _ t h ht)
    · exact countLost_kept _ _ _ (releaseLost_kept _ _ _ _ h)

theorem restoreChain_kept {r : State} (q : Nat) (inCh : Bool) (s : State) (h : Kept r s) :
    Kept r (restoreChain q inCh s) := by
  unfold restoreChain
  try dsimp only
  repeat first
    | with_reducible exact h | with_reducible assumption | with_reducible apply restoreFrames_kept
    | with_reducible apply kept_ite | split | fail_if_no_progress with_reducible apply kept_mk | (intro _ _ _)
    | (intro _ _) | (intro _)

theorem journalRestore_kept {r : State} (n : Nat) (s : State) (h : Kept r s) : Kept r (journalRestore n s) := by
  induction n generalizing s with
  | zero => exact h
  | succ n ih =>
    unfold journalRestore
    refine kept_ite h ?_
    split
    · exact h
    · exact ih _ (kept_mk (restoreChain_kept _ _ _ (restoreChain_kept _ _ _ h)) ..)

theorem writeField_kept {r : State} (key lo width v : Nat) (s : State) (h : Kept r s) :
    Kept r (writeField key lo width v s) := by
  unfold writeField
  try dsimp only
  repeat first
    | with_reducible exact h | with_reducible assumption | with_reducible apply setEntry_kept
    | with_reducible apply spiError_kept | with_reducible apply kept_ite | split | (intro _ _ _) | (intro _ _)
    | (intro _)

theorem writeMerged_kept {r : State} (key : Nat) (x : Nat × Bool) (s : State) (h : Kept r s) :
    Kept r (writeMerged key x s) := by
  unfold writeMerged
  try dsimp only
  repeat first
    | with_reducible exact h | with_reducible assumption | with_reducible apply setEntry_kept
    | with_reducible apply spiError_kept | with_reducible apply kept_ite | split | (intro _ _ _) | (intro _ _)
    | (intro _)

theorem writeFields_kept {r : State} (key : Nat) (fields : List (Nat × Nat)) (v : Nat) (s : State) (h : Kept r s) :
    Kept r (writeFields key fields v s) := by
  unfold writeFields
  try dsimp only
  repeat first
    | with_reducible exact h | with_reducible assumption | with_reducible apply writeMerged_kept
    | with_reducible apply kept_ite | split | (intro _ _ _) | (intro _ _) | (intro _)

theorem writeCko_kept {r : State} (n v : Nat) (s : State) (h : Kept r s) :
    Kept r (writeCko n v s) := by
  unfold writeCko
  try dsimp only
  repeat first
    | with_reducible exact h | with_reducible assumption | with_reducible apply writeFields_kept
    | with_reducible apply spiError_kept | with_reducible apply kept_ite | split | (intro _ _ _) | (intro _ _)
    | (intro _)

theorem command_kept {r : State} (addr key v : Nat) (takes : Bool) (go : State → State) (s : State)
    (hg : ∀ t, Kept r t → Kept r (go t)) (h : Kept r s) : Kept r (command addr key v takes go s) := by
  unfold command
  apply kept_ite (spiError_kept _ _ h)
  split
  · exact spiError_kept _ _ (illegalState_kept _ _ _ _ _ _ _ h)
  · exact kept_ite (spiError_kept _ _ h) (hg s h)

theorem writeStateCmd_kept {r : State} (v : Nat) (s : State) (h : Kept r s) :
    Kept r (writeStateCmd v s) := by
  unfold writeStateCmd
  try dsimp only
  repeat first
    | with_reducible exact h | with_reducible assumption | with_reducible apply command_kept
    | with_reducible apply transitionAt_kept | with_reducible apply kept_ite | split
    | fail_if_no_progress with_reducible apply kept_mk | (intro _ _ _) | (intro _ _) | (intro _)

theorem writeXoCfg_kept {r : State} (v : Nat) (s : State) (h : Kept r s) : Kept r (writeXoCfg v s) := by
  unfold writeXoCfg
  dsimp only
  split
  · exact kept_ite h (lockViolation_kept _ _ _ _ _ h)
  · rename_i hx
    refine kept_ite h ⟨h.pending, h.ring, h.live, h.siliconRev, h.serial, h.codeVersion, ?_, h.region⟩
    intro b hb
    have := h.xoCfg b hb
    rw [hx] at this
    cases this

theorem writeCntVal_kept {r : State} (n : Nat) (v : Half) (s : State) (h : Kept r s) :
    Kept r (writeCntVal n v s) := by
  unfold writeCntVal
  try dsimp only
  repeat first
    | with_reducible exact h | with_reducible assumption | with_reducible apply command_kept
    | with_reducible apply setEntry_kept | with_reducible apply kept_ite | split | (intro _ _ _) | (intro _ _)
    | (intro _)

theorem clearMon_kept {r : State} (v : Nat) (s : State) (h : Kept r s) :
    Kept r (clearMon v s) := by
  unfold clearMon
  try dsimp only
  repeat first
    | with_reducible exact h | with_reducible assumption | with_reducible apply kept_ite | split
    | fail_if_no_progress with_reducible apply kept_mk | (intro _ _ _) | (intro _ _) | (intro _)

theorem clearCapStat_kept {r : State} (v : Nat) (s : State) (h : Kept r s) :
    Kept r (clearCapStat v s) := by
  unfold clearCapStat
  try dsimp only
  repeat first
    | with_reducible exact h | with_reducible assumption | with_reducible apply flushEdges_kept
    | with_reducible apply kept_ite | split | fail_if_no_progress with_reducible apply kept_mk | (intro _ _ _)
    | (intro _ _) | (intro _)

theorem clearCapsStat_kept {r : State} (v : Nat) (s : State) (h : Kept r s) :
    Kept r (clearCapsStat v s) := by
  unfold clearCapsStat
  try dsimp only
  repeat first
    | with_reducible exact h | with_reducible assumption | with_reducible apply flushEdges_kept
    | with_reducible apply kept_ite | split | fail_if_no_progress with_reducible apply kept_mk | (intro _ _ _)
    | (intro _ _) | (intro _)

theorem clearCntStat_kept {r : State} (v : Nat) (s : State) (h : Kept r s) :
    Kept r (clearCntStat v s) := by
  unfold clearCntStat
  try dsimp only
  repeat first
    | with_reducible exact h | with_reducible assumption | with_reducible apply kept_ite | split
    | fail_if_no_progress with_reducible apply kept_mk | (intro _ _ _) | (intro _ _) | (intro _)

theorem clearFpStat_kept {r : State} (v : Nat) (s : State) (h : Kept r s) :
    Kept r (clearFpStat v s) := by
  unfold clearFpStat
  try dsimp only
  repeat first
    | with_reducible exact h | with_reducible assumption | with_reducible apply kept_ite | split
    | fail_if_no_progress with_reducible apply kept_mk | (intro _ _ _) | (intro _ _) | (intro _)

theorem writeEarly_kept {r : State} (a v : Nat) (s : State) (h : Kept r s) :
    Kept r (writeEarly a v s) := by
  unfold writeEarly
  try dsimp only
  repeat first
    | with_reducible exact h | with_reducible assumption | with_reducible apply writeStateCmd_kept
    | with_reducible apply clearMon_kept | with_reducible apply writeXoCfg_kept | with_reducible apply writeField_kept
    | with_reducible apply writeCko_kept | with_reducible apply command_kept | with_reducible apply requestSleep_kept
    | with_reducible apply kept_ite | split | fail_if_no_progress with_reducible apply kept_mk | (intro _ _ _)
    | (intro _ _) | (intro _)

theorem writePortRadio_kept {r : State} (a v : Nat) (s : State) (h : Kept r s) :
    Kept r (writePortRadio a v s) := by
  unfold writePortRadio
  try dsimp only
  repeat first
    | with_reducible exact h | with_reducible assumption | with_reducible apply writeField_kept
    | with_reducible apply spiError_kept | with_reducible apply clearFpStat_kept
    | with_reducible apply writeFields_kept | with_reducible apply command_kept
    | with_reducible apply radioCommand_kept | with_reducible apply kept_ite | split
    | fail_if_no_progress with_reducible apply kept_mk | (intro _ _ _) | (intro _ _) | (intro _)

theorem staggerStaged_kept {r : State} (s : State) (h : Kept r s) :
    Kept r (staggerStaged s) := by
  unfold staggerStaged
  try dsimp only
  repeat first
    | with_reducible exact h | with_reducible assumption | with_reducible apply spiError_kept
    | with_reducible apply staggerGo_kept | with_reducible apply kept_ite | split | (intro _ _ _) | (intro _ _)
    | (intro _)

theorem writeTimer_kept {r : State} (a v : Nat) (s : State) (h : Kept r s) :
    Kept r (writeTimer a v s) := by
  unfold writeTimer
  try dsimp only
  repeat first
    | with_reducible exact h | with_reducible assumption | with_reducible apply snapshot_kept
    | with_reducible apply clearCmpStat_kept | with_reducible apply clearCapStat_kept
    | with_reducible apply clearCapsStat_kept | with_reducible apply clearCntStat_kept
    | with_reducible apply staggerStaged_kept | with_reducible apply setEntry_kept
    | with_reducible apply spiError_kept | with_reducible apply writeField_kept
    | with_reducible apply writeMerged_kept | with_reducible apply writeCntVal_kept | with_reducible apply kept_ite
    | split | fail_if_no_progress with_reducible apply kept_mk | (intro _ _ _) | (intro _ _) | (intro _)

theorem writeRest_kept {r : State} (a v : Nat) (codes : List AdcCode) (s : State) (h : Kept r s) :
    Kept r (writeRest a v codes s) := by
  unfold writeRest
  try dsimp only
  repeat first
    | with_reducible exact h | with_reducible assumption | with_reducible apply writeFields_kept
    | with_reducible apply writeField_kept | with_reducible apply adcBegin_kept
    | with_reducible apply writeMerged_kept | with_reducible apply kept_ite | split | (intro _ _ _) | (intro _ _)
    | (intro _)

theorem writeReg_kept {r : State} (a v : Nat) (codes : List AdcCode) (s : State) (h : Kept r s) :
    Kept r (writeReg a v codes s) := by
  unfold writeReg
  try dsimp only
  repeat first
    | with_reducible exact h | with_reducible assumption | with_reducible apply writeEarly_kept
    | with_reducible apply writePortRadio_kept | with_reducible apply writeTimer_kept
    | with_reducible apply writeRest_kept | with_reducible apply kept_ite | split | (intro _ _ _) | (intro _ _)
    | (intro _)

theorem gatedAccess_kept {r : State} (a : Nat) (write : Bool) (s : State) (h : Kept r s) :
    Kept r (gatedAccess a write s) := by
  unfold gatedAccess
  try dsimp only
  repeat first
    | with_reducible exact h | with_reducible assumption | with_reducible apply spiError_kept
    | with_reducible apply gateError_kept | with_reducible apply kept_ite | split | (intro _ _ _) | (intro _ _)
    | (intro _)

theorem hostWrite_kept {r : State} (a v : Nat) (codes : List AdcCode) (s : State) (h : Kept r s) :
    Kept r (hostWrite a v codes s) := by
  unfold hostWrite
  try dsimp only
  repeat first
    | with_reducible exact h | with_reducible assumption | with_reducible apply spiError_kept
    | with_reducible apply writeReg_kept | with_reducible apply gatedAccess_kept | with_reducible apply kept_ite
    | split | (intro _ _ _) | (intro _ _) | (intro _)

theorem hostRead_kept {r : State} (a : Nat) (s : State) (h : Kept r s) :
    Kept r (hostRead a s).2 := by
  unfold hostRead
  try dsimp only
  repeat first
    | with_reducible exact h | with_reducible assumption | with_reducible apply spiError_kept
    | with_reducible apply gatedAccess_kept | with_reducible apply regReadEffect_kept | with_reducible apply kept_ite
    | split | (intro _ _ _) | (intro _ _) | (intro _)

theorem transact_kept {r : State} (body : State → Bytes × State) (s : State)
    (hb : ∀ t, Kept r t → Kept r (body t).2) (h : Kept r s) : Kept r (transact body s) := by
  unfold transact
  exact kept_ite h (kept_mk (hb _ (kept_mk h ..)) ..)

theorem refuseWith_kept {r : State} (n : Nat) (code : Byte) (s : State) (h : Kept r s) :
    Kept r (refuseWith n code s).2 := by
  unfold refuseWith
  try dsimp only
  repeat first
    | with_reducible exact h | with_reducible assumption | with_reducible apply spiError_kept
    | with_reducible apply kept_ite | split | (intro _ _ _) | (intro _ _) | (intro _)

theorem readRegs_kept {r : State} (n a : Nat) (s : State) (h : Kept r s) : Kept r (readRegs n a s).2 := by
  induction n generalizing a s with
  | zero => exact h
  | succ n ih => exact ih _ _ (hostRead_kept _ _ h)

theorem writeRegs_kept {r : State} (n a : Nat) (b : Bytes) (s : State) (h : Kept r s) : Kept r (writeRegs n a b s) := by
  induction n generalizing a b s with
  | zero => exact h
  | succ n ih =>
    simp only [writeRegs]
    exact kept_ite (resetAndBoot_kept _ _ _ _ (freeBits_kept _ _ (freeBits_kept _ _ h)))
        (ih _ _ _ (hostWrite_kept _ _ _ _ h))

theorem readBody_kept {r : State} (addr : Half) (count : Byte) (c8 : Option Byte) (fill : Option Nat) (s : State)
    (h : Kept r s) :
    Kept r (readBody addr count c8 fill s).2 := by
  unfold readBody
  try dsimp only
  repeat first
    | with_reducible exact h | with_reducible assumption | with_reducible apply spiError_kept
    | with_reducible apply readRegs_kept | with_reducible apply kept_ite | split | (intro _ _ _) | (intro _ _)
    | (intro _)

theorem writeBody_kept {r : State} (addr : Half) (count : Byte) (data : Bytes) (c8 : Option Byte) (s : State)
    (h : Kept r s) :
    Kept r (writeBody addr count data c8 s).2 := by
  unfold writeBody
  try dsimp only
  repeat first
    | with_reducible exact h | with_reducible assumption | with_reducible apply spiError_kept
    | with_reducible apply writeRegs_kept | with_reducible apply kept_ite | split | (intro _ _ _) | (intro _ _)
    | (intro _)

theorem requestBody_kept {r : State} (n : Byte) (pdu : Bytes) (c8 : Option Byte) (s : State) (h : Kept r s) :
    Kept r (requestBody n pdu c8 s).2 := by
  unfold requestBody
  try dsimp only
  repeat first
    | with_reducible exact h | with_reducible assumption | with_reducible apply spiError_kept
    | with_reducible apply submit_kept | with_reducible apply kept_ite | split | (intro _ _ _) | (intro _ _)
    | (intro _)

theorem fetchBody_kept {r : State} (c8 : Option Byte) (fill : Option Nat) (s : State) (h : Kept r s) :
    Kept r (fetchBody c8 fill s).2 := by
  unfold fetchBody
  try dsimp only
  repeat first
    | with_reducible exact h | with_reducible assumption | with_reducible apply spiError_kept
    | with_reducible apply kept_ite | split | fail_if_no_progress with_reducible apply kept_mk | (intro _ _ _)
    | (intro _ _) | (intro _)

theorem countFull_kept {r : State} (q : Nat) (inCh : Bool) (payload : Bytes) (s : State) (h : Kept r s) :
    Kept r (countFull q inCh payload s) := by
  unfold countFull
  try dsimp only
  repeat first
    | with_reducible exact h | with_reducible assumption | with_reducible apply stall_kept
    | with_reducible apply kept_ite | split | fail_if_no_progress with_reducible apply kept_mk | (intro _ _ _)
    | (intro _ _) | (intro _)

theorem pushBody_kept {r : State} (queue len : Half) (c8 : Option Byte) (stream : Bytes) (fill : Option Nat)
    (s : State) (h : Kept r s) :
    Kept r (pushBody queue len c8 stream fill s).2 := by
  unfold pushBody
  try dsimp only
  repeat first
    | with_reducible exact h | with_reducible assumption | with_reducible apply spiError_kept
    | with_reducible apply countFull_kept | with_reducible apply streamed_kept | with_reducible apply accept_kept
    | with_reducible apply kept_ite | split | fail_if_no_progress with_reducible apply kept_mk | (intro _ _ _)
    | (intro _ _) | (intro _)

theorem takeBody_kept {r : State} (host : Bytes) (q i : Nat) (c8 : Option Byte) (fill : Option Nat)
    (judge : Frame → State → Option Byte) (effect : State → State) (s : State)
    (he : ∀ t, Kept r t → Kept r (effect t)) (h : Kept r s) : Kept r (takeBody host q i c8 fill judge effect s).2 := by
  have h1 := dropUnreadable_kept q true i _ (touch_kept q s h)
  simp only [takeBody]
  split
  · split
    · exact spiError_kept _ _ h
    · exact spiError_kept _ _ h
  · split
    · exact spiError_kept _ _ h
    · split
      · exact spiError_kept _ _ h
      · split
        · exact spiError_kept _ _ h1
        · split
          · exact spiError_kept _ _ h1
          · split
            · exact he _ h1
            · exact spiError_kept _ _ h1

theorem popBody_kept {r : State} (queue : Half) (flags : Byte) (sequence : Word) (c8 : Option Byte) (fill : Option Nat)
    (s : State) (h : Kept r s) :
    Kept r (popBody queue flags sequence c8 fill s).2 := by
  unfold popBody
  try dsimp only
  repeat first
    | with_reducible exact h | with_reducible assumption | with_reducible apply takeBody_kept
    | with_reducible apply popHead_kept | with_reducible apply kept_ite | split | (intro _ _ _) | (intro _ _)
    | (intro _)

theorem peekBody_kept {r : State} (queue position : Half) (c8 : Option Byte) (fill : Option Nat) (s : State)
    (h : Kept r s) : Kept r (peekBody queue position c8 fill s).2 :=
  takeBody_kept _ _ _ _ _ _ _ _ (fun _ ht => ht) h

theorem eventBody_kept {r : State} (count : Byte) (c8 : Option Byte) (fill : Option Nat) (s : State) (h : Kept r s) :
    Kept r (eventBody count c8 fill s).2 := by
  have drop : ∀ n, Kept r { s with ring := s.ring.drop n } := fun n =>
    ⟨h.pending, fun x => ringOk_drop s n (h.ring x), h.live, h.siliconRev, h.serial, h.codeVersion, h.xoCfg, h.region⟩
  simp only [eventBody]
  split
  · exact spiError_kept _ _ h
  · split
    · exact spiError_kept _ _ h
    · split
      · exact spiError_kept _ _ h
      · exact kept_ite (drop _) (spiError_kept _ _ (drop _))

theorem cutBody_kept {r : State} (host : Bytes) (fill : Nat) (s : State) (h : Kept r s) :
    Kept r (cutBody host fill s).2 := by
  unfold cutBody
  try dsimp only
  repeat first
    | with_reducible exact h | with_reducible assumption | with_reducible apply spiError_kept
    | with_reducible apply readBody_kept | with_reducible apply writeBody_kept | with_reducible apply fetchBody_kept
    | with_reducible apply requestBody_kept | with_reducible apply pushBody_kept | with_reducible apply popBody_kept
    | with_reducible apply peekBody_kept | with_reducible apply eventBody_kept | with_reducible apply kept_ite | split
    | (intro _ _ _) | (intro _ _) | (intro _)

theorem registerRead_kept {r : State} (addr : Half) (count : Byte) (c8 : Option Byte) (x3 : State) (h : Kept r x3) :
    Kept r (registerRead addr count c8 x3) := by
  unfold registerRead
  try dsimp only
  repeat first
    | with_reducible exact h | with_reducible assumption | with_reducible apply transact_kept
    | with_reducible apply readBody_kept | with_reducible apply kept_ite | split | (intro _ _ _) | (intro _ _)
    | (intro _)

theorem registerWrite_kept {r : State} (addr : Half) (count : Byte) (data : Bytes) (c8 : Option Byte) (x4 : State)
    (h : Kept r x4) :
    Kept r (registerWrite addr count data c8 x4) := by
  unfold registerWrite
  try dsimp only
  repeat first
    | with_reducible exact h | with_reducible assumption | with_reducible apply transact_kept
    | with_reducible apply writeBody_kept | with_reducible apply kept_ite | split | (intro _ _ _) | (intro _ _)
    | (intro _)

theorem dictionaryRequest_kept {r : State} (n : Byte) (pdu : Bytes) (c8 : Option Byte) (x3 : State) (h : Kept r x3) :
    Kept r (dictionaryRequest n pdu c8 x3) := by
  unfold dictionaryRequest
  try dsimp only
  repeat first
    | with_reducible exact h | with_reducible assumption | with_reducible apply transact_kept
    | with_reducible apply fetchBody_kept | with_reducible apply requestBody_kept | with_reducible apply kept_ite
    | split | (intro _ _ _) | (intro _ _) | (intro _)

theorem responseFetch_kept {r : State} (c8 : Option Byte) (x1 : State) (h : Kept r x1) :
    Kept r (responseFetch c8 x1) := by
  unfold responseFetch
  try dsimp only
  repeat first
    | with_reducible exact h | with_reducible assumption | with_reducible apply transact_kept
    | with_reducible apply fetchBody_kept | with_reducible apply kept_ite | split | (intro _ _ _) | (intro _ _)
    | (intro _)

theorem queuePush_kept {r : State} (queue len : Half) (c8 : Option Byte) (payload : Bytes) (crc : Word) (x5 : State)
    (h : Kept r x5) :
    Kept r (queuePush queue len c8 payload crc x5) := by
  unfold queuePush
  try dsimp only
  repeat first
    | with_reducible exact h | with_reducible assumption | with_reducible apply transact_kept
    | with_reducible apply pushBody_kept | with_reducible apply kept_ite | split | (intro _ _ _) | (intro _ _)
    | (intro _)

theorem queuePop_kept {r : State} (queue : Half) (flags : Byte) (sequence : Word) (c8 : Option Byte) (x4 : State)
    (h : Kept r x4) :
    Kept r (queuePop queue flags sequence c8 x4) := by
  unfold queuePop
  try dsimp only
  repeat first
    | with_reducible exact h | with_reducible assumption | with_reducible apply transact_kept
    | with_reducible apply popBody_kept | with_reducible apply kept_ite | split | (intro _ _ _) | (intro _ _)
    | (intro _)

theorem queuePeek_kept {r : State} (queue position : Half) (c8 : Option Byte) (x3 : State) (h : Kept r x3) :
    Kept r (queuePeek queue position c8 x3) := by
  unfold queuePeek
  try dsimp only
  repeat first
    | with_reducible exact h | with_reducible assumption | with_reducible apply transact_kept
    | with_reducible apply peekBody_kept | with_reducible apply kept_ite | split | (intro _ _ _) | (intro _ _)
    | (intro _)

theorem eventFetch_kept {r : State} (count : Byte) (c8 : Option Byte) (x2 : State) (h : Kept r x2) :
    Kept r (eventFetch count c8 x2) := by
  unfold eventFetch
  try dsimp only
  repeat first
    | with_reducible exact h | with_reducible assumption | with_reducible apply transact_kept
    | with_reducible apply eventBody_kept | with_reducible apply kept_ite | split | (intro _ _ _) | (intro _ _)
    | (intro _)

theorem statusOnly_kept {r : State} (x0 : State) (h : Kept r x0) :
    Kept r (statusOnly x0) := by
  unfold statusOnly
  try dsimp only
  repeat first
    | with_reducible exact h | with_reducible assumption | with_reducible apply transact_kept
    | with_reducible apply kept_ite | split | fail_if_no_progress with_reducible apply kept_mk | (intro _ _ _)
    | (intro _ _) | (intro _)

theorem unknownOpcode_kept {r : State} (opcode : Byte) (s : State) (h : Kept r s) :
    Kept r (unknownOpcode opcode s) := by
  unfold unknownOpcode
  try dsimp only
  repeat first
    | with_reducible exact h | with_reducible assumption | with_reducible apply transact_kept
    | with_reducible apply spiError_kept | with_reducible apply kept_ite | split | (intro _ _ _) | (intro _ _)
    | (intro _)

theorem spiCsNRise_kept {r : State} (mosi : Bytes) (fill : Nat) (s : State) (h : Kept r s) :
    Kept r (spiCsNRise mosi fill s) := by
  unfold spiCsNRise
  try dsimp only
  repeat first
    | with_reducible exact h | with_reducible assumption | with_reducible apply transact_kept
    | with_reducible apply cutBody_kept | with_reducible apply kept_ite | split | (intro _ _ _) | (intro _ _)
    | (intro _)

theorem hostRegister_kept {r : State} (a v : Nat) (codes : List AdcCode) (x3 : State) (h : Kept r x3) :
    Kept r (hostRegister a v codes x3) := by
  unfold hostRegister
  try dsimp only
  repeat first
    | with_reducible exact h | with_reducible assumption | with_reducible apply transact_kept
    | with_reducible apply hostWrite_kept | with_reducible apply kept_ite | split | (intro _ _ _) | (intro _ _)
    | (intro _)

theorem softwareReset_kept {r : State} (key : Byte) (go : Bool) (run : BootRun) (s : State) (h : Kept r s) :
    Kept r (softwareReset key go run s) := by
  unfold softwareReset
  try dsimp only
  repeat first
    | with_reducible exact h | with_reducible assumption | with_reducible apply addCause_kept
    | with_reducible apply resetAndBoot_kept | with_reducible apply hostRegister_kept | with_reducible apply kept_ite
    | split | (intro _ _ _) | (intro _ _) | (intro _)

theorem portRequest_kept {r0 : State} (r : Request) (codes : List AdcCode) (s : State) (h : Kept r0 s) :
    Kept r0 (portRequest r codes s) := by
  unfold portRequest
  try dsimp only
  repeat first
    | with_reducible exact h | with_reducible assumption | with_reducible apply transact_kept
    | with_reducible apply submit_kept | with_reducible apply kept_ite | split | (intro _ _ _) | (intro _ _)
    | (intro _)

theorem dictRead_kept {r : State} (port : Port) (tag : Byte) (key : Nat) (x3 : State) (h : Kept r x3) :
    Kept r (dictRead port tag key x3) := by
  unfold dictRead
  try dsimp only
  repeat first
    | with_reducible exact h | with_reducible assumption | with_reducible apply portRequest_kept
    | with_reducible apply kept_ite | split | (intro _ _ _) | (intro _ _) | (intro _)

theorem dictWrite_kept {r : State} (port : Port) (tag : Byte) (key : Nat) (value : Bytes) (x4 : State) (h : Kept r x4) :
    Kept r (dictWrite port tag key value x4) := by
  unfold dictWrite
  try dsimp only
  repeat first
    | with_reducible exact h | with_reducible assumption | with_reducible apply portRequest_kept
    | with_reducible apply kept_ite | split | (intro _ _ _) | (intro _ _) | (intro _)

theorem control_kept {r : State} (via : Via) (addr key v : Nat) (value : Bytes) (x5 : State) (h : Kept r x5) :
    Kept r (control via addr key v value x5) := by
  unfold control
  try dsimp only
  repeat first
    | with_reducible exact h | with_reducible assumption | with_reducible apply hostRegister_kept
    | with_reducible apply dictWrite_kept | with_reducible apply kept_ite | split | (intro _ _ _) | (intro _ _)
    | (intro _)

theorem hostRegisters_kept {r : State} (n a : Nat) (x2 : State) (h : Kept r x2) :
    Kept r (hostRegisters n a x2) := by
  unfold hostRegisters
  try dsimp only
  repeat first
    | with_reducible exact h | with_reducible assumption | with_reducible apply transact_kept
    | with_reducible apply readRegs_kept | with_reducible apply kept_ite | split | (intro _ _ _) | (intro _ _)
    | (intro _)

theorem endReply_kept {r : State} (s : State) (h : Kept r s) :
    Kept r (endReply s) := by
  unfold endReply
  try dsimp only
  repeat first
    | with_reducible exact h | with_reducible assumption | with_reducible apply kept_ite | split
    | fail_if_no_progress with_reducible apply kept_mk | (intro _ _ _) | (intro _ _) | (intro _)

theorem fieldRequest_kept {r : State} (f : Bytes) (s : State) (h : Kept r s) :
    Kept r (fieldRequest f s) := by
  unfold fieldRequest
  try dsimp only
  repeat first
    | with_reducible exact h | with_reducible assumption | with_reducible apply submit_kept
    | with_reducible apply kept_ite | split | fail_if_no_progress with_reducible apply kept_mk | (intro _ _ _)
    | (intro _ _) | (intro _)

theorem fieldFrame_kept {r : State} (inForce other : Bytes) (s : State) (h : Kept r s) :
    Kept r (fieldFrame inForce other s) := by
  unfold fieldFrame
  try dsimp only
  repeat first
    | with_reducible exact h | with_reducible assumption | with_reducible apply endReply_kept
    | with_reducible apply fieldRequest_kept | with_reducible apply kept_ite | split
    | fail_if_no_progress with_reducible apply kept_mk | (intro _ _ _) | (intro _ _) | (intro _)

theorem fieldReply_kept {r : State} (s : State) (h : Kept r s) :
    Kept r (fieldReply s) := by
  unfold fieldReply
  try dsimp only
  repeat first
    | with_reducible exact h | with_reducible assumption | with_reducible apply kept_ite | split
    | fail_if_no_progress with_reducible apply kept_mk | (intro _ _ _) | (intro _ _) | (intro _)

theorem abandonReply_kept {r : State} (s : State) (h : Kept r s) :
    Kept r (abandonReply s) := by
  unfold abandonReply
  try dsimp only
  repeat first
    | with_reducible exact h | with_reducible assumption | with_reducible apply kept_ite | split
    | fail_if_no_progress with_reducible apply kept_mk | (intro _ _ _) | (intro _ _) | (intro _)

theorem echoFault_kept {r : State} (noTransition : Bool) (s : State) (h : Kept r s) :
    Kept r (echoFault noTransition s) := by
  unfold echoFault
  try dsimp only
  repeat first
    | with_reducible exact h | with_reducible assumption | with_reducible apply abandonReply_kept
    | with_reducible apply draw_kept | with_reducible apply kept_ite | split
    | fail_if_no_progress with_reducible apply kept_mk | (intro _ _ _) | (intro _ _) | (intro _)

theorem replyRetry_kept {r : State} (s : State) (h : Kept r s) :
    Kept r (replyRetry s) := by
  unfold replyRetry
  try dsimp only
  repeat first
    | with_reducible exact h | with_reducible assumption | with_reducible apply abandonReply_kept
    | with_reducible apply kept_ite | split | fail_if_no_progress with_reducible apply kept_mk | (intro _ _ _)
    | (intro _ _) | (intro _)

theorem fieldConfigApply_kept {r : State} (s : State) (h : Kept r s) :
    Kept r (fieldConfigApply s) := by
  unfold fieldConfigApply
  try dsimp only
  repeat first
    | with_reducible exact h | with_reducible assumption | with_reducible apply endReply_kept
    | with_reducible apply kept_ite | split | fail_if_no_progress with_reducible apply kept_mk | (intro _ _ _)
    | (intro _ _) | (intro _)

theorem interCharacterGap_kept {r : State} (s : State) (h : Kept r s) :
    Kept r (interCharacterGap s) := by
  unfold interCharacterGap
  try dsimp only
  repeat first
    | with_reducible exact h | with_reducible assumption | with_reducible apply endReply_kept
    | with_reducible apply kept_ite | split | (intro _ _ _) | (intro _ _) | (intro _)

theorem idleLow_kept {r : State} (s : State) (h : Kept r s) :
    Kept r (idleLow s) := by
  unfold idleLow
  try dsimp only
  repeat first
    | with_reducible exact h | with_reducible assumption | with_reducible apply endReply_kept
    | with_reducible apply kept_ite | split | fail_if_no_progress with_reducible apply kept_mk | (intro _ _ _)
    | (intro _ _) | (intro _)

theorem ckenDeferredGate_kept {r : State} (n : Nat) (s : State) (h : Kept r s) :
    Kept r (ckenDeferredGate n s) := by
  unfold ckenDeferredGate
  try dsimp only
  repeat first
    | with_reducible exact h | with_reducible assumption | with_reducible apply deferredGate_kept
    | with_reducible apply endReply_kept | with_reducible apply kept_ite | split | (intro _ _ _) | (intro _ _)
    | (intro _)

theorem controlNumber_kept {r : State} (via : Via) (addr key n v : Nat) (x5 : State) (h : Kept r x5) :
    Kept r (controlNumber via addr key n v x5) := by
  unfold controlNumber
  try dsimp only
  repeat first
    | with_reducible exact h | with_reducible assumption | with_reducible apply control_kept
    | with_reducible apply kept_ite | split | (intro _ _ _) | (intro _ _) | (intro _)

theorem stagger_kept {r : State} (x0 : StaggerBy) (x1 : State) (h : Kept r x1) :
    Kept r (stagger x0 x1) := by
  unfold stagger
  try dsimp only
  repeat first
    | with_reducible exact h | with_reducible assumption | with_reducible apply hostRegister_kept
    | with_reducible apply dictWrite_kept | with_reducible apply kept_ite | split | (intro _ _ _) | (intro _ _)
    | (intro _)

theorem compareConfigWrite_kept {r : State} (ch : Nat) (via : Via) (value : Word) (x3 : State) (h : Kept r x3) :
    Kept r (compareConfigWrite ch via value x3) := by
  unfold compareConfigWrite
  try dsimp only
  repeat first
    | with_reducible exact h | with_reducible assumption | with_reducible apply controlNumber_kept
    | with_reducible apply kept_ite | split | (intro _ _ _) | (intro _ _) | (intro _)

theorem compareValueWrite_kept {r : State} (ch : Nat) (x1 : ValPart) (x2 : State) (h : Kept r x2) :
    Kept r (compareValueWrite ch x1 x2) := by
  unfold compareValueWrite
  try dsimp only
  repeat first
    | with_reducible exact h | with_reducible assumption | with_reducible apply hostRegister_kept
    | with_reducible apply dictWrite_kept | with_reducible apply kept_ite | split | (intro _ _ _) | (intro _ _)
    | (intro _)

theorem cntWrite_kept {r : State} (n : Nat) (via : Via) (value : Half) (x3 : State) (h : Kept r x3) :
    Kept r (cntWrite n via value x3) := by
  unfold cntWrite
  try dsimp only
  repeat first
    | with_reducible exact h | with_reducible assumption | with_reducible apply controlNumber_kept
    | with_reducible apply kept_ite | split | (intro _ _ _) | (intro _ _) | (intro _)

theorem captureRead_kept {r : State} (u : Nat) (what : CapRead) (s : State) (h : Kept r s) :
    Kept r (captureRead u what s) := by
  unfold captureRead
  try dsimp only
  repeat first
    | with_reducible exact h | with_reducible assumption | with_reducible apply hostRegisters_kept
    | with_reducible apply dictRead_kept | with_reducible apply kept_ite | split | (intro _ _ _) | (intro _ _)
    | (intro _)

theorem adcStart_kept {r : State} (by_ : AdcBy) (codes : List AdcCode) (s : State) (h : Kept r s) :
    Kept r (adcStart by_ codes s) := by
  unfold adcStart
  try dsimp only
  repeat first
    | with_reducible exact h | with_reducible assumption | with_reducible apply adcTriggered_kept
    | with_reducible apply hostRegister_kept | with_reducible apply portRequest_kept | with_reducible apply kept_ite
    | split | (intro _ _ _) | (intro _ _) | (intro _)

end Sys2Proof.Machine
end

