-- ==== Sys2Proof/Laws/Frame.lean ====
section
/-! SUPPORT. What every operation of the device leaves unchanged: one lemma per operation, in the order of the definitions,
with the parts of the state that the operation may change. -/

namespace Sys2Proof.Machine

open Sys2Proof.Safety

set_option Elab.async false

theorem frame_refl (w : List Part) (s : State) : Confined w s s := ⟨fun p _ => by cases p <;> exact rfl⟩

theorem part_sub {a b w : List Part} (h : b ⊆ w) (k : a ⊆ b) : a ⊆ w := fun _ x => h (k x)

theorem part_mem {a w : List Part} {p : Part} (h : a ⊆ w) (k : p ∈ a) : p ∈ w := h k

theorem same_trans {p : Part} {r s t : State} (h : p.same r s) (k : p.same s t) : p.same r t := by
  cases p <;> exact Eq.trans k h

/-- An update of some fields by name; no operation changes the queue of the commands that wait. -/
theorem frame_mk {u0 w : List Part} {r s : State} {a b c d e f g i j k l m n o p q t u v x y z aa bb cc dd ee ff gg}
    (hw : u0 ⊆ w) (h : Confined w r s)
    (hs : ∀ part, part ∉ u0 → part.same s
      { sys := a, boot := b, sup := c, live := d, ring := e, evtLost := f, spi := g, field := i, engine := j, courses := k,
        mortar := l, jrn := m, qe := n, repair := o, scarab := p, rx := q, radio := t, swarm := u, net := v, tb := x,
        sec := y, id := z, timer := aa, pulse := bb, adc := cc, hod := dd, pins := ee, clk := ff, draws := gg,
        pending := s.pending } := by
      intro part hp
      cases part <;> first
        | exact absurd (by decide) hp
        | (unfold Part.same; with_reducible rfl)
        | with_unfolding_all exact rfl) :
    Confined w r
      { sys := a, boot := b, sup := c, live := d, ring := e, evtLost := f, spi := g, field := i, engine := j, courses := k,
        mortar := l, jrn := m, qe := n, repair := o, scarab := p, rx := q, radio := t, swarm := u, net := v, tb := x,
        sec := y, id := z, timer := aa, pulse := bb, adc := cc, hod := dd, pins := ee, clk := ff, draws := gg,
        pending := s.pending } :=
  ⟨fun part hp => same_trans (h.same part hp) (hs part fun k => hp (hw k))⟩

theorem frame_ite {w : List Part} {r : State} {c : Prop} [Decidable c] {a b : State} (ha : Confined w r a)
    (hb : Confined w r b) : Confined w r (if c then a else b) := by
  split
  · exact ha
  · exact hb

theorem frame_getD {w : List Part} {r : State} (o : Option State) (s : State) (h : Confined w r s)
    (ho : ∀ t, o = some t → Confined w r t) : Confined w r (o.getD s) := by
  cases o with
  | none => exact h
  | some t => exact ho t rfl

theorem foldl_frame {α : Type} {w : List Part} {r : State} (g : State → α → State) (l : List α) (s : State)
    (h : Confined w r s) (hg : ∀ t a, Confined w r t → Confined w r (g t a)) : Confined w r (l.foldl g s) := by
  induction l generalizing s with
  | nil => exact h
  | cons a l ih => exact ih _ (hg s a h)

theorem foldl2_frame {α β : Type} {w : List Part} {r : State} (g : State × β → α → State × β) (l : List α)
    (x : State × β) (h : Confined w r x.1) (hg : ∀ y a, Confined w r y.1 → Confined w r (g y a).1) :
    Confined w r (l.foldl g x).1 := by
  induction l generalizing x with
  | nil => exact h
  | cons a l ih => exact ih _ (hg x a h)

theorem draw_frame {w : List Part} {r : State} (n : Nat) (s : State) (h : Confined w r s)
    (hw : [.draws] ⊆ w := by first | assumption | exact part_sub ‹_› (by decide) | decide) :
    Confined w r (draw n s).2 := by
  unfold draw
  try dsimp only
  repeat first
    | with_reducible exact h | with_reducible assumption | with_reducible apply frame_ite
    | exact part_sub hw (by decide) | split | fail_if_no_progress with_reducible refine frame_mk hw ?_ | (intro _ _ _)
    | (intro _ _) | (intro _)

theorem freeBits_frame {w : List Part} {r : State} (x0 : Nat) (s : State) (h : Confined w r s)
    (hw : [.draws] ⊆ w := by first | assumption | exact part_sub ‹_› (by decide) | decide) :
    Confined w r (freeBits x0 s).2 := by
  unfold freeBits
  try dsimp only
  repeat first
    | with_reducible exact h | with_reducible assumption | with_reducible apply frame_ite
    | exact part_sub hw (by decide) | split | fail_if_no_progress with_reducible refine frame_mk hw ?_ | (intro _ _ _)
    | (intro _ _) | (intro _)

theorem setLive_frame {w : List Part} {r : State} (s : State) (key : Nat) (v : Bytes) (h : Confined w r s)
    (hw : [.live] ⊆ w := by first | assumption | exact part_sub ‹_› (by decide) | decide) :
    Confined w r (setLive s key v) := by
  unfold setLive
  try dsimp only
  repeat first
    | with_reducible exact h | with_reducible assumption | with_reducible apply frame_ite
    | exact part_sub hw (by decide) | split | fail_if_no_progress with_reducible refine frame_mk hw ?_ | (intro _ _ _)
    | (intro _ _) | (intro _)

theorem post_frame {w : List Part} {r : State} (code tag : Half) (arg : Word) (s : State) (h : Confined w r s)
    (hw : [.ring, .evtLost] ⊆ w := by first | assumption | exact part_sub ‹_› (by decide) | decide) :
    Confined w r (post code tag arg s) := by
  unfold post
  try dsimp only
  repeat first
    | with_reducible exact h | with_reducible assumption | with_reducible apply frame_ite
    | exact part_sub hw (by decide) | split | fail_if_no_progress with_reducible refine frame_mk hw ?_ | (intro _ _ _)
    | (intro _ _) | (intro _)

theorem spiError_frame {w : List Part} {r : State} (code : Byte) (s : State) (h : Confined w r s)
    (hw : [.spi] ⊆ w := by first | assumption | exact part_sub ‹_› (by decide) | decide) :
    Confined w r (spiError code s) := by
  unfold spiError
  try dsimp only
  repeat first
    | with_reducible exact h | with_reducible assumption | with_reducible apply frame_ite
    | exact part_sub hw (by decide) | split | fail_if_no_progress with_reducible refine frame_mk hw ?_ | (intro _ _ _)
    | (intro _ _) | (intro _)

theorem illegalState_frame {w : List Part} {r : State} (addr sub : Nat) (write dict : Bool) (source : Nat)
    (radio : Bool) (s : State) (h : Confined w r s)
    (hw : [.ring, .evtLost, .engine] ⊆ w := by first | assumption | exact part_sub ‹_› (by decide) | decide) :
    Confined w r (illegalState addr sub write dict source radio s) := by
  unfold illegalState
  try dsimp only
  repeat first
    | with_reducible exact h | with_reducible assumption | with_reducible apply post_frame
    | with_reducible apply frame_ite | exact part_sub hw (by decide) | split
    | fail_if_no_progress with_reducible refine frame_mk hw ?_ | (intro _ _ _) | (intro _ _) | (intro _)

theorem logEvent_frame {w : List Part} {r : State} (code tag : Half) (arg : Word) (s : State) (h : Confined w r s)
    (hw : [.mortar, .repair] ⊆ w := by first | assumption | exact part_sub ‹_› (by decide) | decide) :
    Confined w r (logEvent code tag arg s) := by
  unfold logEvent
  try dsimp only
  repeat first
    | with_reducible exact h | with_reducible assumption | with_reducible apply frame_ite
    | exact part_sub hw (by decide) | split | fail_if_no_progress with_reducible refine frame_mk hw ?_ | (intro _ _ _)
    | (intro _ _) | (intro _)

theorem postLogged_frame {w : List Part} {r : State} (code tag : Half) (arg : Word) (s : State) (h : Confined w r s)
    (hw : [.ring, .evtLost, .mortar, .repair] ⊆ w := by first | assumption | exact part_sub ‹_› (by decide) | decide) :
    Confined w r (postLogged code tag arg s) := by
  unfold postLogged
  try dsimp only
  repeat first
    | with_reducible exact h | with_reducible assumption | with_reducible apply post_frame
    | with_reducible apply logEvent_frame | with_reducible apply frame_ite | exact part_sub hw (by decide) | split
    | (intro _ _ _) | (intro _ _) | (intro _)

theorem postRepair_frame {w : List Part} {r : State} (tag arg : Nat) (s : State) (h : Confined w r s)
    (hw : [.ring, .evtLost, .mortar, .repair] ⊆ w := by first | assumption | exact part_sub ‹_› (by decide) | decide) :
    Confined w r (postRepair tag arg s) := by
  unfold postRepair
  try dsimp only
  repeat first
    | with_reducible exact h | with_reducible assumption | with_reducible apply postLogged_frame
    | with_reducible apply frame_ite | exact part_sub hw (by decide) | split
    | fail_if_no_progress with_reducible refine frame_mk hw ?_ | (intro _ _ _) | (intro _ _) | (intro _)

theorem lockViolation_frame {w : List Part} {r : State} (addr sub : Nat) (dict : Bool) (source : Nat) (s : State)
    (h : Confined w r s)
    (hw : [.sys, .ring, .evtLost, .mortar, .repair] ⊆ w
          := by first | assumption | exact part_sub ‹_› (by decide) | decide) :
    Confined w r (lockViolation addr sub dict source s) := by
  unfold lockViolation
  try dsimp only
  repeat first
    | with_reducible exact h | with_reducible assumption | with_reducible apply postLogged_frame
    | with_reducible apply frame_ite | exact part_sub hw (by decide) | split
    | fail_if_no_progress with_reducible refine frame_mk hw ?_ | (intro _ _ _) | (intro _ _) | (intro _)

theorem stageMap_frame {w : List Part} {r : State} (l : List MapEntry) (s : State) (h : Confined w r s)
    (hw : [.mortar, .repair] ⊆ w := by first | assumption | exact part_sub ‹_› (by decide) | decide) :
    Confined w r (stageMap l s) := by
  unfold stageMap
  try dsimp only
  repeat first
    | with_reducible exact h | with_reducible assumption | with_reducible apply frame_ite
    | exact part_sub hw (by decide) | split | fail_if_no_progress with_reducible refine frame_mk hw ?_ | (intro _ _ _)
    | (intro _ _) | (intro _)

theorem enterRepair_frame {w : List Part} {r : State} (tag arg : Nat) (e : MapEntry) (drop : MapEntry → Bool)
    (s : State) (h : Confined w r s)
    (hw : [.ring, .evtLost, .mortar, .repair] ⊆ w := by first | assumption | exact part_sub ‹_› (by decide) | decide) :
    Confined w r (enterRepair tag arg e drop s) := by
  unfold enterRepair
  try dsimp only
  repeat first
    | with_reducible exact h | with_reducible assumption | with_reducible apply stageMap_frame
    | with_reducible apply postRepair_frame | with_reducible apply frame_ite | exact part_sub hw (by decide) | split
    | fail_if_no_progress with_reducible refine frame_mk hw ?_ | (intro _ _ _) | (intro _ _) | (intro _)

theorem commitRecs_frame {w : List Part} {r : State} (rs : List NewRec) (s : State) (h : Confined w r s)
    (hw : [.mortar] ⊆ w := by first | assumption | exact part_sub ‹_› (by decide) | decide) :
    Confined w r (commitRecs rs s) := by
  unfold commitRecs
  try dsimp only
  repeat first
    | with_reducible exact h | with_reducible assumption | with_reducible apply frame_ite
    | exact part_sub hw (by decide) | split | fail_if_no_progress with_reducible refine frame_mk hw ?_ | (intro _ _ _)
    | (intro _ _) | (intro _)

theorem commitFail_frame {w : List Part} {r : State} (l : List (Nat × Bool)) (rs : List NewRec) (s : State)
    (h : Confined w r s) (hw : [.mortar] ⊆ w := by first | assumption | exact part_sub ‹_› (by decide) | decide) :
    Confined w r (commitFail l rs s) := by
  induction l generalizing rs s with
  | nil => exact commitRecs_frame rs s h
  | cons x l ih =>
    simp only [commitFail]
    split
    · exact commitRecs_frame rs s h
    · exact ih _ _ (frame_mk hw (commitRecs_frame _ _ h))

theorem retireSector_frame {w : List Part} {r : State} (i : Nat) (s : State) (h : Confined w r s)
    (hw : [.ring, .evtLost, .mortar, .repair] ⊆ w := by first | assumption | exact part_sub ‹_› (by decide) | decide) :
    Confined w r (retireSector i s) := by
  unfold retireSector
  try dsimp only
  repeat first
    | with_reducible exact h | with_reducible assumption | with_reducible apply enterRepair_frame
    | with_reducible apply frame_ite | exact part_sub hw (by decide) | split
    | fail_if_no_progress with_reducible refine frame_mk hw ?_ | (intro _ _ _) | (intro _ _) | (intro _)

theorem endErase_frame {w : List Part} {r : State} (i : Nat) (ok : Bool) (s : State) (h : Confined w r s)
    (hw : [.ring, .evtLost, .mortar, .repair] ⊆ w := by first | assumption | exact part_sub ‹_› (by decide) | decide) :
    Confined w r (endErase i ok s) := by
  unfold endErase
  try dsimp only
  repeat first
    | with_reducible exact h | with_reducible assumption | with_reducible apply retireSector_frame
    | with_reducible apply frame_ite | exact part_sub hw (by decide) | split
    | fail_if_no_progress with_reducible refine frame_mk hw ?_ | (intro _ _ _) | (intro _ _) | (intro _)

theorem tidyFlash_frame {w : List Part} {r : State} (s : State) (h : Confined w r s)
    (hw : [.ring, .evtLost, .mortar, .repair] ⊆ w := by first | assumption | exact part_sub ‹_› (by decide) | decide) :
    Confined w r (tidyFlash s) := by
  unfold tidyFlash
  try dsimp only
  repeat first
    | with_reducible exact h | with_reducible assumption | with_reducible apply retireSector_frame
    | with_reducible apply commitRecs_frame | with_reducible apply frame_ite | exact part_sub hw (by decide) | split
    | fail_if_no_progress with_reducible refine frame_mk hw ?_ | with_reducible apply foldl_frame | (intro _ _ _)
    | (intro _ _) | (intro _)

theorem mount_frame {w : List Part} {r : State} (us : Word) (written : Bool) (s : State) (h : Confined w r s)
    (hw : [.ring, .evtLost, .mortar, .repair] ⊆ w := by first | assumption | exact part_sub ‹_› (by decide) | decide) :
    Confined w r (mount us written s) := by
  have hm : ∀ m, Confined w r { s with mortar := m } := fun m => frame_mk hw h
  unfold mount
  extract_lets m n
  refine frame_ite (hm _) ?_
  extract_lets
  exact foldl_frame _ _ _ (foldl_frame _ _ _ (tidyFlash_frame _ (hm _)) fun _ _ h => postRepair_frame _ _ _ h)
    fun _ _ h => postRepair_frame _ _ _ h

theorem setQueue_frame {w : List Part} {r : State} (q : Nat) (v : Queue) (s : State) (h : Confined w r s)
    (hw : [.qe] ⊆ w := by first | assumption | exact part_sub ‹_› (by decide) | decide) :
    Confined w r (setQueue q v s) := by
  unfold setQueue
  try dsimp only
  repeat first
    | with_reducible exact h | with_reducible assumption | with_reducible apply frame_ite
    | exact part_sub hw (by decide) | split | fail_if_no_progress with_reducible refine frame_mk hw ?_ | (intro _ _ _)
    | (intro _ _) | (intro _)

theorem advanceGen_frame {w : List Part} {r : State} (n : Nat) (s : State) (h : Confined w r s)
    (hw : [.qe] ⊆ w := by first | assumption | exact part_sub ‹_› (by decide) | decide) :
    Confined w r (advanceGen n s) := by
  unfold advanceGen
  try dsimp only
  repeat first
    | with_reducible exact h | with_reducible assumption | with_reducible apply frame_ite
    | exact part_sub hw (by decide) | split | fail_if_no_progress with_reducible refine frame_mk hw ?_ | (intro _ _ _)
    | (intro _ _) | (intro _)

theorem retireEntry_frame {w : List Part} {r : State} (i : Nat) (s : State) (h : Confined w r s)
    (hw : [.qe] ⊆ w := by first | assumption | exact part_sub ‹_› (by decide) | decide) :
    Confined w r (retireEntry i s) := by
  unfold retireEntry
  try dsimp only
  repeat first
    | with_reducible exact h | with_reducible assumption | with_reducible apply advanceGen_frame
    | with_reducible apply frame_ite | exact part_sub hw (by decide) | split
    | fail_if_no_progress with_reducible refine frame_mk hw ?_ | (intro _ _ _) | (intro _ _) | (intro _)

theorem evictStone_frame {w : List Part} {r : State} (t : Stone) (s : State) (h : Confined w r s)
    (hw : [.qe] ⊆ w := by first | assumption | exact part_sub ‹_› (by decide) | decide) :
    Confined w r (evictStone t s) := by
  unfold evictStone
  try dsimp only
  repeat first
    | with_reducible exact h | with_reducible assumption | with_reducible apply frame_ite
    | exact part_sub hw (by decide) | split | fail_if_no_progress with_reducible refine frame_mk hw ?_ | (intro _ _ _)
    | (intro _ _) | (intro _)

theorem freeStone_frame {w : List Part} {r : State} (s : State) (h : Confined w r s)
    (hw : [.qe] ⊆ w := by first | assumption | exact part_sub ‹_› (by decide) | decide) :
    Confined w r (freeStone s) := by
  unfold freeStone
  try dsimp only
  repeat first
    | with_reducible exact h | with_reducible assumption | with_reducible apply retireEntry_frame
    | with_reducible apply evictStone_frame | with_reducible apply frame_ite | exact part_sub hw (by decide) | split
    | (intro _ _ _) | (intro _ _) | (intro _)

theorem stoneEviction_frame {w : List Part} {r : State} (s : State) (h : Confined w r s)
    (hw : [.qe] ⊆ w := by first | assumption | exact part_sub ‹_› (by decide) | decide) :
    Confined w r (stoneEviction s) := by
  unfold stoneEviction
  try dsimp only
  repeat first
    | with_reducible exact h | with_reducible assumption | with_reducible apply evictStone_frame
    | with_reducible apply frame_ite | exact part_sub hw (by decide) | split | (intro _ _ _) | (intro _ _) | (intro _)

theorem touch_frame {w : List Part} {r : State} (q : Nat) (s : State) (h : Confined w r s)
    (hw : [.qe] ⊆ w := by first | assumption | exact part_sub ‹_› (by decide) | decide) :
    Confined w r (touch q s) := by
  unfold touch
  try dsimp only
  repeat first
    | with_reducible exact h | with_reducible assumption | with_reducible apply freeStone_frame
    | with_reducible apply frame_ite | exact part_sub hw (by decide) | split
    | fail_if_no_progress with_reducible refine frame_mk hw ?_ | (intro _ _ _) | (intro _ _) | (intro _)

theorem markParts_frame {w : List Part} {r : State} (q : Nat) (change : Parts → Parts) (s : State) (h : Confined w r s)
    (hw : [.qe] ⊆ w := by first | assumption | exact part_sub ‹_› (by decide) | decide) :
    Confined w r (markParts q change s) := by
  unfold markParts
  try dsimp only
  repeat first
    | with_reducible exact h | with_reducible assumption | with_reducible apply frame_ite
    | exact part_sub hw (by decide) | split | fail_if_no_progress with_reducible refine frame_mk hw ?_ | (intro _ _ _)
    | (intro _ _) | (intro _)

theorem stageRel_frame {w : List Part} {r : State} (q : Nat) (inCh : Bool) (seq : Word) (s : State) (h : Confined w r s)
    (hw : [.jrn] ⊆ w := by first | assumption | exact part_sub ‹_› (by decide) | decide) :
    Confined w r (stageRel q inCh seq s) := by
  unfold stageRel
  try dsimp only
  repeat first
    | with_reducible exact h | with_reducible assumption | with_reducible apply frame_ite
    | exact part_sub hw (by decide) | split | fail_if_no_progress with_reducible refine frame_mk hw ?_ | (intro _ _ _)
    | (intro _ _) | (intro _)

theorem stageRelease_frame {w : List Part} {r : State} (q : Nat) (inCh : Bool) (seq : Word) (s : State) (h : Confined w r s)
    (hw : [.jrn] ⊆ w := by first | assumption | exact part_sub ‹_› (by decide) | decide) :
    Confined w r (stageRelease q inCh seq s) := by
  unfold stageRelease
  try dsimp only
  repeat first
    | with_reducible exact h | with_reducible assumption | with_reducible apply stageRel_frame
    | with_reducible apply frame_ite | exact part_sub hw (by decide) | split
    | fail_if_no_progress with_reducible refine frame_mk hw ?_ | with_reducible apply foldl_frame | (intro _ _ _)
    | (intro _ _) | (intro _)

theorem stageWaiting_frame {w : List Part} {r : State} (s : State) (h : Confined w r s)
    (hw : [.jrn] ⊆ w := by first | assumption | exact part_sub ‹_› (by decide) | decide) :
    Confined w r (stageWaiting s) := by
  unfold stageWaiting
  try dsimp only
  repeat first
    | with_reducible exact h | with_reducible assumption | with_reducible apply stageRel_frame
    | with_reducible apply frame_ite | exact part_sub hw (by decide) | split
    | fail_if_no_progress with_reducible refine frame_mk hw ?_ | with_reducible apply foldl_frame | (intro _ _ _)
    | (intro _ _) | (intro _)

theorem stageEpoch_frame {w : List Part} {r : State} (seq : Word) (s : State) (h : Confined w r s)
    (hw : [.jrn] ⊆ w := by first | assumption | exact part_sub ‹_› (by decide) | decide) :
    Confined w r (stageEpoch seq s) := by
  unfold stageEpoch
  try dsimp only
  repeat first
    | with_reducible exact h | with_reducible assumption | with_reducible apply frame_ite
    | exact part_sub hw (by decide) | split | fail_if_no_progress with_reducible refine frame_mk hw ?_ | (intro _ _ _)
    | (intro _ _) | (intro _)

theorem stall_frame {w : List Part} {r : State} (s : State) (h : Confined w r s)
    (hw : [.jrn] ⊆ w := by first | assumption | exact part_sub ‹_› (by decide) | decide) :
    Confined w r (stall s) := by
  unfold stall
  try dsimp only
  repeat first
    | with_reducible exact h | with_reducible assumption | with_reducible apply frame_ite
    | exact part_sub hw (by decide) | split | fail_if_no_progress with_reducible refine frame_mk hw ?_ | (intro _ _ _)
    | (intro _ _) | (intro _)

theorem streamed_frame {w : List Part} {r : State} (q len : Nat) (s : State) (h : Confined w r s)
    (hw : [.qe] ⊆ w := by first | assumption | exact part_sub ‹_› (by decide) | decide) :
    Confined w r (streamed q len s) := by
  unfold streamed
  try dsimp only
  repeat first
    | with_reducible exact h | with_reducible assumption | with_reducible apply advanceGen_frame
    | with_reducible apply touch_frame | with_reducible apply frame_ite | split | (intro _ _ _) | (intro _ _)
    | (intro _)

theorem postNotice_frame {w : List Part} {r : State} (q : Nat) (seq : Word) (s : State) (h : Confined w r s)
    (hw : [.ring, .evtLost, .qe] ⊆ w := by first | assumption | exact part_sub ‹_› (by decide) | decide) :
    Confined w r (postNotice q seq s) := by
  unfold postNotice
  try dsimp only
  repeat first
    | with_reducible exact h | with_reducible assumption | with_reducible apply post_frame
    | with_reducible apply frame_ite | exact part_sub hw (by decide) | split
    | fail_if_no_progress with_reducible refine frame_mk hw ?_ | (intro _ _ _) | (intro _ _) | (intro _)

theorem accept_frame {w : List Part} {r : State} (q : Nat) (inCh : Bool) (src : Byte) (payload : Bytes) (s : State)
    (h : Confined w r s)
    (hw : [.jrn, .qe] ⊆ w := by first | assumption | exact part_sub ‹_› (by decide) | decide) :
    Confined w r (accept q inCh src payload s) := by
  unfold accept
  try dsimp only
  repeat first
    | with_reducible exact h | with_reducible assumption | with_reducible apply advanceGen_frame
    | with_reducible apply touch_frame | with_reducible apply markParts_frame | with_reducible apply setQueue_frame
    | with_reducible apply stageEpoch_frame | with_reducible apply frame_ite | exact part_sub hw (by decide) | split
    | fail_if_no_progress with_reducible refine frame_mk hw ?_ | (intro _ _ _) | (intro _ _) | (intro _)

theorem popHead_frame {w : List Part} {r : State} (q : Nat) (s : State) (h : Confined w r s)
    (hw : [.jrn, .qe] ⊆ w := by first | assumption | exact part_sub ‹_› (by decide) | decide) :
    Confined w r (popHead q s) := by
  unfold popHead
  try dsimp only
  repeat first
    | with_reducible exact h | with_reducible assumption | with_reducible apply markParts_frame
    | with_reducible apply setQueue_frame | with_reducible apply stageRelease_frame | with_reducible apply frame_ite
    | exact part_sub hw (by decide) | split | (intro _ _ _) | (intro _ _) | (intro _)

theorem retireHead_frame {w : List Part} {r : State} (q : Nat) (s : State) (h : Confined w r s)
    (hw : [.jrn, .qe] ⊆ w := by first | assumption | exact part_sub ‹_› (by decide) | decide) :
    Confined w r (retireHead q s) := by
  unfold retireHead
  try dsimp only
  repeat first
    | with_reducible exact h | with_reducible assumption | with_reducible apply touch_frame
    | with_reducible apply markParts_frame | with_reducible apply setQueue_frame
    | with_reducible apply stageRelease_frame | with_reducible apply frame_ite | exact part_sub hw (by decide) | split
    | (intro _ _ _) | (intro _ _) | (intro _)

theorem purge_frame {w : List Part} {r : State} (q : Nat) (s : State) (h : Confined w r s)
    (hw : [.jrn, .qe] ⊆ w := by first | assumption | exact part_sub ‹_› (by decide) | decide) :
    Confined w r (purge q s) := by
  unfold purge
  try dsimp only
  repeat first
    | with_reducible exact h | with_reducible assumption | with_reducible apply markParts_frame
    | with_reducible apply setQueue_frame | with_reducible apply stageRelease_frame | with_reducible apply frame_ite
    | exact part_sub hw (by decide) | split | (intro _ _ _) | (intro _ _) | (intro _)

theorem countLost_frame {w : List Part} {r : State} (q n : Nat) (s : State) (h : Confined w r s)
    (hw : [.ring, .evtLost, .mortar, .qe, .repair] ⊆ w := by first | assumption | exact part_sub ‹_› (by decide) | decide) :
    Confined w r (countLost q n s) := by
  unfold countLost
  try dsimp only
  repeat first
    | with_reducible exact h | with_reducible assumption | with_reducible apply postRepair_frame
    | with_reducible apply frame_ite | exact part_sub hw (by decide) | split
    | fail_if_no_progress with_reducible refine frame_mk hw ?_ | (intro _ _ _) | (intro _ _) | (intro _)

theorem releaseLost_frame {w : List Part} {r : State} (q : Nat) (inCh : Bool) (seq : Word) (s : State) (h : Confined w r s)
    (hw : [.jrn] ⊆ w := by first | assumption | exact part_sub ‹_› (by decide) | decide) :
    Confined w r (releaseLost q inCh seq s) := by
  unfold releaseLost
  try dsimp only
  repeat first
    | with_reducible exact h | with_reducible assumption | with_reducible apply stageRelease_frame
    | with_reducible apply frame_ite | exact part_sub hw (by decide) | split
    | fail_if_no_progress with_reducible refine frame_mk hw ?_ | (intro _ _ _) | (intro _ _) | (intro _)

theorem loseFrames_frame {w : List Part} {r : State} (q : Nat) (inCh : Bool) (keep : Nat) (forGood : Bool) (s : State)
    (h : Confined w r s)
    (hw : [.ring, .evtLost, .mortar, .jrn, .qe, .repair] ⊆ w
          := by first | assumption | exact part_sub ‹_› (by decide) | decide) :
    Confined w r (loseFrames q inCh keep forGood s) := by
  unfold loseFrames
  try dsimp only
  repeat first
    | with_reducible exact h | with_reducible assumption | with_reducible apply markParts_frame
    | with_reducible apply setQueue_frame | with_reducible apply countLost_frame
    | with_reducible apply releaseLost_frame | with_reducible apply frame_ite | exact part_sub hw (by decide) | split
    | (intro _ _ _) | (intro _ _) | (intro _)

theorem dropUnreadable_frame {w : List Part} {r : State} (q : Nat) (inCh : Bool) (i : Nat) (s : State) (h : Confined w r s)
    (hw : [.ring, .evtLost, .mortar, .jrn, .qe, .repair] ⊆ w
          := by first | assumption | exact part_sub ‹_› (by decide) | decide) :
    Confined w r (dropUnreadable q inCh i s) := by
  unfold dropUnreadable
  try dsimp only
  repeat first
    | with_reducible exact h | with_reducible assumption | with_reducible apply loseFrames_frame
    | with_reducible apply frame_ite | exact part_sub hw (by decide) | split | (intro _ _ _) | (intro _ _) | (intro _)

theorem macRead_frame {w : List Part} {r : State} (q : Nat) (s : State) (h : Confined w r s)
    (hw : [.ring, .evtLost, .mortar, .jrn, .qe, .repair] ⊆ w
          := by first | assumption | exact part_sub ‹_› (by decide) | decide) :
    Confined w r (macRead q s) := by
  unfold macRead
  try dsimp only
  repeat first
    | with_reducible exact h | with_reducible assumption | with_reducible apply dropUnreadable_frame
    | with_reducible apply touch_frame | with_reducible apply frame_ite | exact part_sub hw (by decide) | split
    | (intro _ _ _) | (intro _ _) | (intro _)

theorem commitStage_frame {w : List Part} {r : State} (fails : List (Nat × Bool)) (more : List NewRec) (s : State)
    (h : Confined w r s)
    (hw : [.mortar, .jrn] ⊆ w := by first | assumption | exact part_sub ‹_› (by decide) | decide) :
    Confined w r (commitStage fails more s) := by
  unfold commitStage
  try dsimp only
  repeat first
    | with_reducible exact h | with_reducible assumption | with_reducible apply commitFail_frame
    | with_reducible apply stageWaiting_frame | with_reducible apply frame_ite | exact part_sub hw (by decide) | split
    | fail_if_no_progress with_reducible refine frame_mk hw ?_ | (intro _ _ _) | (intro _ _) | (intro _)

theorem postQto_frame {w : List Part} {r : State} (q : Nat) (s : State) (h : Confined w r s)
    (hw : [.ring, .evtLost, .qe] ⊆ w := by first | assumption | exact part_sub ‹_› (by decide) | decide) :
    Confined w r (postQto q s) := by
  unfold postQto
  try dsimp only
  repeat first
    | with_reducible exact h | with_reducible assumption | with_reducible apply post_frame
    | with_reducible apply setQueue_frame | with_reducible apply frame_ite | exact part_sub hw (by decide) | split
    | (intro _ _ _) | (intro _ _) | (intro _)

theorem refuseSegment_frame {w : List Part} {r : State} (i : Nat) (s : State) (h : Confined w r s)
    (hw : [.qe, .swarm] ⊆ w := by first | assumption | exact part_sub ‹_› (by decide) | decide) :
    Confined w r (refuseSegment i s).1 := by
  unfold refuseSegment
  try dsimp only
  repeat first
    | with_reducible exact h | with_reducible assumption | with_reducible apply advanceGen_frame
    | with_reducible apply frame_ite | exact part_sub hw (by decide) | split
    | fail_if_no_progress with_reducible refine frame_mk hw ?_ | (intro _ _ _) | (intro _ _) | (intro _)

theorem requestWake_frame {w : List Part} {r : State} (b : Nat) (s : State) (h : Confined w r s)
    (hw : [.sup] ⊆ w := by first | assumption | exact part_sub ‹_› (by decide) | decide) :
    Confined w r (requestWake b s) := by
  unfold requestWake
  try dsimp only
  repeat first
    | with_reducible exact h | with_reducible assumption | with_reducible apply frame_ite
    | exact part_sub hw (by decide) | split | fail_if_no_progress with_reducible refine frame_mk hw ?_ | (intro _ _ _)
    | (intro _ _) | (intro _)

theorem postRefusedSwitch_frame {w : List Part} {r : State} (s : State) (h : Confined w r s)
    (hw : [.ring, .evtLost] ⊆ w := by first | assumption | exact part_sub ‹_› (by decide) | decide) :
    Confined w r (postRefusedSwitch s) := by
  unfold postRefusedSwitch
  try dsimp only
  repeat first
    | with_reducible exact h | with_reducible assumption | with_reducible apply post_frame
    | with_reducible apply frame_ite | split | (intro _ _ _) | (intro _ _) | (intro _)

theorem courseTrigger_frame {w : List Part} {r : State} (matched : List Nat) (s : State) (h : Confined w r s)
    (hw : [.ring, .evtLost, .courses] ⊆ w := by first | assumption | exact part_sub ‹_› (by decide) | decide) :
    Confined w r (courseTrigger matched s) := by
  unfold courseTrigger
  try dsimp only
  repeat first
    | with_reducible exact h | with_reducible assumption | with_reducible apply postRefusedSwitch_frame
    | with_reducible apply frame_ite | exact part_sub hw (by decide) | split
    | fail_if_no_progress with_reducible refine frame_mk hw ?_ | (intro _ _ _) | (intro _ _) | (intro _)

theorem pinAction_frame {w : List Part} {r : State} (act pin : Nat) (s : State) (h : Confined w r s)
    (hw : [.live] ⊆ w := by first | assumption | exact part_sub ‹_› (by decide) | decide) :
    Confined w r (pinAction act pin s) := by
  unfold pinAction
  try dsimp only
  repeat first
    | with_reducible exact h | with_reducible assumption | with_reducible apply setLive_frame
    | with_reducible apply frame_ite | split | (intro _ _ _) | (intro _ _) | (intro _)

theorem setCmp_frame {w : List Part} {r : State} (n : Nat) (c : Compare) (s : State) (h : Confined w r s)
    (hw : [.timer] ⊆ w := by first | assumption | exact part_sub ‹_› (by decide) | decide) :
    Confined w r (setCmp n c s) := by
  unfold setCmp
  try dsimp only
  repeat first
    | with_reducible exact h | with_reducible assumption | with_reducible apply frame_ite
    | exact part_sub hw (by decide) | split | fail_if_no_progress with_reducible refine frame_mk hw ?_ | (intro _ _ _)
    | (intro _ _) | (intro _)

theorem setCnt_frame {w : List Part} {r : State} (n : Nat) (c : Counter) (s : State) (h : Confined w r s)
    (hw : [.timer] ⊆ w := by first | assumption | exact part_sub ‹_› (by decide) | decide) :
    Confined w r (setCnt n c s) := by
  unfold setCnt
  try dsimp only
  repeat first
    | with_reducible exact h | with_reducible assumption | with_reducible apply frame_ite
    | exact part_sub hw (by decide) | split | fail_if_no_progress with_reducible refine frame_mk hw ?_ | (intro _ _ _)
    | (intro _ _) | (intro _)

theorem armCmp_frame {w : List Part} {r : State} (n : Nat) (s : State) (h : Confined w r s)
    (hw : [.timer] ⊆ w := by first | assumption | exact part_sub ‹_› (by decide) | decide) :
    Confined w r (armCmp n s) := by
  unfold armCmp
  try dsimp only
  repeat first
    | with_reducible exact h | with_reducible assumption | with_reducible apply setCmp_frame
    | with_reducible apply frame_ite | split | (intro _ _ _) | (intro _ _) | (intro _)

theorem setCmpCfg_frame {w : List Part} {r : State} (n v : Nat) (s : State) (h : Confined w r s)
    (hw : [.live, .timer] ⊆ w := by first | assumption | exact part_sub ‹_› (by decide) | decide) :
    Confined w r (setCmpCfg n v s) := by
  unfold setCmpCfg
  try dsimp only
  repeat first
    | with_reducible exact h | with_reducible assumption | with_reducible apply setLive_frame
    | with_reducible apply armCmp_frame | with_reducible apply frame_ite | exact part_sub hw (by decide) | split
    | (intro _ _ _) | (intro _ _) | (intro _)

theorem setCmpEn_frame {w : List Part} {r : State} (n : Nat) (on : Bool) (s : State) (h : Confined w r s)
    (hw : [.live, .timer] ⊆ w := by first | assumption | exact part_sub ‹_› (by decide) | decide) :
    Confined w r (setCmpEn n on s) := by
  unfold setCmpEn
  try dsimp only
  repeat first
    | with_reducible exact h | with_reducible assumption | with_reducible apply setCmpCfg_frame
    | with_reducible apply frame_ite | split | (intro _ _ _) | (intro _ _) | (intro _)

theorem setCntCfg_frame {w : List Part} {r : State} (n v : Nat) (s : State) (h : Confined w r s)
    (hw : [.live, .timer] ⊆ w := by first | assumption | exact part_sub ‹_› (by decide) | decide) :
    Confined w r (setCntCfg n v s) := by
  unfold setCntCfg
  try dsimp only
  repeat first
    | with_reducible exact h | with_reducible assumption | with_reducible apply setLive_frame
    | with_reducible apply frame_ite | exact part_sub hw (by decide) | split
    | fail_if_no_progress with_reducible refine frame_mk hw ?_ | (intro _ _ _) | (intro _ _) | (intro _)

theorem putPair_frame {w : List Part} {r : State} (u : Nat) (c : CapPair) (s : State) (h : Confined w r s)
    (hw : [.timer] ⊆ w := by first | assumption | exact part_sub ‹_› (by decide) | decide) :
    Confined w r (putPair u c s) := by
  unfold putPair
  try dsimp only
  repeat first
    | with_reducible exact h | with_reducible assumption | with_reducible apply frame_ite
    | exact part_sub hw (by decide) | split | fail_if_no_progress with_reducible refine frame_mk hw ?_ | (intro _ _ _)
    | (intro _ _) | (intro _)

theorem putSingle_frame {w : List Part} {r : State} (k : Nat) (c : CapSingle) (s : State) (h : Confined w r s)
    (hw : [.timer] ⊆ w := by first | assumption | exact part_sub ‹_› (by decide) | decide) :
    Confined w r (putSingle k c s) := by
  unfold putSingle
  try dsimp only
  repeat first
    | with_reducible exact h | with_reducible assumption | with_reducible apply frame_ite
    | exact part_sub hw (by decide) | split | fail_if_no_progress with_reducible refine frame_mk hw ?_ | (intro _ _ _)
    | (intro _ _) | (intro _)

theorem flushEdges_frame {w : List Part} {r : State} (s : State) (h : Confined w r s)
    (hw : [.timer] ⊆ w := by first | assumption | exact part_sub ‹_› (by decide) | decide) :
    Confined w r (flushEdges s) := by
  unfold flushEdges
  try dsimp only
  repeat first
    | with_reducible exact h | with_reducible assumption | with_reducible apply putPair_frame
    | with_reducible apply putSingle_frame | with_reducible apply frame_ite | exact part_sub hw (by decide) | split
    | fail_if_no_progress with_reducible refine frame_mk hw ?_ | with_reducible apply foldl_frame | (intro _ _ _)
    | (intro _ _) | (intro _)

theorem captureEdge_frame {w : List Part} {r : State} (u : Nat) (s : State) (h : Confined w r s)
    (hw : [.timer] ⊆ w := by first | assumption | exact part_sub ‹_› (by decide) | decide) :
    Confined w r (captureEdge u s) := by
  unfold captureEdge
  try dsimp only
  repeat first
    | with_reducible exact h | with_reducible assumption | with_reducible apply putPair_frame
    | with_reducible apply putSingle_frame | with_reducible apply frame_ite | exact part_sub hw (by decide) | split
    | fail_if_no_progress with_reducible refine frame_mk hw ?_ | (intro _ _ _) | (intro _ _) | (intro _)

theorem clearNew_frame {w : List Part} {r : State} (u : Nat) (rise fall : Bool) (s : State) (h : Confined w r s)
    (hw : [.timer] ⊆ w := by first | assumption | exact part_sub ‹_› (by decide) | decide) :
    Confined w r (clearNew u rise fall s) := by
  unfold clearNew
  try dsimp only
  repeat first
    | with_reducible exact h | with_reducible assumption | with_reducible apply putPair_frame
    | with_reducible apply putSingle_frame | with_reducible apply frame_ite | split | (intro _ _ _) | (intro _ _)
    | (intro _)

theorem setCapCfg_frame {w : List Part} {r : State} (u v : Nat) (s : State) (h : Confined w r s)
    (hw : [.live, .timer] ⊆ w := by first | assumption | exact part_sub ‹_› (by decide) | decide) :
    Confined w r (setCapCfg u v s) := by
  unfold setCapCfg
  try dsimp only
  repeat first
    | with_reducible exact h | with_reducible assumption | with_reducible apply flushEdges_frame
    | with_reducible apply setLive_frame | with_reducible apply frame_ite | exact part_sub hw (by decide) | split
    | fail_if_no_progress with_reducible refine frame_mk hw ?_ | (intro _ _ _) | (intro _ _) | (intro _)

theorem hodDrop_frame {w : List Part} {r : State} (s : State) (h : Confined w r s)
    (hw : [.hod] ⊆ w := by first | assumption | exact part_sub ‹_› (by decide) | decide) :
    Confined w r (hodDrop s) := by
  unfold hodDrop
  try dsimp only
  repeat first
    | with_reducible exact h | with_reducible assumption | with_reducible apply frame_ite
    | exact part_sub hw (by decide) | split | fail_if_no_progress with_reducible refine frame_mk hw ?_ | (intro _ _ _)
    | (intro _ _) | (intro _)

theorem journalStall_frame {w : List Part} {r : State} (q : Nat) (inCh : Bool) (src : Byte) (payload : Bytes)
    (s : State) (h : Confined w r s)
    (hw : [.jrn] ⊆ w := by first | assumption | exact part_sub ‹_› (by decide) | decide) :
    Confined w r (journalStall q inCh src payload s) := by
  unfold journalStall
  try dsimp only
  repeat first
    | with_reducible exact h | with_reducible assumption | with_reducible apply stall_frame
    | with_reducible apply frame_ite | exact part_sub hw (by decide) | split | (intro _ _ _) | (intro _ _) | (intro _)

theorem hodAppend_frame {w : List Part} {r : State} (n : Nat) (s : State) (h : Confined w r s)
    (hw : [.ring, .evtLost, .jrn, .qe, .hod] ⊆ w := by first | assumption | exact part_sub ‹_› (by decide) | decide) :
    Confined w r (hodAppend n s) := by
  unfold hodAppend
  try dsimp only
  repeat first
    | with_reducible exact h | with_reducible assumption | with_reducible apply hodDrop_frame
    | with_reducible apply journalStall_frame | with_reducible apply postNotice_frame
    | with_reducible apply accept_frame | with_reducible apply frame_ite | exact part_sub hw (by decide) | split
    | fail_if_no_progress with_reducible refine frame_mk hw ?_ | (intro _ _ _) | (intro _ _) | (intro _)

theorem hodRecord_frame {w : List Part} {r0 : State} (n : Nat) (r : Bytes) (s : State) (h : Confined w r0 s)
    (hw : [.ring, .evtLost, .jrn, .qe, .hod] ⊆ w := by first | assumption | exact part_sub ‹_› (by decide) | decide) :
    Confined w r0 (hodRecord n r s) := by
  unfold hodRecord
  try dsimp only
  repeat first
    | with_reducible exact h | with_reducible assumption | with_reducible apply hodDrop_frame
    | with_reducible apply hodAppend_frame | with_reducible apply frame_ite | exact part_sub hw (by decide) | split
    | fail_if_no_progress with_reducible refine frame_mk hw ?_ | (intro _ _ _) | (intro _ _) | (intro _)

theorem stageCkpt_frame {w : List Part} {r : State} (k : Checkpoint) (s : State) (h : Confined w r s)
    (hw : [.mortar, .pulse] ⊆ w := by first | assumption | exact part_sub ‹_› (by decide) | decide) :
    Confined w r (stageCkpt k s) := by
  unfold stageCkpt
  try dsimp only
  repeat first
    | with_reducible exact h | with_reducible assumption | with_reducible apply frame_ite
    | exact part_sub hw (by decide) | split | fail_if_no_progress with_reducible refine frame_mk hw ?_ | (intro _ _ _)
    | (intro _ _) | (intro _)

theorem hodRequest_frame {w : List Part} {r : State} (n : Nat) (s : State) (h : Confined w r s)
    (hw : [.ring, .evtLost, .mortar, .jrn, .qe, .timer, .pulse, .hod] ⊆ w
          := by first | assumption | exact part_sub ‹_› (by decide) | decide) :
    Confined w r (hodRequest n s) := by
  unfold hodRequest
  try dsimp only
  repeat first
    | with_reducible exact h | with_reducible assumption | with_reducible apply hodRecord_frame
    | with_reducible apply putPair_frame | with_reducible apply putSingle_frame | with_reducible apply stageCkpt_frame
    | with_reducible apply frame_ite | exact part_sub hw (by decide) | split
    | fail_if_no_progress with_reducible refine frame_mk hw ?_ | (intro _ _ _) | (intro _ _) | (intro _)

theorem matchCmp_frame {w : List Part} {r : State} (y : Time48) (late : Bool) (n : Nat) (s : State) (h : Confined w r s)
    (hw : [.sup, .timer] ⊆ w := by first | assumption | exact part_sub ‹_› (by decide) | decide) :
    Confined w r (matchCmp y late n s) := by
  unfold matchCmp
  try dsimp only
  repeat first
    | with_reducible exact h | with_reducible assumption | with_reducible apply setCmp_frame
    | with_reducible apply requestWake_frame | with_reducible apply frame_ite | exact part_sub hw (by decide) | split
    | fail_if_no_progress with_reducible refine frame_mk hw ?_ | (intro _ _ _) | (intro _ _) | (intro _)

theorem loseTriggers_frame {w : List Part} {r : State} (n : Nat) (s : State) (h : Confined w r s)
    (hw : [.timer] ⊆ w := by first | assumption | exact part_sub ‹_› (by decide) | decide) :
    Confined w r (loseTriggers n s) := by
  unfold loseTriggers
  try dsimp only
  repeat first
    | with_reducible exact h | with_reducible assumption | with_reducible apply frame_ite
    | exact part_sub hw (by decide) | split | fail_if_no_progress with_reducible refine frame_mk hw ?_ | (intro _ _ _)
    | (intro _ _) | (intro _)

theorem deliver_frame {w : List Part} {r : State} (n : Nat) (on : Bool) (act : State → State) (s : State)
    (ha : ∀ t, Confined w r t → Confined w r (act t)) (h : Confined w r s)
        (hw : [.timer] ⊆ w := by first | assumption | exact part_sub ‹_› (by decide) | decide) : Confined w r
        (deliver n on act s) := by
  unfold deliver
  exact frame_ite h (frame_ite (ha _ (loseTriggers_frame _ _ h)) (loseTriggers_frame _ _ h))

theorem deliverTriggers_frame {w : List Part} {r : State} (ts : List Nat) (s : State) (h : Confined w r s)
    (hw : [.live, .ring, .evtLost, .mortar, .jrn, .qe, .timer, .pulse, .adc, .hod] ⊆ w
      := by first | assumption | exact part_sub ‹_› (by decide) | decide) : Confined w r (deliverTriggers ts s) := by
  unfold deliverTriggers
  refine foldl_frame _ _ _ (foldl_frame _ _ _ (deliver_frame _ _ _ _ (fun t ht => frame_mk hw ht) h) fun t n ht =>
    deliver_frame _ _ _ _ (fun u hu => hodRequest_frame _ _ hu) ht) fun t n ht =>
      frame_ite (setCmpEn_frame _ _ _ ht) (frame_ite (setCmpEn_frame _ _ _ ht) ht)

theorem sampleCaptures_frame {w : List Part} {r : State} (pins : BitVec 12) (s : State) (h : Confined w r s)
    (hw : [.sup, .timer] ⊆ w := by first | assumption | exact part_sub ‹_› (by decide) | decide) :
    Confined w r (sampleCaptures pins s) := by
  unfold sampleCaptures
  try dsimp only
  repeat first
    | with_reducible exact h | with_reducible assumption | with_reducible apply requestWake_frame
    | with_reducible apply frame_ite | exact part_sub hw (by decide) | split
    | fail_if_no_progress with_reducible refine frame_mk hw ?_ | with_reducible apply foldl_frame | (intro _ _ _)
    | (intro _ _) | (intro _)

theorem countOne_frame {w : List Part} {r : State} (fuel n : Nat) (x : State × List Nat) (h : Confined w r x.1)
    (hw : [.sup, .timer] ⊆ w := by first | assumption | exact part_sub ‹_› (by decide) | decide) :
    Confined w r (countOne fuel n x).1 := by
  induction fuel generalizing n x with
  | zero => exact h
  | succ fuel ih =>
    obtain ⟨s, ov⟩ := x
    unfold countOne
    extract_lets c t
    have ht : Confined w r t := setCnt_frame _ _ _ h
    split
    · rename_i u y z v k hc
      have hu : Confined w r u := frame_ite (requestWake_frame _ _ ht) ht
      have hz : Confined w r z.1 := by
        unfold z
        split
        · exact ih _ _ hu
        · exact hu
      split
      · exact ih _ _ hz
      · exact hz
    · exact ht

theorem sampleCounters_frame {w : List Part} {r : State} (pins : BitVec 12) (s : State) (h : Confined w r s)
    (hw : [.sup, .timer] ⊆ w := by first | assumption | exact part_sub ‹_› (by decide) | decide) :
    Confined w r (sampleCounters pins s).1 := by
  unfold sampleCounters
  refine foldl2_frame _ _ _ h fun x n hx => ?_
  dsimp only
  split
  · split
    · split
      · exact countOne_frame _ _ _ (frame_ite (requestWake_frame 3 _ (frame_mk hw hx)) (frame_mk hw hx))
      · exact frame_ite (requestWake_frame 3 _ (frame_mk hw hx)) (frame_mk hw hx)
    · exact frame_mk hw hx
  · exact hx

theorem fallStep_frame {w : List Part} {r : State} (s : State) (h : Confined w r s)
    (hw : [.sup] ⊆ w := by first | assumption | exact part_sub ‹_› (by decide) | decide) :
    Confined w r (fallStep s) := by
  unfold fallStep
  try dsimp only
  repeat first
    | with_reducible exact h | with_reducible assumption | with_reducible apply frame_ite
    | exact part_sub hw (by decide) | split | fail_if_no_progress with_reducible refine frame_mk hw ?_ | (intro _ _ _)
    | (intro _ _) | (intro _)

theorem countTrigger_frame {w : List Part} {r : State} (x : State × List Nat) (t : Nat) (h : Confined w r x.1)
    (hw : [.sup, .timer] ⊆ w := by first | assumption | exact part_sub ‹_› (by decide) | decide) :
    Confined w r (countTrigger x t).1 := by
  unfold countTrigger
  dsimp only
  split
  · exact countOne_frame _ _ _ h
  · exact h

theorem stepActions_frame {w : List Part} {r : State} (matched : List Nat) (x : State × List Nat)
    (h : Confined w r x.1)
    (hw : [.sup, .live, .ring, .evtLost, .courses, .mortar, .jrn, .qe, .timer, .pulse, .adc, .hod] ⊆ w
      := by first | assumption | exact part_sub ‹_› (by decide) | decide) :
    Confined w r (stepActions matched x) := by
  unfold stepActions
  refine courseTrigger_frame _ _ (deliverTriggers_frame _ _ (foldl_frame _ _ _ (foldl_frame _ _ _
    (foldl2_frame _ _ _ h fun y t hy => countTrigger_frame y t hy) fun t n ht => pinAction_frame _ _ _ ht)
    fun t n ht => pinAction_frame _ _ _ ht))

theorem timeStep_frame {w : List Part} {r : State} (pins : BitVec 12) (s : State) (h : Confined w r s)
    (hw : [.sup, .live, .ring, .evtLost, .courses, .mortar, .jrn, .qe, .timer, .pulse, .adc, .hod, .pins] ⊆ w
      := by first | assumption | exact part_sub ‹_› (by decide) | decide) : Confined w r (timeStep pins s) := by
  unfold timeStep
  refine frame_ite h (stepActions_frame _ _ (sampleCounters_frame _ _ (sampleCaptures_frame _ _ ?_)))
  exact foldl_frame _ _ _ (frame_mk hw (fallStep_frame _ (flushEdges_frame _ h))) fun t n ht => matchCmp_frame _ _ _ _ ht

theorem stepNtime_frame {w : List Part} {r : State} (e : Int) (s : State) (h : Confined w r s)
    (hw : [.sup, .live, .ring, .evtLost, .courses, .mortar, .jrn, .qe, .timer, .pulse, .adc, .hod] ⊆ w
      := by first | assumption | exact part_sub ‹_› (by decide) | decide) : Confined w r (stepNtime e s) := by
  unfold stepNtime
  refine frame_ite (stepActions_frame _ _ ?_) (frame_mk hw h)
  exact foldl_frame _ _ _ (frame_mk hw h) fun t n ht => matchCmp_frame _ _ _ _ ht

theorem snapshot_frame {w : List Part} {r : State} (s : State) (h : Confined w r s)
    (hw : [.timer] ⊆ w := by first | assumption | exact part_sub ‹_› (by decide) | decide) :
    Confined w r (snapshot s) := by
  unfold snapshot
  try dsimp only
  repeat first
    | with_reducible exact h | with_reducible assumption | with_reducible apply frame_ite
    | exact part_sub hw (by decide) | split | fail_if_no_progress with_reducible refine frame_mk hw ?_ | (intro _ _ _)
    | (intro _ _) | (intro _)

theorem staggerGo_frame {w : List Part} {r : State} (mask : Nat) (base : Time48) (spacing period : Nat) (s : State)
    (h : Confined w r s)
    (hw : [.live, .timer] ⊆ w := by first | assumption | exact part_sub ‹_› (by decide) | decide) :
    Confined w r (staggerGo mask base spacing period s) := by
  unfold staggerGo
  try dsimp only
  repeat first
    | with_reducible exact h | with_reducible assumption | with_reducible apply setCmp_frame
    | with_reducible apply armCmp_frame | with_reducible apply setLive_frame | with_reducible apply frame_ite
    | exact part_sub hw (by decide) | split | fail_if_no_progress with_reducible refine frame_mk hw ?_
    | with_reducible apply foldl_frame | (intro _ _ _) | (intro _ _) | (intro _)

theorem clearCmpStat_frame {w : List Part} {r : State} (x0 : Nat) (s : State) (h : Confined w r s)
    (hw : [.timer] ⊆ w := by first | assumption | exact part_sub ‹_› (by decide) | decide) :
    Confined w r (clearCmpStat x0 s) := by
  unfold clearCmpStat
  try dsimp only
  repeat first
    | with_reducible exact h | with_reducible assumption | with_reducible apply setCmp_frame
    | with_reducible apply frame_ite | exact part_sub hw (by decide) | split
    | fail_if_no_progress with_reducible refine frame_mk hw ?_ | with_reducible apply foldl_frame | (intro _ _ _)
    | (intro _ _) | (intro _)

theorem setPulse_frame {w : List Part} {r : State} (n : Nat) (c : PulseCh) (s : State) (h : Confined w r s)
    (hw : [.pulse] ⊆ w := by first | assumption | exact part_sub ‹_› (by decide) | decide) :
    Confined w r (setPulse n c s) := by
  unfold setPulse
  try dsimp only
  repeat first
    | with_reducible exact h | with_reducible assumption | with_reducible apply frame_ite
    | exact part_sub hw (by decide) | split | fail_if_no_progress with_reducible refine frame_mk hw ?_ | (intro _ _ _)
    | (intro _ _) | (intro _)

theorem countPulse_frame {w : List Part} {r : State} (n : Nat) (s : State) (h : Confined w r s)
    (hw : [.sup, .live, .ring, .evtLost, .courses, .mortar, .jrn, .qe, .timer, .pulse, .adc, .hod] ⊆ w
      := by first | assumption | exact part_sub ‹_› (by decide) | decide) : Confined w r (countPulse n s) :=
  frame_ite (stepActions_frame _ _ (countOne_frame _ _ _ h)) h

theorem samplePulse_frame {w : List Part} {r : State} (n ratio : Nat) (s : State) (h : Confined w r s)
    (hw : [.sup, .live, .ring, .evtLost, .courses, .mortar, .jrn, .qe, .timer, .pulse, .adc, .hod] ⊆ w
          := by first | assumption | exact part_sub ‹_› (by decide) | decide) :
    Confined w r (samplePulse n ratio s) := by
  unfold samplePulse
  try dsimp only
  repeat first
    | with_reducible exact h | with_reducible assumption | with_reducible apply setPulse_frame
    | with_reducible apply countPulse_frame | with_reducible apply frame_ite | exact part_sub hw (by decide) | split
    | (intro _ _ _) | (intro _ _) | (intro _)

theorem pulseSample_frame {w : List Part} {r : State} (n ratio : Nat) (s : State) (h : Confined w r s)
    (hw : [.sup, .live, .ring, .evtLost, .courses, .mortar, .jrn, .qe, .timer, .pulse, .adc, .hod] ⊆ w
          := by first | assumption | exact part_sub ‹_› (by decide) | decide) :
    Confined w r (pulseSample n ratio s) := by
  unfold pulseSample
  try dsimp only
  repeat first
    | with_reducible exact h | with_reducible assumption | with_reducible apply samplePulse_frame
    | with_reducible apply frame_ite | split | (intro _ _ _) | (intro _ _) | (intro _)

theorem setLine_frame {w : List Part} {r : State} (n : Nat) (new : LineState) (s : State) (h : Confined w r s)
    (hw : [.sup, .ring, .evtLost, .pulse] ⊆ w := by first | assumption | exact part_sub ‹_› (by decide) | decide) :
    Confined w r (setLine n new s) := by
  unfold setLine
  try dsimp only
  repeat first
    | with_reducible exact h | with_reducible assumption | with_reducible apply setPulse_frame
    | with_reducible apply requestWake_frame | with_reducible apply post_frame | with_reducible apply frame_ite
    | exact part_sub hw (by decide) | split | (intro _ _ _) | (intro _ _) | (intro _)

theorem supervise_frame {w : List Part} {r : State} (n : Nat) (code : AdcCode) (s : State) (h : Confined w r s)
    (hw : [.sup, .ring, .evtLost, .pulse] ⊆ w := by first | assumption | exact part_sub ‹_› (by decide) | decide) :
    Confined w r (supervise n code s) := by
  unfold supervise
  try dsimp only
  repeat first
    | with_reducible exact h | with_reducible assumption | with_reducible apply setPulse_frame
    | with_reducible apply setLine_frame | with_reducible apply frame_ite | exact part_sub hw (by decide) | split
    | fail_if_no_progress with_reducible refine frame_mk hw ?_ | (intro _ _ _) | (intro _ _) | (intro _)

theorem corrected_frame {w : List Part} {r : State} (raw : BitVec 12) (s : State) (h : Confined w r s)
    (hw : [.draws] ⊆ w := by first | assumption | exact part_sub ‹_› (by decide) | decide) :
    Confined w r (corrected raw s).2 := by
  unfold corrected
  try dsimp only
  repeat first
    | with_reducible exact h | with_reducible assumption | with_reducible apply freeBits_frame
    | with_reducible apply frame_ite | exact part_sub hw (by decide) | split | (intro _ _ _) | (intro _ _) | (intro _)

theorem takeCode_frame {w : List Part} {r : State} (codes : List AdcCode) (s : State) (h : Confined w r s)
    (hw : [.draws] ⊆ w := by first | assumption | exact part_sub ‹_› (by decide) | decide) :
    Confined w r (takeCode codes s).2.2 := by
  unfold takeCode
  split
  · exact corrected_frame _ _ (corrected_frame _ _ h)
  · exact freeBits_frame 12 (freeBits 12 s).2 (freeBits_frame 12 s h)

theorem startChannel_frame {w : List Part} {r : State} (n : Nat) (s : State) (h : Confined w r s)
    (hw : [.sup, .ring, .evtLost, .pulse, .draws] ⊆ w
      := by first | assumption | exact part_sub ‹_› (by decide) | decide) : Confined w r (startChannel n s) := by
  have h1 := setLine_frame n .unknown _ (setPulse_frame n { getPulse s n with out := (getPulse s n).level, run := 0 } _ h)
  unfold startChannel
  dsimp only
  generalize setLine n .unknown _ = t at h1
  exact frame_ite h1
      (frame_ite (supervise_frame _ _ _ (takeCode_frame _ _ (setPulse_frame _ _ _ h1))) (setPulse_frame _ _ _ h1))

theorem setPulseCfg_frame {w : List Part} {r : State} (n v : Nat) (s : State) (h : Confined w r s)
    (hw : [.sup, .live, .ring, .evtLost, .pulse, .draws] ⊆ w
          := by first | assumption | exact part_sub ‹_› (by decide) | decide) :
    Confined w r (setPulseCfg n v s) := by
  unfold setPulseCfg
  try dsimp only
  repeat first
    | with_reducible exact h | with_reducible assumption | with_reducible apply setLive_frame
    | with_reducible apply startChannel_frame | with_reducible apply setPulse_frame | with_reducible apply frame_ite
    | exact part_sub hw (by decide) | split | (intro _ _ _) | (intro _ _) | (intro _)

theorem routeResult_frame {w : List Part} {r : State} (k entry result : Nat) (s : State) (h : Confined w r s)
    (hw : [.ring, .evtLost, .jrn, .qe, .hod] ⊆ w := by first | assumption | exact part_sub ‹_› (by decide) | decide) :
    Confined w r (routeResult k entry result s) := by
  unfold routeResult
  try dsimp only
  repeat first
    | with_reducible exact h | with_reducible assumption | with_reducible apply hodRecord_frame
    | with_reducible apply frame_ite | split | (intro _ _ _) | (intro _ _) | (intro _)

theorem runEntry_frame {w : List Part} {r : State} (k : Nat) (codes : List AdcCode) (s : State) (h : Confined w r s)
    (hw : [.sup, .ring, .evtLost, .jrn, .qe, .pulse, .adc, .hod, .draws] ⊆ w
      := by first | assumption | exact part_sub ‹_› (by decide) | decide) :
    Confined w r (runEntry k codes s).2 := by
  simp only [runEntry]
  refine routeResult_frame _ _ _ _ ?_
  split
  · split
    · dsimp only
      exact frame_mk hw h
    · dsimp only
      exact frame_mk hw (supervise_frame _ _ _ (takeCode_frame _ _ h))
  · exact frame_mk hw (takeCode_frame _ _ h)

theorem runEntries_frame {w : List Part} {r : State} (n k : Nat) (codes : List AdcCode) (s : State)
    (h : Confined w r s) (hw : [.sup, .ring, .evtLost, .jrn, .qe, .pulse, .adc, .hod, .draws] ⊆ w
      := by first | assumption | exact part_sub ‹_› (by decide) | decide) :
    Confined w r (runEntries n k codes s) := by
  induction n generalizing k codes s with
  | zero => exact h
  | succ n ih => exact ih _ _ _ (runEntry_frame k codes s h)

theorem runStarts_frame {w : List Part} {r : State} (l : List Nat) (codes : List AdcCode) (s : State)
    (h : Confined w r s) (hw : [.sup, .ring, .evtLost, .pulse, .draws] ⊆ w
      := by first | assumption | exact part_sub ‹_› (by decide) | decide) :
    Confined w r (runStarts l codes s).2 := by
  induction l generalizing codes s with
  | nil => exact h
  | cons n ns ih =>
    simp only [runStarts]
    split
    · exact ih _ _ (supervise_frame _ _ _ (takeCode_frame _ _ h))
    · exact ih _ _ h

theorem runSequence_frame {w : List Part} {r : State} (codes : List AdcCode) (s : State) (h : Confined w r s)
    (hw : [.sup, .ring, .evtLost, .jrn, .qe, .pulse, .adc, .hod, .draws] ⊆ w
          := by first | assumption | exact part_sub ‹_› (by decide) | decide) :
    Confined w r (runSequence codes s) := by
  unfold runSequence
  try dsimp only
  repeat first
    | with_reducible exact h | with_reducible assumption | with_reducible apply runStarts_frame
    | with_reducible apply runEntries_frame | with_reducible apply frame_ite | exact part_sub hw (by decide) | split
    | fail_if_no_progress with_reducible refine frame_mk hw ?_ | (intro _ _ _) | (intro _ _) | (intro _)

theorem adcBegin_frame {w : List Part} {r : State} (codes : List AdcCode) (s : State) (h : Confined w r s)
    (hw : [.sup, .ring, .evtLost, .jrn, .qe, .pulse, .adc, .hod, .draws] ⊆ w
          := by first | assumption | exact part_sub ‹_› (by decide) | decide) :
    Confined w r (adcBegin codes s) := by
  unfold adcBegin
  try dsimp only
  repeat first
    | with_reducible exact h | with_reducible assumption | with_reducible apply runSequence_frame
    | with_reducible apply frame_ite | exact part_sub hw (by decide) | split
    | fail_if_no_progress with_reducible refine frame_mk hw ?_ | (intro _ _ _) | (intro _ _) | (intro _)

theorem adcTriggered_frame {w : List Part} {r : State} (codes : List AdcCode) (s : State) (h : Confined w r s)
    (hw : [.sup, .ring, .evtLost, .jrn, .qe, .pulse, .adc, .hod, .draws] ⊆ w
          := by first | assumption | exact part_sub ‹_› (by decide) | decide) :
    Confined w r (adcTriggered codes s) := by
  unfold adcTriggered
  try dsimp only
  repeat first
    | with_reducible exact h | with_reducible assumption | with_reducible apply adcBegin_frame
    | with_reducible apply frame_ite | exact part_sub hw (by decide) | split
    | fail_if_no_progress with_reducible refine frame_mk hw ?_ | (intro _ _ _) | (intro _ _) | (intro _)

theorem adcEnd_frame {w : List Part} {r : State} (codes : List AdcCode) (s : State) (h : Confined w r s)
    (hw : [.sup, .ring, .evtLost, .jrn, .qe, .pulse, .adc, .hod, .draws] ⊆ w
          := by first | assumption | exact part_sub ‹_› (by decide) | decide) :
    Confined w r (adcEnd codes s) := by
  unfold adcEnd
  try dsimp only
  repeat first
    | with_reducible exact h | with_reducible assumption | with_reducible apply runSequence_frame
    | with_reducible apply frame_ite | exact part_sub hw (by decide) | split
    | fail_if_no_progress with_reducible refine frame_mk hw ?_ | (intro _ _ _) | (intro _ _) | (intro _)

theorem hodFlush_frame {w : List Part} {r : State} (n : Nat) (s : State) (h : Confined w r s)
    (hw : [.ring, .evtLost, .jrn, .qe, .hod] ⊆ w := by first | assumption | exact part_sub ‹_› (by decide) | decide) :
    Confined w r (hodFlush n s) := by
  unfold hodFlush
  try dsimp only
  repeat first
    | with_reducible exact h | with_reducible assumption | with_reducible apply hodAppend_frame
    | with_reducible apply frame_ite | split | (intro _ _ _) | (intro _ _) | (intro _)

theorem restoreCounters_frame {w : List Part} {r : State} (s : State) (h : Confined w r s)
    (hw : [.timer, .pulse] ⊆ w := by first | assumption | exact part_sub ‹_› (by decide) | decide) :
    Confined w r (restoreCounters s) := by
  unfold restoreCounters
  try dsimp only
  repeat first
    | with_reducible exact h | with_reducible assumption | with_reducible apply setCnt_frame
    | with_reducible apply setPulse_frame | with_reducible apply frame_ite | exact part_sub hw (by decide) | split
    | fail_if_no_progress with_reducible refine frame_mk hw ?_ | with_reducible apply foldl_frame | (intro _ _ _)
    | (intro _ _) | (intro _)

theorem cutChains_frame {w : List Part} {r : State} (lost : Nat → Bool) (s : State) (h : Confined w r s)
    (hw : [.ring, .evtLost, .mortar, .jrn, .qe, .repair] ⊆ w
          := by first | assumption | exact part_sub ‹_› (by decide) | decide) :
    Confined w r (cutChains lost s) := by
  unfold cutChains
  try dsimp only
  repeat first
    | with_reducible exact h | with_reducible assumption | with_reducible apply loseFrames_frame
    | with_reducible apply frame_ite | exact part_sub hw (by decide) | split
    | fail_if_no_progress with_reducible refine frame_mk hw ?_ | with_reducible apply foldl_frame | (intro _ _ _)
    | (intro _ _) | (intro _)

theorem bankFailed_frame {w : List Part} {r : State} (bank : Nat) (s : State) (h : Confined w r s)
    (hw : [.ring, .evtLost, .mortar, .jrn, .qe, .repair] ⊆ w
          := by first | assumption | exact part_sub ‹_› (by decide) | decide) :
    Confined w r (bankFailed bank s) := by
  unfold bankFailed
  try dsimp only
  repeat first
    | with_reducible exact h | with_reducible assumption | with_reducible apply cutChains_frame
    | with_reducible apply enterRepair_frame | with_reducible apply frame_ite | exact part_sub hw (by decide) | split
    | fail_if_no_progress with_reducible refine frame_mk hw ?_ | (intro _ _ _) | (intro _ _) | (intro _)

theorem remapRow_frame {w : List Part} {r : State} (bank row : Nat) (s : State) (h : Confined w r s)
    (hw : [.ring, .evtLost, .mortar, .jrn, .qe, .repair] ⊆ w
          := by first | assumption | exact part_sub ‹_› (by decide) | decide) :
    Confined w r (remapRow bank row s) := by
  unfold remapRow
  try dsimp only
  repeat first
    | with_reducible exact h | with_reducible assumption | with_reducible apply bankFailed_frame
    | with_reducible apply enterRepair_frame | with_reducible apply frame_ite | exact part_sub hw (by decide) | split
    | fail_if_no_progress with_reducible refine frame_mk hw ?_ | (intro _ _ _) | (intro _ _) | (intro _)

theorem uncorrectableRow_frame {w : List Part} {r : State} (bank row : Nat) (s : State) (h : Confined w r s)
    (hw : [.ring, .evtLost, .mortar, .jrn, .qe, .repair] ⊆ w
          := by first | assumption | exact part_sub ‹_› (by decide) | decide) :
    Confined w r (uncorrectableRow bank row s) := by
  unfold uncorrectableRow
  try dsimp only
  repeat first
    | with_reducible exact h | with_reducible assumption | with_reducible apply cutChains_frame
    | with_reducible apply bankFailed_frame | with_reducible apply remapRow_frame | with_reducible apply frame_ite
    | exact part_sub hw (by decide) | split | fail_if_no_progress with_reducible refine frame_mk hw ?_ | (intro _ _ _)
    | (intro _ _) | (intro _)

theorem ashlarScrub_frame {w : List Part} {r : State} (bank row : Nat) (found : Ecc) (s : State) (h : Confined w r s)
    (hw : [.ring, .evtLost, .mortar, .jrn, .qe, .repair] ⊆ w
          := by first | assumption | exact part_sub ‹_› (by decide) | decide) :
    Confined w r (ashlarScrub bank row found s) := by
  unfold ashlarScrub
  try dsimp only
  repeat first
    | with_reducible exact h | with_reducible assumption | with_reducible apply remapRow_frame
    | with_reducible apply uncorrectableRow_frame | with_reducible apply frame_ite | exact part_sub hw (by decide)
    | split | fail_if_no_progress with_reducible refine frame_mk hw ?_ | (intro _ _ _) | (intro _ _) | (intro _)

theorem takeSpare_frame {w : List Part} {r : State} (bank k : Nat) (s : State) (h : Confined w r s)
    (hw : [.repair] ⊆ w := by first | assumption | exact part_sub ‹_› (by decide) | decide) :
    Confined w r (takeSpare bank k s) := by
  unfold takeSpare
  try dsimp only
  repeat first
    | with_reducible exact h | fail_if_no_progress with_reducible refine frame_mk hw ?_

theorem migrationEnd_frame {w : List Part} {r : State} (s : State) (h : Confined w r s)
    (hw : [.ring, .evtLost, .mortar, .repair] ⊆ w := by first | assumption | exact part_sub ‹_› (by decide) | decide) :
    Confined w r (migrationEnd s) := by
  unfold migrationEnd
  try dsimp only
  repeat first
    | with_reducible exact h | with_reducible assumption | with_reducible apply takeSpare_frame
    | with_reducible apply enterRepair_frame
    | with_reducible apply frame_ite | exact part_sub hw (by decide) | split
    | fail_if_no_progress with_reducible refine frame_mk hw ?_ | (intro _ _ _) | (intro _ _) | (intro _)

theorem segmentRefused_frame {w : List Part} {r : State} (i : Nat) (s : State) (h : Confined w r s)
    (hw : [.ring, .evtLost, .mortar, .jrn, .qe, .repair, .swarm] ⊆ w
          := by first | assumption | exact part_sub ‹_› (by decide) | decide) :
    Confined w r (segmentRefused i s) := by
  unfold segmentRefused
  try dsimp only
  repeat first
    | with_reducible exact h | with_reducible assumption | with_reducible apply refuseSegment_frame
    | with_reducible apply bankFailed_frame | with_reducible apply frame_ite | exact part_sub hw (by decide) | split
    | fail_if_no_progress with_reducible refine frame_mk hw ?_ | (intro _ _ _) | (intro _ _) | (intro _)

theorem sliceFailed_frame {w : List Part} {r : State} (slice : Nat) (s : State) (h : Confined w r s)
    (hw : [.ring, .evtLost, .mortar, .jrn, .qe, .repair] ⊆ w
          := by first | assumption | exact part_sub ‹_› (by decide) | decide) :
    Confined w r (sliceFailed slice s) := by
  unfold sliceFailed
  try dsimp only
  repeat first
    | with_reducible exact h | with_reducible assumption | with_reducible apply loseFrames_frame
    | with_reducible apply enterRepair_frame | with_reducible apply frame_ite | exact part_sub hw (by decide) | split
    | fail_if_no_progress with_reducible refine frame_mk hw ?_ | with_reducible apply foldl_frame | (intro _ _ _)
    | (intro _ _) | (intro _)

theorem keystoneScrub_frame {w : List Part} {r : State} (slice stone : Nat) (found : Ecc) (s : State) (h : Confined w r s)
    (hw : [.ring, .evtLost, .mortar, .jrn, .qe, .repair] ⊆ w
          := by first | assumption | exact part_sub ‹_› (by decide) | decide) :
    Confined w r (keystoneScrub slice stone found s) := by
  unfold keystoneScrub
  try dsimp only
  repeat first
    | with_reducible exact h | with_reducible assumption | with_reducible apply sliceFailed_frame
    | with_reducible apply frame_ite | exact part_sub hw (by decide) | split
    | fail_if_no_progress with_reducible refine frame_mk hw ?_ | (intro _ _ _) | (intro _ _) | (intro _)

theorem sliceIdleOff_frame {w : List Part} {r : State} (slice : Nat) (s : State) (h : Confined w r s)
    (hw : [.qe] ⊆ w := by first | assumption | exact part_sub ‹_› (by decide) | decide) :
    Confined w r (sliceIdleOff slice s) := by
  unfold sliceIdleOff
  try dsimp only
  repeat first
    | with_reducible exact h | with_reducible assumption | with_reducible apply frame_ite
    | exact part_sub hw (by decide) | split | fail_if_no_progress with_reducible refine frame_mk hw ?_ | (intro _ _ _)
    | (intro _ _) | (intro _)

theorem applyLaneFail_frame {w : List Part} {r : State} (p : Nat) (s : State) (h : Confined w r s)
    (hw : [.scarab] ⊆ w := by first | assumption | exact part_sub ‹_› (by decide) | decide) :
    Confined w r (applyLaneFail p s) := by
  unfold applyLaneFail
  try dsimp only
  repeat first
    | with_reducible exact h | with_reducible assumption | with_reducible apply frame_ite
    | exact part_sub hw (by decide) | split | fail_if_no_progress with_reducible refine frame_mk hw ?_ | (intro _ _ _)
    | (intro _ _) | (intro _)

theorem laneReassign_frame {w : List Part} {r : State} (s : State) (h : Confined w r s)
    (hw : [.ring, .evtLost, .mortar, .repair, .scarab] ⊆ w
          := by first | assumption | exact part_sub ‹_› (by decide) | decide) :
    Confined w r (laneReassign s) := by
  unfold laneReassign
  try dsimp only
  repeat first
    | with_reducible exact h | with_reducible assumption | with_reducible apply enterRepair_frame
    | with_reducible apply applyLaneFail_frame | with_reducible apply frame_ite | exact part_sub hw (by decide)
    | split | fail_if_no_progress with_reducible refine frame_mk hw ?_ | (intro _ _ _) | (intro _ _) | (intro _)

theorem pathFailed_frame {w : List Part} {r : State} (p : Nat) (s : State) (h : Confined w r s)
    (hw : [.ring, .evtLost, .mortar, .repair, .rx] ⊆ w := by first | assumption | exact part_sub ‹_› (by decide) | decide) :
    Confined w r (pathFailed p s) := by
  unfold pathFailed
  try dsimp only
  repeat first
    | with_reducible exact h | with_reducible assumption | with_reducible apply enterRepair_frame
    | with_reducible apply frame_ite | exact part_sub hw (by decide) | split
    | fail_if_no_progress with_reducible refine frame_mk hw ?_ | (intro _ _ _) | (intro _ _) | (intro _)

theorem nextUnit_frame {w : List Part} {r : State} (s : State) (h : Confined w r s)
    (hw : [.repair] ⊆ w := by first | assumption | exact part_sub ‹_› (by decide) | decide) :
    Confined w r (nextUnit s) := by
  unfold nextUnit
  try dsimp only
  repeat first
    | with_reducible exact h | with_reducible assumption | with_reducible apply frame_ite
    | exact part_sub hw (by decide) | split | fail_if_no_progress with_reducible refine frame_mk hw ?_ | (intro _ _ _)
    | (intro _ _) | (intro _)

theorem selfTest_frame {w : List Part} {r : State} (pass : Bool) (s : State) (h : Confined w r s)
    (hw : [.ring, .evtLost, .mortar, .repair, .scarab, .rx] ⊆ w
          := by first | assumption | exact part_sub ‹_› (by decide) | decide) :
    Confined w r (selfTest pass s) := by
  unfold selfTest
  try dsimp only
  repeat first
    | with_reducible exact h | with_reducible assumption | with_reducible apply nextUnit_frame
    | with_reducible apply pathFailed_frame | with_reducible apply postRepair_frame | with_reducible apply frame_ite
    | exact part_sub hw (by decide) | split | fail_if_no_progress with_reducible refine frame_mk hw ?_ | (intro _ _ _)
    | (intro _ _) | (intro _)

theorem bistSkip_frame {w : List Part} {r : State} (s : State) (h : Confined w r s)
    (hw : [.repair] ⊆ w := by first | assumption | exact part_sub ‹_› (by decide) | decide) :
    Confined w r (bistSkip s) := by
  unfold bistSkip
  try dsimp only
  repeat first
    | with_reducible exact h | with_reducible assumption | with_reducible apply nextUnit_frame
    | with_reducible apply frame_ite | exact part_sub hw (by decide) | split
    | fail_if_no_progress with_reducible refine frame_mk hw ?_ | (intro _ _ _) | (intro _ _) | (intro _)

theorem telemSample_frame {w : List Part} {r : State} (vin vhold : Half) (s : State) (h : Confined w r s)
    (hw : [.sup, .repair] ⊆ w := by first | assumption | exact part_sub ‹_› (by decide) | decide) :
    Confined w r (telemSample vin vhold s) := by
  unfold telemSample
  try dsimp only
  repeat first
    | with_reducible exact h | with_reducible assumption | with_reducible apply frame_ite
    | exact part_sub hw (by decide) | split | fail_if_no_progress with_reducible refine frame_mk hw ?_ | (intro _ _ _)
    | (intro _ _) | (intro _)

theorem telemClear_frame {w : List Part} {r : State} (s : State) (h : Confined w r s)
    (hw : [.repair] ⊆ w := by first | assumption | exact part_sub ‹_› (by decide) | decide) :
    Confined w r (telemClear s) := by
  unfold telemClear
  try dsimp only
  repeat first
    | with_reducible exact h | with_reducible assumption | with_reducible apply frame_ite
    | exact part_sub hw (by decide) | split | fail_if_no_progress with_reducible refine frame_mk hw ?_ | (intro _ _ _)
    | (intro _ _) | (intro _)

theorem adcOffset_frame {w : List Part} {r : State} (code : BitVec 12) (s : State) (h : Confined w r s)
    (hw : [.adc] ⊆ w := by first | assumption | exact part_sub ‹_› (by decide) | decide) :
    Confined w r (adcOffset code s) := by
  unfold adcOffset
  try dsimp only
  repeat first
    | with_reducible exact h | with_reducible assumption | with_reducible apply frame_ite
    | exact part_sub hw (by decide) | split | fail_if_no_progress with_reducible refine frame_mk hw ?_ | (intro _ _ _)
    | (intro _ _) | (intro _)

theorem applySector_frame {w : List Part} {r : State} (i spare : Nat) (s : State) (h : Confined w r s)
    (hw : [.mortar] ⊆ w := by first | assumption | exact part_sub ‹_› (by decide) | decide) :
    Confined w r (applySector i spare s) := by
  unfold applySector
  try dsimp only
  repeat first
    | with_reducible exact h | with_reducible assumption | with_reducible apply frame_ite
    | exact part_sub hw (by decide) | split | fail_if_no_progress with_reducible refine frame_mk hw ?_ | (intro _ _ _)
    | (intro _ _) | (intro _)

theorem applyEntry_frame {w : List Part} {r : State} (e : MapEntry) (s : State) (h : Confined w r s)
    (hw : [.mortar, .repair, .scarab, .rx] ⊆ w := by first | assumption | exact part_sub ‹_› (by decide) | decide) :
    Confined w r (applyEntry e s) := by
  unfold applyEntry
  try dsimp only
  repeat first
    | with_reducible exact h | with_reducible assumption | with_reducible apply takeSpare_frame
    | with_reducible apply applyLaneFail_frame
    | with_reducible apply applySector_frame | with_reducible apply frame_ite | exact part_sub hw (by decide) | split
    | fail_if_no_progress with_reducible refine frame_mk hw ?_ | (intro _ _ _) | (intro _ _) | (intro _)

theorem postDutyBlock_frame {w : List Part} {r : State} (j : TxJob) (why : Option Nat × Nat) (s : State)
    (h : Confined w r s)
    (hw : [.ring, .evtLost, .radio, .draws] ⊆ w := by first | assumption | exact part_sub ‹_› (by decide) | decide) :
    Confined w r (postDutyBlock j why s) := by
  unfold postDutyBlock
  try dsimp only
  repeat first
    | with_reducible exact h | with_reducible assumption | with_reducible apply post_frame
    | with_reducible apply freeBits_frame | with_reducible apply frame_ite | exact part_sub hw (by decide) | split
    | fail_if_no_progress with_reducible refine frame_mk hw ?_ | (intro _ _ _) | (intro _ _) | (intro _)

theorem enterAirtime_frame {w : List Part} {r : State} (j : TxJob) (s : State) (h : Confined w r s)
    (hw : [.radio] ⊆ w := by first | assumption | exact part_sub ‹_› (by decide) | decide) :
    Confined w r (enterAirtime j s) := by
  unfold enterAirtime
  try dsimp only
  repeat first
    | with_reducible exact h | with_reducible assumption | with_reducible apply frame_ite
    | exact part_sub hw (by decide) | split | fail_if_no_progress with_reducible refine frame_mk hw ?_
    | with_reducible apply foldl_frame | (intro _ _ _) | (intro _ _) | (intro _)

theorem rollBins_frame {w : List Part} {r : State} (s : State) (h : Confined w r s)
    (hw : [.radio] ⊆ w := by first | assumption | exact part_sub ‹_› (by decide) | decide) :
    Confined w r (rollBins s) := by
  unfold rollBins
  try dsimp only
  repeat first
    | with_reducible exact h | with_reducible assumption | with_reducible apply frame_ite
    | exact part_sub hw (by decide) | split | fail_if_no_progress with_reducible refine frame_mk hw ?_ | (intro _ _ _)
    | (intro _ _) | (intro _)

theorem setReception_frame {w : List Part} {r0 : State} (c : Path) (r : Option Reception) (s : State) (h : Confined w r0 s)
    (hw : [.rx] ⊆ w := by first | assumption | exact part_sub ‹_› (by decide) | decide) :
    Confined w r0 (setReception c r s) := by
  unfold setReception
  try dsimp only
  repeat first
    | with_reducible exact h | with_reducible assumption | with_reducible apply frame_ite
    | exact part_sub hw (by decide) | split | fail_if_no_progress with_reducible refine frame_mk hw ?_ | (intro _ _ _)
    | (intro _ _) | (intro _)

theorem freezeGain_frame {w : List Part} {r : State} (c : Path) (s : State) (h : Confined w r s)
    (hw : [.rx, .draws] ⊆ w := by first | assumption | exact part_sub ‹_› (by decide) | decide) :
    Confined w r (freezeGain c s) := by
  unfold freezeGain
  try dsimp only
  repeat first
    | with_reducible exact h | with_reducible assumption | with_reducible apply freeBits_frame
    | with_reducible apply frame_ite | exact part_sub hw (by decide) | split
    | fail_if_no_progress with_reducible refine frame_mk hw ?_ | with_reducible apply foldl_frame | (intro _ _ _)
    | (intro _ _) | (intro _)

theorem releaseGain_frame {w : List Part} {r : State} (s : State) (h : Confined w r s)
    (hw : [.rx] ⊆ w := by first | assumption | exact part_sub ‹_› (by decide) | decide) :
    Confined w r (releaseGain s) := by
  unfold releaseGain
  try dsimp only
  repeat first
    | with_reducible exact h | with_reducible assumption | with_reducible apply frame_ite
    | exact part_sub hw (by decide) | split | fail_if_no_progress with_reducible refine frame_mk hw ?_ | (intro _ _ _)
    | (intro _ _) | (intro _)

theorem discardProv_frame {w : List Part} {r : State} (d : Det) (s : State) (h : Confined w r s)
    (hw : [.rx, .draws] ⊆ w := by first | assumption | exact part_sub ‹_› (by decide) | decide) :
    Confined w r (discardProv d s) := by
  unfold discardProv
  try dsimp only
  repeat first
    | with_reducible exact h | with_reducible assumption | with_reducible apply freeBits_frame
    | with_reducible apply frame_ite | exact part_sub hw (by decide) | split
    | fail_if_no_progress with_reducible refine frame_mk hw ?_ | (intro _ _ _) | (intro _ _) | (intro _)

theorem cancelDet_frame {w : List Part} {r : State} (reason : Nat) (d : Det) (s : State) (h : Confined w r s)
    (hw : [.ring, .evtLost, .scarab, .rx, .draws] ⊆ w := by first | assumption | exact part_sub ‹_› (by decide) | decide) :
    Confined w r (cancelDet reason d s) := by
  unfold cancelDet
  try dsimp only
  repeat first
    | with_reducible exact h | with_reducible assumption | with_reducible apply releaseGain_frame
    | with_reducible apply discardProv_frame | with_reducible apply post_frame | with_reducible apply frame_ite
    | exact part_sub hw (by decide) | split | fail_if_no_progress with_reducible refine frame_mk hw ?_ | (intro _ _ _)
    | (intro _ _) | (intro _)

theorem cancelDets_frame {w : List Part} {r : State} (reason : Nat) (p : Det → Bool) (s : State) (h : Confined w r s)
    (hw : [.ring, .evtLost, .scarab, .rx, .draws] ⊆ w := by first | assumption | exact part_sub ‹_› (by decide) | decide) :
    Confined w r (cancelDets reason p s) := by
  unfold cancelDets
  try dsimp only
  repeat first
    | with_reducible exact h | with_reducible assumption | with_reducible apply cancelDet_frame
    | with_reducible apply frame_ite | exact part_sub hw (by decide) | split
    | fail_if_no_progress with_reducible refine frame_mk hw ?_ | with_reducible apply foldl_frame | (intro _ _ _)
    | (intro _ _) | (intro _)

theorem cancelTag_frame {w : List Part} {r : State} (reason : Nat) (tag : Half) (s : State) (h : Confined w r s)
    (hw : [.ring, .evtLost, .scarab, .rx, .draws] ⊆ w := by first | assumption | exact part_sub ‹_› (by decide) | decide) :
    Confined w r (cancelTag reason tag s) := by
  unfold cancelTag
  try dsimp only
  repeat first
    | with_reducible exact h | with_reducible assumption | with_reducible apply cancelDet_frame
    | with_reducible apply frame_ite | exact part_sub hw (by decide) | split | (intro _ _ _) | (intro _ _) | (intro _)

theorem raiseDet_frame {w : List Part} {r : State} (e : Early) (s : State) (h : Confined w r s)
    (hw : [.ring, .evtLost, .scarab, .rx, .draws] ⊆ w := by first | assumption | exact part_sub ‹_› (by decide) | decide) :
    Confined w r (raiseDet e s) := by
  unfold raiseDet
  try dsimp only
  repeat first
    | with_reducible exact h | with_reducible assumption | with_reducible apply freezeGain_frame
    | with_reducible apply post_frame | with_reducible apply frame_ite | exact part_sub hw (by decide) | split
    | fail_if_no_progress with_reducible refine frame_mk hw ?_ | (intro _ _ _) | (intro _ _) | (intro _)

theorem oneEarly_frame {w : List Part} {r : State} (e : Early) (s : State) (h : Confined w r s)
    (hw : [.ring, .evtLost, .scarab, .rx, .draws] ⊆ w := by first | assumption | exact part_sub ‹_› (by decide) | decide) :
    Confined w r (oneEarly e s) := by
  unfold oneEarly
  try dsimp only
  repeat first
    | with_reducible exact h | with_reducible assumption | with_reducible apply raiseDet_frame
    | with_reducible apply cancelDet_frame | with_reducible apply frame_ite | exact part_sub hw (by decide) | split
    | fail_if_no_progress with_reducible refine frame_mk hw ?_ | (intro _ _ _) | (intro _ _) | (intro _)

theorem earlySync_frame {w : List Part} {r : State} (l : List Early) (s : State) (h : Confined w r s)
    (hw : [.ring, .evtLost, .scarab, .rx, .draws] ⊆ w := by first | assumption | exact part_sub ‹_› (by decide) | decide) :
    Confined w r (earlySync l s) := by
  unfold earlySync
  try dsimp only
  repeat first
    | with_reducible exact h | with_reducible assumption | with_reducible apply oneEarly_frame
    | with_reducible apply frame_ite | exact part_sub hw (by decide) | split
    | fail_if_no_progress with_reducible refine frame_mk hw ?_ | with_reducible apply foldl_frame | (intro _ _ _)
    | (intro _ _) | (intro _)

theorem postRxDone_frame {w : List Part} {r : State} (tag : Half) (outcome type : Nat) (dr : Bool) (src : Half)
    (s : State) (h : Confined w r s)
    (hw : [.ring, .evtLost] ⊆ w := by first | assumption | exact part_sub ‹_› (by decide) | decide) :
    Confined w r (postRxDone tag outcome type dr src s) := by
  unfold postRxDone
  try dsimp only
  repeat first
    | with_reducible exact h | with_reducible assumption | with_reducible apply post_frame
    | with_reducible apply frame_ite | split | (intro _ _ _) | (intro _ _) | (intro _)

theorem suppressAck_frame {w : List Part} {r : State} (reason : Nat) (a : AckDue) (s : State) (h : Confined w r s)
    (hw : [.ring, .evtLost, .radio] ⊆ w := by first | assumption | exact part_sub ‹_› (by decide) | decide) :
    Confined w r (suppressAck reason a s) := by
  unfold suppressAck
  try dsimp only
  repeat first
    | with_reducible exact h | with_reducible assumption | with_reducible apply post_frame
    | with_reducible apply frame_ite | exact part_sub hw (by decide) | split
    | fail_if_no_progress with_reducible refine frame_mk hw ?_ | (intro _ _ _) | (intro _ _) | (intro _)

theorem suppressOther_frame {w : List Part} {r : State} (a : AckDue) (s : State) (h : Confined w r s)
    (hw : [.ring, .evtLost, .radio, .draws] ⊆ w := by first | assumption | exact part_sub ‹_› (by decide) | decide) :
    Confined w r (suppressOther a s) := by
  unfold suppressOther
  try dsimp only
  repeat first
    | with_reducible exact h | with_reducible assumption | with_reducible apply freeBits_frame
    | with_reducible apply suppressAck_frame | with_reducible apply frame_ite | exact part_sub hw (by decide) | split
    | (intro _ _ _) | (intro _ _) | (intro _)

theorem loseReception_frame {w : List Part} {r : State} (outcome : Nat) (c : Path) (s : State) (h : Confined w r s)
    (hw : [.ring, .evtLost, .rx, .draws] ⊆ w := by first | assumption | exact part_sub ‹_› (by decide) | decide) :
    Confined w r (loseReception outcome c s) := by
  unfold loseReception
  try dsimp only
  repeat first
    | with_reducible exact h | with_reducible assumption | with_reducible apply freeBits_frame
    | with_reducible apply postRxDone_frame | with_reducible apply releaseGain_frame
    | with_reducible apply setReception_frame | with_reducible apply frame_ite | exact part_sub hw (by decide) | split
    | (intro _ _ _) | (intro _ _) | (intro _)

theorem loseCommits_frame {w : List Part} {r : State} (s : State) (h : Confined w r s)
    (hw : [.ring, .evtLost, .radio] ⊆ w := by first | assumption | exact part_sub ‹_› (by decide) | decide) :
    Confined w r (loseCommits s) := by
  unfold loseCommits
  try dsimp only
  repeat first
    | with_reducible exact h | with_reducible assumption | with_reducible apply postRxDone_frame
    | with_reducible apply frame_ite | exact part_sub hw (by decide) | split
    | fail_if_no_progress with_reducible refine frame_mk hw ?_ | with_reducible apply foldl_frame | (intro _ _ _)
    | (intro _ _) | (intro _)

theorem loseReceptions_frame {w : List Part} {r : State} (s : State) (h : Confined w r s)
    (hw : [.ring, .evtLost, .rx, .draws] ⊆ w := by first | assumption | exact part_sub ‹_› (by decide) | decide) :
    Confined w r (loseReceptions s) := by
  unfold loseReceptions
  try dsimp only
  repeat first
    | with_reducible exact h | with_reducible assumption | with_reducible apply loseReception_frame
    | with_reducible apply frame_ite | split | (intro _ _ _) | (intro _ _) | (intro _)

theorem abandonAcks_frame {w : List Part} {r : State} (s : State) (h : Confined w r s)
    (hw : [.ring, .evtLost, .radio] ⊆ w := by first | assumption | exact part_sub ‹_› (by decide) | decide) :
    Confined w r (abandonAcks s) := by
  unfold abandonAcks
  try dsimp only
  repeat first
    | with_reducible exact h | with_reducible assumption | with_reducible apply suppressAck_frame
    | with_reducible apply frame_ite | exact part_sub hw (by decide) | split
    | fail_if_no_progress with_reducible refine frame_mk hw ?_ | with_reducible apply foldl_frame | (intro _ _ _)
    | (intro _ _) | (intro _)

theorem calibrateVco_frame {w : List Part} {r : State} (band : Nat) (setting : Byte) (s : State) (h : Confined w r s)
    (hw : [.radio] ⊆ w := by first | assumption | exact part_sub ‹_› (by decide) | decide) :
    Confined w r (calibrateVco band setting s) := by
  unfold calibrateVco
  try dsimp only
  repeat first
    | with_reducible exact h | with_reducible assumption | with_reducible apply frame_ite
    | exact part_sub hw (by decide) | split | fail_if_no_progress with_reducible refine frame_mk hw ?_ | (intro _ _ _)
    | (intro _ _) | (intro _)

theorem calibrateOnLock_frame {w : List Part} {r : State} (s : State) (h : Confined w r s)
    (hw : [.radio, .draws] ⊆ w := by first | assumption | exact part_sub ‹_› (by decide) | decide) :
    Confined w r (calibrateOnLock s) := by
  unfold calibrateOnLock
  try dsimp only
  repeat first
    | with_reducible exact h | with_reducible assumption | with_reducible apply freeBits_frame
    | with_reducible apply calibrateVco_frame | with_reducible apply frame_ite | exact part_sub hw (by decide) | split
    | (intro _ _ _) | (intro _ _) | (intro _)

theorem postAntFault_frame {w : List Part} {r : State} (s : State) (h : Confined w r s)
    (hw : [.ring, .evtLost, .radio] ⊆ w := by first | assumption | exact part_sub ‹_› (by decide) | decide) :
    Confined w r (postAntFault s) := by
  unfold postAntFault
  try dsimp only
  repeat first
    | with_reducible exact h | with_reducible assumption | with_reducible apply post_frame
    | with_reducible apply frame_ite | exact part_sub hw (by decide) | split
    | fail_if_no_progress with_reducible refine frame_mk hw ?_ | (intro _ _ _) | (intro _ _) | (intro _)

theorem paOff_frame {w : List Part} {r : State} (s : State) (h : Confined w r s)
    (hw : [.ring, .evtLost, .radio] ⊆ w := by first | assumption | exact part_sub ‹_› (by decide) | decide) :
    Confined w r (paOff s) := by
  unfold paOff
  try dsimp only
  repeat first
    | with_reducible exact h | with_reducible assumption | with_reducible apply postAntFault_frame
    | with_reducible apply frame_ite | exact part_sub hw (by decide) | split
    | fail_if_no_progress with_reducible refine frame_mk hw ?_ | (intro _ _ _) | (intro _ _) | (intro _)

theorem goto_frame {w : List Part} {r0 : State} (r : RadioState) (s : State) (h : Confined w r0 s)
    (hw : [.sup, .radio] ⊆ w := by first | assumption | exact part_sub ‹_› (by decide) | decide) :
    Confined w r0 (goto r s) := by
  unfold goto
  try dsimp only
  repeat first
    | with_reducible exact h | with_reducible assumption | with_reducible apply frame_ite
    | exact part_sub hw (by decide) | split | fail_if_no_progress with_reducible refine frame_mk hw ?_ | (intro _ _ _)
    | (intro _ _) | (intro _)

theorem gotoIdle_frame {w : List Part} {r : State} (s : State) (h : Confined w r s)
    (hw : [.sup, .ring, .evtLost, .scarab, .rx, .radio, .draws] ⊆ w
          := by first | assumption | exact part_sub ‹_› (by decide) | decide) :
    Confined w r (gotoIdle s) := by
  unfold gotoIdle
  try dsimp only
  repeat first
    | with_reducible exact h | with_reducible assumption | with_reducible apply cancelDets_frame
    | with_reducible apply goto_frame | with_reducible apply frame_ite | exact part_sub hw (by decide) | split
    | fail_if_no_progress with_reducible refine frame_mk hw ?_ | (intro _ _ _) | (intro _ _) | (intro _)

theorem tune_frame {w : List Part} {r : State} (lo : Nat) (s : State) (h : Confined w r s)
    (hw : [.radio] ⊆ w := by first | assumption | exact part_sub ‹_› (by decide) | decide) :
    Confined w r (tune lo s) := by
  unfold tune
  try dsimp only
  repeat first
    | with_reducible exact h | with_reducible assumption | with_reducible apply frame_ite
    | exact part_sub hw (by decide) | split | fail_if_no_progress with_reducible refine frame_mk hw ?_ | (intro _ _ _)
    | (intro _ _) | (intro _)

theorem stopReceiving_frame {w : List Part} {r : State} (s : State) (h : Confined w r s)
    (hw : [.ring, .evtLost, .rx, .draws] ⊆ w := by first | assumption | exact part_sub ‹_› (by decide) | decide) :
    Confined w r (stopReceiving s) := by
  unfold stopReceiving
  try dsimp only
  repeat first
    | with_reducible exact h | with_reducible assumption | with_reducible apply loseReception_frame
    | with_reducible apply frame_ite | exact part_sub hw (by decide) | split
    | fail_if_no_progress with_reducible refine frame_mk hw ?_ | (intro _ _ _) | (intro _ _) | (intro _)

theorem startUp_frame {w : List Part} {r : State} (u : UpFor) (s : State) (h : Confined w r s)
    (hw : [.sup, .ring, .evtLost, .rx, .radio, .draws] ⊆ w
          := by first | assumption | exact part_sub ‹_› (by decide) | decide) :
    Confined w r (startUp u s) := by
  unfold startUp
  try dsimp only
  repeat first
    | with_reducible exact h | with_reducible assumption | with_reducible apply stopReceiving_frame
    | with_reducible apply goto_frame | with_reducible apply tune_frame | with_reducible apply frame_ite
    | exact part_sub hw (by decide) | split | fail_if_no_progress with_reducible refine frame_mk hw ?_ | (intro _ _ _)
    | (intro _ _) | (intro _)

theorem resumeRx_frame {w : List Part} {r : State} (s : State) (h : Confined w r s)
    (hw : [.sup, .ring, .evtLost, .scarab, .rx, .radio, .draws] ⊆ w
          := by first | assumption | exact part_sub ‹_› (by decide) | decide) :
    Confined w r (resumeRx s) := by
  unfold resumeRx
  try dsimp only
  repeat first
    | with_reducible exact h | with_reducible assumption | with_reducible apply goto_frame
    | with_reducible apply calibrateOnLock_frame | with_reducible apply tune_frame
    | with_reducible apply gotoIdle_frame | with_reducible apply frame_ite | exact part_sub hw (by decide) | split
    | (intro _ _ _) | (intro _ _) | (intro _)

theorem endSecond_frame {w : List Part} {r : State} (s : State) (h : Confined w r s)
    (hw : [.ring, .evtLost, .scarab, .rx, .draws] ⊆ w := by first | assumption | exact part_sub ‹_› (by decide) | decide) :
    Confined w r (endSecond s) := by
  unfold endSecond
  try dsimp only
  repeat first
    | with_reducible exact h | with_reducible assumption | with_reducible apply cancelDets_frame
    | with_reducible apply frame_ite | exact part_sub hw (by decide) | split
    | fail_if_no_progress with_reducible refine frame_mk hw ?_ | (intro _ _ _) | (intro _ _) | (intro _)

theorem setMosaic_frame {w : List Part} {r : State} (m : BitVec 2) (s : State) (h : Confined w r s)
    (hw : [.ring, .evtLost, .scarab, .rx, .draws] ⊆ w := by first | assumption | exact part_sub ‹_› (by decide) | decide) :
    Confined w r (setMosaic m s) := by
  unfold setMosaic
  try dsimp only
  repeat first
    | with_reducible exact h | with_reducible assumption | with_reducible apply endSecond_frame
    | with_reducible apply frame_ite | exact part_sub hw (by decide) | split
    | fail_if_no_progress with_reducible refine frame_mk hw ?_ | (intro _ _ _) | (intro _ _) | (intro _)

theorem goReturn_frame {w : List Part} {r : State} (s : State) (h : Confined w r s)
    (hw : [.sup, .ring, .evtLost, .scarab, .rx, .radio, .draws] ⊆ w
          := by first | assumption | exact part_sub ‹_› (by decide) | decide) :
    Confined w r (goReturn s) := by
  unfold goReturn
  try dsimp only
  repeat first
    | with_reducible exact h | with_reducible assumption | with_reducible apply setMosaic_frame
    | with_reducible apply resumeRx_frame | with_reducible apply gotoIdle_frame | with_reducible apply frame_ite
    | exact part_sub hw (by decide) | split | fail_if_no_progress with_reducible refine frame_mk hw ?_ | (intro _ _ _)
    | (intro _ _) | (intro _)

theorem retuneRx_frame {w : List Part} {r : State} (s : State) (h : Confined w r s)
    (hw : [.sup, .ring, .evtLost, .scarab, .rx, .radio, .draws] ⊆ w
          := by first | assumption | exact part_sub ‹_› (by decide) | decide) :
    Confined w r (retuneRx s) := by
  unfold retuneRx
  try dsimp only
  repeat first
    | with_reducible exact h | with_reducible assumption | with_reducible apply gotoIdle_frame
    | with_reducible apply startUp_frame | with_reducible apply frame_ite | exact part_sub hw (by decide) | split
    | (intro _ _ _) | (intro _ _) | (intro _)

theorem closeWindow_frame {w : List Part} {r : State} (s : State) (h : Confined w r s)
    (hw : [.radio, .clk] ⊆ w := by first | assumption | exact part_sub ‹_› (by decide) | decide) :
    Confined w r (closeWindow s) := by
  unfold closeWindow
  try dsimp only
  repeat first
    | with_reducible exact h | with_reducible assumption | with_reducible apply frame_ite
    | exact part_sub hw (by decide) | split | fail_if_no_progress with_reducible refine frame_mk hw ?_ | (intro _ _ _)
    | (intro _ _) | (intro _)

theorem halt_frame {w : List Part} {r : State} (reason : Nat) (s : State) (h : Confined w r s)
    (hw : [.sup, .ring, .evtLost, .scarab, .rx, .radio, .net, .clk, .draws] ⊆ w
          := by first | assumption | exact part_sub ‹_› (by decide) | decide) :
    Confined w r (halt reason s) := by
  unfold halt
  try dsimp only
  repeat first
    | with_reducible exact h | with_reducible assumption | with_reducible apply cancelDets_frame
    | with_reducible apply loseReceptions_frame | with_reducible apply abandonAcks_frame
    | with_reducible apply paOff_frame | with_reducible apply closeWindow_frame | with_reducible apply gotoIdle_frame
    | with_reducible apply frame_ite | exact part_sub hw (by decide) | split
    | fail_if_no_progress with_reducible refine frame_mk hw ?_ | (intro _ _ _) | (intro _ _) | (intro _)

theorem stopPa_frame {w : List Part} {r : State} (s : State) (h : Confined w r s)
    (hw : [.sup, .ring, .evtLost, .scarab, .rx, .radio, .net, .draws] ⊆ w
          := by first | assumption | exact part_sub ‹_› (by decide) | decide) :
    Confined w r (stopPa s) := by
  unfold stopPa
  try dsimp only
  repeat first
    | with_reducible exact h | with_reducible assumption | with_reducible apply abandonAcks_frame
    | with_reducible apply paOff_frame | with_reducible apply goReturn_frame | with_reducible apply frame_ite
    | exact part_sub hw (by decide) | split | fail_if_no_progress with_reducible refine frame_mk hw ?_ | (intro _ _ _)
    | (intro _ _) | (intro _)

theorem vcoCalibration_frame {w : List Part} {r : State} (band : Nat) (setting : Byte) (s : State) (h : Confined w r s)
    (hw : [.radio] ⊆ w := by first | assumption | exact part_sub ‹_› (by decide) | decide) :
    Confined w r (vcoCalibration band setting s) := by
  unfold vcoCalibration
  try dsimp only
  repeat first
    | with_reducible exact h | with_reducible assumption | with_reducible apply calibrateVco_frame
    | with_reducible apply frame_ite | split | (intro _ _ _) | (intro _ _) | (intro _)

theorem iqImageCalibration_frame {w : List Part} {r : State} (p : Path) (s : State) (h : Confined w r s)
    (hw : [.rx] ⊆ w := by first | assumption | exact part_sub ‹_› (by decide) | decide) :
    Confined w r (iqImageCalibration p s) := by
  unfold iqImageCalibration
  try dsimp only
  repeat first
    | with_reducible exact h | with_reducible assumption | with_reducible apply frame_ite
    | exact part_sub hw (by decide) | split | fail_if_no_progress with_reducible refine frame_mk hw ?_ | (intro _ _ _)
    | (intro _ _) | (intro _)

theorem countFcnt_frame {w : List Part} {r : State} (s : State) (h : Confined w r s)
    (hw : [.jrn, .sec] ⊆ w := by first | assumption | exact part_sub ‹_› (by decide) | decide) :
    Confined w r (countFcnt s) := by
  unfold countFcnt
  try dsimp only
  repeat first
    | with_reducible exact h | with_reducible assumption | with_reducible apply frame_ite
    | exact part_sub hw (by decide) | split | fail_if_no_progress with_reducible refine frame_mk hw ?_ | (intro _ _ _)
    | (intro _ _) | (intro _)

theorem replayJudge_frame {w : List Part} {r : State} (origin : Half) (f : Word) (s : State) (h : Confined w r s)
    (hw : [.net, .sec] ⊆ w := by first | assumption | exact part_sub ‹_› (by decide) | decide) :
    Confined w r (replayJudge origin f s).2 := by
  unfold replayJudge
  try dsimp only
  repeat first
    | with_reducible exact h | with_reducible assumption | with_reducible apply frame_ite
    | exact part_sub hw (by decide) | split | fail_if_no_progress with_reducible refine frame_mk hw ?_ | (intro _ _ _)
    | (intro _ _) | (intro _)

theorem securityCheck_frame {w : List Part} {r : State} (f : MacFrame) (s : State) (h : Confined w r s)
    (hw : [.net, .sec] ⊆ w := by first | assumption | exact part_sub ‹_› (by decide) | decide) :
    Confined w r (securityCheck f s).2 := by
  unfold securityCheck
  try dsimp only
  repeat first
    | with_reducible exact h | with_reducible assumption | with_reducible apply replayJudge_frame
    | with_reducible apply frame_ite | exact part_sub hw (by decide) | split
    | fail_if_no_progress with_reducible refine frame_mk hw ?_ | (intro _ _ _) | (intro _ _) | (intro _)

theorem drawListen_frame {w : List Part} {r : State} (s : State) (h : Confined w r s)
    (hw : [.draws] ⊆ w := by first | assumption | exact part_sub ‹_› (by decide) | decide) :
    Confined w r (drawListen s).2 := by
  unfold drawListen
  try dsimp only
  repeat first
    | with_reducible exact h | with_reducible assumption | with_reducible apply draw_frame
    | with_reducible apply frame_ite | split | (intro _ _ _) | (intro _ _) | (intro _)

theorem beginAccess_frame {w : List Part} {r : State} (j : TxJob) (s : State) (h : Confined w r s)
    (hw : [.sup, .ring, .evtLost, .rx, .radio, .draws] ⊆ w
          := by first | assumption | exact part_sub ‹_› (by decide) | decide) :
    Confined w r (beginAccess j s) := by
  unfold beginAccess
  try dsimp only
  repeat first
    | with_reducible exact h | with_reducible assumption | with_reducible apply postDutyBlock_frame
    | with_reducible apply startUp_frame | with_reducible apply drawListen_frame | with_reducible apply frame_ite
    | exact part_sub hw (by decide) | split | fail_if_no_progress with_reducible refine frame_mk hw ?_ | (intro _ _ _)
    | (intro _ _) | (intro _)

theorem dropAttempt_frame {w : List Part} {r : State} (s : State) (h : Confined w r s)
    (hw : [.ring, .evtLost, .radio, .swarm, .net, .draws] ⊆ w
          := by first | assumption | exact part_sub ‹_› (by decide) | decide) :
    Confined w r (dropAttempt s) := by
  unfold dropAttempt
  try dsimp only
  repeat first
    | with_reducible exact h | with_reducible assumption | with_reducible apply suppressOther_frame
    | with_reducible apply frame_ite | exact part_sub hw (by decide) | split
    | fail_if_no_progress with_reducible refine frame_mk hw ?_ | (intro _ _ _) | (intro _ _) | (intro _)

theorem endAttempt_frame {w : List Part} {r : State} (s : State) (h : Confined w r s)
    (hw : [.sup, .ring, .evtLost, .scarab, .rx, .radio, .swarm, .net, .draws] ⊆ w
          := by first | assumption | exact part_sub ‹_› (by decide) | decide) :
    Confined w r (endAttempt s) := by
  unfold endAttempt
  try dsimp only
  repeat first
    | with_reducible exact h | with_reducible assumption | with_reducible apply goReturn_frame
    | with_reducible apply dropAttempt_frame | with_reducible apply frame_ite | exact part_sub hw (by decide) | split
    | (intro _ _ _) | (intro _ _) | (intro _)

theorem busyListen_frame {w : List Part} {r : State} (rssi : Option Int) (s : State) (h : Confined w r s)
    (hw : [.sup, .ring, .evtLost, .scarab, .rx, .radio, .swarm, .net, .draws] ⊆ w
          := by first | assumption | exact part_sub ‹_› (by decide) | decide) :
    Confined w r (busyListen rssi s) := by
  unfold busyListen
  try dsimp only
  repeat first
    | with_reducible exact h | with_reducible assumption | with_reducible apply post_frame
    | with_reducible apply endAttempt_frame | with_reducible apply draw_frame | with_reducible apply frame_ite
    | exact part_sub hw (by decide) | split | fail_if_no_progress with_reducible refine frame_mk hw ?_ | (intro _ _ _)
    | (intro _ _) | (intro _)

theorem ccaBusy_frame {w : List Part} {r : State} (rssi : Option Int) (s : State) (h : Confined w r s)
    (hw : [.sup, .ring, .evtLost, .scarab, .rx, .radio, .swarm, .net, .draws] ⊆ w
          := by first | assumption | exact part_sub ‹_› (by decide) | decide) :
    Confined w r (ccaBusy rssi s) := by
  unfold ccaBusy
  try dsimp only
  repeat first
    | with_reducible exact h | with_reducible assumption | with_reducible apply busyListen_frame
    | with_reducible apply frame_ite | exact part_sub hw (by decide) | split | (intro _ _ _) | (intro _ _) | (intro _)

theorem listenNow_frame {w : List Part} {r : State} (s : State) (h : Confined w r s)
    (hw : [.sup, .ring, .evtLost, .scarab, .rx, .radio, .swarm, .net, .draws] ⊆ w
          := by first | assumption | exact part_sub ‹_› (by decide) | decide) :
    Confined w r (listenNow s) := by
  unfold listenNow
  try dsimp only
  repeat first
    | with_reducible exact h | with_reducible assumption | with_reducible apply ccaBusy_frame
    | with_reducible apply frame_ite | split | (intro _ _ _) | (intro _ _) | (intro _)

theorem earlyHeard_frame {w : List Part} {r : State} (l : List Early) (s : State) (h : Confined w r s)
    (hw : [.sup, .ring, .evtLost, .scarab, .rx, .radio, .swarm, .net, .draws] ⊆ w
          := by first | assumption | exact part_sub ‹_› (by decide) | decide) :
    Confined w r (earlyHeard l s) := by
  unfold earlyHeard
  try dsimp only
  repeat first
    | with_reducible exact h | with_reducible assumption | with_reducible apply listenNow_frame
    | with_reducible apply earlySync_frame | with_reducible apply frame_ite | exact part_sub hw (by decide) | split
    | (intro _ _ _) | (intro _ _) | (intro _)

theorem nextListen_frame {w : List Part} {r : State} (a : Attempt) (s : State) (h : Confined w r s)
    (hw : [.sup, .ring, .evtLost, .scarab, .rx, .radio, .swarm, .net, .draws] ⊆ w
          := by first | assumption | exact part_sub ‹_› (by decide) | decide) :
    Confined w r (nextListen a s) := by
  unfold nextListen
  try dsimp only
  repeat first
    | with_reducible exact h | with_reducible assumption | with_reducible apply drawListen_frame
    | with_reducible apply endAttempt_frame | with_reducible apply listenNow_frame
    | with_reducible apply startUp_frame | with_reducible apply frame_ite | exact part_sub hw (by decide) | split
    | fail_if_no_progress with_reducible refine frame_mk hw ?_ | (intro _ _ _) | (intro _ _) | (intro _)

theorem resumeAttempt_frame {w : List Part} {r : State} (s : State) (h : Confined w r s)
    (hw : [.sup, .ring, .evtLost, .scarab, .rx, .radio, .swarm, .net, .draws] ⊆ w
          := by first | assumption | exact part_sub ‹_› (by decide) | decide) :
    Confined w r (resumeAttempt s) := by
  unfold resumeAttempt
  try dsimp only
  repeat first
    | with_reducible exact h | with_reducible assumption | with_reducible apply nextListen_frame
    | with_reducible apply frame_ite | exact part_sub hw (by decide) | split | (intro _ _ _) | (intro _ _) | (intro _)

theorem settle_frame {w : List Part} {r : State} (s : State) (h : Confined w r s)
    (hw : [.sup, .ring, .evtLost, .scarab, .rx, .radio, .swarm, .net, .draws] ⊆ w
          := by first | assumption | exact part_sub ‹_› (by decide) | decide) :
    Confined w r (settle s) := by
  unfold settle
  try dsimp only
  repeat first
    | with_reducible exact h | with_reducible assumption | with_reducible apply gotoIdle_frame
    | with_reducible apply resumeAttempt_frame | with_reducible apply frame_ite | exact part_sub hw (by decide)
    | split | (intro _ _ _) | (intro _ _) | (intro _)

theorem backoffEnd_frame {w : List Part} {r : State} (s : State) (h : Confined w r s)
    (hw : [.sup, .ring, .evtLost, .scarab, .rx, .radio, .swarm, .net, .draws] ⊆ w
          := by first | assumption | exact part_sub ‹_› (by decide) | decide) :
    Confined w r (backoffEnd s) := by
  unfold backoffEnd
  try dsimp only
  repeat first
    | with_reducible exact h | with_reducible assumption | with_reducible apply resumeAttempt_frame
    | with_reducible apply frame_ite | exact part_sub hw (by decide) | split
    | fail_if_no_progress with_reducible refine frame_mk hw ?_ | (intro _ _ _) | (intro _ _) | (intro _)

theorem listenEnd_frame {w : List Part} {r : State} (s : State) (h : Confined w r s)
    (hw : [.sup, .ring, .evtLost, .scarab, .rx, .radio, .swarm, .net, .draws] ⊆ w
          := by first | assumption | exact part_sub ‹_› (by decide) | decide) :
    Confined w r (listenEnd s) := by
  unfold listenEnd
  try dsimp only
  repeat first
    | with_reducible exact h | with_reducible assumption | with_reducible apply busyListen_frame
    | with_reducible apply endAttempt_frame | with_reducible apply postDutyBlock_frame
    | with_reducible apply startUp_frame | with_reducible apply frame_ite | exact part_sub hw (by decide) | split
    | fail_if_no_progress with_reducible refine frame_mk hw ?_ | (intro _ _ _) | (intro _ _) | (intro _)

theorem finalFrame_frame {w : List Part} {r : State} (hash : Word) (j : TxJob) (s : State) (h : Confined w r s)
    (hw : [.jrn, .sec] ⊆ w := by first | assumption | exact part_sub ‹_› (by decide) | decide) :
    Confined w r (finalFrame hash j s).2 := by
  unfold finalFrame
  try dsimp only
  repeat first
    | with_reducible exact h | with_reducible assumption | with_reducible apply countFcnt_frame
    | with_reducible apply frame_ite | exact part_sub hw (by decide) | split | (intro _ _ _) | (intro _ _) | (intro _)

theorem startPa_frame {w : List Part} {r : State} (j : TxJob) (s : State) (h : Confined w r s)
    (hw : [.ring, .evtLost, .scarab, .rx, .radio, .draws] ⊆ w
          := by first | assumption | exact part_sub ‹_› (by decide) | decide) :
    Confined w r (startPa j s) := by
  unfold startPa
  try dsimp only
  repeat first
    | with_reducible exact h | with_reducible assumption | with_reducible apply cancelDets_frame
    | with_reducible apply enterAirtime_frame | with_reducible apply frame_ite | exact part_sub hw (by decide) | split
    | fail_if_no_progress with_reducible refine frame_mk hw ?_ | (intro _ _ _) | (intro _ _) | (intro _)

theorem recordStart_frame {w : List Part} {r : State} (j : TxJob) (f : MacFrame) (s : State) (h : Confined w r s)
    (hw : [.swarm, .net] ⊆ w := by first | assumption | exact part_sub ‹_› (by decide) | decide) :
    Confined w r (recordStart j f s) := by
  unfold recordStart
  try dsimp only
  repeat first
    | with_reducible exact h | with_reducible assumption | with_reducible apply frame_ite
    | exact part_sub hw (by decide) | split | fail_if_no_progress with_reducible refine frame_mk hw ?_ | (intro _ _ _)
    | (intro _ _) | (intro _)

theorem startFrame_frame {w : List Part} {r : State} (j : TxJob) (s : State) (h : Confined w r s)
    (hw : [.sup, .ring, .evtLost, .jrn, .scarab, .rx, .radio, .swarm, .net, .sec, .draws] ⊆ w
          := by first | assumption | exact part_sub ‹_› (by decide) | decide) :
    Confined w r (startFrame j s) := by
  unfold startFrame
  try dsimp only
  repeat first
    | with_reducible exact h | with_reducible assumption | with_reducible apply finalFrame_frame
    | with_reducible apply recordStart_frame | with_reducible apply goto_frame | with_reducible apply startPa_frame
    | with_reducible apply frame_ite | exact part_sub hw (by decide) | split
    | fail_if_no_progress with_reducible refine frame_mk hw ?_ | (intro _ _ _) | (intro _ _) | (intro _)

theorem startAck_frame {w : List Part} {r : State} (j : TxJob) (s : State) (h : Confined w r s)
    (hw : [.sup, .ring, .evtLost, .scarab, .rx, .radio, .draws] ⊆ w
          := by first | assumption | exact part_sub ‹_› (by decide) | decide) :
    Confined w r (startAck j s) := by
  unfold startAck
  try dsimp only
  repeat first
    | with_reducible exact h | with_reducible assumption | with_reducible apply goto_frame
    | with_reducible apply startPa_frame | with_reducible apply frame_ite | exact part_sub hw (by decide) | split
    | (intro _ _ _) | (intro _ _) | (intro _)

theorem leaveSynthUp_frame {w : List Part} {r : State} (s : State) (h : Confined w r s)
    (hw : [.sup, .ring, .evtLost, .jrn, .scarab, .rx, .radio, .swarm, .net, .sec, .draws] ⊆ w
          := by first | assumption | exact part_sub ‹_› (by decide) | decide) :
    Confined w r (leaveSynthUp s) := by
  unfold leaveSynthUp
  try dsimp only
  repeat first
    | with_reducible exact h | with_reducible assumption | with_reducible apply goto_frame
    | with_reducible apply gotoIdle_frame | with_reducible apply listenNow_frame
    | with_reducible apply startFrame_frame | with_reducible apply settle_frame
    | with_reducible apply endAttempt_frame | with_reducible apply startAck_frame
    | with_reducible apply goReturn_frame | with_reducible apply suppressOther_frame | with_reducible apply frame_ite
    | exact part_sub hw (by decide) | split | fail_if_no_progress with_reducible refine frame_mk hw ?_ | (intro _ _ _)
    | (intro _ _) | (intro _)

theorem synthLock_frame {w : List Part} {r : State} (s : State) (h : Confined w r s)
    (hw : [.sup, .ring, .evtLost, .jrn, .scarab, .rx, .radio, .swarm, .net, .sec, .draws] ⊆ w
          := by first | assumption | exact part_sub ‹_› (by decide) | decide) :
    Confined w r (synthLock s) := by
  unfold synthLock
  try dsimp only
  repeat first
    | with_reducible exact h | with_reducible assumption | with_reducible apply calibrateOnLock_frame
    | with_reducible apply leaveSynthUp_frame | with_reducible apply frame_ite | exact part_sub hw (by decide) | split
    | fail_if_no_progress with_reducible refine frame_mk hw ?_ | (intro _ _ _) | (intro _ _) | (intro _)

theorem startRx_frame {w : List Part} {r : State} (s : State) (h : Confined w r s)
    (hw : [.sup, .ring, .evtLost, .rx, .radio, .draws] ⊆ w
          := by first | assumption | exact part_sub ‹_› (by decide) | decide) :
    Confined w r (startRx s) := by
  unfold startRx
  try dsimp only
  repeat first
    | with_reducible exact h | with_reducible assumption | with_reducible apply startUp_frame
    | with_reducible apply frame_ite | split | (intro _ _ _) | (intro _ _) | (intro _)

theorem awaitAck_frame {w : List Part} {r : State} (j : TxJob) (s : State) (h : Confined w r s)
    (hw : [.sup, .ring, .evtLost, .scarab, .rx, .radio, .draws] ⊆ w
          := by first | assumption | exact part_sub ‹_› (by decide) | decide) :
    Confined w r (awaitAck j s) := by
  unfold awaitAck
  try dsimp only
  repeat first
    | with_reducible exact h | with_reducible assumption | with_reducible apply setMosaic_frame
    | with_reducible apply goto_frame | with_reducible apply calibrateOnLock_frame | with_reducible apply tune_frame
    | with_reducible apply frame_ite | exact part_sub hw (by decide) | split | (intro _ _ _) | (intro _ _) | (intro _)

theorem synthUnlock_frame {w : List Part} {r : State} (s : State) (h : Confined w r s)
    (hw : [.sup, .ring, .evtLost, .scarab, .rx, .radio, .net, .clk, .draws] ⊆ w
          := by first | assumption | exact part_sub ‹_› (by decide) | decide) :
    Confined w r (synthUnlock s) := by
  unfold synthUnlock
  try dsimp only
  repeat first
    | with_reducible exact h | with_reducible assumption | with_reducible apply halt_frame
    | with_reducible apply startRx_frame | with_reducible apply frame_ite | exact part_sub hw (by decide) | split
    | fail_if_no_progress with_reducible refine frame_mk hw ?_ | (intro _ _ _) | (intro _ _) | (intro _)

theorem postTxDonePlain_frame {w : List Part} {r : State} (j : TxJob) (s : State) (h : Confined w r s)
    (hw : [.ring, .evtLost] ⊆ w := by first | assumption | exact part_sub ‹_› (by decide) | decide) :
    Confined w r (postTxDonePlain j s) := by
  unfold postTxDonePlain
  try dsimp only
  repeat first
    | with_reducible exact h | with_reducible assumption | with_reducible apply post_frame
    | with_reducible apply frame_ite | split | (intro _ _ _) | (intro _ _) | (intro _)

theorem awaitReply_frame {w : List Part} {r : State} (s : State) (h : Confined w r s)
    (hw : [.radio] ⊆ w := by first | assumption | exact part_sub ‹_› (by decide) | decide) :
    Confined w r (awaitReply s) := by
  unfold awaitReply
  try dsimp only
  repeat first
    | with_reducible exact h | with_reducible assumption | with_reducible apply frame_ite
    | exact part_sub hw (by decide) | split | fail_if_no_progress with_reducible refine frame_mk hw ?_ | (intro _ _ _)
    | (intro _ _) | (intro _)

theorem txEnd_frame {w : List Part} {r : State} (s : State) (h : Confined w r s)
    (hw : [.sup, .ring, .evtLost, .scarab, .rx, .radio, .swarm, .net, .draws] ⊆ w
          := by first | assumption | exact part_sub ‹_› (by decide) | decide) :
    Confined w r (txEnd s) := by
  unfold txEnd
  try dsimp only
  repeat first
    | with_reducible exact h | with_reducible assumption | with_reducible apply settle_frame
    | with_reducible apply goReturn_frame | with_reducible apply paOff_frame | with_reducible apply awaitAck_frame
    | with_reducible apply awaitReply_frame | with_reducible apply postTxDonePlain_frame
    | with_reducible apply frame_ite | exact part_sub hw (by decide) | split
    | fail_if_no_progress with_reducible refine frame_mk hw ?_ | (intro _ _ _) | (intro _ _) | (intro _)

theorem antVerdict_frame {w : List Part} {r : State} (rl : Byte) (phase : Int) (s : State) (h : Confined w r s)
    (hw : [.ring, .evtLost, .radio] ⊆ w := by first | assumption | exact part_sub ‹_› (by decide) | decide) :
    Confined w r (antVerdict rl phase s) := by
  unfold antVerdict
  try dsimp only
  repeat first
    | with_reducible exact h | with_reducible assumption | with_reducible apply post_frame
    | with_reducible apply frame_ite | exact part_sub hw (by decide) | split
    | fail_if_no_progress with_reducible refine frame_mk hw ?_ | (intro _ _ _) | (intro _ _) | (intro _)

theorem ackTx_frame {w : List Part} {r : State} (s : State) (h : Confined w r s)
    (hw : [.sup, .ring, .evtLost, .scarab, .rx, .radio, .swarm, .net, .draws] ⊆ w
          := by first | assumption | exact part_sub ‹_› (by decide) | decide) :
    Confined w r (ackTx s) := by
  unfold ackTx
  try dsimp only
  repeat first
    | with_reducible exact h | with_reducible assumption | with_reducible apply settle_frame
    | with_reducible apply suppressAck_frame | with_reducible apply suppressOther_frame
    | with_reducible apply busyListen_frame | with_reducible apply startUp_frame | with_reducible apply frame_ite
    | exact part_sub hw (by decide) | split | fail_if_no_progress with_reducible refine frame_mk hw ?_ | (intro _ _ _)
    | (intro _ _) | (intro _)

theorem retireItem_frame {w : List Part} {r : State} (q : Nat) (seq : Word) (s : State) (h : Confined w r s)
    (hw : [.ring, .evtLost, .jrn, .qe] ⊆ w := by first | assumption | exact part_sub ‹_› (by decide) | decide) :
    Confined w r (retireItem q seq s) := by
  unfold retireItem
  try dsimp only
  repeat first
    | with_reducible exact h | with_reducible assumption | with_reducible apply post_frame
    | with_reducible apply retireHead_frame | with_reducible apply frame_ite | exact part_sub hw (by decide) | split
    | (intro _ _ _) | (intro _ _) | (intro _)

theorem ackWaitExpiry_frame {w : List Part} {r : State} (s : State) (h : Confined w r s)
    (hw : [.sup, .ring, .evtLost, .scarab, .rx, .radio, .swarm, .net, .draws] ⊆ w
          := by first | assumption | exact part_sub ‹_› (by decide) | decide) :
    Confined w r (ackWaitExpiry s) := by
  unfold ackWaitExpiry
  try dsimp only
  repeat first
    | with_reducible exact h | with_reducible assumption | with_reducible apply post_frame
    | with_reducible apply freeBits_frame | with_reducible apply settle_frame | with_reducible apply goReturn_frame
    | with_reducible apply frame_ite | exact part_sub hw (by decide) | split
    | fail_if_no_progress with_reducible refine frame_mk hw ?_ | (intro _ _ _) | (intro _ _) | (intro _)

theorem refreshFcw_frame {w : List Part} {r : State} (s : State) (h : Confined w r s)
    (hw : [.tb] ⊆ w := by first | assumption | exact part_sub ‹_› (by decide) | decide) :
    Confined w r (refreshFcw s) := by
  unfold refreshFcw
  try dsimp only
  repeat first
    | with_reducible exact h | with_reducible assumption | with_reducible apply frame_ite
    | exact part_sub hw (by decide) | split | fail_if_no_progress with_reducible refine frame_mk hw ?_ | (intro _ _ _)
    | (intro _ _) | (intro _)

theorem setTb_frame {w : List Part} {r : State} (st : Fin 5) (s : State) (h : Confined w r s)
    (hw : [.tb] ⊆ w := by first | assumption | exact part_sub ‹_› (by decide) | decide) :
    Confined w r (setTb st s) := by
  unfold setTb
  try dsimp only
  repeat first
    | with_reducible exact h | with_reducible assumption | with_reducible apply refreshFcw_frame
    | with_reducible apply frame_ite | exact part_sub hw (by decide) | split
    | fail_if_no_progress with_reducible refine frame_mk hw ?_ | (intro _ _ _) | (intro _ _) | (intro _)

theorem leaveBootTb_frame {w : List Part} {r : State} (s : State) (h : Confined w r s)
    (hw : [.tb] ⊆ w := by first | assumption | exact part_sub ‹_› (by decide) | decide) :
    Confined w r (leaveBootTb s) := by
  unfold leaveBootTb
  try dsimp only
  repeat first
    | with_reducible exact h | with_reducible assumption | with_reducible apply setTb_frame
    | with_reducible apply refreshFcw_frame | with_reducible apply frame_ite | split | (intro _ _ _) | (intro _ _)
    | (intro _)

theorem tbModeEffect_frame {w : List Part} {r : State} (s : State) (h : Confined w r s)
    (hw : [.tb] ⊆ w := by first | assumption | exact part_sub ‹_› (by decide) | decide) :
    Confined w r (tbModeEffect s) := by
  unfold tbModeEffect
  try dsimp only
  repeat first
    | with_reducible exact h | with_reducible assumption | with_reducible apply setTb_frame
    | with_reducible apply frame_ite | split | (intro _ _ _) | (intro _ _) | (intro _)

theorem applyReference_frame {w : List Part} {r0 : State} (stamp : Nat) (r : Reception) (mPpb : Int) (s : State)
    (h : Confined w r0 s)
    (hw : [.sup, .live, .ring, .evtLost, .courses, .mortar, .jrn, .qe, .tb, .timer, .pulse, .adc, .hod] ⊆ w
          := by first | assumption | exact part_sub ‹_› (by decide) | decide) :
    Confined w r0 (applyReference stamp r mPpb s) := by
  unfold applyReference
  try dsimp only
  repeat first
    | with_reducible exact h | with_reducible assumption | with_reducible apply stepNtime_frame
    | with_reducible apply post_frame | with_reducible apply frame_ite | exact part_sub hw (by decide) | split
    | fail_if_no_progress with_reducible refine frame_mk hw ?_ | (intro _ _ _) | (intro _ _) | (intro _)

theorem judgeReference_frame {w : List Part} {r : State} (src : Half) (depth : Nat) (snr : Int) (cycle : Word)
    (s : State) (h : Confined w r s)
    (hw : [.tb] ⊆ w := by first | assumption | exact part_sub ‹_› (by decide) | decide) :
    Confined w r (judgeReference src depth snr cycle s) := by
  unfold judgeReference
  try dsimp only
  repeat first
    | with_reducible exact h | with_reducible assumption | with_reducible apply frame_ite
    | exact part_sub hw (by decide) | split | fail_if_no_progress with_reducible refine frame_mk hw ?_ | (intro _ _ _)
    | (intro _ _) | (intro _)

theorem timeFromBeacon_frame {w : List Part} {r0 : State} (f : MacFrame) (r : Reception) (mPpb : Int) (s : State)
    (h : Confined w r0 s)
    (hw : [.sup, .live, .ring, .evtLost, .courses, .mortar, .jrn, .qe, .tb, .timer, .pulse, .adc, .hod] ⊆ w
          := by first | assumption | exact part_sub ‹_› (by decide) | decide) :
    Confined w r0 (timeFromBeacon f r mPpb s) := by
  unfold timeFromBeacon
  try dsimp only
  repeat first
    | with_reducible exact h | with_reducible assumption | with_reducible apply judgeReference_frame
    | with_reducible apply applyReference_frame | with_reducible apply frame_ite | exact part_sub hw (by decide)
    | split | fail_if_no_progress with_reducible refine frame_mk hw ?_ | (intro _ _ _) | (intro _ _) | (intro _)

theorem fcwLoad_frame {w : List Part} {r : State} (s : State) (h : Confined w r s)
    (hw : [.tb] ⊆ w := by first | assumption | exact part_sub ‹_› (by decide) | decide) :
    Confined w r (fcwLoad s) := by
  unfold fcwLoad
  try dsimp only
  repeat first
    | with_reducible exact h | with_reducible assumption | with_reducible apply frame_ite
    | exact part_sub hw (by decide) | split | fail_if_no_progress with_reducible refine frame_mk hw ?_ | (intro _ _ _)
    | (intro _ _) | (intro _)

theorem slewEnd_frame {w : List Part} {r : State} (s : State) (h : Confined w r s)
    (hw : [.tb] ⊆ w := by first | assumption | exact part_sub ‹_› (by decide) | decide) :
    Confined w r (slewEnd s) := by
  unfold slewEnd
  try dsimp only
  repeat first
    | with_reducible exact h | with_reducible assumption | with_reducible apply refreshFcw_frame
    | with_reducible apply frame_ite | exact part_sub hw (by decide) | split
    | fail_if_no_progress with_reducible refine frame_mk hw ?_ | (intro _ _ _) | (intro _ _) | (intro _)

theorem holdoverEntry_frame {w : List Part} {r : State} (s : State) (h : Confined w r s)
    (hw : [.ring, .evtLost, .tb] ⊆ w := by first | assumption | exact part_sub ‹_› (by decide) | decide) :
    Confined w r (holdoverEntry s) := by
  unfold holdoverEntry
  try dsimp only
  repeat first
    | with_reducible exact h | with_reducible assumption | with_reducible apply post_frame
    | with_reducible apply setTb_frame | with_reducible apply frame_ite | exact part_sub hw (by decide) | split
    | (intro _ _ _) | (intro _ _) | (intro _)

theorem radioStop_frame {w : List Part} {r : State} (s : State) (h : Confined w r s)
    (hw : [.sup, .ring, .evtLost, .scarab, .rx, .radio, .swarm, .net, .draws] ⊆ w
          := by first | assumption | exact part_sub ‹_› (by decide) | decide) :
    Confined w r (radioStop s) := by
  unfold radioStop
  try dsimp only
  repeat first
    | with_reducible exact h | with_reducible assumption | with_reducible apply gotoIdle_frame
    | with_reducible apply cancelDets_frame | with_reducible apply dropAttempt_frame
    | with_reducible apply endAttempt_frame | with_reducible apply frame_ite | exact part_sub hw (by decide) | split
    | fail_if_no_progress with_reducible refine frame_mk hw ?_ | (intro _ _ _) | (intro _ _) | (intro _)

theorem startPoll_frame {w : List Part} {r : State} (x : TxJob × Exchange) (n : Nat) (s : State) (h : Confined w r s)
    (hw : [.sup, .ring, .evtLost, .rx, .radio, .swarm, .net, .draws] ⊆ w
          := by first | assumption | exact part_sub ‹_› (by decide) | decide) :
    Confined w r (startPoll x n s) := by
  unfold startPoll
  try dsimp only
  repeat first
    | with_reducible exact h | with_reducible assumption | with_reducible apply beginAccess_frame
    | with_reducible apply frame_ite | exact part_sub hw (by decide) | split
    | fail_if_no_progress with_reducible refine frame_mk hw ?_ | (intro _ _ _) | (intro _ _) | (intro _)

theorem radioTx_frame {w : List Part} {r : State} (s : State) (h : Confined w r s)
    (hw : [.sup, .ring, .evtLost, .mortar, .jrn, .qe, .repair, .rx, .radio, .swarm, .net, .draws] ⊆ w
          := by first | assumption | exact part_sub ‹_› (by decide) | decide) :
    Confined w r (radioTx s) := by
  unfold radioTx
  try dsimp only
  repeat first
    | with_reducible exact h | with_reducible assumption | with_reducible apply macRead_frame
    | with_reducible apply startPoll_frame | with_reducible apply beginAccess_frame | with_reducible apply frame_ite
    | exact part_sub hw (by decide) | split | fail_if_no_progress with_reducible refine frame_mk hw ?_ | (intro _ _ _)
    | (intro _ _) | (intro _)

theorem radioAbort_frame {w : List Part} {r : State} (s : State) (h : Confined w r s)
    (hw : [.sup, .ring, .evtLost, .scarab, .rx, .radio, .net, .clk, .draws] ⊆ w
          := by first | assumption | exact part_sub ‹_› (by decide) | decide) :
    Confined w r (radioAbort s) := by
  unfold radioAbort
  try dsimp only
  repeat first
    | with_reducible exact h | with_reducible assumption | with_reducible apply halt_frame
    | with_reducible apply frame_ite | split | (intro _ _ _) | (intro _ _) | (intro _)

theorem radioCommand_frame {w : List Part} {r : State} (code : Nat) (s : State) (h : Confined w r s)
    (hw : [.sup, .ring, .evtLost, .mortar, .jrn, .qe, .repair, .scarab, .rx, .radio, .swarm, .net, .clk, .draws] ⊆ w
          := by first | assumption | exact part_sub ‹_› (by decide) | decide) :
    Confined w r (radioCommand code s) := by
  unfold radioCommand
  try dsimp only
  repeat first
    | with_reducible exact h | with_reducible assumption | with_reducible apply startRx_frame
    | with_reducible apply radioStop_frame | with_reducible apply radioTx_frame
    | with_reducible apply radioAbort_frame | with_reducible apply frame_ite | exact part_sub hw (by decide) | split
    | (intro _ _ _) | (intro _ _) | (intro _)

theorem autoReceive_frame {w : List Part} {r : State} (s : State) (h : Confined w r s)
    (hw : [.sup, .ring, .evtLost, .rx, .radio, .draws] ⊆ w
          := by first | assumption | exact part_sub ‹_› (by decide) | decide) :
    Confined w r (autoReceive s) := by
  unfold autoReceive
  try dsimp only
  repeat first
    | with_reducible exact h | with_reducible assumption | with_reducible apply startRx_frame
    | with_reducible apply frame_ite | split | (intro _ _ _) | (intro _ _) | (intro _)

theorem judgeOff_frame {w : List Part} {r : State} (s : State) (h : Confined w r s)
    (hw : [.sup, .ring, .evtLost, .scarab, .rx, .radio, .swarm, .net, .draws] ⊆ w
          := by first | assumption | exact part_sub ‹_› (by decide) | decide) :
    Confined w r (judgeOff s) := by
  unfold judgeOff
  try dsimp only
  repeat first
    | with_reducible exact h | with_reducible assumption | with_reducible apply goto_frame
    | with_reducible apply gotoIdle_frame | with_reducible apply dropAttempt_frame | with_reducible apply frame_ite
    | exact part_sub hw (by decide) | split | (intro _ _ _) | (intro _ _) | (intro _)

theorem beaconCycle_frame {w : List Part} {r : State} (s : State) (h : Confined w r s)
    (hw : [.sup, .ring, .evtLost, .rx, .radio, .net, .draws] ⊆ w
          := by first | assumption | exact part_sub ‹_› (by decide) | decide) :
    Confined w r (beaconCycle s) := by
  unfold beaconCycle
  try dsimp only
  repeat first
    | with_reducible exact h | with_reducible assumption | with_reducible apply beginAccess_frame
    | with_reducible apply frame_ite | exact part_sub hw (by decide) | split
    | fail_if_no_progress with_reducible refine frame_mk hw ?_ | (intro _ _ _) | (intro _ _) | (intro _)

theorem pollStart_frame {w : List Part} {r : State} (s : State) (h : Confined w r s)
    (hw : [.sup, .ring, .evtLost, .mortar, .jrn, .qe, .repair, .rx, .radio, .swarm, .net, .draws] ⊆ w
          := by first | assumption | exact part_sub ‹_› (by decide) | decide) :
    Confined w r (pollStart s) := by
  unfold pollStart
  try dsimp only
  repeat first
    | with_reducible exact h | with_reducible assumption | with_reducible apply macRead_frame
    | with_reducible apply startPoll_frame | with_reducible apply frame_ite | exact part_sub hw (by decide) | split
    | (intro _ _ _) | (intro _ _) | (intro _)

theorem endExchange_frame {w : List Part} {r : State} (pend : Bool) (s : State) (h : Confined w r s)
    (hw : [.rx, .net] ⊆ w := by first | assumption | exact part_sub ‹_› (by decide) | decide) :
    Confined w r (endExchange pend s) := by
  unfold endExchange
  try dsimp only
  repeat first
    | with_reducible exact h | with_reducible assumption | with_reducible apply frame_ite
    | exact part_sub hw (by decide) | split | fail_if_no_progress with_reducible refine frame_mk hw ?_ | (intro _ _ _)
    | (intro _ _) | (intro _)

theorem pollMiss_frame {w : List Part} {r : State} (s : State) (h : Confined w r s)
    (hw : [.sup, .ring, .evtLost, .scarab, .rx, .radio, .swarm, .net, .draws] ⊆ w
          := by first | assumption | exact part_sub ‹_› (by decide) | decide) :
    Confined w r (pollMiss s) := by
  unfold pollMiss
  try dsimp only
  repeat first
    | with_reducible exact h | with_reducible assumption | with_reducible apply settle_frame
    | with_reducible apply endExchange_frame | with_reducible apply frame_ite | exact part_sub hw (by decide) | split
    | fail_if_no_progress with_reducible refine frame_mk hw ?_ | (intro _ _ _) | (intro _ _) | (intro _)

theorem enterRun_frame {w : List Part} {r : State} (s : State) (h : Confined w r s)
    (hw : [.sys, .ring, .evtLost, .scarab, .rx, .net, .draws] ⊆ w
          := by first | assumption | exact part_sub ‹_› (by decide) | decide) :
    Confined w r (enterRun s) := by
  unfold enterRun
  try dsimp only
  repeat first
    | with_reducible exact h | with_reducible assumption | with_reducible apply cancelDets_frame
    | with_reducible apply frame_ite | exact part_sub hw (by decide) | split
    | fail_if_no_progress with_reducible refine frame_mk hw ?_ | (intro _ _ _) | (intro _ _) | (intro _)

theorem quietEnd_frame {w : List Part} {r : State} (s : State) (h : Confined w r s)
    (hw : [.sys, .ring, .evtLost, .scarab, .rx, .net, .draws] ⊆ w
          := by first | assumption | exact part_sub ‹_› (by decide) | decide) :
    Confined w r (quietEnd s) := by
  unfold quietEnd
  try dsimp only
  repeat first
    | with_reducible exact h | with_reducible assumption | with_reducible apply enterRun_frame
    | with_reducible apply frame_ite | split | (intro _ _ _) | (intro _ _) | (intro _)

theorem joinSlot_frame {w : List Part} {r : State} (s : State) (h : Confined w r s)
    (hw : [.sys, .sup, .ring, .evtLost, .scarab, .rx, .radio, .net, .draws] ⊆ w
          := by first | assumption | exact part_sub ‹_› (by decide) | decide) :
    Confined w r (joinSlot s) := by
  unfold joinSlot
  try dsimp only
  repeat first
    | with_reducible exact h | with_reducible assumption | with_reducible apply quietEnd_frame
    | with_reducible apply beginAccess_frame | with_reducible apply frame_ite | exact part_sub hw (by decide) | split
    | fail_if_no_progress with_reducible refine frame_mk hw ?_ | (intro _ _ _) | (intro _ _) | (intro _)

theorem pollReply_frame {w : List Part} {r : State} (s : State) (h : Confined w r s)
    (hw : [.sup, .ring, .evtLost, .qe, .rx, .radio, .swarm, .net, .draws] ⊆ w
      := by first | assumption | exact part_sub ‹_› (by decide) | decide) : Confined w r (pollReply s) := by
  unfold pollReply
  split
  · exact h
  · dsimp only
    repeat first
      | with_reducible exact h
      | with_reducible apply frame_ite
      | with_reducible apply beginAccess_frame
      | (exact part_sub hw (by decide))
      | with_reducible refine frame_mk hw ?_

theorem addSeen_frame {w : List Part} {r : State} (k : Half × Half) (s : State) (h : Confined w r s)
    (hw : [.swarm] ⊆ w := by first | assumption | exact part_sub ‹_› (by decide) | decide) :
    Confined w r (addSeen k s) := by
  unfold addSeen
  try dsimp only
  repeat first
    | with_reducible exact h | with_reducible assumption | with_reducible apply frame_ite
    | exact part_sub hw (by decide) | split | fail_if_no_progress with_reducible refine frame_mk hw ?_ | (intro _ _ _)
    | (intro _ _) | (intro _)

theorem countRepeat_frame {w : List Part} {r : State} (o q : Half) (s : State) (h : Confined w r s)
    (hw : [.swarm] ⊆ w := by first | assumption | exact part_sub ‹_› (by decide) | decide) :
    Confined w r (countRepeat o q s) := by
  unfold countRepeat
  try dsimp only
  repeat first
    | with_reducible exact h | with_reducible assumption | with_reducible apply frame_ite
    | exact part_sub hw (by decide) | split | fail_if_no_progress with_reducible refine frame_mk hw ?_ | (intro _ _ _)
    | (intro _ _) | (intro _)

theorem scheduleCopy_frame {w : List Part} {r0 : State} (f : MacFrame) (r : Reception) (s : State) (h : Confined w r0 s)
    (hw : [.qe, .swarm, .draws] ⊆ w := by first | assumption | exact part_sub ‹_› (by decide) | decide) :
    Confined w r0 (scheduleCopy f r s) := by
  unfold scheduleCopy
  try dsimp only
  repeat first
    | with_reducible exact h | with_reducible assumption | with_reducible apply draw_frame
    | with_reducible apply advanceGen_frame | with_reducible apply frame_ite | exact part_sub hw (by decide) | split
    | fail_if_no_progress with_reducible refine frame_mk hw ?_ | with_reducible apply foldl_frame | (intro _ _ _)
    | (intro _ _) | (intro _)

theorem relayCopyDue_frame {w : List Part} {r : State} (o q : Half) (s : State) (h : Confined w r s)
    (hw : [.sup, .ring, .evtLost, .rx, .radio, .swarm, .draws] ⊆ w
          := by first | assumption | exact part_sub ‹_› (by decide) | decide) :
    Confined w r (relayCopyDue o q s) := by
  unfold relayCopyDue
  try dsimp only
  repeat first
    | with_reducible exact h | with_reducible assumption | with_reducible apply beginAccess_frame
    | with_reducible apply frame_ite | exact part_sub hw (by decide) | split
    | fail_if_no_progress with_reducible refine frame_mk hw ?_ | (intro _ _ _) | (intro _ _) | (intro _)

theorem swEnEffect_frame {w : List Part} {r : State} (s : State) (h : Confined w r s)
    (hw : [.swarm] ⊆ w := by first | assumption | exact part_sub ‹_› (by decide) | decide) :
    Confined w r (swEnEffect s) := by
  unfold swEnEffect
  try dsimp only
  repeat first
    | with_reducible exact h | with_reducible assumption | with_reducible apply frame_ite
    | exact part_sub hw (by decide) | split | fail_if_no_progress with_reducible refine frame_mk hw ?_ | (intro _ _ _)
    | (intro _ _) | (intro _)

theorem seenExpiry_frame {w : List Part} {r : State} (k : Half × Half) (s : State) (h : Confined w r s)
    (hw : [.swarm] ⊆ w := by first | assumption | exact part_sub ‹_› (by decide) | decide) :
    Confined w r (seenExpiry k s) := by
  unfold seenExpiry
  try dsimp only
  repeat first
    | with_reducible exact h | with_reducible assumption | with_reducible apply frame_ite
    | exact part_sub hw (by decide) | split | fail_if_no_progress with_reducible refine frame_mk hw ?_ | (intro _ _ _)
    | (intro _ _) | (intro _)

theorem fackWaitExpiry_frame {w : List Part} {r : State} (s : State) (h : Confined w r s)
    (hw : [.sup, .ring, .evtLost, .scarab, .rx, .radio, .swarm, .net, .draws] ⊆ w
          := by first | assumption | exact part_sub ‹_› (by decide) | decide) :
    Confined w r (fackWaitExpiry s) := by
  unfold fackWaitExpiry
  try dsimp only
  repeat first
    | with_reducible exact h | with_reducible assumption | with_reducible apply settle_frame
    | with_reducible apply post_frame | with_reducible apply frame_ite | exact part_sub hw (by decide) | split
    | fail_if_no_progress with_reducible refine frame_mk hw ?_ | (intro _ _ _) | (intro _ _) | (intro _)

theorem sendFacks_frame {w : List Part} {r : State} (s : State) (h : Confined w r s)
    (hw : [.sup, .ring, .evtLost, .rx, .radio, .swarm, .net, .draws] ⊆ w
          := by first | assumption | exact part_sub ‹_› (by decide) | decide) :
    Confined w r (sendFacks s) := by
  unfold sendFacks
  try dsimp only
  repeat first
    | with_reducible exact h | with_reducible assumption | with_reducible apply beginAccess_frame
    | with_reducible apply frame_ite | exact part_sub hw (by decide) | split
    | fail_if_no_progress with_reducible refine frame_mk hw ?_ | (intro _ _ _) | (intro _ _) | (intro _)

theorem setDreq_frame {w : List Part} {r : State} (v : Bytes) (s : State) (h : Confined w r s)
    (hw : [.net] ⊆ w := by first | assumption | exact part_sub ‹_› (by decide) | decide) :
    Confined w r (setDreq v s) := by
  unfold setDreq
  try dsimp only
  repeat first
    | with_reducible exact h | with_reducible assumption | with_reducible apply frame_ite
    | exact part_sub hw (by decide) | split | fail_if_no_progress with_reducible refine frame_mk hw ?_ | (intro _ _ _)
    | (intro _ _) | (intro _)

theorem gateBlock_frame {w : List Part} {r : State} (n : Nat) (s : State) (h : Confined w r s)
    (hw : [.sup, .clk] ⊆ w := by first | assumption | exact part_sub ‹_› (by decide) | decide) :
    Confined w r (gateBlock n s) := by
  unfold gateBlock
  try dsimp only
  repeat first
    | with_reducible exact h | with_reducible assumption | with_reducible apply frame_ite
    | exact part_sub hw (by decide) | split | fail_if_no_progress with_reducible refine frame_mk hw ?_ | (intro _ _ _)
    | (intro _ _) | (intro _)

theorem enableBlock_frame {w : List Part} {r : State} (s : State) (n : Nat) (h : Confined w r s)
    (hw : [.sup, .clk] ⊆ w := by first | assumption | exact part_sub ‹_› (by decide) | decide) :
    Confined w r (enableBlock s n) := by
  unfold enableBlock
  try dsimp only
  repeat first
    | with_reducible exact h | with_reducible assumption | with_reducible apply gateBlock_frame
    | with_reducible apply frame_ite | exact part_sub hw (by decide) | split
    | fail_if_no_progress with_reducible refine frame_mk hw ?_ | (intro _ _ _) | (intro _ _) | (intro _)

theorem applyEnables_frame {w : List Part} {r : State} (s : State) (h : Confined w r s)
    (hw : [.sup, .ring, .evtLost, .scarab, .rx, .radio, .swarm, .net, .clk, .draws] ⊆ w
          := by first | assumption | exact part_sub ‹_› (by decide) | decide) :
    Confined w r (applyEnables s) := by
  unfold applyEnables
  try dsimp only
  repeat first
    | with_reducible exact h | with_reducible assumption | with_reducible apply autoReceive_frame
    | with_reducible apply judgeOff_frame | with_reducible apply enableBlock_frame | with_reducible apply frame_ite
    | exact part_sub hw (by decide) | split | fail_if_no_progress with_reducible refine frame_mk hw ?_
    | with_reducible apply foldl_frame | (intro _ _ _) | (intro _ _) | (intro _)

theorem judgeFloors_frame {w : List Part} {r : State} (s t : State) (h : Confined w r t)
    (hw : [.rx] ⊆ w := by first | assumption | exact part_sub ‹_› (by decide) | decide) :
    Confined w r (judgeFloors s t) := by
  unfold judgeFloors
  try dsimp only
  repeat first
    | with_reducible exact h | with_reducible assumption | with_reducible apply frame_ite
    | exact part_sub hw (by decide) | split | fail_if_no_progress with_reducible refine frame_mk hw ?_ | (intro _ _ _)
    | (intro _ _) | (intro _)

theorem channelsChanged_frame {w : List Part} {r : State} (s t : State) (h : Confined w r t)
    (hw : [.sup, .ring, .evtLost, .scarab, .rx, .radio, .draws] ⊆ w
          := by first | assumption | exact part_sub ‹_› (by decide) | decide) :
    Confined w r (channelsChanged s t) := by
  unfold channelsChanged
  try dsimp only
  repeat first
    | with_reducible exact h | with_reducible assumption | with_reducible apply retuneRx_frame
    | with_reducible apply judgeFloors_frame | with_reducible apply frame_ite | exact part_sub hw (by decide) | split
    | (intro _ _ _) | (intro _ _) | (intro _)

theorem selfTested_frame {w : List Part} {r : State} (pass : Bool) (s : State) (h : Confined w r s)
    (hw : [.sup, .ring, .evtLost, .mortar, .repair, .scarab, .rx, .radio, .draws] ⊆ w
          := by first | assumption | exact part_sub ‹_› (by decide) | decide) :
    Confined w r (selfTested pass s) := by
  unfold selfTested
  try dsimp only
  repeat first
    | with_reducible exact h | with_reducible assumption | with_reducible apply selfTest_frame
    | with_reducible apply channelsChanged_frame | with_reducible apply frame_ite | exact part_sub hw (by decide)
    | split | (intro _ _ _) | (intro _ _) | (intro _)

theorem holdSetting_frame {w : List Part} {r : State} (key : Nat) (s t : State) (h : Confined w r t)
    (hw : [.radio] ⊆ w := by first | assumption | exact part_sub ‹_› (by decide) | decide) :
    Confined w r (holdSetting key s t) := by
  unfold holdSetting
  try dsimp only
  repeat first
    | with_reducible exact h | with_reducible assumption | with_reducible apply frame_ite
    | exact part_sub hw (by decide) | split | fail_if_no_progress with_reducible refine frame_mk hw ?_ | (intro _ _ _)
    | (intro _ _) | (intro _)

theorem settingsInForce_frame {w : List Part} {r : State} (s : State) (h : Confined w r s)
    (hw : [.sup, .ring, .evtLost, .scarab, .rx, .radio, .draws] ⊆ w
          := by first | assumption | exact part_sub ‹_› (by decide) | decide) :
    Confined w r (settingsInForce s) := by
  unfold settingsInForce
  try dsimp only
  repeat first
    | with_reducible exact h | with_reducible assumption | with_reducible apply channelsChanged_frame
    | with_reducible apply frame_ite | exact part_sub hw (by decide) | split
    | fail_if_no_progress with_reducible refine frame_mk hw ?_ | (intro _ _ _) | (intro _ _) | (intro _)

theorem cancelChanged_frame {w : List Part} {r : State} (s : State) (h : Confined w r s)
    (hw : [.ring, .evtLost, .scarab, .rx, .draws] ⊆ w := by first | assumption | exact part_sub ‹_› (by decide) | decide) :
    Confined w r (cancelChanged s) := by
  unfold cancelChanged
  try dsimp only
  repeat first
    | with_reducible exact h | with_reducible assumption | with_reducible apply cancelDets_frame
    | with_reducible apply frame_ite | exact part_sub hw (by decide) | split
    | fail_if_no_progress with_reducible refine frame_mk hw ?_ | (intro _ _ _) | (intro _ _) | (intro _)

theorem plumbEffect_frame {w : List Part} {r : State} (s : State) (h : Confined w r s)
    (hw : [.sup] ⊆ w := by first | assumption | exact part_sub ‹_› (by decide) | decide) :
    Confined w r (plumbEffect s) := by
  unfold plumbEffect
  try dsimp only
  repeat first
    | with_reducible exact h | with_reducible assumption | with_reducible apply frame_ite
    | exact part_sub hw (by decide) | split | fail_if_no_progress with_reducible refine frame_mk hw ?_ | (intro _ _ _)
    | (intro _ _) | (intro _)

theorem polarityEffect_frame {w : List Part} {r : State} (s : State) (h : Confined w r s)
    (hw : [.field] ⊆ w := by first | assumption | exact part_sub ‹_› (by decide) | decide) :
    Confined w r (polarityEffect s) := by
  unfold polarityEffect
  try dsimp only
  repeat first
    | with_reducible exact h | with_reducible assumption | with_reducible apply frame_ite
    | exact part_sub hw (by decide) | split | fail_if_no_progress with_reducible refine frame_mk hw ?_ | (intro _ _ _)
    | (intro _ _) | (intro _)

theorem entryEffect_frame {w : List Part} {r : State} (key : Nat) (old s : State) (h : Confined w r s)
    (hw : [.sup, .ring, .evtLost, .field, .scarab, .rx, .radio, .swarm, .net, .tb, .clk, .draws] ⊆ w
          := by first | assumption | exact part_sub ‹_› (by decide) | decide) :
    Confined w r (entryEffect key old s) := by
  unfold entryEffect
  try dsimp only
  repeat first
    | with_reducible exact h | with_reducible assumption | with_reducible apply applyEnables_frame
    | with_reducible apply tbModeEffect_frame | with_reducible apply refreshFcw_frame
    | with_reducible apply swEnEffect_frame | with_reducible apply plumbEffect_frame
    | with_reducible apply polarityEffect_frame | with_reducible apply channelsChanged_frame
    | with_reducible apply cancelChanged_frame | with_reducible apply frame_ite | exact part_sub hw (by decide)
    | split | fail_if_no_progress with_reducible refine frame_mk hw ?_ | (intro _ _ _) | (intro _ _) | (intro _)

theorem setQAttr_frame {w : List Part} {r : State} (v : Nat) (s : State) (h : Confined w r s)
    (hw : [.qe] ⊆ w := by first | assumption | exact part_sub ‹_› (by decide) | decide) :
    Confined w r (setQAttr v s) := by
  unfold setQAttr
  try dsimp only
  repeat first
    | with_reducible exact h | with_reducible assumption | with_reducible apply setQueue_frame
    | with_reducible apply frame_ite | split | (intro _ _ _) | (intro _ _) | (intro _)

theorem setPollAttr_frame {w : List Part} {r : State} (v : Byte) (s : State) (h : Confined w r s)
    (hw : [.net] ⊆ w := by first | assumption | exact part_sub ‹_› (by decide) | decide) :
    Confined w r (setPollAttr v s) := by
  unfold setPollAttr
  try dsimp only
  repeat first
    | with_reducible exact h | with_reducible assumption | with_reducible apply frame_ite
    | exact part_sub hw (by decide) | split | fail_if_no_progress with_reducible refine frame_mk hw ?_ | (intro _ _ _)
    | (intro _ _) | (intro _)

theorem setEntry_frame {w : List Part} {r : State} (key : Nat) (b : Bytes) (s : State) (h : Confined w r s)
    (hw : [.sys, .sup, .live, .ring, .evtLost, .field, .qe, .scarab, .rx, .radio, .swarm, .net, .tb, .timer, .pulse, .clk, .draws] ⊆ w
          := by first | assumption | exact part_sub ‹_› (by decide) | decide) :
    Confined w r (setEntry key b s) := by
  unfold setEntry
  try dsimp only
  repeat first
    | with_reducible exact h | with_reducible assumption | with_reducible apply setQAttr_frame
    | with_reducible apply setPollAttr_frame | with_reducible apply setCmpCfg_frame
    | with_reducible apply setCmp_frame | with_reducible apply setCapCfg_frame | with_reducible apply setCntCfg_frame
    | with_reducible apply setCnt_frame | with_reducible apply setPulseCfg_frame
    | with_reducible apply entryEffect_frame | with_reducible apply holdSetting_frame
    | with_reducible apply setLive_frame | with_reducible apply frame_ite | exact part_sub hw (by decide) | split
    | fail_if_no_progress with_reducible refine frame_mk hw ?_ | (intro _ _ _) | (intro _ _) | (intro _)

theorem enterPoint_frame {w : List Part} {r : State} (point : Fin 4) (failed : Nat) (s : State) (h : Confined w r s)
    (hw : [.sup] ⊆ w := by first | assumption | exact part_sub ‹_› (by decide) | decide) :
    Confined w r (enterPoint point failed s) := by
  unfold enterPoint
  try dsimp only
  repeat first
    | with_reducible exact h | with_reducible assumption | with_reducible apply frame_ite
    | exact part_sub hw (by decide) | split | fail_if_no_progress with_reducible refine frame_mk hw ?_ | (intro _ _ _)
    | (intro _ _) | (intro _)

theorem fallTo_frame {w : List Part} {r : State} (point : Fin 4) (s : State) (h : Confined w r s)
    (hw : [.sup] ⊆ w := by first | assumption | exact part_sub ‹_› (by decide) | decide) :
    Confined w r (fallTo point s) := by
  unfold fallTo
  try dsimp only
  repeat first
    | with_reducible exact h | with_reducible assumption | with_reducible apply enterPoint_frame
    | with_reducible apply frame_ite | exact part_sub hw (by decide) | split
    | fail_if_no_progress with_reducible refine frame_mk hw ?_ | (intro _ _ _) | (intro _ _) | (intro _)

theorem lintelStepUp_frame {w : List Part} {r : State} (failed : Nat) (s : State) (h : Confined w r s)
    (hw : [.sup, .ring, .evtLost, .jrn, .scarab, .rx, .radio, .swarm, .net, .sec, .draws] ⊆ w
          := by first | assumption | exact part_sub ‹_› (by decide) | decide) :
    Confined w r (lintelStepUp failed s) := by
  unfold lintelStepUp
  try dsimp only
  repeat first
    | with_reducible exact h | with_reducible assumption | with_reducible apply leaveSynthUp_frame
    | with_reducible apply enterPoint_frame | with_reducible apply frame_ite | exact part_sub hw (by decide) | split
    | (intro _ _ _) | (intro _ _) | (intro _)

theorem lintelStepDown_frame {w : List Part} {r : State} (s : State) (h : Confined w r s)
    (hw : [.sup] ⊆ w := by first | assumption | exact part_sub ‹_› (by decide) | decide) :
    Confined w r (lintelStepDown s) := by
  unfold lintelStepDown
  try dsimp only
  repeat first
    | with_reducible exact h | with_reducible assumption | with_reducible apply fallTo_frame
    | with_reducible apply frame_ite | split | (intro _ _ _) | (intro _ _) | (intro _)

theorem setVcore_frame {w : List Part} {r : State} (mv : Half) (s : State) (h : Confined w r s)
    (hw : [.sup] ⊆ w := by first | assumption | exact part_sub ‹_› (by decide) | decide) :
    Confined w r (setVcore mv s) := by
  unfold setVcore
  try dsimp only
  repeat first
    | with_reducible exact h | with_reducible assumption | with_reducible apply frame_ite
    | exact part_sub hw (by decide) | split | fail_if_no_progress with_reducible refine frame_mk hw ?_ | (intro _ _ _)
    | (intro _ _) | (intro _)

theorem plumbStepDown_frame {w : List Part} {r : State} (s : State) (h : Confined w r s)
    (hw : [.sup] ⊆ w := by first | assumption | exact part_sub ‹_› (by decide) | decide) :
    Confined w r (plumbStepDown s) := by
  unfold plumbStepDown
  try dsimp only
  repeat first
    | with_reducible exact h | with_reducible assumption | with_reducible apply setVcore_frame
    | with_reducible apply frame_ite | split | (intro _ _ _) | (intro _ _) | (intro _)

theorem nearMiss_frame {w : List Part} {r : State} (s : State) (h : Confined w r s)
    (hw : [.sup] ⊆ w := by first | assumption | exact part_sub ‹_› (by decide) | decide) :
    Confined w r (nearMiss s) := by
  unfold nearMiss
  try dsimp only
  repeat first
    | with_reducible exact h | with_reducible assumption | with_reducible apply setVcore_frame
    | with_reducible apply frame_ite | exact part_sub hw (by decide) | split
    | fail_if_no_progress with_reducible refine frame_mk hw ?_ | (intro _ _ _) | (intro _ _) | (intro _)

theorem canaryCheck_frame {w : List Part} {r : State} (pass : Bool) (s : State) (h : Confined w r s)
    (hw : [.sup, .repair] ⊆ w := by first | assumption | exact part_sub ‹_› (by decide) | decide) :
    Confined w r (canaryCheck pass s) := by
  unfold canaryCheck
  try dsimp only
  repeat first
    | with_reducible exact h | with_reducible assumption | with_reducible apply frame_ite
    | exact part_sub hw (by decide) | split | fail_if_no_progress with_reducible refine frame_mk hw ?_ | (intro _ _ _)
    | (intro _ _) | (intro _)

theorem enterSafe_frame {w : List Part} {r : State} (s : State) (h : Confined w r s)
    (hw : [.sys, .sup, .ring, .evtLost, .scarab, .rx, .radio, .net, .draws] ⊆ w
          := by first | assumption | exact part_sub ‹_› (by decide) | decide) :
    Confined w r (enterSafe s) := by
  unfold enterSafe
  try dsimp only
  repeat first
    | with_reducible exact h | with_reducible assumption | with_reducible apply cancelDets_frame
    | with_reducible apply stopPa_frame | with_reducible apply frame_ite | exact part_sub hw (by decide) | split
    | fail_if_no_progress with_reducible refine frame_mk hw ?_ | (intro _ _ _) | (intro _ _) | (intro _)

theorem setTherm_frame {w : List Part} {r : State} (level flag : Nat) (s : State) (h : Confined w r s)
    (hw : [.sys, .sup, .ring, .evtLost, .mortar, .repair, .scarab, .rx, .radio, .net, .draws] ⊆ w
          := by first | assumption | exact part_sub ‹_› (by decide) | decide) :
    Confined w r (setTherm level flag s) := by
  unfold setTherm
  try dsimp only
  repeat first
    | with_reducible exact h | with_reducible assumption | with_reducible apply postLogged_frame
    | with_reducible apply post_frame | with_reducible apply endSecond_frame | with_reducible apply enterSafe_frame
    | with_reducible apply stopPa_frame | with_reducible apply frame_ite | exact part_sub hw (by decide) | split
    | fail_if_no_progress with_reducible refine frame_mk hw ?_ | (intro _ _ _) | (intro _ _) | (intro _)

theorem enterCrit_frame {w : List Part} {r : State} (s : State) (h : Confined w r s)
    (hw : [.sys, .sup, .ring, .evtLost, .mortar, .repair, .scarab, .rx, .radio, .net, .draws] ⊆ w
          := by first | assumption | exact part_sub ‹_› (by decide) | decide) :
    Confined w r (enterCrit s) := by
  unfold enterCrit
  try dsimp only
  repeat first
    | with_reducible exact h | with_reducible assumption | with_reducible apply setTherm_frame
    | with_reducible apply frame_ite | exact part_sub hw (by decide) | split
    | fail_if_no_progress with_reducible refine frame_mk hw ?_ | with_reducible apply foldl_frame | (intro _ _ _)
    | (intro _ _) | (intro _)

theorem judgeTherm_frame {w : List Part} {r : State} (s : State) (h : Confined w r s)
    (hw : [.sys, .sup, .ring, .evtLost, .mortar, .repair, .scarab, .rx, .radio, .net, .draws] ⊆ w
          := by first | assumption | exact part_sub ‹_› (by decide) | decide) :
    Confined w r (judgeTherm s) := by
  unfold judgeTherm
  try dsimp only
  repeat first
    | with_reducible exact h | with_reducible assumption | with_reducible apply enterCrit_frame
    | with_reducible apply setTherm_frame | with_reducible apply frame_ite | split | (intro _ _ _) | (intro _ _)
    | (intro _)

theorem senseLost_frame {w : List Part} {r : State} (s : State) (h : Confined w r s)
    (hw : [.sys, .sup, .ring, .evtLost, .mortar, .repair, .scarab, .rx, .radio, .net, .draws] ⊆ w
          := by first | assumption | exact part_sub ‹_› (by decide) | decide) :
    Confined w r (senseLost s) := by
  unfold senseLost
  try dsimp only
  repeat first
    | with_reducible exact h | with_reducible assumption | with_reducible apply setTherm_frame
    | with_reducible apply postLogged_frame | with_reducible apply post_frame | with_reducible apply frame_ite
    | exact part_sub hw (by decide) | split | (intro _ _ _) | (intro _ _) | (intro _)

theorem thermSample_frame {w : List Part} {r : State} (temp : Half) (s : State) (h : Confined w r s)
    (hw : [.sys, .sup, .ring, .evtLost, .mortar, .repair, .scarab, .rx, .radio, .net, .draws] ⊆ w
          := by first | assumption | exact part_sub ‹_› (by decide) | decide) :
    Confined w r (thermSample temp s) := by
  unfold thermSample
  try dsimp only
  repeat first
    | with_reducible exact h | with_reducible assumption | with_reducible apply senseLost_frame
    | with_reducible apply judgeTherm_frame | with_reducible apply frame_ite | exact part_sub hw (by decide) | split
    | fail_if_no_progress with_reducible refine frame_mk hw ?_ | (intro _ _ _) | (intro _ _) | (intro _)

theorem fullCommit_frame {w : List Part} {r : State} (fails : List (Nat × Bool)) (s : State) (h : Confined w r s)
    (hw : [.mortar, .jrn, .pulse, .hod] ⊆ w := by first | assumption | exact part_sub ‹_› (by decide) | decide) :
    Confined w r (fullCommit fails s) := by
  unfold fullCommit
  try dsimp only
  repeat first
    | with_reducible exact h | with_reducible assumption | with_reducible apply commitStage_frame
    | with_reducible apply frame_ite | exact part_sub hw (by decide) | split
    | fail_if_no_progress with_reducible refine frame_mk hw ?_ | (intro _ _ _) | (intro _ _) | (intro _)

theorem powerFail_frame {w : List Part} {r : State} (run : CommitRun) (s : State) (h : Confined w r s)
    (hw : [.mortar, .jrn, .pulse, .hod] ⊆ w := by first | assumption | exact part_sub ‹_› (by decide) | decide) :
    Confined w r (powerFail run s) := by
  unfold powerFail
  try dsimp only
  repeat first
    | with_reducible exact h | with_reducible assumption | with_reducible apply fullCommit_frame
    | with_reducible apply frame_ite | exact part_sub hw (by decide) | split
    | fail_if_no_progress with_reducible refine frame_mk hw ?_ | (intro _ _ _) | (intro _ _) | (intro _)

theorem enterBod_frame {w : List Part} {r : State} (run : CommitRun) (s : State) (h : Confined w r s)
    (hw : [.sup, .ring, .evtLost, .mortar, .jrn, .repair, .scarab, .rx, .radio, .net, .pulse, .hod, .clk, .draws] ⊆ w
      := by first | assumption | exact part_sub ‹_› (by decide) | decide) :
    Confined w r (enterBod run s) := by
  have hm : ∀ t a b, Confined w r t → Confined w r { t with sup := a, repair := b } := fun t a b h => frame_mk hw h
  unfold enterBod
  extract_lets on t
  have ht : Confined w r t := halt_frame _ _ (loseCommits_frame _ (post_frame _ _ _ _ h))
  exact powerFail_frame _ _ (frame_ite (fallTo_frame _ _ (hm _ _ _ ht)) (hm _ _ _ ht))

theorem bodWarn_frame {w : List Part} {r : State} (vin : Half) (run : CommitRun) (s : State) (h : Confined w r s)
    (hw : [.sup, .ring, .evtLost, .mortar, .jrn, .repair, .scarab, .rx, .radio, .net, .pulse, .hod, .clk, .draws] ⊆ w
          := by first | assumption | exact part_sub ‹_› (by decide) | decide) :
    Confined w r (bodWarn vin run s) := by
  unfold bodWarn
  try dsimp only
  repeat first
    | with_reducible exact h | with_reducible assumption | with_reducible apply enterBod_frame
    | with_reducible apply frame_ite | exact part_sub hw (by decide) | split
    | fail_if_no_progress with_reducible refine frame_mk hw ?_ | (intro _ _ _) | (intro _ _) | (intro _)

theorem bodWarnClear_frame {w : List Part} {r : State} (vin : Half) (s : State) (h : Confined w r s)
    (hw : [.sup, .ring, .evtLost, .scarab, .rx, .radio, .swarm, .net, .pins, .draws] ⊆ w
          := by first | assumption | exact part_sub ‹_› (by decide) | decide) :
    Confined w r (bodWarnClear vin s) := by
  unfold bodWarnClear
  try dsimp only
  repeat first
    | with_reducible exact h | with_reducible assumption | with_reducible apply post_frame
    | with_reducible apply judgeOff_frame | with_reducible apply startRx_frame
    | with_reducible apply autoReceive_frame | with_reducible apply frame_ite | exact part_sub hw (by decide) | split
    | fail_if_no_progress with_reducible refine frame_mk hw ?_ | (intro _ _ _) | (intro _ _) | (intro _)

theorem vinReversal_frame {w : List Part} {r : State} (run : CommitRun) (s : State) (h : Confined w r s)
    (hw : [.sup, .ring, .evtLost, .mortar, .jrn, .repair, .scarab, .rx, .radio, .net, .pulse, .hod, .pins, .clk, .draws] ⊆ w
          := by first | assumption | exact part_sub ‹_› (by decide) | decide) :
    Confined w r (vinReversal run s) := by
  unfold vinReversal
  try dsimp only
  repeat first
    | with_reducible exact h | with_reducible assumption | with_reducible apply freeBits_frame
    | with_reducible apply enterBod_frame | with_reducible apply frame_ite | exact part_sub hw (by decide) | split
    | fail_if_no_progress with_reducible refine frame_mk hw ?_ | (intro _ _ _) | (intro _ _) | (intro _)

theorem iovddLoss_frame {w : List Part} {r : State} (bank : IoBank) (s : State) (h : Confined w r s)
    (hw : [.field, .qe, .pins] ⊆ w := by first | assumption | exact part_sub ‹_› (by decide) | decide) :
    Confined w r (iovddLoss bank s) := by
  unfold iovddLoss
  try dsimp only
  repeat first
    | with_reducible exact h | with_reducible assumption | with_reducible apply frame_ite
    | exact part_sub hw (by decide) | split | fail_if_no_progress with_reducible refine frame_mk hw ?_ | (intro _ _ _)
    | (intro _ _) | (intro _)

theorem iovddReturn_frame {w : List Part} {r : State} (bank : IoBank) (s : State) (h : Confined w r s)
    (hw : [.sup, .pins] ⊆ w := by first | assumption | exact part_sub ‹_› (by decide) | decide) :
    Confined w r (iovddReturn bank s) := by
  unfold iovddReturn
  try dsimp only
  repeat first
    | with_reducible exact h | with_reducible assumption | with_reducible apply requestWake_frame
    | with_reducible apply frame_ite | exact part_sub hw (by decide) | split
    | fail_if_no_progress with_reducible refine frame_mk hw ?_ | (intro _ _ _) | (intro _ _) | (intro _)

theorem measureLf_frame {w : List Part} {r : State} (s : State) (h : Confined w r s)
    (hw : [.clk, .draws] ⊆ w := by first | assumption | exact part_sub ‹_› (by decide) | decide) :
    Confined w r (measureLf s) := by
  unfold measureLf
  try dsimp only
  repeat first
    | with_reducible exact h | with_reducible assumption | with_reducible apply frame_ite
    | exact part_sub hw (by decide) | split | fail_if_no_progress with_reducible refine frame_mk hw ?_ | (intro _ _ _)
    | (intro _ _) | (intro _)

theorem stopClocks_frame {w : List Part} {r : State} (power : PowerState) (s : State) (h : Confined w r s)
    (hw : [.sup, .rx, .radio, .clk, .draws] ⊆ w := by first | assumption | exact part_sub ‹_› (by decide) | decide) :
    Confined w r (stopClocks power s) := by
  unfold stopClocks
  try dsimp only
  repeat first
    | with_reducible exact h | with_reducible assumption | with_reducible apply measureLf_frame
    | with_reducible apply frame_ite | exact part_sub hw (by decide) | split
    | fail_if_no_progress with_reducible refine frame_mk hw ?_ | (intro _ _ _) | (intro _ _) | (intro _)

theorem sealWaiting_frame {w : List Part} {r : State} (stage : Bool) (s : State) (h : Confined w r s)
    (hw : [.mortar, .jrn] ⊆ w := by first | assumption | exact part_sub ‹_› (by decide) | decide) :
    Confined w r (sealWaiting stage s) := by
  unfold sealWaiting
  try dsimp only
  repeat first
    | with_reducible exact h | with_reducible assumption | with_reducible apply stageWaiting_frame
    | with_reducible apply frame_ite | exact part_sub hw (by decide) | split
    | fail_if_no_progress with_reducible refine frame_mk hw ?_ | (intro _ _ _) | (intro _ _) | (intro _)

theorem enterShutdown_frame {w : List Part} {r : State} (s : State) (h : Confined w r s)
    (hw : [.sys, .sup, .mortar, .jrn, .rx, .radio, .pulse, .hod, .clk, .draws] ⊆ w
          := by first | assumption | exact part_sub ‹_› (by decide) | decide) :
    Confined w r (enterShutdown s) := by
  unfold enterShutdown
  try dsimp only
  repeat first
    | with_reducible exact h | with_reducible assumption | with_reducible apply sealWaiting_frame
    | with_reducible apply fullCommit_frame | with_reducible apply stopClocks_frame | with_reducible apply frame_ite
    | exact part_sub hw (by decide) | split | fail_if_no_progress with_reducible refine frame_mk hw ?_ | (intro _ _ _)
    | (intro _ _) | (intro _)

theorem enterDormant_frame {w : List Part} {r : State} (power : PowerState) (s : State) (h : Confined w r s)
    (hw : [.sup, .mortar, .jrn, .qe, .rx, .radio, .clk, .draws] ⊆ w
          := by first | assumption | exact part_sub ‹_› (by decide) | decide) :
    Confined w r (enterDormant power s) := by
  unfold enterDormant
  try dsimp only
  repeat first
    | with_reducible exact h | with_reducible assumption | with_reducible apply sealWaiting_frame
    | with_reducible apply retireEntry_frame | with_reducible apply advanceGen_frame
    | with_reducible apply stopClocks_frame | with_reducible apply frame_ite | exact part_sub hw (by decide) | split
    | fail_if_no_progress with_reducible refine frame_mk hw ?_ | with_reducible apply foldl_frame | (intro _ _ _)
    | (intro _ _) | (intro _)

theorem enterSleep_frame {w : List Part} {r : State} (code : Nat) (s : State) (h : Confined w r s)
    (hw : [.sys, .sup, .ring, .evtLost, .mortar, .jrn, .qe, .repair, .rx, .radio, .pulse, .hod, .clk, .draws] ⊆ w
          := by first | assumption | exact part_sub ‹_› (by decide) | decide) :
    Confined w r (enterSleep code s) := by
  unfold enterSleep
  try dsimp only
  repeat first
    | with_reducible exact h | with_reducible assumption | with_reducible apply migrationEnd_frame
    | with_reducible apply enterShutdown_frame | with_reducible apply enterDormant_frame
    | with_reducible apply frame_ite | exact part_sub hw (by decide) | split
    | fail_if_no_progress with_reducible refine frame_mk hw ?_ | with_reducible apply foldl_frame | (intro _ _ _)
    | (intro _ _) | (intro _)

theorem finishSleep_frame {w : List Part} {r : State} (s : State) (h : Confined w r s)
    (hw : [.sys, .sup, .ring, .evtLost, .mortar, .jrn, .qe, .repair, .rx, .radio, .pulse, .hod, .clk, .draws] ⊆ w
          := by first | assumption | exact part_sub ‹_› (by decide) | decide) :
    Confined w r (finishSleep s) := by
  unfold finishSleep
  try dsimp only
  repeat first
    | with_reducible exact h | with_reducible assumption | with_reducible apply enterSleep_frame
    | with_reducible apply frame_ite | exact part_sub hw (by decide) | split
    | fail_if_no_progress with_reducible refine frame_mk hw ?_ | (intro _ _ _) | (intro _ _) | (intro _)

theorem requestSleep_frame {w : List Part} {r : State} (code : Fin 8) (s : State) (h : Confined w r s)
    (hw : [.sys, .sup, .ring, .evtLost, .mortar, .jrn, .qe, .repair, .rx, .radio, .pulse, .hod, .clk, .draws] ⊆ w
          := by first | assumption | exact part_sub ‹_› (by decide) | decide) :
    Confined w r (requestSleep code s) := by
  unfold requestSleep
  try dsimp only
  repeat first
    | with_reducible exact h | with_reducible assumption | with_reducible apply finishSleep_frame
    | with_reducible apply frame_ite | exact part_sub hw (by decide) | split
    | fail_if_no_progress with_reducible refine frame_mk hw ?_ | (intro _ _ _) | (intro _ _) | (intro _)

theorem reachIdle_frame {w : List Part} {r : State} (s : State) (h : Confined w r s)
    (hw : [.sup, .ring, .evtLost, .scarab, .rx, .radio, .draws] ⊆ w
          := by first | assumption | exact part_sub ‹_› (by decide) | decide) :
    Confined w r (reachIdle s) := by
  unfold reachIdle
  try dsimp only
  repeat first
    | with_reducible exact h | with_reducible assumption | with_reducible apply autoReceive_frame
    | with_reducible apply gotoIdle_frame | with_reducible apply frame_ite | exact part_sub hw (by decide) | split
    | fail_if_no_progress with_reducible refine frame_mk hw ?_ | (intro _ _ _) | (intro _ _) | (intro _)

theorem wakeIdle_frame {w : List Part} {r : State} (sources : BitVec 7) (s : State) (h : Confined w r s)
    (hw : [.sup, .ring, .evtLost, .mortar, .scarab, .rx, .radio, .pulse, .hod, .clk, .draws] ⊆ w
          := by first | assumption | exact part_sub ‹_› (by decide) | decide) :
    Confined w r (wakeIdle sources s) := by
  unfold wakeIdle
  try dsimp only
  repeat first
    | with_reducible exact h | with_reducible assumption | with_reducible apply fallTo_frame
    | with_reducible apply stageCkpt_frame | with_reducible apply reachIdle_frame | with_reducible apply frame_ite
    | exact part_sub hw (by decide) | split | fail_if_no_progress with_reducible refine frame_mk hw ?_ | (intro _ _ _)
    | (intro _ _) | (intro _)

theorem xoStart_frame {w : List Part} {r : State} (s : State) (h : Confined w r s)
    (hw : [.clk] ⊆ w := by first | assumption | exact part_sub ‹_› (by decide) | decide) :
    Confined w r (xoStart s) := by
  unfold xoStart
  try dsimp only
  repeat first
    | with_reducible exact h | with_reducible assumption | with_reducible apply frame_ite
    | exact part_sub hw (by decide) | split | fail_if_no_progress with_reducible refine frame_mk hw ?_ | (intro _ _ _)
    | (intro _ _) | (intro _)

theorem pllLock_frame {w : List Part} {r : State} (s : State) (h : Confined w r s)
    (hw : [.sup, .ring, .evtLost, .jrn, .scarab, .rx, .radio, .swarm, .net, .sec, .clk, .draws] ⊆ w
          := by first | assumption | exact part_sub ‹_› (by decide) | decide) :
    Confined w r (pllLock s) := by
  unfold pllLock
  try dsimp only
  repeat first
    | with_reducible exact h | with_reducible assumption | with_reducible apply reachIdle_frame
    | with_reducible apply leaveSynthUp_frame | with_reducible apply frame_ite | exact part_sub hw (by decide) | split
    | fail_if_no_progress with_reducible refine frame_mk hw ?_ | (intro _ _ _) | (intro _ _) | (intro _)

theorem lfxoQualified_frame {w : List Part} {r : State} (s : State) (h : Confined w r s)
    (hw : [.clk] ⊆ w := by first | assumption | exact part_sub ‹_› (by decide) | decide) :
    Confined w r (lfxoQualified s) := by
  unfold lfxoQualified
  try dsimp only
  repeat first
    | with_reducible exact h | with_reducible assumption | with_reducible apply frame_ite
    | exact part_sub hw (by decide) | split | fail_if_no_progress with_reducible refine frame_mk hw ?_ | (intro _ _ _)
    | (intro _ _) | (intro _)

theorem xoFail_frame {w : List Part} {r : State} (s : State) (h : Confined w r s)
    (hw : [.sys, .sup, .ring, .evtLost, .mortar, .repair, .scarab, .rx, .radio, .net, .tb, .clk, .draws] ⊆ w
          := by first | assumption | exact part_sub ‹_› (by decide) | decide) :
    Confined w r (xoFail s) := by
  unfold xoFail
  try dsimp only
  repeat first
    | with_reducible exact h | with_reducible assumption | with_reducible apply freeBits_frame
    | with_reducible apply postLogged_frame | with_reducible apply enterSafe_frame | with_reducible apply halt_frame
    | with_reducible apply frame_ite | exact part_sub hw (by decide) | split
    | fail_if_no_progress with_reducible refine frame_mk hw ?_ | (intro _ _ _) | (intro _ _) | (intro _)

theorem stopPll_frame {w : List Part} {r : State} (s : State) (h : Confined w r s)
    (hw : [.sup, .ring, .evtLost, .scarab, .rx, .radio, .tb, .clk, .draws] ⊆ w
          := by first | assumption | exact part_sub ‹_› (by decide) | decide) :
    Confined w r (stopPll s) := by
  unfold stopPll
  try dsimp only
  repeat first
    | with_reducible exact h | with_reducible assumption | with_reducible apply freeBits_frame
    | with_reducible apply reachIdle_frame | with_reducible apply fallTo_frame | with_reducible apply frame_ite
    | exact part_sub hw (by decide) | split | fail_if_no_progress with_reducible refine frame_mk hw ?_ | (intro _ _ _)
    | (intro _ _) | (intro _)

theorem lockTimeout_frame {w : List Part} {r : State} (s : State) (h : Confined w r s)
    (hw : [.sys, .sup, .ring, .evtLost, .mortar, .repair, .scarab, .rx, .radio, .net, .tb, .clk, .draws] ⊆ w
          := by first | assumption | exact part_sub ‹_› (by decide) | decide) :
    Confined w r (lockTimeout s) := by
  unfold lockTimeout
  try dsimp only
  repeat first
    | with_reducible exact h | with_reducible assumption | with_reducible apply stopPll_frame
    | with_reducible apply xoFail_frame | with_reducible apply frame_ite | exact part_sub hw (by decide) | split
    | fail_if_no_progress with_reducible refine frame_mk hw ?_ | (intro _ _ _) | (intro _ _) | (intro _)

theorem lfxoFailure_frame {w : List Part} {r : State} (s : State) (h : Confined w r s)
    (hw : [.ring, .evtLost, .mortar, .repair, .clk] ⊆ w
          := by first | assumption | exact part_sub ‹_› (by decide) | decide) :
    Confined w r (lfxoFailure s) := by
  unfold lfxoFailure
  try dsimp only
  repeat first
    | with_reducible exact h | with_reducible assumption | with_reducible apply postLogged_frame
    | with_reducible apply frame_ite | exact part_sub hw (by decide) | split
    | fail_if_no_progress with_reducible refine frame_mk hw ?_ | (intro _ _ _) | (intro _ _) | (intro _)

theorem unlock_frame {w : List Part} {r : State} (s : State) (h : Confined w r s)
    (hw : [.sup, .ring, .evtLost, .mortar, .repair, .scarab, .rx, .radio, .net, .clk, .draws] ⊆ w
          := by first | assumption | exact part_sub ‹_› (by decide) | decide) :
    Confined w r (unlock s) := by
  unfold unlock
  try dsimp only
  repeat first
    | with_reducible exact h | with_reducible assumption | with_reducible apply postLogged_frame
    | with_reducible apply halt_frame | with_reducible apply startRx_frame | with_reducible apply frame_ite
    | exact part_sub hw (by decide) | split | fail_if_no_progress with_reducible refine frame_mk hw ?_ | (intro _ _ _)
    | (intro _ _) | (intro _)

theorem lossOfLock_frame {w : List Part} {r : State} (within10s : Bool) (s : State) (h : Confined w r s)
    (hw : [.sys, .sup, .ring, .evtLost, .mortar, .repair, .scarab, .rx, .radio, .net, .tb, .clk, .draws] ⊆ w
          := by first | assumption | exact part_sub ‹_› (by decide) | decide) :
    Confined w r (lossOfLock within10s s) := by
  unfold lossOfLock
  try dsimp only
  repeat first
    | with_reducible exact h | with_reducible assumption | with_reducible apply stopPll_frame
    | with_reducible apply unlock_frame | with_reducible apply xoFail_frame | with_reducible apply frame_ite
    | exact part_sub hw (by decide) | split | fail_if_no_progress with_reducible refine frame_mk hw ?_ | (intro _ _ _)
    | (intro _ _) | (intro _)

theorem rcCalibration_frame {w : List Part} {r : State} (hfrc lfrc : BitVec 10) (s : State) (h : Confined w r s)
    (hw : [.clk] ⊆ w := by first | assumption | exact part_sub ‹_› (by decide) | decide) :
    Confined w r (rcCalibration hfrc lfrc s) := by
  unfold rcCalibration
  try dsimp only
  repeat first
    | with_reducible exact h | with_reducible assumption | with_reducible apply frame_ite
    | exact part_sub hw (by decide) | split | fail_if_no_progress with_reducible refine frame_mk hw ?_ | (intro _ _ _)
    | (intro _ _) | (intro _)

theorem deferredGate_frame {w : List Part} {r : State} (n : Nat) (s : State) (h : Confined w r s)
    (hw : [.sup, .ring, .evtLost, .scarab, .rx, .radio, .swarm, .net, .clk, .draws] ⊆ w
          := by first | assumption | exact part_sub ‹_› (by decide) | decide) :
    Confined w r (deferredGate n s) := by
  unfold deferredGate
  try dsimp only
  repeat first
    | with_reducible exact h | with_reducible assumption | with_reducible apply judgeOff_frame
    | with_reducible apply gateBlock_frame | with_reducible apply frame_ite | exact part_sub hw (by decide) | split
    | (intro _ _ _) | (intro _ _) | (intro _)

theorem powerGood_frame {w : List Part} {r : State} (d : Nat) (s : State) (h : Confined w r s)
    (hw : [.sup, .ring, .evtLost, .rx, .radio, .clk, .draws] ⊆ w
          := by first | assumption | exact part_sub ‹_› (by decide) | decide) :
    Confined w r (powerGood d s) := by
  unfold powerGood
  try dsimp only
  repeat first
    | with_reducible exact h | with_reducible assumption | with_reducible apply autoReceive_frame
    | with_reducible apply frame_ite | exact part_sub hw (by decide) | split
    | fail_if_no_progress with_reducible refine frame_mk hw ?_ | with_reducible apply foldl_frame | (intro _ _ _)
    | (intro _ _) | (intro _)

theorem recompute_frame {w : List Part} {r : State} (keys : List Nat) (s : State) (h : Confined w r s)
    (hw : [.sys, .sup, .live, .ring, .evtLost, .field, .qe, .scarab, .rx, .radio, .swarm, .net, .tb, .timer, .pulse, .clk, .draws] ⊆ w
          := by first | assumption | exact part_sub ‹_› (by decide) | decide) :
    Confined w r (recompute keys s) := by
  unfold recompute
  try dsimp only
  repeat first
    | with_reducible exact h | with_reducible assumption | with_reducible apply setEntry_frame
    | with_reducible apply frame_ite | exact part_sub hw (by decide) | split
    | fail_if_no_progress with_reducible refine frame_mk hw ?_ | with_reducible apply foldl_frame | (intro _ _ _)
    | (intro _ _) | (intro _)

theorem switchCourse_frame {w : List Part} {r : State} (target : Fin 16) (cause : Nat) (s : State) (h : Confined w r s)
    (hw : [.sys, .boot, .sup, .live, .ring, .evtLost, .field, .courses, .qe, .scarab, .rx, .radio, .swarm, .net, .tb, .timer, .pulse, .clk, .draws] ⊆ w
          := by first | assumption | exact part_sub ‹_› (by decide) | decide) :
    Confined w r (switchCourse target cause s) := by
  unfold switchCourse
  try dsimp only
  repeat first
    | with_reducible exact h | with_reducible assumption | with_reducible apply recompute_frame
    | with_reducible apply post_frame | with_reducible apply frame_ite | exact part_sub hw (by decide) | split
    | fail_if_no_progress with_reducible refine frame_mk hw ?_ | (intro _ _ _) | (intro _ _) | (intro _)

theorem pendingSwitch_frame {w : List Part} {r : State} (s : State) (h : Confined w r s)
    (hw : [.sys, .boot, .sup, .live, .ring, .evtLost, .field, .courses, .qe, .scarab, .rx, .radio, .swarm, .net, .tb, .timer, .pulse, .clk, .draws] ⊆ w
          := by first | assumption | exact part_sub ‹_› (by decide) | decide) :
    Confined w r (pendingSwitch s) := by
  unfold pendingSwitch
  try dsimp only
  repeat first
    | with_reducible exact h | with_reducible assumption | with_reducible apply switchCourse_frame
    | with_reducible apply frame_ite | exact part_sub hw (by decide) | split | (intro _ _ _) | (intro _ _) | (intro _)

theorem enterState_frame {w : List Part} {r : State} (code : Nat) (s : State) (h : Confined w r s)
    (hw : [.sys, .sup, .ring, .evtLost, .scarab, .rx, .radio, .swarm, .net, .draws] ⊆ w
          := by first | assumption | exact part_sub ‹_› (by decide) | decide) :
    Confined w r (enterState code s) := by
  unfold enterState
  try dsimp only
  repeat first
    | with_reducible exact h | with_reducible assumption | with_reducible apply cancelDets_frame
    | with_reducible apply endAttempt_frame | with_reducible apply enterRun_frame
    | with_reducible apply autoReceive_frame | with_reducible apply frame_ite | exact part_sub hw (by decide) | split
    | fail_if_no_progress with_reducible refine frame_mk hw ?_ | (intro _ _ _) | (intro _ _) | (intro _)

theorem respond_frame {w : List Part} {r0 : State} (r : Request) (code : Half) (value : Bytes) (s : State)
    (h : Confined w r0 s)
    (hw : [.spi, .field, .net] ⊆ w := by first | assumption | exact part_sub ‹_› (by decide) | decide) :
    Confined w r0 (respond r code value s) := by
  unfold respond
  try dsimp only
  repeat first
    | with_reducible exact h | with_reducible assumption | with_reducible apply frame_ite
    | exact part_sub hw (by decide) | split | fail_if_no_progress with_reducible refine frame_mk hw ?_ | (intro _ _ _)
    | (intro _ _) | (intro _)

theorem gateError_frame {w : List Part} {r : State} (addr block : Nat) (write dict : Bool) (source : Nat) (s : State)
    (h : Confined w r s)
    (hw : [.ring, .evtLost, .clk] ⊆ w := by first | assumption | exact part_sub ‹_› (by decide) | decide) :
    Confined w r (gateError addr block write dict source s) := by
  unfold gateError
  try dsimp only
  repeat first
    | with_reducible exact h | with_reducible assumption | with_reducible apply post_frame
    | with_reducible apply frame_ite | exact part_sub hw (by decide) | split
    | fail_if_no_progress with_reducible refine frame_mk hw ?_ | (intro _ _ _) | (intro _ _) | (intro _)

theorem refuse_frame {w : List Part} {r0 : State} (r : Request) (v : Verdict) (s : State) (h : Confined w r0 s)
    (hw : [.sys, .ring, .evtLost, .spi, .field, .engine, .courses, .mortar, .repair, .net, .sec, .clk] ⊆ w
          := by first | assumption | exact part_sub ‹_› (by decide) | decide) :
    Confined w r0 (refuse r v s) := by
  unfold refuse
  try dsimp only
  repeat first
    | with_reducible exact h | with_reducible assumption | with_reducible apply respond_frame
    | with_reducible apply gateError_frame | with_reducible apply illegalState_frame
    | with_reducible apply lockViolation_frame | with_reducible apply frame_ite | exact part_sub hw (by decide)
    | split | fail_if_no_progress with_reducible refine frame_mk hw ?_ | (intro _ _ _) | (intro _ _) | (intro _)

theorem writeEffect_frame {w : List Part} {r0 : State} (r : Request) (codes : List AdcCode) (s : State)
    (h : Confined w r0 s)
    (hw : wide ⊆ w := by first | assumption | exact part_sub ‹_› (by decide) | decide) :
    Confined w r0 (writeEffect r codes s) := by
  unfold writeEffect
  try dsimp only
  repeat first
    | with_reducible exact h | with_reducible assumption | with_reducible apply radioCommand_frame
    | with_reducible apply purge_frame | with_reducible apply snapshot_frame | with_reducible apply staggerGo_frame
    | with_reducible apply clearCmpStat_frame | with_reducible apply adcBegin_frame
    | with_reducible apply telemClear_frame | with_reducible apply setDreq_frame | with_reducible apply setEntry_frame
    | with_reducible apply frame_ite | exact part_sub hw (by decide) | split
    | fail_if_no_progress with_reducible refine frame_mk hw ?_ | (intro _ _ _) | (intro _ _) | (intro _)

theorem sealedEffect_frame {w : List Part} {r : State} (key : Nat) (value : Bytes) (s : State) (h : Confined w r s)
    (hw : [.sys, .sup, .live, .ring, .evtLost, .field, .courses, .qe, .scarab, .rx, .radio, .swarm, .net, .tb, .sec, .timer, .pulse, .clk, .draws] ⊆ w
          := by first | assumption | exact part_sub ‹_› (by decide) | decide) :
    Confined w r (sealedEffect key value s) := by
  unfold sealedEffect
  try dsimp only
  repeat first
    | with_reducible exact h | with_reducible assumption | with_reducible apply setQueue_frame
    | with_reducible apply setLive_frame | with_reducible apply setEntry_frame | with_reducible apply frame_ite
    | exact part_sub hw (by decide) | split | fail_if_no_progress with_reducible refine frame_mk hw ?_ | (intro _ _ _)
    | (intro _ _) | (intro _)

theorem readEffect_frame {w : List Part} {r : State} (key : Nat) (s : State) (h : Confined w r s)
    (hw : [.timer] ⊆ w := by first | assumption | exact part_sub ‹_› (by decide) | decide) :
    Confined w r (readEffect key s) := by
  unfold readEffect
  try dsimp only
  repeat first
    | with_reducible exact h | with_reducible assumption | with_reducible apply clearNew_frame
    | with_reducible apply frame_ite | split | (intro _ _ _) | (intro _ _) | (intro _)

theorem askSeal_frame {w : List Part} {r0 : State} (r : Request) (recs : List NewRec) (s : State) (h : Confined w r0 s)
    (hw : [.sys, .engine, .mortar, .qe] ⊆ w := by first | assumption | exact part_sub ‹_› (by decide) | decide) :
    Confined w r0 (askSeal r recs s) := by
  unfold askSeal
  try dsimp only
  repeat first
    | with_reducible exact h | with_reducible assumption | with_reducible apply frame_ite
    | exact part_sub hw (by decide) | split | fail_if_no_progress with_reducible refine frame_mk hw ?_ | (intro _ _ _)
    | (intro _ _) | (intro _)

theorem transitionAt_frame {w : List Part} {r : State} (addr sub : Nat) (dict : Bool) (source code : Nat) (s : State)
    (h : Confined w r s)
    (hw : [.sys, .boot, .sup, .live, .ring, .evtLost, .field, .engine, .courses, .qe, .scarab, .rx, .radio, .swarm, .net, .tb, .timer, .pulse, .clk, .draws] ⊆ w
          := by first | assumption | exact part_sub ‹_› (by decide) | decide) :
    Confined w r (transitionAt addr sub dict source code s).2 := by
  unfold transitionAt
  try dsimp only
  repeat first
    | with_reducible exact h | with_reducible assumption | with_reducible apply pendingSwitch_frame
    | with_reducible apply enterState_frame | with_reducible apply illegalState_frame | with_reducible apply frame_ite
    | exact part_sub hw (by decide) | split | (intro _ _ _) | (intro _ _) | (intro _)

theorem perform_frame {w : List Part} {r0 : State} (r : Request) (codes : List AdcCode) (s : State) (h : Confined w r0 s)
    (hw : wide ⊆ w := by first | assumption | exact part_sub ‹_› (by decide) | decide) :
    Confined w r0 (perform r codes s) := by
  unfold perform
  try dsimp only
  repeat first
    | with_reducible exact h | with_reducible assumption | with_reducible apply respond_frame
    | with_reducible apply readEffect_frame | with_reducible apply transitionAt_frame
    | with_reducible apply requestSleep_frame | with_reducible apply askSeal_frame
    | with_reducible apply writeEffect_frame | with_reducible apply frame_ite | exact part_sub hw (by decide) | split
    | fail_if_no_progress with_reducible refine frame_mk hw ?_ | (intro _ _ _) | (intro _ _) | (intro _)

theorem serve_frame {w : List Part} {r0 : State} (r : Request) (codes : List AdcCode) (s : State) (h : Confined w r0 s)
    (hw : wide ⊆ w := by first | assumption | exact part_sub ‹_› (by decide) | decide) :
    Confined w r0 (serve r codes s) := by
  unfold serve
  try dsimp only
  repeat first
    | with_reducible exact h | with_reducible assumption | with_reducible apply perform_frame
    | with_reducible apply refuse_frame | with_reducible apply frame_ite | exact part_sub hw (by decide) | split
    | (intro _ _ _) | (intro _ _) | (intro _)

theorem drain_frame {w : List Part} {r : State} (n : Nat) (s : State) (h : Confined w r s)
    (hw : wide ⊆ w := by first | assumption | exact part_sub ‹_› (by decide) | decide) : Confined w r (drain n s) := by
  induction n generalizing s with
  | zero => exact h
  | succ n ih =>
    unfold drain
    refine frame_ite h ?_
    split
    · exact ih _ (serve_frame _ _ _ (frame_mk hw h))
    · exact h

theorem reach_frame {w : List Part} {r0 : State} (r : Request) (codes : List AdcCode) (s : State) (h : Confined w r0 s)
    (hw : wide ⊆ w := by first | assumption | exact part_sub ‹_› (by decide) | decide) :
    Confined w r0 (reach r codes s) := by
  unfold reach
  try dsimp only
  repeat first
    | with_reducible exact h | with_reducible assumption | with_reducible apply serve_frame
    | with_reducible apply frame_ite | exact part_sub hw (by decide) | split
    | fail_if_no_progress with_reducible refine frame_mk hw ?_ | (intro _ _ _) | (intro _ _) | (intro _)

theorem present_frame {w : List Part} {r : State} (f : State → State) (s : State)
    (hf : ∀ t, Confined w r t → Confined w r (f t)) (h : Confined w r s) :
    Confined w r (present f s) := frame_ite h (hf s h)

theorem submit_frame {w : List Part} {r0 : State} (r : Request) (codes : List AdcCode) (s : State) (h : Confined w r0 s)
    (hw : wide ⊆ w := by first | assumption | exact part_sub ‹_› (by decide) | decide) :
    Confined w r0 (submit r codes s) := by
  unfold submit
  try dsimp only
  repeat first
    | with_reducible exact h | with_reducible assumption | with_reducible apply spiError_frame
    | with_reducible apply reach_frame | with_reducible apply frame_ite | exact part_sub hw (by decide) | split
    | fail_if_no_progress with_reducible refine frame_mk hw ?_ | (intro _ _ _) | (intro _ _) | (intro _)

theorem atBoundaryWork_frame {w : List Part} {r : State} (s : State) (h : Confined w r s)
    (hw : [.sys, .boot, .sup, .live, .ring, .evtLost, .field, .engine, .courses, .qe, .scarab, .rx, .radio, .swarm, .net, .tb, .timer, .pulse, .clk, .draws] ⊆ w
          := by first | assumption | exact part_sub ‹_› (by decide) | decide) :
    Confined w r (atBoundaryWork s) := by
  unfold atBoundaryWork
  try dsimp only
  repeat first
    | with_reducible exact h | with_reducible assumption | with_reducible apply pendingSwitch_frame
    | with_reducible apply transitionAt_frame | with_reducible apply frame_ite | exact part_sub hw (by decide) | split
    | fail_if_no_progress with_reducible refine frame_mk hw ?_ | (intro _ _ _) | (intro _ _) | (intro _)

theorem ownConfig_frame {w : List Part} {r0 : State} (r : Request) (s : State) (h : Confined w r0 s)
    (hw : [.field] ⊆ w := by first | assumption | exact part_sub ‹_› (by decide) | decide) :
    Confined w r0 (ownConfig r s) := by
  unfold ownConfig
  try dsimp only
  repeat first
    | with_reducible exact h | with_reducible assumption | with_reducible apply frame_ite
    | exact part_sub hw (by decide) | split | fail_if_no_progress with_reducible refine frame_mk hw ?_ | (intro _ _ _)
    | (intro _ _) | (intro _)

theorem sealDone_frame {w : List Part} {r : State} (s : State) (h : Confined w r s)
    (hw : wide ⊆ w := by first | assumption | exact part_sub ‹_› (by decide) | decide) :
    Confined w r (sealDone s) := by
  unfold sealDone
  try dsimp only
  repeat first
    | with_reducible exact h | with_reducible assumption | with_reducible apply sealedEffect_frame
    | with_reducible apply ownConfig_frame | with_reducible apply drain_frame
    | with_reducible apply atBoundaryWork_frame | with_reducible apply respond_frame | with_reducible apply frame_ite
    | exact part_sub hw (by decide) | split | fail_if_no_progress with_reducible refine frame_mk hw ?_ | (intro _ _ _)
    | (intro _ _) | (intro _)

theorem sealFailed_frame {w : List Part} {r : State} (s : State) (h : Confined w r s)
    (hw : wide ⊆ w := by first | assumption | exact part_sub ‹_› (by decide) | decide) :
    Confined w r (sealFailed s) := by
  unfold sealFailed
  try dsimp only
  repeat first
    | with_reducible exact h | with_reducible assumption | with_reducible apply drain_frame
    | with_reducible apply atBoundaryWork_frame | with_reducible apply respond_frame | with_reducible apply frame_ite
    | exact part_sub hw (by decide) | split | fail_if_no_progress with_reducible refine frame_mk hw ?_ | (intro _ _ _)
    | (intro _ _) | (intro _)

theorem frameBoundary_frame {w : List Part} {r : State} (s : State) (h : Confined w r s)
    (hw : wide ⊆ w := by first | assumption | exact part_sub ‹_› (by decide) | decide) :
    Confined w r (frameBoundary s) := by
  unfold frameBoundary
  try dsimp only
  repeat first
    | with_reducible exact h | with_reducible assumption | with_reducible apply atBoundaryWork_frame
    | with_reducible apply transitionAt_frame | with_reducible apply drain_frame | with_reducible apply respond_frame
    | with_reducible apply sendFacks_frame | with_reducible apply settle_frame | with_reducible apply endSecond_frame
    | with_reducible apply cancelChanged_frame | with_reducible apply retuneRx_frame
    | with_reducible apply settingsInForce_frame | with_reducible apply frame_ite | exact part_sub hw (by decide)
    | split | fail_if_no_progress with_reducible refine frame_mk hw ?_ | (intro _ _ _) | (intro _ _) | (intro _)

theorem stall2_frame {w : List Part} {r : State} (s : State) (h : Confined w r s)
    (hw : [.mortar] ⊆ w := by first | assumption | exact part_sub ‹_› (by decide) | decide) :
    Confined w r (stall2 s) := by
  unfold stall2
  try dsimp only
  repeat first
    | with_reducible exact h | with_reducible assumption | with_reducible apply frame_ite
    | exact part_sub hw (by decide) | split | fail_if_no_progress with_reducible refine frame_mk hw ?_ | (intro _ _ _)
    | (intro _ _) | (intro _)

theorem stall3_frame {w : List Part} {r : State} (s : State) (h : Confined w r s)
    (hw : [.mortar] ⊆ w := by first | assumption | exact part_sub ‹_› (by decide) | decide) :
    Confined w r (stall3 s) := by
  unfold stall3
  try dsimp only
  repeat first
    | with_reducible exact h | with_reducible assumption | with_reducible apply frame_ite
    | exact part_sub hw (by decide) | split | fail_if_no_progress with_reducible refine frame_mk hw ?_ | (intro _ _ _)
    | (intro _ _) | (intro _)

theorem stall4_frame {w : List Part} {r : State} (s : State) (h : Confined w r s)
    (hw : [.mortar] ⊆ w := by first | assumption | exact part_sub ‹_› (by decide) | decide) :
    Confined w r (stall4 s) := by
  unfold stall4
  try dsimp only
  repeat first
    | with_reducible exact h | with_reducible assumption | with_reducible apply frame_ite
    | exact part_sub hw (by decide) | split | fail_if_no_progress with_reducible refine frame_mk hw ?_ | (intro _ _ _)
    | (intro _ _) | (intro _)

theorem recordStation_frame {w : List Part} {r : State} (a : Nat) (st : Station) (s : State) (h : Confined w r s)
    (hw : [.net] ⊆ w := by first | assumption | exact part_sub ‹_› (by decide) | decide) :
    Confined w r (recordStation a st s) := by
  unfold recordStation
  try dsimp only
  repeat first
    | with_reducible exact h | with_reducible assumption | with_reducible apply frame_ite
    | exact part_sub hw (by decide) | split | fail_if_no_progress with_reducible refine frame_mk hw ?_ | (intro _ _ _)
    | (intro _ _) | (intro _)

theorem joinCleared_frame {w : List Part} {r : State} (q : Nat) (st : Station) (tag : Half) (s : State) (h : Confined w r s)
    (hw : [.qe, .radio, .net] ⊆ w := by first | assumption | exact part_sub ‹_› (by decide) | decide) :
    Confined w r (joinCleared q st tag s) := by
  unfold joinCleared
  try dsimp only
  repeat first
    | with_reducible exact h | with_reducible assumption | with_reducible apply recordStation_frame
    | with_reducible apply setQueue_frame | with_reducible apply frame_ite | exact part_sub hw (by decide) | split
    | fail_if_no_progress with_reducible refine frame_mk hw ?_ | (intro _ _ _) | (intro _ _) | (intro _)

theorem joinUncleared_frame {w : List Part} {r : State} (tag : Half) (s : State) (h : Confined w r s)
    (hw : [.radio] ⊆ w := by first | assumption | exact part_sub ‹_› (by decide) | decide) :
    Confined w r (joinUncleared tag s) := by
  unfold joinUncleared
  try dsimp only
  repeat first
    | with_reducible exact h | with_reducible assumption | with_reducible apply frame_ite
    | exact part_sub hw (by decide) | split | fail_if_no_progress with_reducible refine frame_mk hw ?_ | (intro _ _ _)
    | (intro _ _) | (intro _)

theorem end2_frame {w : List Part} {r : State} (done : Bool) (s : State) (h : Confined w r s)
    (hw : wide ⊆ w := by first | assumption | exact part_sub ‹_› (by decide) | decide) :
    Confined w r (end2 done s) := by
  unfold end2
  try dsimp only
  repeat first
    | with_reducible exact h | with_reducible assumption | with_reducible apply finishSleep_frame
    | with_reducible apply sealDone_frame | with_reducible apply sealFailed_frame
    | with_reducible apply joinCleared_frame | with_reducible apply settle_frame
    | with_reducible apply joinUncleared_frame | with_reducible apply frame_ite | exact part_sub hw (by decide)
    | split | fail_if_no_progress with_reducible refine frame_mk hw ?_ | (intro _ _ _) | (intro _ _) | (intro _)

theorem append2_frame {w : List Part} {r : State} (a : Append2) (ending : AppendEnd) (s : State) (h : Confined w r s)
    (hw : wide ⊆ w := by first | assumption | exact part_sub ‹_› (by decide) | decide) :
    Confined w r (append2 a ending s) := by
  unfold append2
  try dsimp only
  repeat first
    | with_reducible exact h | with_reducible assumption | with_reducible apply stall2_frame
    | with_reducible apply end2_frame | with_reducible apply frame_ite | exact part_sub hw (by decide) | split
    | fail_if_no_progress with_reducible refine frame_mk hw ?_ | (intro _ _ _) | (intro _ _) | (intro _)

theorem freeStage_frame {w : List Part} {r : State} (n : Nat) (s : State) (h : Confined w r s)
    (hw : [.jrn] ⊆ w := by first | assumption | exact part_sub ‹_› (by decide) | decide) :
    Confined w r (freeStage n s) := by
  unfold freeStage
  try dsimp only
  repeat first
    | with_reducible exact h | with_reducible assumption | with_reducible apply stageWaiting_frame
    | with_reducible apply frame_ite | exact part_sub hw (by decide) | split
    | fail_if_no_progress with_reducible refine frame_mk hw ?_ | (intro _ _ _) | (intro _ _) | (intro _)

theorem append3_frame {w : List Part} {r : State} (n : Nat) (ending : AppendEnd) (s : State) (h : Confined w r s)
    (hw : [.mortar, .jrn] ⊆ w := by first | assumption | exact part_sub ‹_› (by decide) | decide) :
    Confined w r (append3 n ending s) := by
  unfold append3
  try dsimp only
  repeat first
    | with_reducible exact h | with_reducible assumption | with_reducible apply stall3_frame
    | with_reducible apply freeStage_frame | with_reducible apply frame_ite | exact part_sub hw (by decide) | split
    | fail_if_no_progress with_reducible refine frame_mk hw ?_ | (intro _ _ _) | (intro _ _) | (intro _)

theorem append4_frame {w : List Part} {r : State} (n : Nat) (ending : AppendEnd) (s : State) (h : Confined w r s)
    (hw : [.mortar] ⊆ w := by first | assumption | exact part_sub ‹_› (by decide) | decide) :
    Confined w r (append4 n ending s) := by
  unfold append4
  try dsimp only
  repeat first
    | with_reducible exact h | with_reducible assumption | with_reducible apply stall4_frame
    | with_reducible apply frame_ite | exact part_sub hw (by decide) | split
    | fail_if_no_progress with_reducible refine frame_mk hw ?_ | (intro _ _ _) | (intro _ _) | (intro _)

theorem stallLower_frame {w : List Part} {r : State} (three four : Bool) (s : State) (h : Confined w r s)
    (hw : [.mortar] ⊆ w := by first | assumption | exact part_sub ‹_› (by decide) | decide) :
    Confined w r (stallLower three four s) := by
  unfold stallLower
  try dsimp only
  repeat first
    | with_reducible exact h | with_reducible assumption | with_reducible apply stall3_frame
    | with_reducible apply stall4_frame | with_reducible apply frame_ite | split | (intro _ _ _) | (intro _ _)
    | (intro _)

theorem mortarAppend_frame {w : List Part} {r : State} (records : Nat) (ending : AppendEnd) (s : State) (h : Confined w r s)
    (hw : wide ⊆ w := by first | assumption | exact part_sub ‹_› (by decide) | decide) :
    Confined w r (mortarAppend records ending s) := by
  unfold mortarAppend
  try dsimp only
  repeat first
    | with_reducible exact h | with_reducible assumption | with_reducible apply tidyFlash_frame
    | with_reducible apply stallLower_frame | with_reducible apply stall2_frame | with_reducible apply append2_frame
    | with_reducible apply append3_frame | with_reducible apply append4_frame | with_reducible apply frame_ite
    | exact part_sub hw (by decide) | split | (intro _ _ _) | (intro _ _) | (intro _)

theorem compactPair_frame {w : List Part} {r : State} (p : Pair) (s t : State) (h : Confined w r s)
    (ht : compactPair p s = some t)
    (hw : [.mortar] ⊆ w := by first | assumption | exact part_sub ‹_› (by decide) | decide) :
    Confined w r t := by
  simp only [compactPair] at ht
  generalize (if p.full = true then s.mortar else closePair s.mortar) = m0 at ht
  split at ht
  · obtain rfl := Option.some.inj ht
    exact frame_mk hw h
  · cases ht

theorem refreshPair_frame {w : List Part} {r : State} (p : Pair) (reason : Nat) (s t : State) (h : Confined w r s)
    (ht : refreshPair p reason s = some t)
        (hw : [.ring, .evtLost, .mortar] ⊆ w := by first | assumption | exact part_sub ‹_› (by decide) | decide) :
        Confined w r t := by
  unfold refreshPair at ht
  split at ht
  · cases ht
  · rename_i u hu
    obtain rfl := Option.some.inj ht
    exact post_frame _ _ _ _ (frame_mk hw (compactPair_frame p s u h hu))

theorem compact_frame {w : List Part} {r : State} (s0 : State) (h0 : Confined w r s0)
    (hw : [.ring, .evtLost, .mortar, .repair] ⊆ w := by first | assumption | exact part_sub ‹_› (by decide) | decide) :
    Confined w r (compact s0) := by
  have h := tidyFlash_frame s0 h0
  unfold compact
  dsimp only
  generalize tidyFlash s0 = s at h
  apply frame_ite h0
  split
  · split
    · exact frame_getD _ _ h fun t => refreshPair_frame _ _ s t h
    · exact frame_mk hw h
  · apply frame_ite _ h
    split
    · exact frame_getD _ _ h fun t => refreshPair_frame _ _ s t h
    · split
      · exact frame_getD _ _ h fun t => compactPair_frame _ s t h
      · exact h

theorem hotRefresh_frame {w : List Part} {r : State} (s : State) (h : Confined w r s)
    (hw : [.ring, .evtLost, .mortar] ⊆ w := by first | assumption | exact part_sub ‹_› (by decide) | decide) : Confined
    w r (hotRefresh s) := by
  unfold hotRefresh
  apply frame_ite _ h
  exact foldl_frame _ _ _ h fun t p ht => frame_getD _ _ (frame_mk hw ht) fun u => refreshPair_frame _ _ t u ht

theorem damageRec_frame {w : List Part} {r : State} (p : Pair) (i : Nat) (s : State) (h : Confined w r s)
    (hw : [.ring, .evtLost, .mortar, .repair] ⊆ w := by first | assumption | exact part_sub ‹_› (by decide) | decide) :
    Confined w r (damageRec p i s) := by
  unfold damageRec
  try dsimp only
  repeat first
    | with_reducible exact h | with_reducible assumption | with_reducible apply postRepair_frame
    | with_reducible apply frame_ite | exact part_sub hw (by decide) | split
    | fail_if_no_progress with_reducible refine frame_mk hw ?_ | (intro _ _ _) | (intro _ _) | (intro _)

theorem marginScan_frame {w : List Part} {r : State} (sseq : Nat) (found : Margin) (s : State) (h : Confined w r s)
    (hw : [.ring, .evtLost, .mortar, .repair] ⊆ w := by first | assumption | exact part_sub ‹_› (by decide) | decide) :
    Confined w r (marginScan sseq found s) := by
  unfold marginScan
  apply frame_ite h
  split
  · exact h
  · dsimp only
    split
    · exact h
    · exact frame_getD _ _ (frame_mk hw h) fun t => refreshPair_frame _ _ s t h
    · exact frame_getD _ _ (frame_mk hw h) fun t => refreshPair_frame _ _ s t h
    · exact damageRec_frame _ _ _ h

theorem rejectImage_frame {w : List Part} {r : State} (s : State) (h : Confined w r s)
    (hw : wide ⊆ w := by first | assumption | exact part_sub ‹_› (by decide) | decide) :
    Confined w r (rejectImage s) := by
  unfold rejectImage
  try dsimp only
  repeat first
    | with_reducible exact h | with_reducible assumption | with_reducible apply sealFailed_frame
    | with_reducible apply frame_ite | exact part_sub hw (by decide) | split
    | fail_if_no_progress with_reducible refine frame_mk hw ?_ | (intro _ _ _) | (intro _ _) | (intro _)

theorem bodSettled_frame {w : List Part} {r : State} (s : State) (h : Confined w r s)
    (hw : wide ⊆ w := by first | assumption | exact part_sub ‹_› (by decide) | decide) :
    Confined w r (bodSettled s) := by
  unfold bodSettled
  try dsimp only
  repeat first
    | with_reducible exact h | with_reducible assumption | with_reducible apply finishSleep_frame
    | with_reducible apply rejectImage_frame | with_reducible apply frame_ite | exact part_sub hw (by decide) | split
    | (intro _ _ _) | (intro _ _) | (intro _)

theorem appendTimeout_frame {w : List Part} {r : State} (s : State) (h : Confined w r s)
    (hw : wide ⊆ w := by first | assumption | exact part_sub ‹_› (by decide) | decide) :
    Confined w r (appendTimeout s) := by
  unfold appendTimeout
  try dsimp only
  repeat first
    | with_reducible exact h | with_reducible assumption | with_reducible apply end2_frame
    | with_reducible apply stall2_frame | with_reducible apply frame_ite | exact part_sub hw (by decide) | split
    | (intro _ _ _) | (intro _ _) | (intro _)

theorem eraseEnd_frame {w : List Part} {r : State} (okA okB : Bool) (s : State) (h : Confined w r s)
    (hw : [.ring, .evtLost, .mortar, .repair] ⊆ w := by first | assumption | exact part_sub ‹_› (by decide) | decide) :
    Confined w r (eraseEnd okA okB s) := by
  unfold eraseEnd
  try dsimp only
  repeat first
    | with_reducible exact h | with_reducible assumption | with_reducible apply endErase_frame
    | with_reducible apply frame_ite | exact part_sub hw (by decide) | split
    | fail_if_no_progress with_reducible refine frame_mk hw ?_ | (intro _ _ _) | (intro _ _) | (intro _)

theorem wholeHz_frame {w : List Part} {r : State} (x : Int) (s : State) (h : Confined w r s)
    (hw : [.draws] ⊆ w := by first | assumption | exact part_sub ‹_› (by decide) | decide) :
    Confined w r (wholeHz x s).2 := by
  unfold wholeHz
  try dsimp only
  repeat first
    | with_reducible exact h | with_reducible assumption | with_reducible apply freeBits_frame
    | with_reducible apply frame_ite | exact part_sub hw (by decide) | split | (intro _ _ _) | (intro _ _) | (intro _)

theorem latchSync_frame {w : List Part} {r : State} (d : Det) (c : Confirm) (s : State) (h : Confined w r s)
    (hw : [.rx, .draws] ⊆ w := by first | assumption | exact part_sub ‹_› (by decide) | decide) :
    Confined w r (latchSync d c s) := by
  unfold latchSync
  try dsimp only
  repeat first
    | with_reducible exact h | with_reducible assumption | with_reducible apply wholeHz_frame
    | with_reducible apply frame_ite | exact part_sub hw (by decide) | split
    | fail_if_no_progress with_reducible refine frame_mk hw ?_ | (intro _ _ _) | (intro _ _) | (intro _)

theorem confirmDet_frame {w : List Part} {r : State} (d : Det) (c : Confirm) (s : State) (h : Confined w r s)
    (hw : [.sup, .ring, .evtLost, .scarab, .rx, .radio, .swarm, .net, .draws] ⊆ w
          := by first | assumption | exact part_sub ‹_› (by decide) | decide) :
    Confined w r (confirmDet d c s) := by
  unfold confirmDet
  try dsimp only
  repeat first
    | with_reducible exact h | with_reducible assumption | with_reducible apply latchSync_frame
    | with_reducible apply post_frame | with_reducible apply setReception_frame
    | with_reducible apply busyListen_frame | with_reducible apply goto_frame | with_reducible apply frame_ite
    | exact part_sub hw (by decide) | split | fail_if_no_progress with_reducible refine frame_mk hw ?_ | (intro _ _ _)
    | (intro _ _) | (intro _)

theorem headerFails_frame {w : List Part} {r : State} (d : Det) (s : State) (h : Confined w r s)
    (hw : [.ring, .evtLost, .scarab, .rx, .draws] ⊆ w := by first | assumption | exact part_sub ‹_› (by decide) | decide) :
    Confined w r (headerFails d s) := by
  unfold headerFails
  try dsimp only
  repeat first
    | with_reducible exact h | with_reducible assumption | with_reducible apply cancelDet_frame
    | with_reducible apply frame_ite | exact part_sub hw (by decide) | split
    | fail_if_no_progress with_reducible refine frame_mk hw ?_ | (intro _ _ _) | (intro _ _) | (intro _)

theorem confirmOn_frame {w : List Part} {r : State} (chan : Path) (good : List (Det × Confirm)) (s : State)
    (h : Confined w r s)
    (hw : [.sup, .ring, .evtLost, .scarab, .rx, .radio, .swarm, .net, .draws] ⊆ w
          := by first | assumption | exact part_sub ‹_› (by decide) | decide) :
    Confined w r (confirmOn chan good s) := by
  unfold confirmOn
  try dsimp only
  repeat first
    | with_reducible exact h | with_reducible assumption | with_reducible apply confirmDet_frame
    | with_reducible apply frame_ite | exact part_sub hw (by decide) | split | (intro _ _ _) | (intro _ _) | (intro _)

theorem syncFound_frame {w : List Part} {r : State} (l : List Confirm) (expired : List Half) (s : State)
    (h : Confined w r s)
    (hw : [.sup, .ring, .evtLost, .scarab, .rx, .radio, .swarm, .net, .draws] ⊆ w
          := by first | assumption | exact part_sub ‹_› (by decide) | decide) :
    Confined w r (syncFound l expired s) := by
  unfold syncFound
  try dsimp only
  repeat first
    | with_reducible exact h | with_reducible assumption | with_reducible apply confirmOn_frame
    | with_reducible apply headerFails_frame | with_reducible apply cancelTag_frame
    | with_reducible apply cancelDets_frame | with_reducible apply frame_ite | exact part_sub hw (by decide) | split
    | fail_if_no_progress with_reducible refine frame_mk hw ?_ | with_reducible apply foldl_frame | (intro _ _ _)
    | (intro _ _) | (intro _)

theorem syncTimeout_frame {w : List Part} {r : State} (mosaic : Bool) (tag : Half) (s : State) (h : Confined w r s)
    (hw : [.ring, .evtLost, .scarab, .rx, .draws] ⊆ w := by first | assumption | exact part_sub ‹_› (by decide) | decide) :
    Confined w r (syncTimeout mosaic tag s) := by
  unfold syncTimeout
  try dsimp only
  repeat first
    | with_reducible exact h | with_reducible assumption | with_reducible apply cancelDet_frame
    | with_reducible apply frame_ite | exact part_sub hw (by decide) | split | (intro _ _ _) | (intro _ _) | (intro _)

theorem meanOf48_frame {w : List Part} {r : State} (sum : Int) (s : State) (h : Confined w r s)
    (hw : [.draws] ⊆ w := by first | assumption | exact part_sub ‹_› (by decide) | decide) :
    Confined w r (meanOf48 sum s).2 := by
  unfold meanOf48
  try dsimp only
  repeat first
    | with_reducible exact h | with_reducible assumption | with_reducible apply freeBits_frame
    | with_reducible apply frame_ite | exact part_sub hw (by decide) | split | (intro _ _ _) | (intro _ _) | (intro _)

theorem noiseWindow_frame {w : List Part} {r : State} (p : Path) (samples : List Int) (s : State) (h : Confined w r s)
    (hw : [.rx, .draws] ⊆ w := by first | assumption | exact part_sub ‹_› (by decide) | decide) :
    Confined w r (noiseWindow p samples s) := by
  unfold noiseWindow
  try dsimp only
  repeat first
    | with_reducible exact h | with_reducible assumption | with_reducible apply meanOf48_frame
    | with_reducible apply frame_ite | exact part_sub hw (by decide) | split
    | fail_if_no_progress with_reducible refine frame_mk hw ?_ | (intro _ _ _) | (intro _ _) | (intro _)

theorem frameOver_frame {w : List Part} {r : State} (c : Path) (s : State) (h : Confined w r s)
    (hw : [.sup, .ring, .evtLost, .scarab, .rx, .radio, .swarm, .net, .draws] ⊆ w
          := by first | assumption | exact part_sub ‹_› (by decide) | decide) :
    Confined w r (frameOver c s) := by
  unfold frameOver
  try dsimp only
  repeat first
    | with_reducible exact h | with_reducible assumption | with_reducible apply sendFacks_frame
    | with_reducible apply settle_frame | with_reducible apply endSecond_frame
    | with_reducible apply releaseGain_frame | with_reducible apply setReception_frame
    | with_reducible apply frame_ite | exact part_sub hw (by decide) | split | (intro _ _ _) | (intro _ _) | (intro _)

theorem trackPaths_frame {w : List Part} {r0 : State} (r : Reception) (n : Nat) (a b : List ToneRow) (s : State)
    (h : Confined w r0 s)
    (hw : [.rx] ⊆ w := by first | assumption | exact part_sub ‹_› (by decide) | decide) :
    Confined w r0 (trackPaths r n a b s) := by
  unfold trackPaths
  try dsimp only
  repeat first
    | with_reducible exact h | with_reducible assumption | with_reducible apply frame_ite
    | exact part_sub hw (by decide) | split | fail_if_no_progress with_reducible refine frame_mk hw ?_ | (intro _ _ _)
    | (intro _ _) | (intro _)

theorem signalLoss_frame {w : List Part} {r : State} (c : Path) (q : List Int) (received : Nat) (s : State)
    (h : Confined w r s)
    (hw : [.sup, .ring, .evtLost, .scarab, .rx, .radio, .swarm, .net, .draws] ⊆ w
          := by first | assumption | exact part_sub ‹_› (by decide) | decide) :
    Confined w r (signalLoss c q received s) := by
  unfold signalLoss
  try dsimp only
  repeat first
    | with_reducible exact h | with_reducible assumption | with_reducible apply frameOver_frame
    | with_reducible apply loseReception_frame | with_reducible apply frame_ite | exact part_sub hw (by decide)
    | split | fail_if_no_progress with_reducible refine frame_mk hw ?_ | (intro _ _ _) | (intro _ _) | (intro _)

theorem pilotLoss_frame {w : List Part} {r : State} (f : Fading) (s : State) (h : Confined w r s)
    (hw : [.sup, .ring, .evtLost, .scarab, .rx, .radio, .swarm, .net, .draws] ⊆ w
          := by first | assumption | exact part_sub ‹_› (by decide) | decide) :
    Confined w r (pilotLoss f s) := by
  unfold pilotLoss
  try dsimp only
  repeat first
    | with_reducible exact h | with_reducible assumption | with_reducible apply trackPaths_frame
    | with_reducible apply frameOver_frame | with_reducible apply loseReception_frame | with_reducible apply frame_ite
    | exact part_sub hw (by decide) | split | fail_if_no_progress with_reducible refine frame_mk hw ?_ | (intro _ _ _)
    | (intro _ _) | (intro _)

theorem finish_frame {w : List Part} {r0 : State} (r : Reception) (m : MacFrame) (outcome : Nat) (dr : Bool)
    (s : State) (h : Confined w r0 s)
    (hw : [.ring, .evtLost] ⊆ w := by first | assumption | exact part_sub ‹_› (by decide) | decide) :
    Confined w r0 (finish r m outcome dr s) := by
  unfold finish
  try dsimp only
  repeat first
    | with_reducible exact h | with_reducible assumption | with_reducible apply postRxDone_frame
    | with_reducible apply frame_ite | split | (intro _ _ _) | (intro _ _) | (intro _)

theorem macDiscard_frame {w : List Part} {r0 : State} (r : Reception) (type : Nat) (src : Half) (s : State)
    (h : Confined w r0 s)
    (hw : [.ring, .evtLost, .net] ⊆ w := by first | assumption | exact part_sub ‹_› (by decide) | decide) :
    Confined w r0 (macDiscard r type src s) := by
  unfold macDiscard
  try dsimp only
  repeat first
    | with_reducible exact h | with_reducible assumption | with_reducible apply postRxDone_frame
    | with_reducible apply frame_ite | exact part_sub hw (by decide) | split
    | fail_if_no_progress with_reducible refine frame_mk hw ?_ | (intro _ _ _) | (intro _ _) | (intro _)

theorem countDuplicate_frame {w : List Part} {r : State} (s : State) (h : Confined w r s)
    (hw : [.jrn] ⊆ w := by first | assumption | exact part_sub ‹_› (by decide) | decide) :
    Confined w r (countDuplicate s) := by
  unfold countDuplicate
  try dsimp only
  repeat first
    | with_reducible exact h | with_reducible assumption | with_reducible apply frame_ite
    | exact part_sub hw (by decide) | split | fail_if_no_progress with_reducible refine frame_mk hw ?_ | (intro _ _ _)
    | (intro _ _) | (intro _)

theorem ackDue_frame {w : List Part} {r0 : State} (r : Reception) (q : Half) (armed : Bool) (s : State)
    (h : Confined w r0 s)
    (hw : [.radio] ⊆ w := by first | assumption | exact part_sub ‹_› (by decide) | decide) :
    Confined w r0 (ackDue r q armed s) := by
  unfold ackDue
  try dsimp only
  repeat first
    | with_reducible exact h | with_reducible assumption | with_reducible apply frame_ite
    | exact part_sub hw (by decide) | split | fail_if_no_progress with_reducible refine frame_mk hw ?_ | (intro _ _ _)
    | (intro _ _) | (intro _)

theorem fackDue_frame {w : List Part} {r : State} (orig : Half) (seq : Word) (ttl : Nat) (chanB : Bool) (s : State)
    (h : Confined w r s)
    (hw : [.net] ⊆ w := by first | assumption | exact part_sub ‹_› (by decide) | decide) :
    Confined w r (fackDue orig seq ttl chanB s) := by
  unfold fackDue
  try dsimp only
  repeat first
    | with_reducible exact h | with_reducible assumption | with_reducible apply frame_ite
    | exact part_sub hw (by decide) | split | fail_if_no_progress with_reducible refine frame_mk hw ?_ | (intro _ _ _)
    | (intro _ _) | (intro _)

theorem processBeacon_frame {w : List Part} {r0 : State} (r : Reception) (mPpb : Int) (f : MacFrame) (s : State)
    (h : Confined w r0 s)
    (hw : [.sup, .live, .ring, .evtLost, .courses, .mortar, .jrn, .qe, .net, .tb, .timer, .pulse, .adc, .hod] ⊆ w
          := by first | assumption | exact part_sub ‹_› (by decide) | decide) :
    Confined w r0 (processBeacon r mPpb f s) := by
  unfold processBeacon
  try dsimp only
  repeat first
    | with_reducible exact h | with_reducible assumption | with_reducible apply timeFromBeacon_frame
    | with_reducible apply frame_ite | exact part_sub hw (by decide) | split
    | fail_if_no_progress with_reducible refine frame_mk hw ?_ | (intro _ _ _) | (intro _ _) | (intro _)

theorem repeatBeacon_frame {w : List Part} {r0 : State} (r : Reception) (mPpb : Int) (f : MacFrame) (s : State)
    (h : Confined w r0 s)
    (hw : [.sup, .live, .ring, .evtLost, .courses, .mortar, .jrn, .qe, .tb, .timer, .pulse, .adc, .hod] ⊆ w
          := by first | assumption | exact part_sub ‹_› (by decide) | decide) :
    Confined w r0 (repeatBeacon r mPpb f s) := by
  unfold repeatBeacon
  try dsimp only
  repeat first
    | with_reducible exact h | with_reducible assumption | with_reducible apply timeFromBeacon_frame
    | with_reducible apply frame_ite | split | (intro _ _ _) | (intro _ _) | (intro _)

theorem receiveDl_frame {w : List Part} {r0 : State} (c : Path) (r : Reception) (m : MacFrame) (seq : Word)
    (payload : Bytes) (s : State) (h : Confined w r0 s)
    (hw : [.ring, .evtLost, .jrn, .radio, .net] ⊆ w := by first | assumption | exact part_sub ‹_› (by decide) | decide) :
    Confined w r0 (receiveDl c r m seq payload s) := by
  unfold receiveDl
  try dsimp only
  repeat first
    | with_reducible exact h | with_reducible assumption | with_reducible apply finish_frame
    | with_reducible apply countDuplicate_frame | with_reducible apply frame_ite | exact part_sub hw (by decide)
    | split | fail_if_no_progress with_reducible refine frame_mk hw ?_ | (intro _ _ _) | (intro _ _) | (intro _)

theorem receiveDq_frame {w : List Part} {r : State} (m : MacFrame) (valid : Bool) (pdu : Bytes) (s : State)
    (h : Confined w r s)
    (hw : wide ⊆ w := by first | assumption | exact part_sub ‹_› (by decide) | decide) :
    Confined w r (receiveDq m valid pdu s) := by
  unfold receiveDq
  try dsimp only
  repeat first
    | with_reducible exact h | with_reducible assumption | with_reducible apply submit_frame
    | with_reducible apply frame_ite | split | (intro _ _ _) | (intro _ _) | (intro _)

theorem keepReply_frame {w : List Part} {r : State} (s : State) (h : Confined w r s)
    (hw : [.net] ⊆ w := by first | assumption | exact part_sub ‹_› (by decide) | decide) :
    Confined w r (keepReply s) := by
  unfold keepReply
  try dsimp only
  repeat first
    | with_reducible exact h | with_reducible assumption | with_reducible apply frame_ite
    | exact part_sub hw (by decide) | split | fail_if_no_progress with_reducible refine frame_mk hw ?_ | (intro _ _ _)
    | (intro _ _) | (intro _)

theorem processPoll_frame {w : List Part} {r0 : State} (c : Path) (r : Reception) (valid : Bool) (m : MacFrame)
    (s : State) (h : Confined w r0 s)
    (hw : wide ⊆ w := by first | assumption | exact part_sub ‹_› (by decide) | decide) :
    Confined w r0 (processPoll c r valid m s) := by
  unfold processPoll
  try dsimp only
  repeat first
    | with_reducible exact h | with_reducible assumption | with_reducible apply finish_frame
    | with_reducible apply macDiscard_frame | with_reducible apply macRead_frame
    | with_reducible apply receiveDl_frame | with_reducible apply receiveDq_frame
    | with_reducible apply keepReply_frame | with_reducible apply frame_ite | exact part_sub hw (by decide) | split
    | fail_if_no_progress with_reducible refine frame_mk hw ?_ | (intro _ _ _) | (intro _ _) | (intro _)

theorem takeReply_frame {w : List Part} {r : State} (a : Half) (dl : Option Word) (dr : Option Bytes) (pend : Bool)
    (s : State) (h : Confined w r s)
    (hw : [.ring, .evtLost, .jrn, .qe, .rx, .net] ⊆ w := by first | assumption | exact part_sub ‹_› (by decide) | decide) :
    Confined w r (takeReply a dl dr pend s) := by
  unfold takeReply
  try dsimp only
  repeat first
    | with_reducible exact h | with_reducible assumption | with_reducible apply retireItem_frame
    | with_reducible apply endExchange_frame | with_reducible apply frame_ite | exact part_sub hw (by decide) | split
    | fail_if_no_progress with_reducible refine frame_mk hw ?_ | (intro _ _ _) | (intro _ _) | (intro _)

theorem commitData_frame {w : List Part} {r0 : State} (c : Path) (r : Reception) (m : MacFrame) (dr : Bool)
    (seq : Word) (payload : Bytes) (s : State) (h : Confined w r0 s)
    (hw : [.ring, .evtLost, .jrn, .radio, .net] ⊆ w := by first | assumption | exact part_sub ‹_› (by decide) | decide) :
    Confined w r0 (commitData c r m dr seq payload s) := by
  unfold commitData
  try dsimp only
  repeat first
    | with_reducible exact h | with_reducible assumption | with_reducible apply finish_frame
    | with_reducible apply countDuplicate_frame | with_reducible apply fackDue_frame
    | with_reducible apply ackDue_frame | with_reducible apply frame_ite | exact part_sub hw (by decide) | split
    | fail_if_no_progress with_reducible refine frame_mk hw ?_ | (intro _ _ _) | (intro _ _) | (intro _)

theorem processData_frame {w : List Part} {r0 : State} (c : Path) (r : Reception) (m : MacFrame) (s : State)
    (h : Confined w r0 s)
    (hw : [.ring, .evtLost, .jrn, .qe, .rx, .radio, .net] ⊆ w
          := by first | assumption | exact part_sub ‹_› (by decide) | decide) :
    Confined w r0 (processData c r m s) := by
  unfold processData
  try dsimp only
  repeat first
    | with_reducible exact h | with_reducible assumption | with_reducible apply finish_frame
    | with_reducible apply macDiscard_frame | with_reducible apply takeReply_frame
    | with_reducible apply commitData_frame | with_reducible apply frame_ite | exact part_sub hw (by decide) | split
    | (intro _ _ _) | (intro _ _) | (intro _)

theorem processNull_frame {w : List Part} {r0 : State} (r : Reception) (m : MacFrame) (s : State) (h : Confined w r0 s)
    (hw : [.ring, .evtLost, .jrn, .qe, .rx, .net] ⊆ w := by first | assumption | exact part_sub ‹_› (by decide) | decide) :
    Confined w r0 (processNull r m s) := by
  unfold processNull
  try dsimp only
  repeat first
    | with_reducible exact h | with_reducible assumption | with_reducible apply macDiscard_frame
    | with_reducible apply finish_frame | with_reducible apply takeReply_frame | with_reducible apply frame_ite
    | exact part_sub hw (by decide) | split | (intro _ _ _) | (intro _ _) | (intro _)

theorem processJoin_frame {w : List Part} {r0 : State} (r : Reception) (m : MacFrame) (s : State) (h : Confined w r0 s)
    (hw : [.ring, .evtLost, .mortar, .radio, .net] ⊆ w := by first | assumption | exact part_sub ‹_› (by decide) | decide) :
    Confined w r0 (processJoin r m s) := by
  unfold processJoin
  try dsimp only
  repeat first
    | with_reducible exact h | with_reducible assumption | with_reducible apply finish_frame
    | with_reducible apply macDiscard_frame | with_reducible apply ackDue_frame
    | with_reducible apply recordStation_frame | with_reducible apply frame_ite | exact part_sub hw (by decide)
    | split | fail_if_no_progress with_reducible refine frame_mk hw ?_ | (intro _ _ _) | (intro _ _) | (intro _)

theorem processFack_frame {w : List Part} {r0 : State} (r : Reception) (m : MacFrame) (s : State) (h : Confined w r0 s)
    (hw : [.ring, .evtLost, .jrn, .qe, .net] ⊆ w := by first | assumption | exact part_sub ‹_› (by decide) | decide) :
    Confined w r0 (processFack r m s) := by
  unfold processFack
  try dsimp only
  repeat first
    | with_reducible exact h | with_reducible assumption | with_reducible apply macDiscard_frame
    | with_reducible apply finish_frame | with_reducible apply retireItem_frame | with_reducible apply frame_ite
    | exact part_sub hw (by decide) | split | fail_if_no_progress with_reducible refine frame_mk hw ?_ | (intro _ _ _)
    | (intro _ _) | (intro _)

theorem secured_frame {w : List Part} {r : State} (x : Reception) (m : MacFrame) (process : MacFrame → State → State)
    (s : State)
    (hp : ∀ g t, Confined w r t → Confined w r (process g t)) (h : Confined w r s)
        (hw : [.ring, .evtLost, .rx, .net, .sec] ⊆ w
          := by first | assumption | exact part_sub ‹_› (by decide) | decide) : Confined w r (secured x m process s) :=
        by
  have h1 := securityCheck_frame m s h
  unfold secured
  split
  · rename_i t ht
    rw [ht] at h1
    exact finish_frame _ _ _ _ _ (frame_ite (endExchange_frame _ _ h1) h1)
  · rename_i g t ht
    rw [ht] at h1
    exact hp _ _ h1

theorem takeFrame_frame {w : List Part} {r : State} (x : Reception) (m : MacFrame) (process : MacFrame → State → State)
    (s : State)
    (hp : ∀ g t, Confined w r t → Confined w r (process g t)) (h : Confined w r s)
        (hw : [.ring, .evtLost, .qe, .rx, .radio, .swarm, .net, .sec, .draws] ⊆ w
          := by first | assumption | exact part_sub ‹_› (by decide) | decide) : Confined w r (takeFrame x m process s)
        := by
  unfold takeFrame
  repeat first
    | with_reducible assumption
    | with_reducible apply finish_frame
    | with_reducible apply scheduleCopy_frame
    | (with_reducible apply secured_frame; intro _ _ _)
    | with_reducible apply hp
    | with_reducible apply frame_ite
    | (exact part_sub hw (by decide))
    | with_reducible refine frame_mk hw ?_

theorem judgeFlood_frame {w : List Part} {r : State} (x : Reception) (m : MacFrame) (mPpb : Int)
    (process : MacFrame → State → State) (s : State) (hp : ∀ g t, Confined w r t → Confined w r (process g t))
        (h : Confined w r s)
        (hw : [.sup, .live, .ring, .evtLost, .courses, .mortar, .jrn, .qe, .rx, .radio, .swarm, .net, .tb, .sec, .timer, .pulse, .adc, .hod, .draws] ⊆ w
          := by first | assumption | exact part_sub ‹_› (by decide) | decide) :
    Confined w r (judgeFlood x m mPpb process s) := by
  unfold judgeFlood
  split
  · exact takeFrame_frame _ _ _ _ hp h
  · exact frame_ite (finish_frame _ _ _ _ _ (repeatBeacon_frame _ _ _ _ (countRepeat_frame _ _ _ h)))
      (takeFrame_frame _ _ _ _ hp (addSeen_frame _ _ h))

theorem latchFrame_frame {w : List Part} {r0 : State} (r : Reception) (f : RxFrame) (s : State) (h : Confined w r0 s)
    (hw : [.rx] ⊆ w := by first | assumption | exact part_sub ‹_› (by decide) | decide) :
    Confined w r0 (latchFrame r f s) := by
  unfold latchFrame
  try dsimp only
  repeat first
    | with_reducible exact h | with_reducible assumption | with_reducible apply trackPaths_frame
    | with_reducible apply frame_ite | exact part_sub hw (by decide) | split
    | fail_if_no_progress with_reducible refine frame_mk hw ?_ | (intro _ _ _) | (intro _ _) | (intro _)

theorem typeSrcOf_frame {w : List Part} {r : State} (p : Bytes) (s : State) (h : Confined w r s)
    (hw : [.draws] ⊆ w := by first | assumption | exact part_sub ‹_› (by decide) | decide) : Confined w r
    (typeSrcOf p s).2.2 := by
  unfold typeSrcOf
  split
  · exact h
  · exact freeBits_frame 16 _ (freeBits_frame 4 s h)

theorem receiveFrame_frame {w : List Part} {r : State} (type : Nat) (f : RxFrame)
    (process : Reception → MacFrame → State → State)
    (s : State) (hp : ∀ x g t, Confined w r t → Confined w r (process x g t)) (h : Confined w r s)
        (hw : [.sup, .live, .ring, .evtLost, .courses, .mortar, .jrn, .qe, .scarab, .rx, .radio, .swarm, .net, .tb, .sec, .timer, .pulse, .adc, .hod, .draws] ⊆ w
          := by first | assumption | exact part_sub ‹_› (by decide) | decide) :
    Confined w r (receiveFrame type f process s) := by
  unfold receiveFrame
  split
  · exact h
  · refine frame_ite h (frameOver_frame _ _ (frame_ite ?_ ?_))
    · exact postRxDone_frame _ _ _ _ _ _ (frame_mk hw (typeSrcOf_frame _ _ (latchFrame_frame _ _ _ h)))
    · split
      · exact macDiscard_frame _ _ _ _ (typeSrcOf_frame _ _ (latchFrame_frame _ _ _ h))
      · exact frame_ite (judgeFlood_frame _ _ _ _ _ (hp _) (latchFrame_frame _ _ _ h))
          (macDiscard_frame _ _ _ _ (latchFrame_frame _ _ _ h))

theorem beaconReceived_frame {w : List Part} {r : State} (f : RxFrame) (s : State) (h : Confined w r s)
    (hw : [.sup, .live, .ring, .evtLost, .courses, .mortar, .jrn, .qe, .scarab, .rx, .radio, .swarm, .net, .tb, .sec, .timer, .pulse, .adc, .hod, .draws] ⊆ w
          := by first | assumption | exact part_sub ‹_› (by decide) | decide) :
    Confined w r (beaconReceived f s) := by
  unfold beaconReceived
  try dsimp only
  repeat first
    | with_reducible exact h | with_reducible assumption | with_reducible apply receiveFrame_frame
    | with_reducible apply macDiscard_frame | with_reducible apply finish_frame
    | with_reducible apply processBeacon_frame | with_reducible apply frame_ite | exact part_sub hw (by decide)
    | split | fail_if_no_progress with_reducible refine frame_mk hw ?_ | (intro _ _ _) | (intro _ _) | (intro _)

theorem pollReceived_frame {w : List Part} {r : State} (f : RxFrame) (s : State) (h : Confined w r s)
    (hw : wide ⊆ w := by first | assumption | exact part_sub ‹_› (by decide) | decide) :
    Confined w r (pollReceived f s) := by
  unfold pollReceived
  try dsimp only
  repeat first
    | with_reducible exact h | with_reducible assumption | with_reducible apply receiveFrame_frame
    | with_reducible apply processPoll_frame | with_reducible apply frame_ite | exact part_sub hw (by decide) | split
    | fail_if_no_progress with_reducible refine frame_mk hw ?_ | (intro _ _ _) | (intro _ _) | (intro _)

theorem dataReceived_frame {w : List Part} {r : State} (f : RxFrame) (s : State) (h : Confined w r s)
    (hw : [.sup, .live, .ring, .evtLost, .courses, .mortar, .jrn, .qe, .scarab, .rx, .radio, .swarm, .net, .tb, .sec, .timer, .pulse, .adc, .hod, .draws] ⊆ w
          := by first | assumption | exact part_sub ‹_› (by decide) | decide) :
    Confined w r (dataReceived f s) := by
  unfold dataReceived
  try dsimp only
  repeat first
    | with_reducible exact h | with_reducible assumption | with_reducible apply receiveFrame_frame
    | with_reducible apply processData_frame | with_reducible apply frame_ite | exact part_sub hw (by decide) | split
    | fail_if_no_progress with_reducible refine frame_mk hw ?_ | (intro _ _ _) | (intro _ _) | (intro _)

theorem nullReceived_frame {w : List Part} {r : State} (f : RxFrame) (s : State) (h : Confined w r s)
    (hw : [.sup, .live, .ring, .evtLost, .courses, .mortar, .jrn, .qe, .scarab, .rx, .radio, .swarm, .net, .tb, .sec, .timer, .pulse, .adc, .hod, .draws] ⊆ w
          := by first | assumption | exact part_sub ‹_› (by decide) | decide) :
    Confined w r (nullReceived f s) := by
  unfold nullReceived
  try dsimp only
  repeat first
    | with_reducible exact h | with_reducible assumption | with_reducible apply receiveFrame_frame
    | with_reducible apply processNull_frame | with_reducible apply frame_ite | exact part_sub hw (by decide) | split
    | fail_if_no_progress with_reducible refine frame_mk hw ?_ | (intro _ _ _) | (intro _ _) | (intro _)

theorem joinReceived_frame {w : List Part} {r : State} (f : RxFrame) (s : State) (h : Confined w r s)
    (hw : [.sup, .live, .ring, .evtLost, .courses, .mortar, .jrn, .qe, .scarab, .rx, .radio, .swarm, .net, .tb, .sec, .timer, .pulse, .adc, .hod, .draws] ⊆ w
          := by first | assumption | exact part_sub ‹_› (by decide) | decide) :
    Confined w r (joinReceived f s) := by
  unfold joinReceived
  try dsimp only
  repeat first
    | with_reducible exact h | with_reducible assumption | with_reducible apply receiveFrame_frame
    | with_reducible apply processJoin_frame | with_reducible apply frame_ite | exact part_sub hw (by decide) | split
    | fail_if_no_progress with_reducible refine frame_mk hw ?_ | (intro _ _ _) | (intro _ _) | (intro _)

theorem fackReceived_frame {w : List Part} {r : State} (f : RxFrame) (s : State) (h : Confined w r s)
    (hw : [.sup, .live, .ring, .evtLost, .courses, .mortar, .jrn, .qe, .scarab, .rx, .radio, .swarm, .net, .tb, .sec, .timer, .pulse, .adc, .hod, .draws] ⊆ w
          := by first | assumption | exact part_sub ‹_› (by decide) | decide) :
    Confined w r (fackReceived f s) := by
  unfold fackReceived
  try dsimp only
  repeat first
    | with_reducible exact h | with_reducible assumption | with_reducible apply receiveFrame_frame
    | with_reducible apply processFack_frame | with_reducible apply frame_ite | exact part_sub hw (by decide) | split
    | fail_if_no_progress with_reducible refine frame_mk hw ?_ | (intro _ _ _) | (intro _ _) | (intro _)

theorem acceptAck_frame {w : List Part} {r : State} (s : State) (h : Confined w r s)
    (hw : [.sup, .ring, .evtLost, .jrn, .qe, .scarab, .rx, .radio, .net, .draws] ⊆ w
          := by first | assumption | exact part_sub ‹_› (by decide) | decide) :
    Confined w r (acceptAck s) := by
  unfold acceptAck
  try dsimp only
  repeat first
    | with_reducible exact h | with_reducible assumption | with_reducible apply goReturn_frame
    | with_reducible apply retireItem_frame | with_reducible apply postTxDonePlain_frame
    | with_reducible apply frame_ite | exact part_sub hw (by decide) | split
    | fail_if_no_progress with_reducible refine frame_mk hw ?_ | (intro _ _ _) | (intro _ _) | (intro _)

theorem ackReceived_frame {w : List Part} {r : State} (c : Path) (s : State) (h : Confined w r s)
    (hw : [.sup, .ring, .evtLost, .jrn, .qe, .scarab, .rx, .radio, .swarm, .net, .draws] ⊆ w
          := by first | assumption | exact part_sub ‹_› (by decide) | decide) :
    Confined w r (ackReceived c s) := by
  unfold ackReceived
  try dsimp only
  repeat first
    | with_reducible exact h | with_reducible assumption | with_reducible apply setReception_frame
    | with_reducible apply postRxDone_frame | with_reducible apply frameOver_frame
    | with_reducible apply acceptAck_frame | with_reducible apply frame_ite | exact part_sub hw (by decide) | split
    | (intro _ _ _) | (intro _ _) | (intro _)

theorem commitEnded_frame {w : List Part} {r : State} (outcome : Nat) (c : CommitDue) (s : State) (h : Confined w r s)
    (hw : [.ring, .evtLost, .radio] ⊆ w := by first | assumption | exact part_sub ‹_› (by decide) | decide) :
    Confined w r (commitEnded outcome c s) := by
  unfold commitEnded
  try dsimp only
  repeat first
    | with_reducible exact h | with_reducible assumption | with_reducible apply postRxDone_frame
    | with_reducible apply frame_ite | exact part_sub hw (by decide) | split
    | fail_if_no_progress with_reducible refine frame_mk hw ?_ | (intro _ _ _) | (intro _ _) | (intro _)

theorem armAnswer_frame {w : List Part} {r : State} (c : CommitDue) (s : State) (h : Confined w r s)
    (hw : [.radio, .net] ⊆ w := by first | assumption | exact part_sub ‹_› (by decide) | decide) :
    Confined w r (armAnswer c s) := by
  unfold armAnswer
  try dsimp only
  repeat first
    | with_reducible exact h | with_reducible assumption | with_reducible apply fackDue_frame
    | with_reducible apply frame_ite | exact part_sub hw (by decide) | split
    | fail_if_no_progress with_reducible refine frame_mk hw ?_ | (intro _ _ _) | (intro _ _) | (intro _)

theorem countNoRoom_frame {w : List Part} {r : State} (why : NoRoom) (s : State) (h : Confined w r s)
    (hw : [.jrn, .qe] ⊆ w := by first | assumption | exact part_sub ‹_› (by decide) | decide) :
    Confined w r (countNoRoom why s) := by
  unfold countNoRoom
  try dsimp only
  repeat first
    | with_reducible exact h | with_reducible assumption | with_reducible apply stall_frame
    | with_reducible apply frame_ite | exact part_sub hw (by decide) | split
    | fail_if_no_progress with_reducible refine frame_mk hw ?_ | (intro _ _ _) | (intro _ _) | (intro _)

theorem commitFrame_frame {w : List Part} {r : State} (c : CommitDue) (s : State) (h : Confined w r s)
    (hw : [.ring, .evtLost, .jrn, .qe, .radio, .net] ⊆ w
          := by first | assumption | exact part_sub ‹_› (by decide) | decide) :
    Confined w r (commitFrame c s) := by
  unfold commitFrame
  try dsimp only
  repeat first
    | with_reducible exact h | with_reducible assumption | with_reducible apply accept_frame
    | with_reducible apply setQueue_frame | with_reducible apply postNotice_frame
    | with_reducible apply armAnswer_frame | with_reducible apply postRxDone_frame | with_reducible apply frame_ite
    | exact part_sub hw (by decide) | split | (intro _ _ _) | (intro _ _) | (intro _)

theorem commitDuplicate_frame {w : List Part} {r : State} (c : CommitDue) (s : State) (h : Confined w r s)
    (hw : [.ring, .evtLost, .jrn, .radio, .net] ⊆ w := by first | assumption | exact part_sub ‹_› (by decide) | decide) :
    Confined w r (commitDuplicate c s) := by
  unfold commitDuplicate
  try dsimp only
  repeat first
    | with_reducible exact h | with_reducible assumption | with_reducible apply armAnswer_frame
    | with_reducible apply postRxDone_frame | with_reducible apply countDuplicate_frame
    | with_reducible apply frame_ite | exact part_sub hw (by decide) | split | (intro _ _ _) | (intro _ _) | (intro _)

theorem airCommit_frame {w : List Part} {r : State} (chan : Path) (s : State) (h : Confined w r s)
    (hw : [.sys, .sup, .ring, .evtLost, .mortar, .jrn, .qe, .repair, .scarab, .rx, .radio, .swarm, .net, .pulse, .hod, .clk, .draws] ⊆ w
          := by first | assumption | exact part_sub ‹_› (by decide) | decide) :
    Confined w r (airCommit chan s) := by
  unfold airCommit
  try dsimp only
  repeat first
    | with_reducible exact h | with_reducible assumption | with_reducible apply commitEnded_frame
    | with_reducible apply commitDuplicate_frame | with_reducible apply countNoRoom_frame
    | with_reducible apply commitFrame_frame | with_reducible apply finishSleep_frame
    | with_reducible apply sendFacks_frame | with_reducible apply settle_frame | with_reducible apply frame_ite
    | exact part_sub hw (by decide) | split | fail_if_no_progress with_reducible refine frame_mk hw ?_ | (intro _ _ _)
    | (intro _ _) | (intro _)

theorem sniffWindow_frame {w : List Part} {r : State} (s : State) (h : Confined w r s)
    (hw : [.radio, .clk, .draws] ⊆ w := by first | assumption | exact part_sub ‹_› (by decide) | decide) :
    Confined w r (sniffWindow s) := by
  unfold sniffWindow
  try dsimp only
  repeat first
    | with_reducible exact h | with_reducible assumption | with_reducible apply calibrateOnLock_frame
    | with_reducible apply frame_ite | exact part_sub hw (by decide) | split
    | fail_if_no_progress with_reducible refine frame_mk hw ?_ | (intro _ _ _) | (intro _ _) | (intro _)

theorem sniffWindowEnd_frame {w : List Part} {r : State} (s : State) (h : Confined w r s)
    (hw : [.radio, .clk] ⊆ w := by first | assumption | exact part_sub ‹_› (by decide) | decide) :
    Confined w r (sniffWindowEnd s) := by
  unfold sniffWindowEnd
  try dsimp only
  repeat first
    | with_reducible exact h | with_reducible assumption | with_reducible apply closeWindow_frame
    | with_reducible apply frame_ite | exact part_sub hw (by decide) | split
    | fail_if_no_progress with_reducible refine frame_mk hw ?_ | (intro _ _ _) | (intro _ _) | (intro _)

theorem fireflyWake_frame {w : List Part} {r : State} (s : State) (h : Confined w r s)
    (hw : [.sup, .ring, .evtLost, .mortar, .scarab, .rx, .radio, .pulse, .hod, .clk, .draws] ⊆ w
          := by first | assumption | exact part_sub ‹_› (by decide) | decide) :
    Confined w r (fireflyWake s) := by
  unfold fireflyWake
  try dsimp only
  repeat first
    | with_reducible exact h | with_reducible assumption | with_reducible apply wakeIdle_frame
    | with_reducible apply frame_ite | exact part_sub hw (by decide) | split
    | fail_if_no_progress with_reducible refine frame_mk hw ?_ | (intro _ _ _) | (intro _ _) | (intro _)

theorem wakeWord_frame {w : List Part} {r : State} (x : WakeSeen) (s : State) (h : Confined w r s)
    (hw : [.sup, .ring, .evtLost, .mortar, .scarab, .rx, .radio, .pulse, .hod, .clk, .draws] ⊆ w
          := by first | assumption | exact part_sub ‹_› (by decide) | decide) :
    Confined w r (wakeWord x s) := by
  unfold wakeWord
  try dsimp only
  repeat first
    | with_reducible exact h | with_reducible assumption | with_reducible apply fireflyWake_frame
    | with_reducible apply startRx_frame | with_reducible apply closeWindow_frame | with_reducible apply frame_ite
    | exact part_sub hw (by decide) | split | fail_if_no_progress with_reducible refine frame_mk hw ?_ | (intro _ _ _)
    | (intro _ _) | (intro _)

theorem ffStayExpiry_frame {w : List Part} {r : State} (s : State) (h : Confined w r s)
    (hw : [.sup, .ring, .evtLost, .scarab, .rx, .radio, .swarm, .net, .draws] ⊆ w
          := by first | assumption | exact part_sub ‹_› (by decide) | decide) :
    Confined w r (ffStayExpiry s) := by
  unfold ffStayExpiry
  try dsimp only
  repeat first
    | with_reducible exact h | with_reducible assumption | with_reducible apply settle_frame
    | with_reducible apply frame_ite | exact part_sub hw (by decide) | split
    | fail_if_no_progress with_reducible refine frame_mk hw ?_ | (intro _ _ _) | (intro _ _) | (intro _)

theorem regReadEffect_frame {w : List Part} {r : State} (a : Nat) (s : State) (h : Confined w r s)
    (hw : [.timer, .draws] ⊆ w := by first | assumption | exact part_sub ‹_› (by decide) | decide) :
    Confined w r (regReadEffect a s) := by
  unfold regReadEffect
  try dsimp only
  repeat first
    | with_reducible exact h | with_reducible assumption | with_reducible apply clearNew_frame
    | with_reducible apply frame_ite | exact part_sub hw (by decide) | split
    | fail_if_no_progress with_reducible refine frame_mk hw ?_ | (intro _ _ _) | (intro _ _) | (intro _)

theorem addCause_frame {w : List Part} {r : State} (cause : Nat) (s : State) (h : Confined w r s)
    (hw : [.boot] ⊆ w := by first | assumption | exact part_sub ‹_› (by decide) | decide) :
    Confined w r (addCause cause s) := by
  unfold addCause
  try dsimp only
  repeat first
    | with_reducible exact h | with_reducible assumption | with_reducible apply frame_ite
    | exact part_sub hw (by decide) | split | fail_if_no_progress with_reducible refine frame_mk hw ?_ | (intro _ _ _)
    | (intro _ _) | (intro _)

theorem coldState_frame {w : List Part} {r : State} (s : State) (h : Confined w r s)
    (hw : wide ⊆ w := by first | assumption | exact part_sub ‹_› (by decide) | decide) :
    Confined w r (coldState s) := by
  unfold coldState
  try dsimp only
  repeat first
    | with_reducible exact h | with_reducible assumption | with_reducible apply frame_ite
    | exact part_sub hw (by decide) | split | fail_if_no_progress with_reducible refine frame_mk hw ?_ | (intro _ _ _)
    | (intro _ _) | (intro _)

theorem warmState_frame {w : List Part} {r : State} (ashlar : Bool) (s : State) (h : Confined w r s)
    (hw : wide ⊆ w := by first | assumption | exact part_sub ‹_› (by decide) | decide) :
    Confined w r (warmState ashlar s) := by
  unfold warmState
  try dsimp only
  repeat first
    | with_reducible exact h | with_reducible assumption | with_reducible apply coldState_frame
    | with_reducible apply frame_ite | exact part_sub hw (by decide) | split
    | fail_if_no_progress with_reducible refine frame_mk hw ?_ | (intro _ _ _) | (intro _ _) | (intro _)

theorem factoryPhase_frame {w : List Part} {r : State} (s : State) (h : Confined w r s)
    (hw : [.sys, .mortar, .repair, .scarab, .rx] ⊆ w := by first | assumption | exact part_sub ‹_› (by decide) | decide) :
    Confined w r (factoryPhase s) := by
  unfold factoryPhase
  try dsimp only
  repeat first
    | with_reducible exact h | with_reducible assumption | with_reducible apply applyEntry_frame
    | with_reducible apply frame_ite | exact part_sub hw (by decide) | split
    | fail_if_no_progress with_reducible refine frame_mk hw ?_ | with_reducible apply foldl_frame | (intro _ _ _)
    | (intro _ _) | (intro _)

theorem clockPhase_frame {w : List Part} {r : State} (s : State) (h : Confined w r s)
    (hw : [.clk] ⊆ w := by first | assumption | exact part_sub ‹_› (by decide) | decide) :
    Confined w r (clockPhase s) := by
  unfold clockPhase
  try dsimp only
  repeat first
    | with_reducible exact h | with_reducible assumption | with_reducible apply frame_ite
    | exact part_sub hw (by decide) | split | fail_if_no_progress with_reducible refine frame_mk hw ?_ | (intro _ _ _)
    | (intro _ _) | (intro _)

theorem mountPhase_frame {w : List Part} {r : State} (us : Word) (s : State) (h : Confined w r s)
    (hw : [.boot, .ring, .evtLost, .mortar, .repair, .pulse] ⊆ w
          := by first | assumption | exact part_sub ‹_› (by decide) | decide) :
    Confined w r (mountPhase us s) := by
  unfold mountPhase
  try dsimp only
  repeat first
    | with_reducible exact h | with_reducible assumption | with_reducible apply mount_frame
    | with_reducible apply frame_ite | exact part_sub hw (by decide) | split
    | fail_if_no_progress with_reducible refine frame_mk hw ?_ | (intro _ _ _) | (intro _ _) | (intro _)

theorem applyMap_frame {w : List Part} {r : State} (gen : Word) (l : List MapEntry) (rewrite : Bool) (s : State)
    (h : Confined w r s)
    (hw : [.mortar, .repair, .scarab, .rx] ⊆ w := by first | assumption | exact part_sub ‹_› (by decide) | decide) :
    Confined w r (applyMap gen l rewrite s) := by
  unfold applyMap
  try dsimp only
  repeat first
    | with_reducible exact h | with_reducible assumption | with_reducible apply applyEntry_frame
    | with_reducible apply frame_ite | exact part_sub hw (by decide) | split
    | fail_if_no_progress with_reducible refine frame_mk hw ?_ | with_reducible apply foldl_frame | (intro _ _ _)
    | (intro _ _) | (intro _)

theorem fieldMap_frame {w : List Part} {r : State} (s : State) (h : Confined w r s)
    (hw : [.mortar, .repair, .scarab, .rx] ⊆ w := by first | assumption | exact part_sub ‹_› (by decide) | decide) :
    Confined w r (fieldMap s) := by
  unfold fieldMap
  try dsimp only
  repeat first
    | with_reducible exact h | with_reducible assumption | with_reducible apply applyMap_frame
    | with_reducible apply frame_ite | exact part_sub hw (by decide) | split | (intro _ _ _) | (intro _ _) | (intro _)

theorem repairPhase_frame {w : List Part} {r : State} (run : BootRun) (s : State) (h : Confined w r s)
    (hw : [.mortar, .jrn, .repair, .scarab, .rx, .pulse, .hod] ⊆ w
          := by first | assumption | exact part_sub ‹_› (by decide) | decide) :
    Confined w r (repairPhase run s) := by
  unfold repairPhase
  try dsimp only
  repeat first
    | with_reducible exact h | with_reducible assumption | with_reducible apply fieldMap_frame
    | with_reducible apply fullCommit_frame | with_reducible apply frame_ite | exact part_sub hw (by decide) | split
    | (intro _ _ _) | (intro _ _) | (intro _)

theorem loadWindows_frame {w : List Part} {r : State} (s : State) (h : Confined w r s)
    (hw : [.qe] ⊆ w := by first | assumption | exact part_sub ‹_› (by decide) | decide) :
    Confined w r (loadWindows s) := by
  unfold loadWindows
  try dsimp only
  repeat first
    | with_reducible exact h | with_reducible assumption | with_reducible apply setQueue_frame
    | with_reducible apply frame_ite | exact part_sub hw (by decide) | split
    | fail_if_no_progress with_reducible refine frame_mk hw ?_ | with_reducible apply foldl_frame | (intro _ _ _)
    | (intro _ _) | (intro _)

theorem loadReceipt_frame {w : List Part} {r : State} (s : State) (h : Confined w r s)
    (hw : [.spi] ⊆ w := by first | assumption | exact part_sub ‹_› (by decide) | decide) :
    Confined w r (loadReceipt s) := by
  unfold loadReceipt
  try dsimp only
  repeat first
    | with_reducible exact h | with_reducible assumption | with_reducible apply frame_ite
    | exact part_sub hw (by decide) | split | fail_if_no_progress with_reducible refine frame_mk hw ?_ | (intro _ _ _)
    | (intro _ _) | (intro _)

theorem eccCheck_frame {w : List Part} {r : State} (x : EccFind) (s : State) (h : Confined w r s)
    (hw : [.ring, .evtLost, .mortar, .jrn, .qe, .repair] ⊆ w
          := by first | assumption | exact part_sub ‹_› (by decide) | decide) :
    Confined w r (eccCheck x s) := by
  unfold eccCheck
  try dsimp only
  repeat first
    | with_reducible exact h | with_reducible assumption | with_reducible apply keystoneScrub_frame
    | with_reducible apply ashlarScrub_frame | with_reducible apply frame_ite | exact part_sub hw (by decide) | split
    | (intro _ _ _) | (intro _ _) | (intro _)

theorem setBlock_frame {w : List Part} {r : State} (put : Nat → Nat → State → State) (width n i : Nat) (b : Bytes)
    (s : State)
    (hp : ∀ a v t, Confined w r t → Confined w r (put a v t)) (h : Confined w r s) : Confined w r
        (setBlock put width n i b s) := by
  induction n generalizing i b s with
  | zero => exact h
  | succ n ih => exact ih _ _ _ (hp _ _ _ h)

theorem loadTables_frame {w : List Part} {r : State} (s : State) (h : Confined w r s)
    (hw : [.qe, .net] ⊆ w := by first | assumption | exact part_sub ‹_› (by decide) | decide) :
    Confined w r (loadTables s) := by
  unfold loadTables
  try dsimp only
  repeat first
    | with_reducible exact h | with_reducible assumption | with_reducible apply setQueue_frame
    | with_reducible apply setBlock_frame | with_reducible apply frame_ite | exact part_sub hw (by decide) | split
    | fail_if_no_progress with_reducible refine frame_mk hw ?_ | with_reducible apply foldl_frame | (intro _ _ _)
    | (intro _ _) | (intro _)

theorem bootCourse_frame {w : List Part} {r : State} (s : State) (h : Confined w r s)
    (hw : [.boot, .courses] ⊆ w := by first | assumption | exact part_sub ‹_› (by decide) | decide) :
    Confined w r (bootCourse s) := by
  unfold bootCourse
  try dsimp only
  repeat first
    | with_reducible exact h | with_reducible assumption | with_reducible apply frame_ite
    | exact part_sub hw (by decide) | split | fail_if_no_progress with_reducible refine frame_mk hw ?_ | (intro _ _ _)
    | (intro _ _) | (intro _)

theorem bootClocks_frame {w : List Part} {r : State} (s : State) (h : Confined w r s)
    (hw : [.live, .clk] ⊆ w := by first | assumption | exact part_sub ‹_› (by decide) | decide) :
    Confined w r (bootClocks s) := by
  unfold bootClocks
  try dsimp only
  repeat first
    | with_reducible exact h | with_reducible assumption | with_reducible apply setLive_frame
    | with_reducible apply frame_ite | exact part_sub hw (by decide) | split
    | fail_if_no_progress with_reducible refine frame_mk hw ?_ | (intro _ _ _) | (intro _ _) | (intro _)

theorem footingPhase_frame {w : List Part} {r : State} (s : State) (h : Confined w r s)
    (hw : [.sys, .boot, .sup, .live, .ring, .evtLost, .field, .courses, .qe, .scarab, .rx, .radio, .swarm, .net, .tb, .timer, .pulse, .clk, .draws] ⊆ w
      := by first | assumption | exact part_sub ‹_› (by decide) | decide) :
    Confined w r (footingPhase s) := by
  have hl : ∀ a, Confined w r { s with live := a } := fun a => frame_mk hw h
  have hm : ∀ t a, Confined w r t → Confined w r { t with sys := a } := fun t a h => frame_mk hw h
  have hf : ∀ t a b, Confined w r t → Confined w r { t with pulse := a, field := b } := fun t a b h => frame_mk hw h
  unfold footingPhase
  extract_lets t u foot course keys v
  exact hf _ _ _ (recompute_frame _ _ (bootClocks_frame _ (hm _ _ (bootCourse_frame _ (loadTables_frame _ (hl _))))))

theorem armBod_frame {w : List Part} {r : State} (s : State) (h : Confined w r s)
    (hw : [.sup, .ring, .evtLost, .mortar, .jrn, .repair, .scarab, .rx, .radio, .net, .pulse, .hod, .clk, .draws] ⊆ w
          := by first | assumption | exact part_sub ‹_› (by decide) | decide) :
    Confined w r (armBod s) := by
  unfold armBod
  try dsimp only
  repeat first
    | with_reducible exact h | with_reducible assumption | with_reducible apply freeBits_frame
    | with_reducible apply enterBod_frame | with_reducible apply frame_ite | exact part_sub hw (by decide) | split
    | (intro _ _ _) | (intro _ _) | (intro _)

theorem unrestore_frame {w : List Part} {r : State} (q : Nat) (s : State) (h : Confined w r s)
    (hw : [.qe] ⊆ w := by first | assumption | exact part_sub ‹_› (by decide) | decide) :
    Confined w r (unrestore q s) := by
  unfold unrestore
  try dsimp only
  repeat first
    | with_reducible exact h | with_reducible assumption | with_reducible apply setQueue_frame
    | with_reducible apply frame_ite | split | (intro _ _ _) | (intro _ _) | (intro _)

theorem reportReady_frame {w : List Part} {r : State} (run : BootRun) (s : State) (h : Confined w r s)
    (hw : [.sys, .boot, .sup, .ring, .evtLost, .mortar, .jrn, .qe, .repair, .scarab, .rx, .radio, .swarm, .net, .tb, .pulse, .hod, .clk, .draws] ⊆ w
          := by first | assumption | exact part_sub ‹_› (by decide) | decide) :
    Confined w r (reportReady run s) := by
  unfold reportReady
  try dsimp only
  repeat first
    | with_reducible exact h | with_reducible assumption | with_reducible apply unrestore_frame
    | with_reducible apply postRepair_frame | with_reducible apply autoReceive_frame
    | with_reducible apply judgeOff_frame | with_reducible apply armBod_frame | with_reducible apply leaveBootTb_frame
    | with_reducible apply frame_ite | exact part_sub hw (by decide) | split
    | fail_if_no_progress with_reducible refine frame_mk hw ?_ | with_reducible apply foldl_frame | (intro _ _ _)
    | (intro _ _) | (intro _)

theorem rebuildPhase_frame {w : List Part} {r : State} (s t : State) (h : Confined w r s)
    (ht : rebuildPhase s = some t) (hw : [.spi, .mortar, .qe, .sec, .timer, .pulse] ⊆ w
      := by first | assumption | exact part_sub ‹_› (by decide) | decide) : Confined w r t := by
  simp only [rebuildPhase] at ht
  split at ht
  · cases ht
  · obtain rfl := Option.some.inj ht
    exact frame_ite (restoreCounters_frame _ (loadReceipt_frame _ (loadWindows_frame _ (frame_mk hw h))))
      (loadReceipt_frame _ (loadWindows_frame _ (frame_mk hw h)))

theorem queuePhase_frame {w : List Part} {r : State} (run : BootRun) (s t : State) (h : Confined w r s)
    (ht : queuePhase run s = some t)
    (hw : [.ring, .evtLost, .spi, .mortar, .jrn, .qe, .repair, .sec, .timer, .pulse] ⊆ w
      := by first | assumption | exact part_sub ‹_› (by decide) | decide) : Confined w r t := by
  unfold queuePhase at ht
  split at ht
  · obtain rfl := Option.some.inj ht
    exact foldl_frame _ _ _ (foldl_frame _ _ _ h fun u x hu => eccCheck_frame x u hu) fun u i hu => retireEntry_frame i u hu
  · exact rebuildPhase_frame s t h ht

theorem phaseWork_frame {w : List Part} {r : State} (p : Nat) (run : BootRun) (s t : State) (h : Confined w r s)
    (ht : phaseWork p run s = some t)
        (hw : wide ⊆ w := by first | assumption | exact part_sub ‹_› (by decide) | decide) : Confined w r t := by
  unfold phaseWork at ht
  split at ht
  · obtain rfl := Option.some.inj ht
    exact factoryPhase_frame _ h
  · split at ht
    · obtain rfl := Option.some.inj ht
      exact clockPhase_frame _ h
    · split at ht
      · obtain rfl := Option.some.inj ht
        exact mountPhase_frame _ _ h
      · split at ht
        · obtain rfl := Option.some.inj ht
          exact repairPhase_frame _ _ h
        · split at ht
          · exact queuePhase_frame _ s t h ht
          · split at ht
            · obtain rfl := Option.some.inj ht
              exact footingPhase_frame _ h
            · obtain rfl := Option.some.inj ht
              exact h

theorem runPhases_frame {w : List Part} {r : State} (l : List Nat) (run : BootRun) (s : State) (h : Confined w r s)
    (hw : wide ⊆ w := by first | assumption | exact part_sub ‹_› (by decide) | decide) :
    Confined w r (runPhases l run s) := by
  induction l generalizing s with
  | nil => exact reportReady_frame _ _ h
  | cons p ps ih =>
    unfold runPhases
    dsimp only
    refine frame_ite (frame_mk hw (frame_ite (mountPhase_frame _ _ (frame_mk hw h)) (frame_mk hw h))) ?_
    split
    · rename_i t ht
      exact ih t (phaseWork_frame _ _ _ t (frame_mk hw h) ht)
    · exact frame_mk hw h

theorem startBoot_frame {w : List Part} {r : State} (run : BootRun) (s : State) (h : Confined w r s)
    (hw : wide ⊆ w := by first | assumption | exact part_sub ‹_› (by decide) | decide) :
    Confined w r (startBoot run s) := by
  unfold startBoot
  try dsimp only
  repeat first
    | with_reducible exact h | with_reducible assumption | with_reducible apply runPhases_frame
    | with_reducible apply frame_ite | exact part_sub hw (by decide) | split
    | fail_if_no_progress with_reducible refine frame_mk hw ?_ | (intro _ _ _) | (intro _ _) | (intro _)

theorem resumeBoot_frame {w : List Part} {r : State} (s : State) (h : Confined w r s)
    (hw : wide ⊆ w := by first | assumption | exact part_sub ‹_› (by decide) | decide) :
    Confined w r (resumeBoot s) := by
  unfold resumeBoot
  try dsimp only
  repeat first
    | with_reducible exact h | with_reducible assumption | with_reducible apply runPhases_frame
    | with_reducible apply frame_ite | exact part_sub hw (by decide) | split
    | fail_if_no_progress with_reducible refine frame_mk hw ?_ | (intro _ _ _) | (intro _ _) | (intro _)

theorem resumeQueues_frame {w : List Part} {r : State} (s : State) (h : Confined w r s)
    (hw : wide ⊆ w := by first | assumption | exact part_sub ‹_› (by decide) | decide) :
    Confined w r (resumeQueues s) := by
  unfold resumeQueues
  try dsimp only
  repeat first
    | with_reducible exact h | with_reducible assumption | with_reducible apply runPhases_frame
    | with_reducible apply frame_ite | exact part_sub hw (by decide) | split
    | fail_if_no_progress with_reducible refine frame_mk hw ?_ | (intro _ _ _) | (intro _ _) | (intro _)

theorem thermSampled_frame {w : List Part} {r : State} (temp : Half) (s : State) (h : Confined w r s)
    (hw : wide ⊆ w := by first | assumption | exact part_sub ‹_› (by decide) | decide) :
    Confined w r (thermSampled temp s) := by
  unfold thermSampled
  try dsimp only
  repeat first
    | with_reducible exact h | with_reducible assumption | with_reducible apply resumeQueues_frame
    | with_reducible apply thermSample_frame | with_reducible apply frame_ite | exact part_sub hw (by decide) | split
    | (intro _ _ _) | (intro _ _) | (intro _)

theorem resetCommit_frame {w : List Part} {r : State} (fails : List (Nat × Bool)) (s : State) (h : Confined w r s)
    (hw : [.mortar, .jrn, .pulse, .hod] ⊆ w := by first | assumption | exact part_sub ‹_› (by decide) | decide) :
    Confined w r (resetCommit fails s) := by
  unfold resetCommit
  try dsimp only
  repeat first
    | with_reducible exact h | with_reducible assumption | with_reducible apply commitStage_frame
    | with_reducible apply fullCommit_frame | with_reducible apply frame_ite | exact part_sub hw (by decide) | split
    | (intro _ _ _) | (intro _ _) | (intro _)

theorem takeReset_frame {w : List Part} {r : State} (cause : Nat) (commit : Bool) (fails : List (Nat × Bool))
    (s : State) (h : Confined w r s)
    (hw : wide ⊆ w := by first | assumption | exact part_sub ‹_› (by decide) | decide) :
    Confined w r (takeReset cause commit fails s) := by
  unfold takeReset
  try dsimp only
  repeat first
    | with_reducible exact h | with_reducible assumption | with_reducible apply warmState_frame
    | with_reducible apply resetCommit_frame | with_reducible apply frame_ite | exact part_sub hw (by decide) | split
    | fail_if_no_progress with_reducible refine frame_mk hw ?_ | (intro _ _ _) | (intro _ _) | (intro _)

theorem powerOnReset_frame {w : List Part} {r : State} (dipped : Bool) (run : BootRun) (s : State) (h : Confined w r s)
    (hw : (.pins :: wide) ⊆ w := by first | assumption | exact part_sub ‹_› (by decide) | decide) :
    Confined w r (powerOnReset dipped run s) := by
  unfold powerOnReset
  try dsimp only
  repeat first
    | with_reducible exact h | with_reducible assumption | with_reducible apply coldState_frame
    | with_reducible apply addCause_frame | with_reducible apply startBoot_frame | with_reducible apply frame_ite
    | exact part_sub hw (by decide) | split | fail_if_no_progress with_reducible refine frame_mk hw ?_ | (intro _ _ _)
    | (intro _ _) | (intro _)

theorem brownOutReset_frame {w : List Part} {r : State} (s : State) (h : Confined w r s)
    (hw : wide ⊆ w := by first | assumption | exact part_sub ‹_› (by decide) | decide) :
    Confined w r (brownOutReset s) := by
  unfold brownOutReset
  try dsimp only
  repeat first
    | with_reducible exact h | with_reducible assumption | with_reducible apply coldState_frame
    | with_reducible apply frame_ite | exact part_sub hw (by decide) | split
    | fail_if_no_progress with_reducible refine frame_mk hw ?_ | (intro _ _ _) | (intro _ _) | (intro _)

theorem resetN_frame {w : List Part} {r : State} (s : State) (h : Confined w r s)
    (hw : (.pins :: wide) ⊆ w := by first | assumption | exact part_sub ‹_› (by decide) | decide) :
    Confined w r (resetN s) := by
  unfold resetN
  try dsimp only
  repeat first
    | with_reducible exact h | with_reducible assumption | with_reducible apply addCause_frame
    | with_reducible apply takeReset_frame | with_reducible apply frame_ite | exact part_sub hw (by decide) | split
    | fail_if_no_progress with_reducible refine frame_mk hw ?_ | (intro _ _ _) | (intro _ _) | (intro _)

theorem resetNRelease_frame {w : List Part} {r : State} (run : BootRun) (s : State) (h : Confined w r s)
    (hw : (.pins :: wide) ⊆ w := by first | assumption | exact part_sub ‹_› (by decide) | decide) :
    Confined w r (resetNRelease run s) := by
  unfold resetNRelease
  try dsimp only
  repeat first
    | with_reducible exact h | with_reducible assumption | with_reducible apply startBoot_frame
    | with_reducible apply frame_ite | exact part_sub hw (by decide) | split
    | fail_if_no_progress with_reducible refine frame_mk hw ?_ | (intro _ _ _) | (intro _ _) | (intro _)

theorem resetAndBoot_frame {w : List Part} {r : State} (cause : Nat) (commit : Bool) (run : BootRun) (s : State)
    (h : Confined w r s)
    (hw : wide ⊆ w := by first | assumption | exact part_sub ‹_› (by decide) | decide) :
    Confined w r (resetAndBoot cause commit run s) := by
  unfold resetAndBoot
  try dsimp only
  repeat first
    | with_reducible exact h | with_reducible assumption | with_reducible apply takeReset_frame
    | with_reducible apply startBoot_frame | with_reducible apply frame_ite | exact part_sub hw (by decide) | split
    | fail_if_no_progress with_reducible refine frame_mk hw ?_ | (intro _ _ _) | (intro _ _) | (intro _)

theorem watchdogReset_frame {w : List Part} {r : State} (engine : Sys2Proof.Engine) (run : BootRun) (s : State)
    (h : Confined w r s)
    (hw : wide ⊆ w := by first | assumption | exact part_sub ‹_› (by decide) | decide) :
    Confined w r (watchdogReset engine run s) := by
  unfold watchdogReset
  try dsimp only
  repeat first
    | with_reducible exact h | with_reducible assumption | with_reducible apply addCause_frame
    | with_reducible apply resetAndBoot_frame | with_reducible apply frame_ite | exact part_sub hw (by decide) | split
    | (intro _ _ _) | (intro _ _) | (intro _)

theorem bootWatchdog_frame {w : List Part} {r : State} (run : BootRun) (s : State) (h : Confined w r s)
    (hw : wide ⊆ w := by first | assumption | exact part_sub ‹_› (by decide) | decide) :
    Confined w r (bootWatchdog run s) := by
  unfold bootWatchdog
  try dsimp only
  repeat first
    | with_reducible exact h | with_reducible assumption | with_reducible apply resetAndBoot_frame
    | with_reducible apply addCause_frame | with_reducible apply frame_ite | exact part_sub hw (by decide) | split
    | fail_if_no_progress with_reducible refine frame_mk hw ?_ | (intro _ _ _) | (intro _ _) | (intro _)

theorem deferredReset_frame {w : List Part} {r : State} (run : BootRun) (s : State) (h : Confined w r s)
    (hw : wide ⊆ w := by first | assumption | exact part_sub ‹_› (by decide) | decide) :
    Confined w r (deferredReset run s) := by
  unfold deferredReset
  try dsimp only
  repeat first
    | with_reducible exact h | with_reducible assumption | with_reducible apply addCause_frame
    | with_reducible apply resetAndBoot_frame | with_reducible apply frame_ite | exact part_sub hw (by decide) | split
    | fail_if_no_progress with_reducible refine frame_mk hw ?_ | (intro _ _ _) | (intro _ _) | (intro _)

theorem jtagReset_frame {w : List Part} {r : State} (run : BootRun) (s : State) (h : Confined w r s)
    (hw : wide ⊆ w := by first | assumption | exact part_sub ‹_› (by decide) | decide) :
    Confined w r (jtagReset run s) := by
  unfold jtagReset
  try dsimp only
  repeat first
    | with_reducible exact h | with_reducible assumption | with_reducible apply addCause_frame
    | with_reducible apply resetAndBoot_frame | with_reducible apply frame_ite | exact part_sub hw (by decide) | split
    | (intro _ _ _) | (intro _ _) | (intro _)

theorem wakeFrom_frame {w : List Part} {r : State} (sources : BitVec 7) (run : BootRun) (s : State) (h : Confined w r s)
    (hw : wide ⊆ w := by first | assumption | exact part_sub ‹_› (by decide) | decide) :
    Confined w r (wakeFrom sources run s) := by
  unfold wakeFrom
  try dsimp only
  repeat first
    | with_reducible exact h | with_reducible assumption | with_reducible apply warmState_frame
    | with_reducible apply startBoot_frame | with_reducible apply wakeIdle_frame | with_reducible apply frame_ite
    | exact part_sub hw (by decide) | split | fail_if_no_progress with_reducible refine frame_mk hw ?_ | (intro _ _ _)
    | (intro _ _) | (intro _)

theorem joinWake_frame {w : List Part} {r : State} (sources : BitVec 7) (s : State) (h : Confined w r s)
    (hw : [.sup] ⊆ w := by first | assumption | exact part_sub ‹_› (by decide) | decide) :
    Confined w r (joinWake sources s) := by
  unfold joinWake
  try dsimp only
  repeat first
    | with_reducible exact h | with_reducible assumption | with_reducible apply frame_ite
    | exact part_sub hw (by decide) | split | fail_if_no_progress with_reducible refine frame_mk hw ?_ | (intro _ _ _)
    | (intro _ _) | (intro _)

theorem wake_frame {w : List Part} {r : State} (sources : BitVec 7) (run : BootRun) (s : State) (h : Confined w r s)
    (hw : wide ⊆ w := by first | assumption | exact part_sub ‹_› (by decide) | decide) :
    Confined w r (wake sources run s) := by
  unfold wake
  try dsimp only
  repeat first
    | with_reducible exact h | with_reducible assumption | with_reducible apply wakeFrom_frame
    | with_reducible apply joinWake_frame | with_reducible apply frame_ite | exact part_sub hw (by decide) | split
    | (intro _ _ _) | (intro _ _) | (intro _)

theorem spiWake_frame {w : List Part} {r : State} (run : BootRun) (s : State) (h : Confined w r s)
    (hw : wide ⊆ w := by first | assumption | exact part_sub ‹_› (by decide) | decide) :
    Confined w r (spiWake run s) := by
  unfold spiWake
  try dsimp only
  repeat first
    | with_reducible exact h | with_reducible assumption | with_reducible apply wakeFrom_frame
    | with_reducible apply joinWake_frame | with_reducible apply frame_ite | exact part_sub hw (by decide) | split
    | fail_if_no_progress with_reducible refine frame_mk hw ?_ | (intro _ _ _) | (intro _ _) | (intro _)

theorem xoStarted_frame {w : List Part} {r : State} (s : State) (h : Confined w r s)
    (hw : wide ⊆ w := by first | assumption | exact part_sub ‹_› (by decide) | decide) :
    Confined w r (xoStarted s) := by
  unfold xoStarted
  try dsimp only
  repeat first
    | with_reducible exact h | with_reducible assumption | with_reducible apply resumeBoot_frame
    | with_reducible apply xoStart_frame | with_reducible apply frame_ite | exact part_sub hw (by decide) | split
    | (intro _ _ _) | (intro _ _) | (intro _)

theorem pllLocked_frame {w : List Part} {r : State} (s : State) (h : Confined w r s)
    (hw : wide ⊆ w := by first | assumption | exact part_sub ‹_› (by decide) | decide) :
    Confined w r (pllLocked s) := by
  unfold pllLocked
  try dsimp only
  repeat first
    | with_reducible exact h | with_reducible assumption | with_reducible apply resumeBoot_frame
    | with_reducible apply pllLock_frame | with_reducible apply frame_ite | exact part_sub hw (by decide) | split
    | (intro _ _ _) | (intro _ _) | (intro _)

theorem pllTimeout_frame {w : List Part} {r : State} (s : State) (h : Confined w r s)
    (hw : wide ⊆ w := by first | assumption | exact part_sub ‹_› (by decide) | decide) :
    Confined w r (pllTimeout s) := by
  unfold pllTimeout
  try dsimp only
  repeat first
    | with_reducible exact h | with_reducible assumption | with_reducible apply resumeBoot_frame
    | with_reducible apply lockTimeout_frame | with_reducible apply frame_ite | exact part_sub hw (by decide) | split
    | (intro _ _ _) | (intro _ _) | (intro _)

theorem xoFailure_frame {w : List Part} {r : State} (s : State) (h : Confined w r s)
    (hw : wide ⊆ w := by first | assumption | exact part_sub ‹_› (by decide) | decide) :
    Confined w r (xoFailure s) := by
  unfold xoFailure
  try dsimp only
  repeat first
    | with_reducible exact h | with_reducible assumption | with_reducible apply xoFail_frame
    | with_reducible apply wakeIdle_frame | with_reducible apply resumeBoot_frame | with_reducible apply frame_ite
    | exact part_sub hw (by decide) | split | fail_if_no_progress with_reducible refine frame_mk hw ?_ | (intro _ _ _)
    | (intro _ _) | (intro _)

theorem restoreFrame_frame {w : List Part} {r : State} (q : Nat) (inCh : Bool) (f : Frame) (s t : State)
    (h : Confined w r s)
    (ht : restoreFrame q inCh f s = some t)
        (hw : [.qe] ⊆ w := by first | assumption | exact part_sub ‹_› (by decide) | decide) : Confined w r t := by
  unfold restoreFrame at ht
  extract_lets v at ht
  split at ht
  · cases ht
  · generalize (if inCh = true then v.inCh else v.outCh) = l at ht
    split at ht
    · cases ht
    · obtain rfl := Option.some.inj ht
      exact frame_mk hw (markParts_frame _ _ _ (setQueue_frame _ _ _ (advanceGen_frame _ _ (touch_frame _ _ h))))

theorem restoreFrames_frame {w : List Part} {r : State} (q : Nat) (inCh : Bool) (l : List Frame) (s : State)
    (h : Confined w r s) (hw : [.ring, .evtLost, .mortar, .jrn, .qe, .repair] ⊆ w
      := by first | assumption | exact part_sub ‹_› (by decide) | decide) :
    Confined w r (restoreFrames q inCh l s) := by
  induction l generalizing s with
  | nil => exact h
  | cons f l ih =>
    unfold restoreFrames
    split
    · rename_i t ht
      exact ih t (restoreFrame_frame _ _ _ _ t h ht)
    · exact countLost_frame _ _ _ (releaseLost_frame _ _ _ _ h)

theorem restoreChain_frame {w : List Part} {r : State} (q : Nat) (inCh : Bool) (s : State) (h : Confined w r s)
    (hw : [.ring, .evtLost, .mortar, .jrn, .qe, .repair] ⊆ w
          := by first | assumption | exact part_sub ‹_› (by decide) | decide) :
    Confined w r (restoreChain q inCh s) := by
  unfold restoreChain
  try dsimp only
  repeat first
    | with_reducible exact h | with_reducible assumption | with_reducible apply restoreFrames_frame
    | with_reducible apply frame_ite | exact part_sub hw (by decide) | split
    | fail_if_no_progress with_reducible refine frame_mk hw ?_ | (intro _ _ _) | (intro _ _) | (intro _)

theorem journalRestore_frame {w : List Part} {r : State} (n : Nat) (s : State) (h : Confined w r s)
    (hw : [.sys, .ring, .evtLost, .mortar, .jrn, .qe, .repair] ⊆ w
      := by first | assumption | exact part_sub ‹_› (by decide) | decide) : Confined w r (journalRestore n s) := by
  induction n generalizing s with
  | zero => exact h
  | succ n ih =>
    unfold journalRestore
    refine frame_ite h ?_
    split
    · exact h
    · have hm : ∀ t a, Confined w r t → Confined w r { t with sys := a } := fun t a h => frame_mk hw h
      exact ih _ (hm _ _ (restoreChain_frame _ _ _ (restoreChain_frame _ _ _ h)))

theorem writeField_frame {w : List Part} {r : State} (key lo width v : Nat) (s : State) (h : Confined w r s)
    (hw : [.sys, .sup, .live, .ring, .evtLost, .spi, .field, .qe, .scarab, .rx, .radio, .swarm, .net, .tb, .timer, .pulse, .clk, .draws] ⊆ w
          := by first | assumption | exact part_sub ‹_› (by decide) | decide) :
    Confined w r (writeField key lo width v s) := by
  unfold writeField
  try dsimp only
  repeat first
    | with_reducible exact h | with_reducible assumption | with_reducible apply setEntry_frame
    | with_reducible apply spiError_frame | with_reducible apply frame_ite | exact part_sub hw (by decide) | split
    | (intro _ _ _) | (intro _ _) | (intro _)

theorem writeMerged_frame {w : List Part} {r : State} (key : Nat) (x : Nat × Bool) (s : State) (h : Confined w r s)
    (hw : [.sys, .sup, .live, .ring, .evtLost, .spi, .field, .qe, .scarab, .rx, .radio, .swarm, .net, .tb, .timer, .pulse, .clk, .draws] ⊆ w
          := by first | assumption | exact part_sub ‹_› (by decide) | decide) :
    Confined w r (writeMerged key x s) := by
  unfold writeMerged
  try dsimp only
  repeat first
    | with_reducible exact h | with_reducible assumption | with_reducible apply setEntry_frame
    | with_reducible apply spiError_frame | with_reducible apply frame_ite | exact part_sub hw (by decide) | split
    | (intro _ _ _) | (intro _ _) | (intro _)

theorem writeFields_frame {w : List Part} {r : State} (key : Nat) (fields : List (Nat × Nat)) (v : Nat) (s : State)
    (h : Confined w r s)
    (hw : [.sys, .sup, .live, .ring, .evtLost, .spi, .field, .qe, .scarab, .rx, .radio, .swarm, .net, .tb, .timer, .pulse, .clk, .draws] ⊆ w
          := by first | assumption | exact part_sub ‹_› (by decide) | decide) :
    Confined w r (writeFields key fields v s) := by
  unfold writeFields
  try dsimp only
  repeat first
    | with_reducible exact h | with_reducible assumption | with_reducible apply writeMerged_frame
    | with_reducible apply frame_ite | split | (intro _ _ _) | (intro _ _) | (intro _)

theorem writeCko_frame {w : List Part} {r : State} (n v : Nat) (s : State) (h : Confined w r s)
    (hw : [.sys, .sup, .live, .ring, .evtLost, .spi, .field, .qe, .scarab, .rx, .radio, .swarm, .net, .tb, .timer, .pulse, .clk, .draws] ⊆ w
          := by first | assumption | exact part_sub ‹_› (by decide) | decide) :
    Confined w r (writeCko n v s) := by
  unfold writeCko
  try dsimp only
  repeat first
    | with_reducible exact h | with_reducible assumption | with_reducible apply writeFields_frame
    | with_reducible apply spiError_frame | with_reducible apply frame_ite | exact part_sub hw (by decide) | split
    | (intro _ _ _) | (intro _ _) | (intro _)

theorem command_frame {w : List Part} {r : State} (addr key v : Nat) (takes : Bool) (go : State → State) (s : State)
    (hg : ∀ t, Confined w r t → Confined w r (go t)) (h : Confined w r s)
        (hw : [.ring, .evtLost, .spi, .engine, .qe] ⊆ w
          := by first | assumption | exact part_sub ‹_› (by decide) | decide) : Confined w r
        (command addr key v takes go s) := by
  unfold command
  apply frame_ite (spiError_frame _ _ h)
  split
  · exact spiError_frame _ _ (illegalState_frame _ _ _ _ _ _ _ h)
  · exact frame_ite (spiError_frame _ _ h) (hg s h)

theorem writeStateCmd_frame {w : List Part} {r : State} (v : Nat) (s : State) (h : Confined w r s)
    (hw : [.sys, .boot, .sup, .live, .ring, .evtLost, .spi, .field, .engine, .courses, .qe, .scarab, .rx, .radio, .swarm, .net, .tb, .timer, .pulse, .clk, .draws] ⊆ w
          := by first | assumption | exact part_sub ‹_› (by decide) | decide) :
    Confined w r (writeStateCmd v s) := by
  unfold writeStateCmd
  try dsimp only
  repeat first
    | with_reducible exact h | with_reducible assumption | with_reducible apply command_frame
    | with_reducible apply transitionAt_frame | with_reducible apply frame_ite | exact part_sub hw (by decide) | split
    | fail_if_no_progress with_reducible refine frame_mk hw ?_ | (intro _ _ _) | (intro _ _) | (intro _)

theorem writeXoCfg_frame {w : List Part} {r : State} (v : Nat) (s : State) (h : Confined w r s)
    (hw : [.sys, .ring, .evtLost, .mortar, .repair, .id] ⊆ w
          := by first | assumption | exact part_sub ‹_› (by decide) | decide) :
    Confined w r (writeXoCfg v s) := by
  unfold writeXoCfg
  try dsimp only
  repeat first
    | with_reducible exact h | with_reducible assumption | with_reducible apply lockViolation_frame
    | with_reducible apply frame_ite | exact part_sub hw (by decide) | split
    | fail_if_no_progress with_reducible refine frame_mk hw ?_ | (intro _ _ _) | (intro _ _) | (intro _)

theorem writeCntVal_frame {w : List Part} {r : State} (n : Nat) (v : Half) (s : State) (h : Confined w r s)
    (hw : [.sys, .sup, .live, .ring, .evtLost, .spi, .field, .engine, .qe, .scarab, .rx, .radio, .swarm, .net, .tb, .timer, .pulse, .clk, .draws] ⊆ w
          := by first | assumption | exact part_sub ‹_› (by decide) | decide) :
    Confined w r (writeCntVal n v s) := by
  unfold writeCntVal
  try dsimp only
  repeat first
    | with_reducible exact h | with_reducible assumption | with_reducible apply command_frame
    | with_reducible apply setEntry_frame | with_reducible apply frame_ite | exact part_sub hw (by decide) | split
    | fail_if_no_progress with_reducible refine frame_mk hw ?_ | (intro _ _ _) | (intro _ _) | (intro _)

theorem clearMon_frame {w : List Part} {r : State} (v : Nat) (s : State) (h : Confined w r s)
    (hw : [.clk] ⊆ w := by first | assumption | exact part_sub ‹_› (by decide) | decide) :
    Confined w r (clearMon v s) := by
  unfold clearMon
  try dsimp only
  repeat first
    | with_reducible exact h | with_reducible assumption | with_reducible apply frame_ite
    | exact part_sub hw (by decide) | split | fail_if_no_progress with_reducible refine frame_mk hw ?_ | (intro _ _ _)
    | (intro _ _) | (intro _)

theorem clearCapStat_frame {w : List Part} {r : State} (v : Nat) (s : State) (h : Confined w r s)
    (hw : [.timer] ⊆ w := by first | assumption | exact part_sub ‹_› (by decide) | decide) :
    Confined w r (clearCapStat v s) := by
  unfold clearCapStat
  try dsimp only
  repeat first
    | with_reducible exact h | with_reducible assumption | with_reducible apply flushEdges_frame
    | with_reducible apply frame_ite | exact part_sub hw (by decide) | split
    | fail_if_no_progress with_reducible refine frame_mk hw ?_ | (intro _ _ _) | (intro _ _) | (intro _)

theorem clearCapsStat_frame {w : List Part} {r : State} (v : Nat) (s : State) (h : Confined w r s)
    (hw : [.timer] ⊆ w := by first | assumption | exact part_sub ‹_› (by decide) | decide) :
    Confined w r (clearCapsStat v s) := by
  unfold clearCapsStat
  try dsimp only
  repeat first
    | with_reducible exact h | with_reducible assumption | with_reducible apply flushEdges_frame
    | with_reducible apply frame_ite | exact part_sub hw (by decide) | split
    | fail_if_no_progress with_reducible refine frame_mk hw ?_ | (intro _ _ _) | (intro _ _) | (intro _)

theorem clearCntStat_frame {w : List Part} {r : State} (v : Nat) (s : State) (h : Confined w r s)
    (hw : [.timer] ⊆ w := by first | assumption | exact part_sub ‹_› (by decide) | decide) :
    Confined w r (clearCntStat v s) := by
  unfold clearCntStat
  try dsimp only
  repeat first
    | with_reducible exact h | with_reducible assumption | with_reducible apply frame_ite
    | exact part_sub hw (by decide) | split | fail_if_no_progress with_reducible refine frame_mk hw ?_ | (intro _ _ _)
    | (intro _ _) | (intro _)

theorem clearFpStat_frame {w : List Part} {r : State} (v : Nat) (s : State) (h : Confined w r s)
    (hw : [.field] ⊆ w := by first | assumption | exact part_sub ‹_› (by decide) | decide) :
    Confined w r (clearFpStat v s) := by
  unfold clearFpStat
  try dsimp only
  repeat first
    | with_reducible exact h | with_reducible assumption | with_reducible apply frame_ite
    | exact part_sub hw (by decide) | split | fail_if_no_progress with_reducible refine frame_mk hw ?_ | (intro _ _ _)
    | (intro _ _) | (intro _)

theorem writeEarly_frame {w : List Part} {r : State} (a v : Nat) (s : State) (h : Confined w r s)
    (hw : wide ⊆ w := by first | assumption | exact part_sub ‹_› (by decide) | decide) :
    Confined w r (writeEarly a v s) := by
  unfold writeEarly
  try dsimp only
  repeat first
    | with_reducible exact h | with_reducible assumption | with_reducible apply writeStateCmd_frame
    | with_reducible apply clearMon_frame | with_reducible apply writeXoCfg_frame
    | with_reducible apply writeField_frame | with_reducible apply writeCko_frame | with_reducible apply command_frame
    | with_reducible apply requestSleep_frame | with_reducible apply frame_ite | exact part_sub hw (by decide) | split
    | fail_if_no_progress with_reducible refine frame_mk hw ?_ | (intro _ _ _) | (intro _ _) | (intro _)

theorem writePortRadio_frame {w : List Part} {r : State} (a v : Nat) (s : State) (h : Confined w r s)
    (hw : [.sys, .sup, .live, .ring, .evtLost, .spi, .field, .engine, .mortar, .jrn, .qe, .repair, .scarab, .rx, .radio, .swarm, .net, .tb, .timer, .pulse, .clk, .draws] ⊆ w
          := by first | assumption | exact part_sub ‹_› (by decide) | decide) :
    Confined w r (writePortRadio a v s) := by
  unfold writePortRadio
  try dsimp only
  repeat first
    | with_reducible exact h | with_reducible assumption | with_reducible apply writeField_frame
    | with_reducible apply spiError_frame | with_reducible apply clearFpStat_frame
    | with_reducible apply writeFields_frame | with_reducible apply command_frame
    | with_reducible apply radioCommand_frame | with_reducible apply frame_ite | exact part_sub hw (by decide) | split
    | fail_if_no_progress with_reducible refine frame_mk hw ?_ | (intro _ _ _) | (intro _ _) | (intro _)

theorem staggerStaged_frame {w : List Part} {r : State} (s : State) (h : Confined w r s)
    (hw : [.live, .spi, .timer] ⊆ w := by first | assumption | exact part_sub ‹_› (by decide) | decide) :
    Confined w r (staggerStaged s) := by
  unfold staggerStaged
  try dsimp only
  repeat first
    | with_reducible exact h | with_reducible assumption | with_reducible apply spiError_frame
    | with_reducible apply staggerGo_frame | with_reducible apply frame_ite | exact part_sub hw (by decide) | split
    | (intro _ _ _) | (intro _ _) | (intro _)

theorem writeTimer_frame {w : List Part} {r : State} (a v : Nat) (s : State) (h : Confined w r s)
    (hw : [.sys, .sup, .live, .ring, .evtLost, .spi, .field, .engine, .qe, .scarab, .rx, .radio, .swarm, .net, .tb, .timer, .pulse, .clk, .draws] ⊆ w
          := by first | assumption | exact part_sub ‹_› (by decide) | decide) :
    Confined w r (writeTimer a v s) := by
  unfold writeTimer
  try dsimp only
  repeat first
    | with_reducible exact h | with_reducible assumption | with_reducible apply snapshot_frame
    | with_reducible apply clearCmpStat_frame | with_reducible apply clearCapStat_frame
    | with_reducible apply clearCapsStat_frame | with_reducible apply clearCntStat_frame
    | with_reducible apply staggerStaged_frame | with_reducible apply setEntry_frame
    | with_reducible apply spiError_frame | with_reducible apply writeField_frame
    | with_reducible apply writeMerged_frame | with_reducible apply writeCntVal_frame | with_reducible apply frame_ite
    | exact part_sub hw (by decide) | split | fail_if_no_progress with_reducible refine frame_mk hw ?_ | (intro _ _ _)
    | (intro _ _) | (intro _)

theorem writeRest_frame {w : List Part} {r : State} (a v : Nat) (codes : List AdcCode) (s : State) (h : Confined w r s)
    (hw : [.sys, .sup, .live, .ring, .evtLost, .spi, .field, .jrn, .qe, .scarab, .rx, .radio, .swarm, .net, .tb, .timer, .pulse, .adc, .hod, .clk, .draws] ⊆ w
          := by first | assumption | exact part_sub ‹_› (by decide) | decide) :
    Confined w r (writeRest a v codes s) := by
  unfold writeRest
  try dsimp only
  repeat first
    | with_reducible exact h | with_reducible assumption | with_reducible apply writeFields_frame
    | with_reducible apply writeField_frame | with_reducible apply adcBegin_frame
    | with_reducible apply writeMerged_frame | with_reducible apply frame_ite | exact part_sub hw (by decide) | split
    | (intro _ _ _) | (intro _ _) | (intro _)

theorem writeReg_frame {w : List Part} {r : State} (a v : Nat) (codes : List AdcCode) (s : State) (h : Confined w r s)
    (hw : wide ⊆ w := by first | assumption | exact part_sub ‹_› (by decide) | decide) :
    Confined w r (writeReg a v codes s) := by
  unfold writeReg
  try dsimp only
  repeat first
    | with_reducible exact h | with_reducible assumption | with_reducible apply writeEarly_frame
    | with_reducible apply writePortRadio_frame | with_reducible apply writeTimer_frame
    | with_reducible apply writeRest_frame | with_reducible apply frame_ite | exact part_sub hw (by decide) | split
    | (intro _ _ _) | (intro _ _) | (intro _)

theorem gatedAccess_frame {w : List Part} {r : State} (a : Nat) (write : Bool) (s : State) (h : Confined w r s)
    (hw : [.ring, .evtLost, .spi, .clk] ⊆ w := by first | assumption | exact part_sub ‹_› (by decide) | decide) :
    Confined w r (gatedAccess a write s) := by
  unfold gatedAccess
  try dsimp only
  repeat first
    | with_reducible exact h | with_reducible assumption | with_reducible apply spiError_frame
    | with_reducible apply gateError_frame | with_reducible apply frame_ite | exact part_sub hw (by decide) | split
    | (intro _ _ _) | (intro _ _) | (intro _)

theorem hostWrite_frame {w : List Part} {r : State} (a v : Nat) (codes : List AdcCode) (s : State) (h : Confined w r s)
    (hw : wide ⊆ w := by first | assumption | exact part_sub ‹_› (by decide) | decide) :
    Confined w r (hostWrite a v codes s) := by
  unfold hostWrite
  try dsimp only
  repeat first
    | with_reducible exact h | with_reducible assumption | with_reducible apply spiError_frame
    | with_reducible apply writeReg_frame | with_reducible apply gatedAccess_frame | with_reducible apply frame_ite
    | exact part_sub hw (by decide) | split | (intro _ _ _) | (intro _ _) | (intro _)

theorem hostRead_frame {w : List Part} {r : State} (a : Nat) (s : State) (h : Confined w r s)
    (hw : [.ring, .evtLost, .spi, .timer, .clk, .draws] ⊆ w
          := by first | assumption | exact part_sub ‹_› (by decide) | decide) :
    Confined w r (hostRead a s).2 := by
  unfold hostRead
  try dsimp only
  repeat first
    | with_reducible exact h | with_reducible assumption | with_reducible apply spiError_frame
    | with_reducible apply gatedAccess_frame | with_reducible apply regReadEffect_frame
    | with_reducible apply frame_ite | exact part_sub hw (by decide) | split | (intro _ _ _) | (intro _ _) | (intro _)

theorem transact_frame {w : List Part} {r : State} (body : State → Bytes × State) (s : State)
    (hb : ∀ t, Confined w r t → Confined w r (body t).2) (h : Confined w r s)
        (hw : [.spi] ⊆ w := by first | assumption | exact part_sub ‹_› (by decide) | decide) : Confined w r
        (transact body s) := by
  unfold transact
  exact frame_ite h (frame_mk hw (hb _ (frame_mk hw h)))

theorem refuseWith_frame {w : List Part} {r : State} (n : Nat) (code : Byte) (s : State) (h : Confined w r s)
    (hw : [.spi] ⊆ w := by first | assumption | exact part_sub ‹_› (by decide) | decide) :
    Confined w r (refuseWith n code s).2 := by
  unfold refuseWith
  try dsimp only
  repeat first
    | with_reducible exact h | with_reducible assumption | with_reducible apply spiError_frame
    | with_reducible apply frame_ite | split | (intro _ _ _) | (intro _ _) | (intro _)

theorem readRegs_frame {w : List Part} {r : State} (n a : Nat) (s : State) (h : Confined w r s)
    (hw : [.ring, .evtLost, .spi, .timer, .clk, .draws] ⊆ w
      := by first | assumption | exact part_sub ‹_› (by decide) | decide) : Confined w r (readRegs n a s).2 := by
  induction n generalizing a s with
  | zero => exact h
  | succ n ih => exact ih _ _ (hostRead_frame _ _ h)

theorem writeRegs_frame {w : List Part} {r : State} (n a : Nat) (b : Bytes) (s : State) (h : Confined w r s)
    (hw : wide ⊆ w := by first | assumption | exact part_sub ‹_› (by decide) | decide) : Confined w r
    (writeRegs n a b s) := by
  induction n generalizing a b s with
  | zero => exact h
  | succ n ih =>
    simp only [writeRegs]
    exact frame_ite (resetAndBoot_frame _ _ _ _ (freeBits_frame _ _ (freeBits_frame _ _ h)))
        (ih _ _ _ (hostWrite_frame _ _ _ _ h))

theorem readBody_frame {w : List Part} {r : State} (addr : Half) (count : Byte) (c8 : Option Byte) (fill : Option Nat)
    (s : State) (h : Confined w r s)
    (hw : [.ring, .evtLost, .spi, .timer, .clk, .draws] ⊆ w
          := by first | assumption | exact part_sub ‹_› (by decide) | decide) :
    Confined w r (readBody addr count c8 fill s).2 := by
  unfold readBody
  try dsimp only
  repeat first
    | with_reducible exact h | with_reducible assumption | with_reducible apply spiError_frame
    | with_reducible apply readRegs_frame | with_reducible apply frame_ite | exact part_sub hw (by decide) | split
    | (intro _ _ _) | (intro _ _) | (intro _)

theorem writeBody_frame {w : List Part} {r : State} (addr : Half) (count : Byte) (data : Bytes) (c8 : Option Byte)
    (s : State) (h : Confined w r s)
    (hw : wide ⊆ w := by first | assumption | exact part_sub ‹_› (by decide) | decide) :
    Confined w r (writeBody addr count data c8 s).2 := by
  unfold writeBody
  try dsimp only
  repeat first
    | with_reducible exact h | with_reducible assumption | with_reducible apply spiError_frame
    | with_reducible apply writeRegs_frame | with_reducible apply frame_ite | exact part_sub hw (by decide) | split
    | (intro _ _ _) | (intro _ _) | (intro _)

theorem requestBody_frame {w : List Part} {r : State} (n : Byte) (pdu : Bytes) (c8 : Option Byte) (s : State)
    (h : Confined w r s)
    (hw : wide ⊆ w := by first | assumption | exact part_sub ‹_› (by decide) | decide) :
    Confined w r (requestBody n pdu c8 s).2 := by
  unfold requestBody
  try dsimp only
  repeat first
    | with_reducible exact h | with_reducible assumption | with_reducible apply spiError_frame
    | with_reducible apply submit_frame | with_reducible apply frame_ite | exact part_sub hw (by decide) | split
    | (intro _ _ _) | (intro _ _) | (intro _)

theorem fetchBody_frame {w : List Part} {r : State} (c8 : Option Byte) (fill : Option Nat) (s : State) (h : Confined w r s)
    (hw : [.spi] ⊆ w := by first | assumption | exact part_sub ‹_› (by decide) | decide) :
    Confined w r (fetchBody c8 fill s).2 := by
  unfold fetchBody
  try dsimp only
  repeat first
    | with_reducible exact h | with_reducible assumption | with_reducible apply spiError_frame
    | with_reducible apply frame_ite | exact part_sub hw (by decide) | split
    | fail_if_no_progress with_reducible refine frame_mk hw ?_ | (intro _ _ _) | (intro _ _) | (intro _)

theorem countFull_frame {w : List Part} {r : State} (q : Nat) (inCh : Bool) (payload : Bytes) (s : State)
    (h : Confined w r s)
    (hw : [.jrn, .qe] ⊆ w := by first | assumption | exact part_sub ‹_› (by decide) | decide) :
    Confined w r (countFull q inCh payload s) := by
  unfold countFull
  try dsimp only
  repeat first
    | with_reducible exact h | with_reducible assumption | with_reducible apply stall_frame
    | with_reducible apply frame_ite | exact part_sub hw (by decide) | split
    | fail_if_no_progress with_reducible refine frame_mk hw ?_ | (intro _ _ _) | (intro _ _) | (intro _)

theorem pushBody_frame {w : List Part} {r : State} (queue len : Half) (c8 : Option Byte) (stream : Bytes)
    (fill : Option Nat) (s : State) (h : Confined w r s)
    (hw : [.spi, .jrn, .qe] ⊆ w := by first | assumption | exact part_sub ‹_› (by decide) | decide) :
    Confined w r (pushBody queue len c8 stream fill s).2 := by
  unfold pushBody
  try dsimp only
  repeat first
    | with_reducible exact h | with_reducible assumption | with_reducible apply spiError_frame
    | with_reducible apply countFull_frame | with_reducible apply streamed_frame | with_reducible apply accept_frame
    | with_reducible apply frame_ite | exact part_sub hw (by decide) | split
    | fail_if_no_progress with_reducible refine frame_mk hw ?_ | (intro _ _ _) | (intro _ _) | (intro _)

theorem takeBody_frame {w : List Part} {r : State} (host : Bytes) (q i : Nat) (c8 : Option Byte) (fill : Option Nat)
    (judge : Frame → State → Option Byte) (effect : State → State) (s : State)
    (he : ∀ t, Confined w r t → Confined w r (effect t)) (h : Confined w r s)
        (hw : [.ring, .evtLost, .spi, .mortar, .jrn, .qe, .repair] ⊆ w
          := by first | assumption | exact part_sub ‹_› (by decide) | decide) : Confined w r
        (takeBody host q i c8 fill judge effect s).2 := by
  have h1 := dropUnreadable_frame q true i _ (touch_frame q s h)
  simp only [takeBody]
  split
  · split
    · exact spiError_frame _ _ h
    · exact spiError_frame _ _ h
  · split
    · exact spiError_frame _ _ h
    · split
      · exact spiError_frame _ _ h
      · split
        · exact spiError_frame _ _ h1
        · split
          · exact spiError_frame _ _ h1
          · split
            · exact he _ h1
            · exact spiError_frame _ _ h1

theorem popBody_frame {w : List Part} {r : State} (queue : Half) (flags : Byte) (sequence : Word) (c8 : Option Byte)
    (fill : Option Nat) (s : State) (h : Confined w r s)
    (hw : [.ring, .evtLost, .spi, .mortar, .jrn, .qe, .repair] ⊆ w
          := by first | assumption | exact part_sub ‹_› (by decide) | decide) :
    Confined w r (popBody queue flags sequence c8 fill s).2 := by
  unfold popBody
  try dsimp only
  repeat first
    | with_reducible exact h | with_reducible assumption | with_reducible apply takeBody_frame
    | with_reducible apply popHead_frame | with_reducible apply frame_ite | exact part_sub hw (by decide) | split
    | fail_if_no_progress with_reducible refine frame_mk hw ?_ | (intro _ _ _) | (intro _ _) | (intro _)

theorem peekBody_frame {w : List Part} {r : State} (queue position : Half) (c8 : Option Byte) (fill : Option Nat)
    (s : State)
    (h : Confined w r s) (hw : [.ring, .evtLost, .spi, .mortar, .jrn, .qe, .repair] ⊆ w
          := by first | assumption | exact part_sub ‹_› (by decide) | decide) : Confined w r
        (peekBody queue position c8 fill s).2 :=
  takeBody_frame _ _ _ _ _ _ _ _ (fun _ ht => ht) h

theorem eventBody_frame {w : List Part} {r : State} (count : Byte) (c8 : Option Byte) (fill : Option Nat) (s : State)
    (h : Confined w r s)
    (hw : [.ring, .spi] ⊆ w := by first | assumption | exact part_sub ‹_› (by decide) | decide) :
    Confined w r (eventBody count c8 fill s).2 := by
  unfold eventBody
  try dsimp only
  repeat first
    | with_reducible exact h | with_reducible assumption | with_reducible apply spiError_frame
    | with_reducible apply frame_ite | exact part_sub hw (by decide) | split
    | fail_if_no_progress with_reducible refine frame_mk hw ?_ | (intro _ _ _) | (intro _ _) | (intro _)

theorem cutBody_frame {w : List Part} {r : State} (host : Bytes) (fill : Nat) (s : State) (h : Confined w r s)
    (hw : wide ⊆ w := by first | assumption | exact part_sub ‹_› (by decide) | decide) :
    Confined w r (cutBody host fill s).2 := by
  unfold cutBody
  try dsimp only
  repeat first
    | with_reducible exact h | with_reducible assumption | with_reducible apply spiError_frame
    | with_reducible apply readBody_frame | with_reducible apply writeBody_frame
    | with_reducible apply fetchBody_frame | with_reducible apply requestBody_frame
    | with_reducible apply pushBody_frame | with_reducible apply popBody_frame | with_reducible apply peekBody_frame
    | with_reducible apply eventBody_frame | with_reducible apply frame_ite | exact part_sub hw (by decide) | split
    | (intro _ _ _) | (intro _ _) | (intro _)

theorem registerRead_frame {w : List Part} {r : State} (addr : Half) (count : Byte) (c8 : Option Byte) (x3 : State)
    (h : Confined w r x3)
    (hw : [.ring, .evtLost, .spi, .timer, .clk, .draws] ⊆ w
          := by first | assumption | exact part_sub ‹_› (by decide) | decide) :
    Confined w r (registerRead addr count c8 x3) := by
  unfold registerRead
  try dsimp only
  repeat first
    | with_reducible exact h | with_reducible assumption | with_reducible apply transact_frame
    | with_reducible apply readBody_frame | with_reducible apply frame_ite | exact part_sub hw (by decide) | split
    | fail_if_no_progress with_reducible refine frame_mk hw ?_ | (intro _ _ _) | (intro _ _) | (intro _)

theorem registerWrite_frame {w : List Part} {r : State} (addr : Half) (count : Byte) (data : Bytes) (c8 : Option Byte)
    (x4 : State) (h : Confined w r x4)
    (hw : wide ⊆ w := by first | assumption | exact part_sub ‹_› (by decide) | decide) :
    Confined w r (registerWrite addr count data c8 x4) := by
  unfold registerWrite
  try dsimp only
  repeat first
    | with_reducible exact h | with_reducible assumption | with_reducible apply transact_frame
    | with_reducible apply writeBody_frame | with_reducible apply frame_ite | exact part_sub hw (by decide) | split
    | fail_if_no_progress with_reducible refine frame_mk hw ?_ | (intro _ _ _) | (intro _ _) | (intro _)

theorem dictionaryRequest_frame {w : List Part} {r : State} (n : Byte) (pdu : Bytes) (c8 : Option Byte) (x3 : State)
    (h : Confined w r x3)
    (hw : wide ⊆ w := by first | assumption | exact part_sub ‹_› (by decide) | decide) :
    Confined w r (dictionaryRequest n pdu c8 x3) := by
  unfold dictionaryRequest
  try dsimp only
  repeat first
    | with_reducible exact h | with_reducible assumption | with_reducible apply transact_frame
    | with_reducible apply fetchBody_frame | with_reducible apply requestBody_frame | with_reducible apply frame_ite
    | exact part_sub hw (by decide) | split | fail_if_no_progress with_reducible refine frame_mk hw ?_ | (intro _ _ _)
    | (intro _ _) | (intro _)

theorem responseFetch_frame {w : List Part} {r : State} (c8 : Option Byte) (x1 : State) (h : Confined w r x1)
    (hw : [.spi] ⊆ w := by first | assumption | exact part_sub ‹_› (by decide) | decide) :
    Confined w r (responseFetch c8 x1) := by
  unfold responseFetch
  try dsimp only
  repeat first
    | with_reducible exact h | with_reducible assumption | with_reducible apply transact_frame
    | with_reducible apply fetchBody_frame | with_reducible apply frame_ite | exact part_sub hw (by decide) | split
    | fail_if_no_progress with_reducible refine frame_mk hw ?_ | (intro _ _ _) | (intro _ _) | (intro _)

theorem queuePush_frame {w : List Part} {r : State} (queue len : Half) (c8 : Option Byte) (payload : Bytes)
    (crc : Word) (x5 : State) (h : Confined w r x5)
    (hw : [.spi, .jrn, .qe] ⊆ w := by first | assumption | exact part_sub ‹_› (by decide) | decide) :
    Confined w r (queuePush queue len c8 payload crc x5) := by
  unfold queuePush
  try dsimp only
  repeat first
    | with_reducible exact h | with_reducible assumption | with_reducible apply transact_frame
    | with_reducible apply pushBody_frame | with_reducible apply frame_ite | exact part_sub hw (by decide) | split
    | fail_if_no_progress with_reducible refine frame_mk hw ?_ | (intro _ _ _) | (intro _ _) | (intro _)

theorem queuePop_frame {w : List Part} {r : State} (queue : Half) (flags : Byte) (sequence : Word) (c8 : Option Byte)
    (x4 : State) (h : Confined w r x4)
    (hw : [.ring, .evtLost, .spi, .mortar, .jrn, .qe, .repair] ⊆ w
          := by first | assumption | exact part_sub ‹_› (by decide) | decide) :
    Confined w r (queuePop queue flags sequence c8 x4) := by
  unfold queuePop
  try dsimp only
  repeat first
    | with_reducible exact h | with_reducible assumption | with_reducible apply transact_frame
    | with_reducible apply popBody_frame | with_reducible apply frame_ite | exact part_sub hw (by decide) | split
    | fail_if_no_progress with_reducible refine frame_mk hw ?_ | (intro _ _ _) | (intro _ _) | (intro _)

theorem queuePeek_frame {w : List Part} {r : State} (queue position : Half) (c8 : Option Byte) (x3 : State)
    (h : Confined w r x3)
    (hw : [.ring, .evtLost, .spi, .mortar, .jrn, .qe, .repair] ⊆ w
          := by first | assumption | exact part_sub ‹_› (by decide) | decide) :
    Confined w r (queuePeek queue position c8 x3) := by
  unfold queuePeek
  try dsimp only
  repeat first
    | with_reducible exact h | with_reducible assumption | with_reducible apply transact_frame
    | with_reducible apply peekBody_frame | with_reducible apply frame_ite | exact part_sub hw (by decide) | split
    | fail_if_no_progress with_reducible refine frame_mk hw ?_ | (intro _ _ _) | (intro _ _) | (intro _)

theorem eventFetch_frame {w : List Part} {r : State} (count : Byte) (c8 : Option Byte) (x2 : State) (h : Confined w r x2)
    (hw : [.ring, .spi] ⊆ w := by first | assumption | exact part_sub ‹_› (by decide) | decide) :
    Confined w r (eventFetch count c8 x2) := by
  unfold eventFetch
  try dsimp only
  repeat first
    | with_reducible exact h | with_reducible assumption | with_reducible apply transact_frame
    | with_reducible apply eventBody_frame | with_reducible apply frame_ite | exact part_sub hw (by decide) | split
    | fail_if_no_progress with_reducible refine frame_mk hw ?_ | (intro _ _ _) | (intro _ _) | (intro _)

theorem statusOnly_frame {w : List Part} {r : State} (x0 : State) (h : Confined w r x0)
    (hw : [.spi] ⊆ w := by first | assumption | exact part_sub ‹_› (by decide) | decide) :
    Confined w r (statusOnly x0) := by
  unfold statusOnly
  try dsimp only
  repeat first
    | with_reducible exact h | with_reducible assumption | with_reducible apply transact_frame
    | with_reducible apply frame_ite | exact part_sub hw (by decide) | split
    | fail_if_no_progress with_reducible refine frame_mk hw ?_ | (intro _ _ _) | (intro _ _) | (intro _)

theorem unknownOpcode_frame {w : List Part} {r : State} (opcode : Byte) (s : State) (h : Confined w r s)
    (hw : [.spi] ⊆ w := by first | assumption | exact part_sub ‹_› (by decide) | decide) :
    Confined w r (unknownOpcode opcode s) := by
  unfold unknownOpcode
  try dsimp only
  repeat first
    | with_reducible exact h | with_reducible assumption | with_reducible apply transact_frame
    | with_reducible apply spiError_frame | with_reducible apply frame_ite | exact part_sub hw (by decide) | split
    | fail_if_no_progress with_reducible refine frame_mk hw ?_ | (intro _ _ _) | (intro _ _) | (intro _)

theorem spiCsNRise_frame {w : List Part} {r : State} (mosi : Bytes) (fill : Nat) (s : State) (h : Confined w r s)
    (hw : wide ⊆ w := by first | assumption | exact part_sub ‹_› (by decide) | decide) :
    Confined w r (spiCsNRise mosi fill s) := by
  unfold spiCsNRise
  try dsimp only
  repeat first
    | with_reducible exact h | with_reducible assumption | with_reducible apply transact_frame
    | with_reducible apply cutBody_frame | with_reducible apply frame_ite | exact part_sub hw (by decide) | split
    | fail_if_no_progress with_reducible refine frame_mk hw ?_ | (intro _ _ _) | (intro _ _) | (intro _)

theorem hostRegister_frame {w : List Part} {r : State} (a v : Nat) (codes : List AdcCode) (x3 : State) (h : Confined w r x3)
    (hw : wide ⊆ w := by first | assumption | exact part_sub ‹_› (by decide) | decide) :
    Confined w r (hostRegister a v codes x3) := by
  unfold hostRegister
  try dsimp only
  repeat first
    | with_reducible exact h | with_reducible assumption | with_reducible apply transact_frame
    | with_reducible apply hostWrite_frame | with_reducible apply frame_ite | exact part_sub hw (by decide) | split
    | fail_if_no_progress with_reducible refine frame_mk hw ?_ | (intro _ _ _) | (intro _ _) | (intro _)

theorem softwareReset_frame {w : List Part} {r : State} (key : Byte) (go : Bool) (run : BootRun) (s : State)
    (h : Confined w r s)
    (hw : wide ⊆ w := by first | assumption | exact part_sub ‹_› (by decide) | decide) :
    Confined w r (softwareReset key go run s) := by
  unfold softwareReset
  try dsimp only
  repeat first
    | with_reducible exact h | with_reducible assumption | with_reducible apply addCause_frame
    | with_reducible apply resetAndBoot_frame | with_reducible apply hostRegister_frame
    | with_reducible apply frame_ite | exact part_sub hw (by decide) | split | (intro _ _ _) | (intro _ _) | (intro _)

theorem portRequest_frame {w : List Part} {r0 : State} (r : Request) (codes : List AdcCode) (s : State)
    (h : Confined w r0 s)
    (hw : wide ⊆ w := by first | assumption | exact part_sub ‹_› (by decide) | decide) :
    Confined w r0 (portRequest r codes s) := by
  unfold portRequest
  try dsimp only
  repeat first
    | with_reducible exact h | with_reducible assumption | with_reducible apply transact_frame
    | with_reducible apply submit_frame | with_reducible apply frame_ite | exact part_sub hw (by decide) | split
    | fail_if_no_progress with_reducible refine frame_mk hw ?_ | (intro _ _ _) | (intro _ _) | (intro _)

theorem dictRead_frame {w : List Part} {r : State} (port : Port) (tag : Byte) (key : Nat) (x3 : State) (h : Confined w r x3)
    (hw : wide ⊆ w := by first | assumption | exact part_sub ‹_› (by decide) | decide) :
    Confined w r (dictRead port tag key x3) := by
  unfold dictRead
  try dsimp only
  repeat first
    | with_reducible exact h | with_reducible assumption | with_reducible apply portRequest_frame
    | with_reducible apply frame_ite | split | (intro _ _ _) | (intro _ _) | (intro _)

theorem dictWrite_frame {w : List Part} {r : State} (port : Port) (tag : Byte) (key : Nat) (value : Bytes) (x4 : State)
    (h : Confined w r x4)
    (hw : wide ⊆ w := by first | assumption | exact part_sub ‹_› (by decide) | decide) :
    Confined w r (dictWrite port tag key value x4) := by
  unfold dictWrite
  try dsimp only
  repeat first
    | with_reducible exact h | with_reducible assumption | with_reducible apply portRequest_frame
    | with_reducible apply frame_ite | split | (intro _ _ _) | (intro _ _) | (intro _)

theorem control_frame {w : List Part} {r : State} (via : Via) (addr key v : Nat) (value : Bytes) (x5 : State)
    (h : Confined w r x5)
    (hw : wide ⊆ w := by first | assumption | exact part_sub ‹_› (by decide) | decide) :
    Confined w r (control via addr key v value x5) := by
  unfold control
  try dsimp only
  repeat first
    | with_reducible exact h | with_reducible assumption | with_reducible apply hostRegister_frame
    | with_reducible apply dictWrite_frame | with_reducible apply frame_ite | exact part_sub hw (by decide) | split
    | (intro _ _ _) | (intro _ _) | (intro _)

theorem hostRegisters_frame {w : List Part} {r : State} (n a : Nat) (x2 : State) (h : Confined w r x2)
    (hw : [.ring, .evtLost, .spi, .timer, .clk, .draws] ⊆ w
          := by first | assumption | exact part_sub ‹_› (by decide) | decide) :
    Confined w r (hostRegisters n a x2) := by
  unfold hostRegisters
  try dsimp only
  repeat first
    | with_reducible exact h | with_reducible assumption | with_reducible apply transact_frame
    | with_reducible apply readRegs_frame | with_reducible apply frame_ite | exact part_sub hw (by decide) | split
    | fail_if_no_progress with_reducible refine frame_mk hw ?_ | (intro _ _ _) | (intro _ _) | (intro _)

theorem endReply_frame {w : List Part} {r : State} (s : State) (h : Confined w r s)
    (hw : [.field] ⊆ w := by first | assumption | exact part_sub ‹_› (by decide) | decide) :
    Confined w r (endReply s) := by
  unfold endReply
  try dsimp only
  repeat first
    | with_reducible exact h | with_reducible assumption | with_reducible apply frame_ite
    | exact part_sub hw (by decide) | split | fail_if_no_progress with_reducible refine frame_mk hw ?_ | (intro _ _ _)
    | (intro _ _) | (intro _)

theorem fieldRequest_frame {w : List Part} {r : State} (f : Bytes) (s : State) (h : Confined w r s)
    (hw : wide ⊆ w := by first | assumption | exact part_sub ‹_› (by decide) | decide) :
    Confined w r (fieldRequest f s) := by
  unfold fieldRequest
  try dsimp only
  repeat first
    | with_reducible exact h | with_reducible assumption | with_reducible apply submit_frame
    | with_reducible apply frame_ite | exact part_sub hw (by decide) | split
    | fail_if_no_progress with_reducible refine frame_mk hw ?_ | (intro _ _ _) | (intro _ _) | (intro _)

theorem fieldFrame_frame {w : List Part} {r : State} (inForce other : Bytes) (s : State) (h : Confined w r s)
    (hw : wide ⊆ w := by first | assumption | exact part_sub ‹_› (by decide) | decide) :
    Confined w r (fieldFrame inForce other s) := by
  unfold fieldFrame
  try dsimp only
  repeat first
    | with_reducible exact h | with_reducible assumption | with_reducible apply endReply_frame
    | with_reducible apply fieldRequest_frame | with_reducible apply frame_ite | exact part_sub hw (by decide) | split
    | fail_if_no_progress with_reducible refine frame_mk hw ?_ | (intro _ _ _) | (intro _ _) | (intro _)

theorem fieldReply_frame {w : List Part} {r : State} (s : State) (h : Confined w r s)
    (hw : [.field] ⊆ w := by first | assumption | exact part_sub ‹_› (by decide) | decide) :
    Confined w r (fieldReply s) := by
  unfold fieldReply
  try dsimp only
  repeat first
    | with_reducible exact h | with_reducible assumption | with_reducible apply frame_ite
    | exact part_sub hw (by decide) | split | fail_if_no_progress with_reducible refine frame_mk hw ?_ | (intro _ _ _)
    | (intro _ _) | (intro _)

theorem abandonReply_frame {w : List Part} {r : State} (s : State) (h : Confined w r s)
    (hw : [.field] ⊆ w := by first | assumption | exact part_sub ‹_› (by decide) | decide) :
    Confined w r (abandonReply s) := by
  unfold abandonReply
  try dsimp only
  repeat first
    | with_reducible exact h | with_reducible assumption | with_reducible apply frame_ite
    | exact part_sub hw (by decide) | split | fail_if_no_progress with_reducible refine frame_mk hw ?_ | (intro _ _ _)
    | (intro _ _) | (intro _)

theorem echoFault_frame {w : List Part} {r : State} (noTransition : Bool) (s : State) (h : Confined w r s)
    (hw : [.field, .draws] ⊆ w := by first | assumption | exact part_sub ‹_› (by decide) | decide) :
    Confined w r (echoFault noTransition s) := by
  unfold echoFault
  try dsimp only
  repeat first
    | with_reducible exact h | with_reducible assumption | with_reducible apply abandonReply_frame
    | with_reducible apply draw_frame | with_reducible apply frame_ite | exact part_sub hw (by decide) | split
    | fail_if_no_progress with_reducible refine frame_mk hw ?_ | (intro _ _ _) | (intro _ _) | (intro _)

theorem replyRetry_frame {w : List Part} {r : State} (s : State) (h : Confined w r s)
    (hw : [.field] ⊆ w := by first | assumption | exact part_sub ‹_› (by decide) | decide) :
    Confined w r (replyRetry s) := by
  unfold replyRetry
  try dsimp only
  repeat first
    | with_reducible exact h | with_reducible assumption | with_reducible apply abandonReply_frame
    | with_reducible apply frame_ite | exact part_sub hw (by decide) | split
    | fail_if_no_progress with_reducible refine frame_mk hw ?_ | (intro _ _ _) | (intro _ _) | (intro _)

theorem fieldConfigApply_frame {w : List Part} {r : State} (s : State) (h : Confined w r s)
    (hw : [.field] ⊆ w := by first | assumption | exact part_sub ‹_› (by decide) | decide) :
    Confined w r (fieldConfigApply s) := by
  unfold fieldConfigApply
  try dsimp only
  repeat first
    | with_reducible exact h | with_reducible assumption | with_reducible apply endReply_frame
    | with_reducible apply frame_ite | exact part_sub hw (by decide) | split
    | fail_if_no_progress with_reducible refine frame_mk hw ?_ | (intro _ _ _) | (intro _ _) | (intro _)

theorem interCharacterGap_frame {w : List Part} {r : State} (s : State) (h : Confined w r s)
    (hw : [.field] ⊆ w := by first | assumption | exact part_sub ‹_› (by decide) | decide) :
    Confined w r (interCharacterGap s) := by
  unfold interCharacterGap
  try dsimp only
  repeat first
    | with_reducible exact h | with_reducible assumption | with_reducible apply endReply_frame
    | with_reducible apply frame_ite | split | (intro _ _ _) | (intro _ _) | (intro _)

theorem idleLow_frame {w : List Part} {r : State} (s : State) (h : Confined w r s)
    (hw : [.field] ⊆ w := by first | assumption | exact part_sub ‹_› (by decide) | decide) :
    Confined w r (idleLow s) := by
  unfold idleLow
  try dsimp only
  repeat first
    | with_reducible exact h | with_reducible assumption | with_reducible apply endReply_frame
    | with_reducible apply frame_ite | exact part_sub hw (by decide) | split
    | fail_if_no_progress with_reducible refine frame_mk hw ?_ | (intro _ _ _) | (intro _ _) | (intro _)

theorem ckenDeferredGate_frame {w : List Part} {r : State} (n : Nat) (s : State) (h : Confined w r s)
    (hw : [.sup, .ring, .evtLost, .field, .scarab, .rx, .radio, .swarm, .net, .clk, .draws] ⊆ w
          := by first | assumption | exact part_sub ‹_› (by decide) | decide) :
    Confined w r (ckenDeferredGate n s) := by
  unfold ckenDeferredGate
  try dsimp only
  repeat first
    | with_reducible exact h | with_reducible assumption | with_reducible apply deferredGate_frame
    | with_reducible apply endReply_frame | with_reducible apply frame_ite | exact part_sub hw (by decide) | split
    | (intro _ _ _) | (intro _ _) | (intro _)

theorem controlNumber_frame {w : List Part} {r : State} (via : Via) (addr key n v : Nat) (x5 : State) (h : Confined w r x5)
    (hw : wide ⊆ w := by first | assumption | exact part_sub ‹_› (by decide) | decide) :
    Confined w r (controlNumber via addr key n v x5) := by
  unfold controlNumber
  try dsimp only
  repeat first
    | with_reducible exact h | with_reducible assumption | with_reducible apply control_frame
    | with_reducible apply frame_ite | split | (intro _ _ _) | (intro _ _) | (intro _)

theorem stagger_frame {w : List Part} {r : State} (x0 : StaggerBy) (x1 : State) (h : Confined w r x1)
    (hw : wide ⊆ w := by first | assumption | exact part_sub ‹_› (by decide) | decide) :
    Confined w r (stagger x0 x1) := by
  unfold stagger
  try dsimp only
  repeat first
    | with_reducible exact h | with_reducible assumption | with_reducible apply hostRegister_frame
    | with_reducible apply dictWrite_frame | with_reducible apply frame_ite | exact part_sub hw (by decide) | split
    | (intro _ _ _) | (intro _ _) | (intro _)

theorem compareConfigWrite_frame {w : List Part} {r : State} (ch : Nat) (via : Via) (value : Word) (x3 : State)
    (h : Confined w r x3)
    (hw : wide ⊆ w := by first | assumption | exact part_sub ‹_› (by decide) | decide) :
    Confined w r (compareConfigWrite ch via value x3) := by
  unfold compareConfigWrite
  try dsimp only
  repeat first
    | with_reducible exact h | with_reducible assumption | with_reducible apply controlNumber_frame
    | with_reducible apply frame_ite | split | (intro _ _ _) | (intro _ _) | (intro _)

theorem compareValueWrite_frame {w : List Part} {r : State} (ch : Nat) (x1 : ValPart) (x2 : State) (h : Confined w r x2)
    (hw : wide ⊆ w := by first | assumption | exact part_sub ‹_› (by decide) | decide) :
    Confined w r (compareValueWrite ch x1 x2) := by
  unfold compareValueWrite
  try dsimp only
  repeat first
    | with_reducible exact h | with_reducible assumption | with_reducible apply hostRegister_frame
    | with_reducible apply dictWrite_frame | with_reducible apply frame_ite | exact part_sub hw (by decide) | split
    | (intro _ _ _) | (intro _ _) | (intro _)

theorem cntWrite_frame {w : List Part} {r : State} (n : Nat) (via : Via) (value : Half) (x3 : State) (h : Confined w r x3)
    (hw : wide ⊆ w := by first | assumption | exact part_sub ‹_› (by decide) | decide) :
    Confined w r (cntWrite n via value x3) := by
  unfold cntWrite
  try dsimp only
  repeat first
    | with_reducible exact h | with_reducible assumption | with_reducible apply controlNumber_frame
    | with_reducible apply frame_ite | split | (intro _ _ _) | (intro _ _) | (intro _)

theorem captureRead_frame {w : List Part} {r : State} (u : Nat) (what : CapRead) (s : State) (h : Confined w r s)
    (hw : wide ⊆ w := by first | assumption | exact part_sub ‹_› (by decide) | decide) :
    Confined w r (captureRead u what s) := by
  unfold captureRead
  try dsimp only
  repeat first
    | with_reducible exact h | with_reducible assumption | with_reducible apply hostRegisters_frame
    | with_reducible apply dictRead_frame | with_reducible apply frame_ite | exact part_sub hw (by decide) | split
    | (intro _ _ _) | (intro _ _) | (intro _)

theorem adcStart_frame {w : List Part} {r : State} (by_ : AdcBy) (codes : List AdcCode) (s : State) (h : Confined w r s)
    (hw : wide ⊆ w := by first | assumption | exact part_sub ‹_› (by decide) | decide) :
    Confined w r (adcStart by_ codes s) := by
  unfold adcStart
  try dsimp only
  repeat first
    | with_reducible exact h | with_reducible assumption | with_reducible apply adcTriggered_frame
    | with_reducible apply hostRegister_frame | with_reducible apply portRequest_frame
    | with_reducible apply frame_ite | exact part_sub hw (by decide) | split | (intro _ _ _) | (intro _ _) | (intro _)

end Sys2Proof.Machine
end

