-- ==== Sys2Proof/Laws/State.lean ====
section
/-! SUPPORT. The fields of the state after each of its named updates, and what a read finds after a write. -/

namespace Sys2Proof.Machine

-- One lemma per field per update

@[simp] theorem setLive_sys (s : State) (k : Nat) (v : Bytes) : (setLive s k v).sys = s.sys := rfl
@[simp] theorem setLive_boot (s : State) (k : Nat) (v : Bytes) : (setLive s k v).boot = s.boot := rfl
@[simp] theorem setLive_sup (s : State) (k : Nat) (v : Bytes) : (setLive s k v).sup = s.sup := rfl
@[simp] theorem setLive_live (s : State) (k : Nat) (v : Bytes) :
    (setLive s k v).live = tabSet (defaultOf k) k v s.live := rfl
@[simp] theorem setLive_ring (s : State) (k : Nat) (v : Bytes) : (setLive s k v).ring = s.ring := rfl
@[simp] theorem setLive_evtLost (s : State) (k : Nat) (v : Bytes) : (setLive s k v).evtLost = s.evtLost := rfl
@[simp] theorem setLive_spi (s : State) (k : Nat) (v : Bytes) : (setLive s k v).spi = s.spi := rfl
@[simp] theorem setLive_field (s : State) (k : Nat) (v : Bytes) : (setLive s k v).field = s.field := rfl
@[simp] theorem setLive_engine (s : State) (k : Nat) (v : Bytes) : (setLive s k v).engine = s.engine := rfl
@[simp] theorem setLive_courses (s : State) (k : Nat) (v : Bytes) : (setLive s k v).courses = s.courses := rfl
@[simp] theorem setLive_mortar (s : State) (k : Nat) (v : Bytes) : (setLive s k v).mortar = s.mortar := rfl
@[simp] theorem setLive_jrn (s : State) (k : Nat) (v : Bytes) : (setLive s k v).jrn = s.jrn := rfl
@[simp] theorem setLive_qe (s : State) (k : Nat) (v : Bytes) : (setLive s k v).qe = s.qe := rfl
@[simp] theorem setLive_repair (s : State) (k : Nat) (v : Bytes) : (setLive s k v).repair = s.repair := rfl
@[simp] theorem setLive_scarab (s : State) (k : Nat) (v : Bytes) : (setLive s k v).scarab = s.scarab := rfl
@[simp] theorem setLive_rx (s : State) (k : Nat) (v : Bytes) : (setLive s k v).rx = s.rx := rfl
@[simp] theorem setLive_radio (s : State) (k : Nat) (v : Bytes) : (setLive s k v).radio = s.radio := rfl
@[simp] theorem setLive_swarm (s : State) (k : Nat) (v : Bytes) : (setLive s k v).swarm = s.swarm := rfl
@[simp] theorem setLive_net (s : State) (k : Nat) (v : Bytes) : (setLive s k v).net = s.net := rfl
@[simp] theorem setLive_tb (s : State) (k : Nat) (v : Bytes) : (setLive s k v).tb = s.tb := rfl
@[simp] theorem setLive_sec (s : State) (k : Nat) (v : Bytes) : (setLive s k v).sec = s.sec := rfl
@[simp] theorem setLive_id (s : State) (k : Nat) (v : Bytes) : (setLive s k v).id = s.id := rfl
@[simp] theorem setLive_timer (s : State) (k : Nat) (v : Bytes) : (setLive s k v).timer = s.timer := rfl
@[simp] theorem setLive_pulse (s : State) (k : Nat) (v : Bytes) : (setLive s k v).pulse = s.pulse := rfl
@[simp] theorem setLive_adc (s : State) (k : Nat) (v : Bytes) : (setLive s k v).adc = s.adc := rfl
@[simp] theorem setLive_hod (s : State) (k : Nat) (v : Bytes) : (setLive s k v).hod = s.hod := rfl
@[simp] theorem setLive_pins (s : State) (k : Nat) (v : Bytes) : (setLive s k v).pins = s.pins := rfl
@[simp] theorem setLive_clk (s : State) (k : Nat) (v : Bytes) : (setLive s k v).clk = s.clk := rfl
@[simp] theorem setLive_draws (s : State) (k : Nat) (v : Bytes) : (setLive s k v).draws = s.draws := rfl
@[simp] theorem setLive_pending (s : State) (k : Nat) (v : Bytes) : (setLive s k v).pending = s.pending := rfl

@[simp] theorem setQueue_sys (q : Nat) (v : Queue) (s : State) : (setQueue q v s).sys = s.sys := rfl
@[simp] theorem setQueue_boot (q : Nat) (v : Queue) (s : State) : (setQueue q v s).boot = s.boot := rfl
@[simp] theorem setQueue_sup (q : Nat) (v : Queue) (s : State) : (setQueue q v s).sup = s.sup := rfl
@[simp] theorem setQueue_live (q : Nat) (v : Queue) (s : State) : (setQueue q v s).live = s.live := rfl
@[simp] theorem setQueue_ring (q : Nat) (v : Queue) (s : State) : (setQueue q v s).ring = s.ring := rfl
@[simp] theorem setQueue_evtLost (q : Nat) (v : Queue) (s : State) : (setQueue q v s).evtLost = s.evtLost := rfl
@[simp] theorem setQueue_spi (q : Nat) (v : Queue) (s : State) : (setQueue q v s).spi = s.spi := rfl
@[simp] theorem setQueue_field (q : Nat) (v : Queue) (s : State) : (setQueue q v s).field = s.field := rfl
@[simp] theorem setQueue_engine (q : Nat) (v : Queue) (s : State) : (setQueue q v s).engine = s.engine := rfl
@[simp] theorem setQueue_courses (q : Nat) (v : Queue) (s : State) : (setQueue q v s).courses = s.courses := rfl
@[simp] theorem setQueue_mortar (q : Nat) (v : Queue) (s : State) : (setQueue q v s).mortar = s.mortar := rfl
@[simp] theorem setQueue_jrn (q : Nat) (v : Queue) (s : State) : (setQueue q v s).jrn = s.jrn := rfl
@[simp] theorem setQueue_qe (q : Nat) (v : Queue) (s : State) :
    (setQueue q v s).qe = { s.qe with queues := tabSet (emptyQueue s.qe.accBase) q v s.qe.queues } := rfl
@[simp] theorem setQueue_repair (q : Nat) (v : Queue) (s : State) : (setQueue q v s).repair = s.repair := rfl
@[simp] theorem setQueue_scarab (q : Nat) (v : Queue) (s : State) : (setQueue q v s).scarab = s.scarab := rfl
@[simp] theorem setQueue_rx (q : Nat) (v : Queue) (s : State) : (setQueue q v s).rx = s.rx := rfl
@[simp] theorem setQueue_radio (q : Nat) (v : Queue) (s : State) : (setQueue q v s).radio = s.radio := rfl
@[simp] theorem setQueue_swarm (q : Nat) (v : Queue) (s : State) : (setQueue q v s).swarm = s.swarm := rfl
@[simp] theorem setQueue_net (q : Nat) (v : Queue) (s : State) : (setQueue q v s).net = s.net := rfl
@[simp] theorem setQueue_tb (q : Nat) (v : Queue) (s : State) : (setQueue q v s).tb = s.tb := rfl
@[simp] theorem setQueue_sec (q : Nat) (v : Queue) (s : State) : (setQueue q v s).sec = s.sec := rfl
@[simp] theorem setQueue_id (q : Nat) (v : Queue) (s : State) : (setQueue q v s).id = s.id := rfl
@[simp] theorem setQueue_timer (q : Nat) (v : Queue) (s : State) : (setQueue q v s).timer = s.timer := rfl
@[simp] theorem setQueue_pulse (q : Nat) (v : Queue) (s : State) : (setQueue q v s).pulse = s.pulse := rfl
@[simp] theorem setQueue_adc (q : Nat) (v : Queue) (s : State) : (setQueue q v s).adc = s.adc := rfl
@[simp] theorem setQueue_hod (q : Nat) (v : Queue) (s : State) : (setQueue q v s).hod = s.hod := rfl
@[simp] theorem setQueue_pins (q : Nat) (v : Queue) (s : State) : (setQueue q v s).pins = s.pins := rfl
@[simp] theorem setQueue_clk (q : Nat) (v : Queue) (s : State) : (setQueue q v s).clk = s.clk := rfl
@[simp] theorem setQueue_draws (q : Nat) (v : Queue) (s : State) : (setQueue q v s).draws = s.draws := rfl
@[simp] theorem setQueue_pending (q : Nat) (v : Queue) (s : State) : (setQueue q v s).pending = s.pending := rfl

@[simp] theorem setPulse_sys (n : Nat) (c : PulseCh) (s : State) : (setPulse n c s).sys = s.sys := rfl
@[simp] theorem setPulse_boot (n : Nat) (c : PulseCh) (s : State) : (setPulse n c s).boot = s.boot := rfl
@[simp] theorem setPulse_sup (n : Nat) (c : PulseCh) (s : State) : (setPulse n c s).sup = s.sup := rfl
@[simp] theorem setPulse_live (n : Nat) (c : PulseCh) (s : State) : (setPulse n c s).live = s.live := rfl
@[simp] theorem setPulse_ring (n : Nat) (c : PulseCh) (s : State) : (setPulse n c s).ring = s.ring := rfl
@[simp] theorem setPulse_evtLost (n : Nat) (c : PulseCh) (s : State) : (setPulse n c s).evtLost = s.evtLost := rfl
@[simp] theorem setPulse_spi (n : Nat) (c : PulseCh) (s : State) : (setPulse n c s).spi = s.spi := rfl
@[simp] theorem setPulse_field (n : Nat) (c : PulseCh) (s : State) : (setPulse n c s).field = s.field := rfl
@[simp] theorem setPulse_engine (n : Nat) (c : PulseCh) (s : State) : (setPulse n c s).engine = s.engine := rfl
@[simp] theorem setPulse_courses (n : Nat) (c : PulseCh) (s : State) : (setPulse n c s).courses = s.courses := rfl
@[simp] theorem setPulse_mortar (n : Nat) (c : PulseCh) (s : State) : (setPulse n c s).mortar = s.mortar := rfl
@[simp] theorem setPulse_jrn (n : Nat) (c : PulseCh) (s : State) : (setPulse n c s).jrn = s.jrn := rfl
@[simp] theorem setPulse_qe (n : Nat) (c : PulseCh) (s : State) : (setPulse n c s).qe = s.qe := rfl
@[simp] theorem setPulse_repair (n : Nat) (c : PulseCh) (s : State) : (setPulse n c s).repair = s.repair := rfl
@[simp] theorem setPulse_scarab (n : Nat) (c : PulseCh) (s : State) : (setPulse n c s).scarab = s.scarab := rfl
@[simp] theorem setPulse_rx (n : Nat) (c : PulseCh) (s : State) : (setPulse n c s).rx = s.rx := rfl
@[simp] theorem setPulse_radio (n : Nat) (c : PulseCh) (s : State) : (setPulse n c s).radio = s.radio := rfl
@[simp] theorem setPulse_swarm (n : Nat) (c : PulseCh) (s : State) : (setPulse n c s).swarm = s.swarm := rfl
@[simp] theorem setPulse_net (n : Nat) (c : PulseCh) (s : State) : (setPulse n c s).net = s.net := rfl
@[simp] theorem setPulse_tb (n : Nat) (c : PulseCh) (s : State) : (setPulse n c s).tb = s.tb := rfl
@[simp] theorem setPulse_sec (n : Nat) (c : PulseCh) (s : State) : (setPulse n c s).sec = s.sec := rfl
@[simp] theorem setPulse_id (n : Nat) (c : PulseCh) (s : State) : (setPulse n c s).id = s.id := rfl
@[simp] theorem setPulse_timer (n : Nat) (c : PulseCh) (s : State) : (setPulse n c s).timer = s.timer := rfl
@[simp] theorem setPulse_pulse (n : Nat) (c : PulseCh) (s : State) :
    (setPulse n c s).pulse = { s.pulse with chans := setNth s.pulse.chans n c } := rfl
@[simp] theorem setPulse_adc (n : Nat) (c : PulseCh) (s : State) : (setPulse n c s).adc = s.adc := rfl
@[simp] theorem setPulse_hod (n : Nat) (c : PulseCh) (s : State) : (setPulse n c s).hod = s.hod := rfl
@[simp] theorem setPulse_pins (n : Nat) (c : PulseCh) (s : State) : (setPulse n c s).pins = s.pins := rfl
@[simp] theorem setPulse_clk (n : Nat) (c : PulseCh) (s : State) : (setPulse n c s).clk = s.clk := rfl
@[simp] theorem setPulse_draws (n : Nat) (c : PulseCh) (s : State) : (setPulse n c s).draws = s.draws := rfl
@[simp] theorem setPulse_pending (n : Nat) (c : PulseCh) (s : State) : (setPulse n c s).pending = s.pending := rfl

@[simp] theorem setCnt_sys (n : Nat) (c : Counter) (s : State) : (setCnt n c s).sys = s.sys := rfl
@[simp] theorem setCnt_boot (n : Nat) (c : Counter) (s : State) : (setCnt n c s).boot = s.boot := rfl
@[simp] theorem setCnt_sup (n : Nat) (c : Counter) (s : State) : (setCnt n c s).sup = s.sup := rfl
@[simp] theorem setCnt_live (n : Nat) (c : Counter) (s : State) : (setCnt n c s).live = s.live := rfl
@[simp] theorem setCnt_ring (n : Nat) (c : Counter) (s : State) : (setCnt n c s).ring = s.ring := rfl
@[simp] theorem setCnt_evtLost (n : Nat) (c : Counter) (s : State) : (setCnt n c s).evtLost = s.evtLost := rfl
@[simp] theorem setCnt_spi (n : Nat) (c : Counter) (s : State) : (setCnt n c s).spi = s.spi := rfl
@[simp] theorem setCnt_field (n : Nat) (c : Counter) (s : State) : (setCnt n c s).field = s.field := rfl
@[simp] theorem setCnt_engine (n : Nat) (c : Counter) (s : State) : (setCnt n c s).engine = s.engine := rfl
@[simp] theorem setCnt_courses (n : Nat) (c : Counter) (s : State) : (setCnt n c s).courses = s.courses := rfl
@[simp] theorem setCnt_mortar (n : Nat) (c : Counter) (s : State) : (setCnt n c s).mortar = s.mortar := rfl
@[simp] theorem setCnt_jrn (n : Nat) (c : Counter) (s : State) : (setCnt n c s).jrn = s.jrn := rfl
@[simp] theorem setCnt_qe (n : Nat) (c : Counter) (s : State) : (setCnt n c s).qe = s.qe := rfl
@[simp] theorem setCnt_repair (n : Nat) (c : Counter) (s : State) : (setCnt n c s).repair = s.repair := rfl
@[simp] theorem setCnt_scarab (n : Nat) (c : Counter) (s : State) : (setCnt n c s).scarab = s.scarab := rfl
@[simp] theorem setCnt_rx (n : Nat) (c : Counter) (s : State) : (setCnt n c s).rx = s.rx := rfl
@[simp] theorem setCnt_radio (n : Nat) (c : Counter) (s : State) : (setCnt n c s).radio = s.radio := rfl
@[simp] theorem setCnt_swarm (n : Nat) (c : Counter) (s : State) : (setCnt n c s).swarm = s.swarm := rfl
@[simp] theorem setCnt_net (n : Nat) (c : Counter) (s : State) : (setCnt n c s).net = s.net := rfl
@[simp] theorem setCnt_tb (n : Nat) (c : Counter) (s : State) : (setCnt n c s).tb = s.tb := rfl
@[simp] theorem setCnt_sec (n : Nat) (c : Counter) (s : State) : (setCnt n c s).sec = s.sec := rfl
@[simp] theorem setCnt_id (n : Nat) (c : Counter) (s : State) : (setCnt n c s).id = s.id := rfl
@[simp] theorem setCnt_timer (n : Nat) (c : Counter) (s : State) :
    (setCnt n c s).timer = { s.timer with cnts := setNth s.timer.cnts n c } := rfl
@[simp] theorem setCnt_pulse (n : Nat) (c : Counter) (s : State) : (setCnt n c s).pulse = s.pulse := rfl
@[simp] theorem setCnt_adc (n : Nat) (c : Counter) (s : State) : (setCnt n c s).adc = s.adc := rfl
@[simp] theorem setCnt_hod (n : Nat) (c : Counter) (s : State) : (setCnt n c s).hod = s.hod := rfl
@[simp] theorem setCnt_pins (n : Nat) (c : Counter) (s : State) : (setCnt n c s).pins = s.pins := rfl
@[simp] theorem setCnt_clk (n : Nat) (c : Counter) (s : State) : (setCnt n c s).clk = s.clk := rfl
@[simp] theorem setCnt_draws (n : Nat) (c : Counter) (s : State) : (setCnt n c s).draws = s.draws := rfl
@[simp] theorem setCnt_pending (n : Nat) (c : Counter) (s : State) : (setCnt n c s).pending = s.pending := rfl

@[simp] theorem setCmp_sys (n : Nat) (c : Compare) (s : State) : (setCmp n c s).sys = s.sys := rfl
@[simp] theorem setCmp_boot (n : Nat) (c : Compare) (s : State) : (setCmp n c s).boot = s.boot := rfl
@[simp] theorem setCmp_sup (n : Nat) (c : Compare) (s : State) : (setCmp n c s).sup = s.sup := rfl
@[simp] theorem setCmp_live (n : Nat) (c : Compare) (s : State) : (setCmp n c s).live = s.live := rfl
@[simp] theorem setCmp_ring (n : Nat) (c : Compare) (s : State) : (setCmp n c s).ring = s.ring := rfl
@[simp] theorem setCmp_evtLost (n : Nat) (c : Compare) (s : State) : (setCmp n c s).evtLost = s.evtLost := rfl
@[simp] theorem setCmp_spi (n : Nat) (c : Compare) (s : State) : (setCmp n c s).spi = s.spi := rfl
@[simp] theorem setCmp_field (n : Nat) (c : Compare) (s : State) : (setCmp n c s).field = s.field := rfl
@[simp] theorem setCmp_engine (n : Nat) (c : Compare) (s : State) : (setCmp n c s).engine = s.engine := rfl
@[simp] theorem setCmp_courses (n : Nat) (c : Compare) (s : State) : (setCmp n c s).courses = s.courses := rfl
@[simp] theorem setCmp_mortar (n : Nat) (c : Compare) (s : State) : (setCmp n c s).mortar = s.mortar := rfl
@[simp] theorem setCmp_jrn (n : Nat) (c : Compare) (s : State) : (setCmp n c s).jrn = s.jrn := rfl
@[simp] theorem setCmp_qe (n : Nat) (c : Compare) (s : State) : (setCmp n c s).qe = s.qe := rfl
@[simp] theorem setCmp_repair (n : Nat) (c : Compare) (s : State) : (setCmp n c s).repair = s.repair := rfl
@[simp] theorem setCmp_scarab (n : Nat) (c : Compare) (s : State) : (setCmp n c s).scarab = s.scarab := rfl
@[simp] theorem setCmp_rx (n : Nat) (c : Compare) (s : State) : (setCmp n c s).rx = s.rx := rfl
@[simp] theorem setCmp_radio (n : Nat) (c : Compare) (s : State) : (setCmp n c s).radio = s.radio := rfl
@[simp] theorem setCmp_swarm (n : Nat) (c : Compare) (s : State) : (setCmp n c s).swarm = s.swarm := rfl
@[simp] theorem setCmp_net (n : Nat) (c : Compare) (s : State) : (setCmp n c s).net = s.net := rfl
@[simp] theorem setCmp_tb (n : Nat) (c : Compare) (s : State) : (setCmp n c s).tb = s.tb := rfl
@[simp] theorem setCmp_sec (n : Nat) (c : Compare) (s : State) : (setCmp n c s).sec = s.sec := rfl
@[simp] theorem setCmp_id (n : Nat) (c : Compare) (s : State) : (setCmp n c s).id = s.id := rfl
@[simp] theorem setCmp_timer (n : Nat) (c : Compare) (s : State) :
    (setCmp n c s).timer = { s.timer with cmps := setNth s.timer.cmps n c } := rfl
@[simp] theorem setCmp_pulse (n : Nat) (c : Compare) (s : State) : (setCmp n c s).pulse = s.pulse := rfl
@[simp] theorem setCmp_adc (n : Nat) (c : Compare) (s : State) : (setCmp n c s).adc = s.adc := rfl
@[simp] theorem setCmp_hod (n : Nat) (c : Compare) (s : State) : (setCmp n c s).hod = s.hod := rfl
@[simp] theorem setCmp_pins (n : Nat) (c : Compare) (s : State) : (setCmp n c s).pins = s.pins := rfl
@[simp] theorem setCmp_clk (n : Nat) (c : Compare) (s : State) : (setCmp n c s).clk = s.clk := rfl
@[simp] theorem setCmp_draws (n : Nat) (c : Compare) (s : State) : (setCmp n c s).draws = s.draws := rfl
@[simp] theorem setCmp_pending (n : Nat) (c : Compare) (s : State) : (setCmp n c s).pending = s.pending := rfl

@[simp] theorem refreshFcw_sys (s : State) : (refreshFcw s).sys = s.sys := rfl
@[simp] theorem refreshFcw_boot (s : State) : (refreshFcw s).boot = s.boot := rfl
@[simp] theorem refreshFcw_sup (s : State) : (refreshFcw s).sup = s.sup := rfl
@[simp] theorem refreshFcw_live (s : State) : (refreshFcw s).live = s.live := rfl
@[simp] theorem refreshFcw_ring (s : State) : (refreshFcw s).ring = s.ring := rfl
@[simp] theorem refreshFcw_evtLost (s : State) : (refreshFcw s).evtLost = s.evtLost := rfl
@[simp] theorem refreshFcw_spi (s : State) : (refreshFcw s).spi = s.spi := rfl
@[simp] theorem refreshFcw_field (s : State) : (refreshFcw s).field = s.field := rfl
@[simp] theorem refreshFcw_engine (s : State) : (refreshFcw s).engine = s.engine := rfl
@[simp] theorem refreshFcw_courses (s : State) : (refreshFcw s).courses = s.courses := rfl
@[simp] theorem refreshFcw_mortar (s : State) : (refreshFcw s).mortar = s.mortar := rfl
@[simp] theorem refreshFcw_jrn (s : State) : (refreshFcw s).jrn = s.jrn := rfl
@[simp] theorem refreshFcw_qe (s : State) : (refreshFcw s).qe = s.qe := rfl
@[simp] theorem refreshFcw_repair (s : State) : (refreshFcw s).repair = s.repair := rfl
@[simp] theorem refreshFcw_scarab (s : State) : (refreshFcw s).scarab = s.scarab := rfl
@[simp] theorem refreshFcw_rx (s : State) : (refreshFcw s).rx = s.rx := rfl
@[simp] theorem refreshFcw_radio (s : State) : (refreshFcw s).radio = s.radio := rfl
@[simp] theorem refreshFcw_swarm (s : State) : (refreshFcw s).swarm = s.swarm := rfl
@[simp] theorem refreshFcw_net (s : State) : (refreshFcw s).net = s.net := rfl
@[simp] theorem refreshFcw_tb (s : State) :
    (refreshFcw s).tb = { s.tb with fcw := wordOf s, load := none } := rfl
@[simp] theorem refreshFcw_sec (s : State) : (refreshFcw s).sec = s.sec := rfl
@[simp] theorem refreshFcw_id (s : State) : (refreshFcw s).id = s.id := rfl
@[simp] theorem refreshFcw_timer (s : State) : (refreshFcw s).timer = s.timer := rfl
@[simp] theorem refreshFcw_pulse (s : State) : (refreshFcw s).pulse = s.pulse := rfl
@[simp] theorem refreshFcw_adc (s : State) : (refreshFcw s).adc = s.adc := rfl
@[simp] theorem refreshFcw_hod (s : State) : (refreshFcw s).hod = s.hod := rfl
@[simp] theorem refreshFcw_pins (s : State) : (refreshFcw s).pins = s.pins := rfl
@[simp] theorem refreshFcw_clk (s : State) : (refreshFcw s).clk = s.clk := rfl
@[simp] theorem refreshFcw_draws (s : State) : (refreshFcw s).draws = s.draws := rfl
@[simp] theorem refreshFcw_pending (s : State) : (refreshFcw s).pending = s.pending := rfl

@[simp] theorem setReception_sys (c : Path) (r : Option Reception) (s : State) : (setReception c r s).sys = s.sys := by cases c <;> rfl
@[simp] theorem setReception_boot (c : Path) (r : Option Reception) (s : State) : (setReception c r s).boot = s.boot := by cases c <;> rfl
@[simp] theorem setReception_sup (c : Path) (r : Option Reception) (s : State) : (setReception c r s).sup = s.sup := by cases c <;> rfl
@[simp] theorem setReception_live (c : Path) (r : Option Reception) (s : State) : (setReception c r s).live = s.live := by cases c <;> rfl
@[simp] theorem setReception_ring (c : Path) (r : Option Reception) (s : State) : (setReception c r s).ring = s.ring := by cases c <;> rfl
@[simp] theorem setReception_evtLost (c : Path) (r : Option Reception) (s : State) : (setReception c r s).evtLost = s.evtLost := by cases c <;> rfl
@[simp] theorem setReception_spi (c : Path) (r : Option Reception) (s : State) : (setReception c r s).spi = s.spi := by cases c <;> rfl
@[simp] theorem setReception_field (c : Path) (r : Option Reception) (s : State) : (setReception c r s).field = s.field := by cases c <;> rfl
@[simp] theorem setReception_engine (c : Path) (r : Option Reception) (s : State) : (setReception c r s).engine = s.engine := by cases c <;> rfl
@[simp] theorem setReception_courses (c : Path) (r : Option Reception) (s : State) : (setReception c r s).courses = s.courses := by cases c <;> rfl
@[simp] theorem setReception_mortar (c : Path) (r : Option Reception) (s : State) : (setReception c r s).mortar = s.mortar := by cases c <;> rfl
@[simp] theorem setReception_jrn (c : Path) (r : Option Reception) (s : State) : (setReception c r s).jrn = s.jrn := by cases c <;> rfl
@[simp] theorem setReception_qe (c : Path) (r : Option Reception) (s : State) : (setReception c r s).qe = s.qe := by cases c <;> rfl
@[simp] theorem setReception_repair (c : Path) (r : Option Reception) (s : State) : (setReception c r s).repair = s.repair := by cases c <;> rfl
@[simp] theorem setReception_scarab (c : Path) (r : Option Reception) (s : State) : (setReception c r s).scarab = s.scarab := by cases c <;> rfl
@[simp] theorem setReception_radio (c : Path) (r : Option Reception) (s : State) : (setReception c r s).radio = s.radio := by cases c <;> rfl
@[simp] theorem setReception_swarm (c : Path) (r : Option Reception) (s : State) : (setReception c r s).swarm = s.swarm := by cases c <;> rfl
@[simp] theorem setReception_net (c : Path) (r : Option Reception) (s : State) : (setReception c r s).net = s.net := by cases c <;> rfl
@[simp] theorem setReception_tb (c : Path) (r : Option Reception) (s : State) : (setReception c r s).tb = s.tb := by cases c <;> rfl
@[simp] theorem setReception_sec (c : Path) (r : Option Reception) (s : State) : (setReception c r s).sec = s.sec := by cases c <;> rfl
@[simp] theorem setReception_id (c : Path) (r : Option Reception) (s : State) : (setReception c r s).id = s.id := by cases c <;> rfl
@[simp] theorem setReception_timer (c : Path) (r : Option Reception) (s : State) : (setReception c r s).timer = s.timer := by cases c <;> rfl
@[simp] theorem setReception_pulse (c : Path) (r : Option Reception) (s : State) : (setReception c r s).pulse = s.pulse := by cases c <;> rfl
@[simp] theorem setReception_adc (c : Path) (r : Option Reception) (s : State) : (setReception c r s).adc = s.adc := by cases c <;> rfl
@[simp] theorem setReception_hod (c : Path) (r : Option Reception) (s : State) : (setReception c r s).hod = s.hod := by cases c <;> rfl
@[simp] theorem setReception_pins (c : Path) (r : Option Reception) (s : State) : (setReception c r s).pins = s.pins := by cases c <;> rfl
@[simp] theorem setReception_clk (c : Path) (r : Option Reception) (s : State) : (setReception c r s).clk = s.clk := by cases c <;> rfl
@[simp] theorem setReception_draws (c : Path) (r : Option Reception) (s : State) : (setReception c r s).draws = s.draws := by cases c <;> rfl
@[simp] theorem setReception_pending (c : Path) (r : Option Reception) (s : State) : (setReception c r s).pending = s.pending := by cases c <;> rfl

@[simp] theorem spiError_sys (code : Byte) (s : State) : (spiError code s).sys = s.sys := by unfold spiError; split <;> rfl
@[simp] theorem spiError_boot (code : Byte) (s : State) : (spiError code s).boot = s.boot := by unfold spiError; split <;> rfl
@[simp] theorem spiError_sup (code : Byte) (s : State) : (spiError code s).sup = s.sup := by unfold spiError; split <;> rfl
@[simp] theorem spiError_live (code : Byte) (s : State) : (spiError code s).live = s.live := by unfold spiError; split <;> rfl
@[simp] theorem spiError_ring (code : Byte) (s : State) : (spiError code s).ring = s.ring := by unfold spiError; split <;> rfl
@[simp] theorem spiError_evtLost (code : Byte) (s : State) : (spiError code s).evtLost = s.evtLost := by unfold spiError; split <;> rfl
@[simp] theorem spiError_field (code : Byte) (s : State) : (spiError code s).field = s.field := by unfold spiError; split <;> rfl
@[simp] theorem spiError_engine (code : Byte) (s : State) : (spiError code s).engine = s.engine := by unfold spiError; split <;> rfl
@[simp] theorem spiError_courses (code : Byte) (s : State) : (spiError code s).courses = s.courses := by unfold spiError; split <;> rfl
@[simp] theorem spiError_mortar (code : Byte) (s : State) : (spiError code s).mortar = s.mortar := by unfold spiError; split <;> rfl
@[simp] theorem spiError_jrn (code : Byte) (s : State) : (spiError code s).jrn = s.jrn := by unfold spiError; split <;> rfl
@[simp] theorem spiError_qe (code : Byte) (s : State) : (spiError code s).qe = s.qe := by unfold spiError; split <;> rfl
@[simp] theorem spiError_repair (code : Byte) (s : State) : (spiError code s).repair = s.repair := by unfold spiError; split <;> rfl
@[simp] theorem spiError_scarab (code : Byte) (s : State) : (spiError code s).scarab = s.scarab := by unfold spiError; split <;> rfl
@[simp] theorem spiError_rx (code : Byte) (s : State) : (spiError code s).rx = s.rx := by unfold spiError; split <;> rfl
@[simp] theorem spiError_radio (code : Byte) (s : State) : (spiError code s).radio = s.radio := by unfold spiError; split <;> rfl
@[simp] theorem spiError_swarm (code : Byte) (s : State) : (spiError code s).swarm = s.swarm := by unfold spiError; split <;> rfl
@[simp] theorem spiError_net (code : Byte) (s : State) : (spiError code s).net = s.net := by unfold spiError; split <;> rfl
@[simp] theorem spiError_tb (code : Byte) (s : State) : (spiError code s).tb = s.tb := by unfold spiError; split <;> rfl
@[simp] theorem spiError_sec (code : Byte) (s : State) : (spiError code s).sec = s.sec := by unfold spiError; split <;> rfl
@[simp] theorem spiError_id (code : Byte) (s : State) : (spiError code s).id = s.id := by unfold spiError; split <;> rfl
@[simp] theorem spiError_timer (code : Byte) (s : State) : (spiError code s).timer = s.timer := by unfold spiError; split <;> rfl
@[simp] theorem spiError_pulse (code : Byte) (s : State) : (spiError code s).pulse = s.pulse := by unfold spiError; split <;> rfl
@[simp] theorem spiError_adc (code : Byte) (s : State) : (spiError code s).adc = s.adc := by unfold spiError; split <;> rfl
@[simp] theorem spiError_hod (code : Byte) (s : State) : (spiError code s).hod = s.hod := by unfold spiError; split <;> rfl
@[simp] theorem spiError_pins (code : Byte) (s : State) : (spiError code s).pins = s.pins := by unfold spiError; split <;> rfl
@[simp] theorem spiError_clk (code : Byte) (s : State) : (spiError code s).clk = s.clk := by unfold spiError; split <;> rfl
@[simp] theorem spiError_draws (code : Byte) (s : State) : (spiError code s).draws = s.draws := by unfold spiError; split <;> rfl
@[simp] theorem spiError_pending (code : Byte) (s : State) : (spiError code s).pending = s.pending := by unfold spiError; split <;> rfl

@[simp] theorem post_sys (code tag : Half) (arg : Word) (s : State) : (post code tag arg s).sys = s.sys := by unfold post; split <;> (try split) <;> rfl
@[simp] theorem post_boot (code tag : Half) (arg : Word) (s : State) : (post code tag arg s).boot = s.boot := by unfold post; split <;> (try split) <;> rfl
@[simp] theorem post_sup (code tag : Half) (arg : Word) (s : State) : (post code tag arg s).sup = s.sup := by unfold post; split <;> (try split) <;> rfl
@[simp] theorem post_live (code tag : Half) (arg : Word) (s : State) : (post code tag arg s).live = s.live := by unfold post; split <;> (try split) <;> rfl
@[simp] theorem post_spi (code tag : Half) (arg : Word) (s : State) : (post code tag arg s).spi = s.spi := by unfold post; split <;> (try split) <;> rfl
@[simp] theorem post_field (code tag : Half) (arg : Word) (s : State) : (post code tag arg s).field = s.field := by unfold post; split <;> (try split) <;> rfl
@[simp] theorem post_engine (code tag : Half) (arg : Word) (s : State) : (post code tag arg s).engine = s.engine := by unfold post; split <;> (try split) <;> rfl
@[simp] theorem post_courses (code tag : Half) (arg : Word) (s : State) : (post code tag arg s).courses = s.courses := by unfold post; split <;> (try split) <;> rfl
@[simp] theorem post_mortar (code tag : Half) (arg : Word) (s : State) : (post code tag arg s).mortar = s.mortar := by unfold post; split <;> (try split) <;> rfl
@[simp] theorem post_jrn (code tag : Half) (arg : Word) (s : State) : (post code tag arg s).jrn = s.jrn := by unfold post; split <;> (try split) <;> rfl
@[simp] theorem post_qe (code tag : Half) (arg : Word) (s : State) : (post code tag arg s).qe = s.qe := by unfold post; split <;> (try split) <;> rfl
@[simp] theorem post_repair (code tag : Half) (arg : Word) (s : State) : (post code tag arg s).repair = s.repair := by unfold post; split <;> (try split) <;> rfl
@[simp] theorem post_scarab (code tag : Half) (arg : Word) (s : State) : (post code tag arg s).scarab = s.scarab := by unfold post; split <;> (try split) <;> rfl
@[simp] theorem post_rx (code tag : Half) (arg : Word) (s : State) : (post code tag arg s).rx = s.rx := by unfold post; split <;> (try split) <;> rfl
@[simp] theorem post_radio (code tag : Half) (arg : Word) (s : State) : (post code tag arg s).radio = s.radio := by unfold post; split <;> (try split) <;> rfl
@[simp] theorem post_swarm (code tag : Half) (arg : Word) (s : State) : (post code tag arg s).swarm = s.swarm := by unfold post; split <;> (try split) <;> rfl
@[simp] theorem post_net (code tag : Half) (arg : Word) (s : State) : (post code tag arg s).net = s.net := by unfold post; split <;> (try split) <;> rfl
@[simp] theorem post_tb (code tag : Half) (arg : Word) (s : State) : (post code tag arg s).tb = s.tb := by unfold post; split <;> (try split) <;> rfl
@[simp] theorem post_sec (code tag : Half) (arg : Word) (s : State) : (post code tag arg s).sec = s.sec := by unfold post; split <;> (try split) <;> rfl
@[simp] theorem post_id (code tag : Half) (arg : Word) (s : State) : (post code tag arg s).id = s.id := by unfold post; split <;> (try split) <;> rfl
@[simp] theorem post_timer (code tag : Half) (arg : Word) (s : State) : (post code tag arg s).timer = s.timer := by unfold post; split <;> (try split) <;> rfl
@[simp] theorem post_pulse (code tag : Half) (arg : Word) (s : State) : (post code tag arg s).pulse = s.pulse := by unfold post; split <;> (try split) <;> rfl
@[simp] theorem post_adc (code tag : Half) (arg : Word) (s : State) : (post code tag arg s).adc = s.adc := by unfold post; split <;> (try split) <;> rfl
@[simp] theorem post_hod (code tag : Half) (arg : Word) (s : State) : (post code tag arg s).hod = s.hod := by unfold post; split <;> (try split) <;> rfl
@[simp] theorem post_pins (code tag : Half) (arg : Word) (s : State) : (post code tag arg s).pins = s.pins := by unfold post; split <;> (try split) <;> rfl
@[simp] theorem post_clk (code tag : Half) (arg : Word) (s : State) : (post code tag arg s).clk = s.clk := by unfold post; split <;> (try split) <;> rfl
@[simp] theorem post_draws (code tag : Half) (arg : Word) (s : State) : (post code tag arg s).draws = s.draws := by unfold post; split <;> (try split) <;> rfl
@[simp] theorem post_pending (code tag : Half) (arg : Word) (s : State) : (post code tag arg s).pending = s.pending := by unfold post; split <;> (try split) <;> rfl

-- A read after a write

/-- Writing one key leaves what is found at every other key. -/
theorem find_tabSet_ne {α : Type} [DecidableEq α] (d v : α) {k j : Nat} (h : j ≠ k) (m : List (Nat × α)) :
    (tabSet d k v m).find? (fun p => p.1 == j) = m.find? (fun p => p.1 == j) := by
  induction m with
  | nil => unfold tabSet; split <;> simp [Ne.symm h]
  | cons p m ih =>
    obtain ⟨i, w⟩ := p
    unfold tabSet
    split
    · split
      · rfl
      · simp [Ne.symm h]
    · split
      · rename_i hk
        subst hk
        split <;> simp [Ne.symm h]
      · simp only [List.find?_cons, ih]

/-- A key not listed is not found. -/
theorem find_above {α : Type} {k : Nat} {m : List (Nat × α)} (h : ∀ p ∈ m, k < p.1) :
    m.find? (fun p => p.1 == k) = none := by
  rw [List.find?_eq_none]
  intro p hp
  have := h p hp
  simp; omega

/-- In a list whose keys rise, the key that is written holds what is written, where that is not the default. -/
theorem find_tabSet_eq {α : Type} [DecidableEq α] (d v : α) (k : Nat) (m : List (Nat × α))
    (h : m.Pairwise (fun p q => p.1 < q.1)) :
    (tabSet d k v m).find? (fun p => p.1 == k) = if v = d then none else some (k, v) := by
  induction m with
  | nil => unfold tabSet; split <;> simp
  | cons p m ih =>
    obtain ⟨i, w⟩ := p
    rw [List.pairwise_cons] at h
    unfold tabSet
    split
    · rename_i hk
      split
      · refine find_above fun p hp => ?_
        rcases List.mem_cons.mp hp with rfl | hp
        · exact hk
        · exact Nat.lt_trans hk (h.1 p hp)
      · simp
    · split
      · rename_i hk
        subst hk
        split
        · exact find_above h.1
        · simp
      · rename_i hk
        rw [List.find?_cons, show ((i == k) = false) by simp; omega]
        exact ih h.2

theorem liveBytes_setLive_ne (s : State) {k j : Nat} (v : Bytes) (h : j ≠ k) :
    liveBytes (setLive s k v) j = liveBytes s j := by
  unfold liveBytes
  rw [setLive_live, find_tabSet_ne _ _ h]

theorem liveBytes_setLive_eq (s : State) (k : Nat) (v : Bytes) (h : s.live.Pairwise (fun p q => p.1 < q.1)) :
    liveBytes (setLive s k v) k = v := by
  unfold liveBytes
  rw [setLive_live, find_tabSet_eq _ _ _ _ h]
  split <;> rename_i hv
  · split at hv
    · cases hv
    · cases hv; rfl
  · split at hv
    · rename_i e; exact e.symm
    · cases hv

end Sys2Proof.Machine
end

