-- ==== Sys2Proof/WellFormed.lean ====
section
/-! DEFINITION. Which commands are well formed: the operands that the types of the syntax admit and no device or host
could present. A meaning is total all the same. -/

namespace Sys2Proof

/-- A value fits the longest request of a port: a PDU has at most 255 bytes, five of them its header (R155). -/
def valueFits (v : Bytes) : Bool := decide (v.length ≤ 250)

/-- A detection is of a spreading factor or of Mosaic, and some path raised it (R234, Table 9.5). -/
def Early.wellFormed (e : Early) : Bool := e.sf != 6 && (e.pathA || e.pathB)

/-- A PHY header has 3 bytes in spread mode and 4 in Mosaic mode (R242, R262). A path that receives gives one weight in
spread mode, and in Mosaic mode a weight for each of the 36 data subcarriers and the LTS values of all 40 (R255, R264). -/
def Confirm.wellFormed (c : Confirm) : Bool :=
  if c.header.length = 3 then
    c.ltsA.isEmpty && c.ltsB.isEmpty && decide (c.weightA.length ≤ 1) && decide (c.weightB.length ≤ 1)
  else c.header.length == 4 && [c.ltsA, c.ltsB].all (fun l => l.length == 0 || l.length == 40) &&
    [c.weightA, c.weightB].all (fun w => w.length == 0 || w.length == 36)

/-- A value of amplitude 1. -/
def Cx.wellFormed (x : Cx) : Bool :=
  decide (x.a * x.a + x.b * x.b + x.c * x.c + x.d * x.d = 1) &&
    decide (x.a * x.b + x.b * x.c + x.c * x.d - x.a * x.d = 0)

/-- A data symbol has 40 subcarriers (R255), and its corrections turn without a change of amplitude (R267). -/
def ToneRow.wellFormed (r : ToneRow) : Bool := r.tones.length == 40 && r.phase.wellFormed && r.slope.wellFormed

/-- A PSDU has at most 1023 bytes (R243). -/
def RxFrame.wellFormed (f : RxFrame) : Bool :=
  decide (0 < f.psdu.length) && decide (f.psdu.length ≤ 1023) && (f.tonesA ++ f.tonesB).all ToneRow.wellFormed

/-- What ends a frame is judged over at least `n` symbols. -/
def Fading.wellFormed (n : Nat) (f : Fading) : Bool :=
  decide (n ≤ f.values.length) && (f.tonesA ++ f.tonesB).all ToneRow.wellFormed

/-- The queue check names only words with a fault: a word read clean is not a finding (Table 5.3). -/
def BootRun.wellFormed (r : BootRun) : Bool :=
  r.checks.all fun
    | .stone _ _ e => e != .clean
    | .word _ _ e => e != .clean

/-- A part of a capture unit that units of its kind have: units 0 to 7 are paired, 8 to 11 single (R420, R421). -/
def CapRead.wellFormed (unit : Nat) : CapRead → Bool
  | .rise => decide (unit < 8)
  | .fall => decide (unit < 8)
  | .unit => decide (unit < 8)
  | .value => decide (8 ≤ unit)
  | .dict _ _ => true

/-- A whole compare value has a length a request can carry. -/
def ValPart.wellFormed : ValPart → Bool
  | .low _ => true
  | .high _ => true
  | .whole _ _ v => valueFits v

/-- A STAGGER value has a length a request can carry. -/
def StaggerBy.wellFormed : StaggerBy → Bool
  | .go => true
  | .dict _ _ v => valueFits v

/-- A value of ADC_CMD has a length a request can carry. -/
def AdcBy.wellFormed : AdcBy → Bool
  | .trigger => true
  | .go => true
  | .cmd _ _ v => valueFits v

/-- The blocks that CKEN0 and CKEN1 gate: bits 8:0 of the one, bits 7:0 of the other (Table 4.2). -/
def gateable (block : Nat) : Bool := decide (block < 9) || decide (32 ≤ block)

/-- The command is well formed. -/
def Instr.wellFormed : Instr → Bool
  | .powerOnReset _ r => r.wellFormed
  | .watchdogReset _ r => r.wellFormed
  | .bootWatchdog r => r.wellFormed
  | .softwareReset _ _ r => r.wellFormed
  | .deferredReset r => r.wellFormed
  | .jtagReset r => r.wellFormed
  | .resetNRelease r => r.wellFormed
  | .wake _ r => r.wellFormed
  | .spiWake r => r.wellFormed
  | .resetCmd _ _ v => valueFits v
  | .ckenDeferredGate b => gateable b.val
  | .tbModeWrite _ _ v => valueFits v
  | .registerWrite _ n d _ => d.length == 4 * n.toNat
  | .dictionaryRequest n p _ => p.length == n.toNat
  | .queuePush _ n _ p _ => p.length == n.toNat
  | .dictWrite _ _ _ _ v => valueFits v
  | .roleWrite _ _ v => valueFits v
  | .footingCmd _ _ v => valueFits v
  | .courseReq _ _ v => valueFits v
  | .imageLoad _ _ _ v => valueFits v
  | .imageCommit _ _ _ v => valueFits v
  | .fieldFrame f g => f.length == g.length
  | .antVerdict _ p => decide (0 ≤ p) && decide (p < 360)
  | .earlySync l => !l.isEmpty && l.all Early.wellFormed
  | .sync p => !p.found.isEmpty && p.found.all Confirm.wellFormed
  | .signalLoss f => f.wellFormed 8
  | .pilotLoss f => f.wellFormed 4
  | .noiseFloorWindow _ l => l.length == 64
  | .beaconReceived f => f.wellFormed
  | .pollReceived f => f.wellFormed
  | .dataReceived f => f.wellFormed
  | .nullReceived f => f.wellFormed
  | .joinReceived f => f.wellFormed
  | .fackReceived f => f.wellFormed
  | .airDreqWrite _ _ v => valueFits v
  | .qPurge _ _ v => valueFits v
  | .ledgerClear _ _ v => valueFits v
  | .mortarAppend n _ => decide (0 < n)
  | .stagger b => b.wellFormed
  | .compareValueWrite _ p => p.wellFormed
  | .captureRead u w => w.wellFormed u.val
  | .adcStart b _ => b.wellFormed
  | .pulseSample _ r => decide (r ≤ 1000)
  | .telemClear _ _ v => valueFits v
  | .decommission _ _ v => valueFits v
  | .brownOutReset | .resetN | .vinReversal _ | .bodWarn .. | .bodWarnClear _ | .iovddLoss _ | .iovddReturn _
  | .xoStarted | .pllLock | .pllLockTimeout | .quietEnd | .journalRestore _ | .shutdownRequest _
  | .dormantRequest _ | .sniffRequest _ | .lintelStepUp _ | .lintelStepDown | .plumbStepDown
  | .nearMiss | .thermSample _ | .lfxoQualified | .xoFailure | .lfxoFailure | .lossOfLock _ | .rcCalibration ..
  | .powerGood _ | .fcwLoad | .slewEnd | .holdoverEntry | .registerRead .. | .responseFetch _ | .queuePop ..
  | .queuePeek .. | .eventFetch .. | .statusOnly | .unknownOpcode _ | .spiCsNRise .. | .errcodeClear | .dictRead ..
  | .frameBoundary | .stateCmdConfig _ | .stateCmdRun _ | .stateCmdMaint _ | .stateCmdSafe _ | .fieldReply
  | .echoFault _ | .replyRetry | .fieldConfigApply | .interCharacterGap | .idleLow | .radioRx _ | .radioStop _
  | .radioTx _ | .radioAbort _ | .listenEnd | .ccaBusy _ | .backoffEnd | .synthLock | .synthUnlock | .txEnd
  | .ackWaitExpiry | .ackTx | .syncWordTimeout _ | .ltsTimeout _ | .ackReceived _
  | .airCommit _ | .sniffWindow | .sniffWindowEnd | .wakeWord _ | .ffStayExpiry | .beaconCycle | .pollStart | .pollReply
  | .pollMiss | .joinSlot | .fackWaitExpiry | .relayCopyDue .. | .seenExpiry .. | .dutyBinRoll | .stoneEviction
  | .evictionRetire _ | .segmentRefused _ | .sliceIdleOff _ | .qto _ | .appendTimeout | .compaction | .eraseEnd ..
  | .marginScan .. | .hotRefresh | .timeStep _ | .snap _ | .compareConfigWrite .. | .cntWrite .. | .captureEdge _
  | .adcSequenceEnd _ | .hodFlush _ | .ashlarScrub .. | .migrationEnd | .keystoneScrub .. | .selfTest _ | .bistSkip
  | .laneReassign | .telemSample .. | .adcOffset _ | .canaryCheck _ | .vcoCalibration .. | .iqImageCalibration _ => true

end Sys2Proof
end

