-- ==== Sys2Proof/Tests/Slice0.lean ====
section
/-! SUPPORT. The model's own tests: ill-formed commands are refused, the worked examples of the manual come out, and
every hypothesis of a statement is met somewhere. -/

set_option Elab.async false

namespace Sys2Proof.Tests

open Sys2Proof Sys2Proof.Machine Sys2Proof.Safety

-- Commands that are not well formed

theorem test_ill_dict_value : (Instr.dictWrite .spi 0 0x3400 0x12 (zeros 251)).wellFormed = false := by decide +kernel
theorem test_ill_reset_value : (Instr.resetCmd .spi 0 (zeros 251)).wellFormed = false := by decide +kernel
theorem test_ill_tb_mode : (Instr.tbModeWrite .spi 0 (zeros 251)).wellFormed = false := by decide +kernel
theorem test_ill_role : (Instr.roleWrite .spi 0 (zeros 251)).wellFormed = false := by decide +kernel
theorem test_ill_footing : (Instr.footingCmd .spi 0 (zeros 251)).wellFormed = false := by decide +kernel
theorem test_ill_course : (Instr.courseReq .spi 0 (zeros 251)).wellFormed = false := by decide +kernel
theorem test_ill_image_load : (Instr.imageLoad 0 .spi 0 (zeros 251)).wellFormed = false := by decide +kernel
theorem test_ill_image_commit : (Instr.imageCommit 0 .spi 0 (zeros 251)).wellFormed = false := by decide +kernel
theorem test_ill_air_dreq : (Instr.airDreqWrite .spi 0 (zeros 251)).wellFormed = false := by decide +kernel
theorem test_ill_q_purge : (Instr.qPurge .spi 0 (zeros 251)).wellFormed = false := by decide +kernel
theorem test_ill_ledger : (Instr.ledgerClear .spi 0 (zeros 251)).wellFormed = false := by decide +kernel
theorem test_ill_telem : (Instr.telemClear .spi 0 (zeros 251)).wellFormed = false := by decide +kernel
theorem test_ill_decommission : (Instr.decommission .spi 0 (zeros 251)).wellFormed = false := by decide +kernel
theorem test_ill_gate : (Instr.ckenDeferredGate 9).wellFormed = false := by decide
theorem test_ill_register_write : (Instr.registerWrite 0x1118 1 [1, 2, 3] none).wellFormed = false := by decide
theorem test_ill_request : (Instr.dictionaryRequest 5 [1, 2, 3, 4] none).wellFormed = false := by decide
theorem test_ill_push : (Instr.queuePush 5 2 none [1] 0).wellFormed = false := by decide
theorem test_ill_field_frame : (Instr.fieldFrame [0x7E, 1] [0x7E]).wellFormed = false := by decide
theorem test_ill_phase : (Instr.antVerdict 10 360).wellFormed = false := by decide
theorem test_ill_early : (Instr.earlySync [⟨.a, 3, 6, true, false, 5, 40, 100, [], [], -150, -160⟩]).wellFormed = false := by
  decide
theorem test_ill_early_path : (Instr.earlySync [⟨.a, 3, 2, false, false, 5, 40, 100, [], [], -150, -160⟩]).wellFormed =
    false := by decide
theorem test_ill_early_none : (Instr.earlySync []).wellFormed = false := by decide
theorem test_ill_header : (Instr.sync ⟨[⟨1, 0, 20, -150, -160, 100, 0, 5, [1, 2], [], [], [1], [], [], []⟩], []⟩).wellFormed = false := by
  decide
theorem test_ill_weights : (Instr.sync ⟨[⟨1, 0, 20, -150, -160, 100, 0, 5, [1, 2, 3], [], [], [1, 1], [], [], []⟩], []⟩).wellFormed =
    false := by decide
theorem test_ill_taps : (Instr.sync ⟨[⟨1, 0, 20, -150, -160, 100, 0, 5, [1, 2, 3, 4], [], [], [], [], [⟨⟨1, 0, 0, 0⟩, ⟨1, 0, 0, 0⟩⟩], []⟩],
    []⟩).wellFormed = false := by decide
theorem test_ill_tones : (Instr.pilotLoss ⟨.b, [-1, -1, -1, -1], 3, [⟨[], ⟨1, 0, 0, 0⟩, ⟨1, 0, 0, 0⟩⟩], []⟩).wellFormed = false := by
  decide
theorem test_ill_turn : (ToneRow.mk [] ⟨2, 0, 0, 0⟩ ⟨1, 0, 0, 0⟩).phase.wellFormed = false := by decide +kernel
theorem test_ill_check : (Instr.deferredReset ⟨none, 1, 1, 0, [.stone 0 0 .clean], []⟩).wellFormed = false := by decide
theorem test_ill_sync_none : (Instr.sync ⟨[], [1]⟩).wellFormed = false := by decide
theorem test_ill_signal_loss : (Instr.signalLoss ⟨.a, [1, 2, 3, 4, 5, 6, 7], 3, [], []⟩).wellFormed = false := by decide
theorem test_ill_pilot_loss : (Instr.pilotLoss ⟨.b, [1, 2, 3], 3, [], []⟩).wellFormed = false := by decide
theorem test_ill_floor : (Instr.noiseFloorWindow .a [1]).wellFormed = false := by decide
theorem test_ill_beacon : (Instr.beaconReceived ⟨.a, [], 0, [], [], [], [], 0, 0⟩).wellFormed = false := by decide
theorem test_ill_poll : (Instr.pollReceived ⟨.a, [], 0, [], [], [], [], 0, 0⟩).wellFormed = false := by decide
theorem test_ill_data : (Instr.dataReceived ⟨.a, zeros 1024, 0, [], [], [], [], 0, 0⟩).wellFormed = false := by decide +kernel
theorem test_ill_null : (Instr.nullReceived ⟨.a, [], 0, [], [], [], [], 0, 0⟩).wellFormed = false := by decide
theorem test_ill_join : (Instr.joinReceived ⟨.a, [], 0, [], [], [], [], 0, 0⟩).wellFormed = false := by decide
theorem test_ill_fack : (Instr.fackReceived ⟨.a, [], 0, [], [], [], [], 0, 0⟩).wellFormed = false := by decide
theorem test_ill_append : (Instr.mortarAppend 0 .done).wellFormed = false := by decide
theorem test_ill_stagger : (Instr.stagger (.dict .spi 0 (zeros 251))).wellFormed = false := by decide +kernel
theorem test_ill_compare : (Instr.compareValueWrite 0 (.whole .spi 0 (zeros 251))).wellFormed = false := by decide +kernel
theorem test_ill_capture_pair : (Instr.captureRead 8 .rise).wellFormed = false := by decide
theorem test_ill_capture_single : (Instr.captureRead 7 .value).wellFormed = false := by decide
theorem test_ill_adc : (Instr.adcStart (.cmd .spi 0 (zeros 251)) []).wellFormed = false := by decide +kernel
theorem test_ill_ratio : (Instr.pulseSample 0 1001).wellFormed = false := by decide

-- States

def answer : Host.Outcome State Fault Refusal → State
  | .next t => t
  | _ => State.reset

def after (c : Instr) (s : State) : State := answer (exec c s)

def run0 : BootRun := ⟨none, 25000, 17000, 0, [], []⟩
def commit0 : CommitRun := ⟨100, 900, []⟩

/-- The device as its first boot leaves it: ready in CONFIG, with the record of its first epoch in Mortar. -/
def up : State := { State.reset with
  sys := { State.reset.sys with dev := .config, ready := true }
  boot := { State.reset.boot with cause := 0x801, phase := 7, readyUs := 25000, hold := 733, held := false }
  sup := { State.reset.sup with power := .idle }
  mortar := { State.reset.mortar with
    sectors := setNth (setNth State.reset.mortar.sectors 0 ⟨.inPair, 1⟩) 64 ⟨.inPair, 1⟩
    pairs := [⟨0, 0, 64, false, [⟨rtEpoch, 0, 0, [1, 0, 0, 0], false, true, true, true, true⟩]⟩]
    state := 1, nextGen := 1, nextSseq := 1 }
  qe := { State.reset.qe with accBase := 0x100000 }
  tb := { State.reset.tb with state := tbAcquire }
  sec := { State.reset.sec with epoch := 1 }
  clk := { State.reset.clk with xoOk := true, lock := true } }

/-- Entries with other values than their defaults. -/
def having (l : List (Nat × Bytes)) (s : State) : State := l.foldl (fun s p => setLive s p.1 p.2) s

/-- A node in RUN with the clock of every block running. -/
def on : State := having [(K.cken0, [0xFF, 1, 0, 0]), (K.cken1, [0xFF, 0, 0, 0])] { up with
  clk := { up.clk with run0 := 0x1FF, run1 := 0xFF }
  radio := { up.radio with state := .idle }
  sys := { up.sys with dev := .run } }

def cfg : State := { on with sys := { on.sys with dev := .config } }
def dormant : State := { on with
  sup := { on.sup with power := .dormant, wakeReq := 1 }, radio := { on.radio with state := .sleep }
  clk := { on.clk with xoOk := false, lock := false } }
def sniffing : State := having [(K.addr, [5, 0])] { on with
  sup := { on.sup with power := .sniff }, radio := { on.radio with state := .sleep }
  clk := { on.clk with xoOk := false, lock := false } }
def shut : State := { dormant with sup := { dormant.sup with power := .shutdown }, sys := { on.sys with ready := false } }

/-- In reception, as a node with address 5, and as a coordinator. -/
def rcv : State := { on with
  sup := { on.sup with op := 3, power := .rx }
  radio := { on.radio with state := .rx, rxOn := true, lock := true } }
def node5 : State := having [(K.addr, [5, 0])] rcv
def coord : State := { rcv with sys := { rcv.sys with role := .coordinator } }

def push (q : Half) (p : Bytes) (s : State) : State := after (.queuePush q (BitVec.ofNat 16 p.length) none p (crc32 p)) s

/-- A queue whose frames are durable. -/
def durable5 (s : State) : State := { s with qe := (setQueue 5 { getQueue s 5 with attr := 0x8002 } s).qe }

-- The worked examples of the manual

def digits : Bytes := [0x31, 0x32, 0x33, 0x34, 0x35, 0x36, 0x37, 0x38, 0x39]

theorem test_crc8_check : crc8 digits = 0xF4 := by decide +kernel
theorem test_crc16_check : crc16 digits = 0x29B1 := by decide +kernel
theorem test_crc32_check : crc32 digits = 0xCBF43926 := by decide +kernel

def bits (l : List Nat) : List Bool := l.map fun n => n == 1

/-- Source: the check values of R222: with NET_CODE 0 the eight chips of SF code 0, c(0) in bit 0, and the sixteen of
code 1. -/
theorem test_spread_codes : (spreadCode 0 8).foldr (fun b n => b2n b + 2 * n) 0 = 0x75 ∧
    (spreadCode 0 16).foldr (fun b n => b2n b + 2 * n) 0 = 0x077F := by decide +kernel

/-- Source: the check values of R246: the first 32 bits of w, least significant first in bytes FF E1 1D 9A. -/
theorem test_whitening : whitening 32 = bytesBits [0xFF, 0xE1, 0x1D, 0x9A] := by decide +kernel

/-- Source: the check value of R247, an input of 1 followed by six zeros. -/
theorem test_convolution : ((codedPairs (bits [1, 0, 0, 0, 0, 0, 0])).map fun p => [p.1, p.2]).flatten =
    bits [1, 1, 0, 1, 1, 1, 1, 1, 0, 0, 1, 0, 1, 1] := by decide +kernel

/-- Source: the example vector of the AES standard. -/
theorem test_aes : aes ((List.range 16).map fun k => BitVec.ofNat 8 k) ((List.range 16).map fun k => BitVec.ofNat 8 (17 * k)) =
    [0x69, 0xC4, 0xE0, 0xD8, 0x6A, 0x7B, 0x04, 0x30, 0xD8, 0xCD, 0xB7, 0x80, 0x70, 0xB4, 0xC5, 0x5A] := by decide +kernel

/-- Source: Table 6.6, reading CLK.STATUS with CRC-8. -/
theorem test_read_clk_status :
    (after (.registerRead 0x0400 1 (some 0x9D)) (having [(K.spiCrc, [1])]
      { on with clk := { on.clk with lfxoOk := true, lfSrc := true } })).spi.miso =
    [0x84, 0, 0, 0, 0, 0, 0x17, 0, 0, 0, 0x05] := by decide +kernel

/-- Source: the worked example of §4.5, steering from one beacon. -/
theorem test_fcw : fcwOf 18400 = 0x06666E1E ∧ fcwOf 12400 = 0x06666B9A := by decide

/-- Source: the worked example of chapter 11, a threshold from the floor. -/
theorem test_noise_floor : (after (.noiseFloorWindow .a (List.replicate 8 (-240) ++ List.replicate 12 (-229) ++
      List.replicate 20 (-227) ++ List.replicate 16 (-225) ++ List.replicate 8 (-190))) coord).rx.nfA.toInt = -227 := by
  decide +kernel
def floors : State := { coord with rx := { coord.rx with nfA := -227, nfB := -224, nfValid := 3 } }
theorem test_cca_threshold : ccaThr floors false = -207 ∧ ccaThr floors true = -204 := by decide +kernel

/-- Source: the worked example of chapter 10, durations. -/
theorem test_durations : codedBits 40 = 768 ∧ spreadUs on 3 40 = 558080 ∧
    mosaicHalfUs 1 1023 = 2 * 88750 ∧ mosaicHalfUs 0 1023 = 2 * 131500 := by decide +kernel

/-- Source: Table 3.11, the first two crossings of a die temperature that hovers. -/
theorem test_crossings :
    (after (.thermSample 948) (after (.thermSample 952) (after (.thermSample 946) on))).sup.crossings = 2 := by
  decide +kernel

/-- Source: the worked example of chapter 16, eight staggered channels. -/
theorem test_stagger : (getCmp (after (.stagger (.dict .spi 0 [0xFF, 0, 0, 0, 0xA0, 0x78, 0x07, 0x2A, 1, 0, 0, 0,
    0x12, 0x7A, 0, 0, 0x90, 0xD0, 3, 0])) on) 7).val = 0x12A0ACF1E := by decide +kernel

-- Every hypothesis of a statement is met: the block as a machine, resets, supply, clocks

/-- A state in which the SPI port is free. -/
theorem spi_free {s : State}
    (h : (s.engine.job.isNone && !absent s && spiPresent s && !s.spi.asked && s.spi.resp.isNone) = true) :
    PortFree .spi s := by
  simp only [Bool.and_eq_true, Option.isNone_iff_eq_none, Bool.not_eq_true'] at h
  obtain ⟨⟨⟨⟨h1, h2⟩, h3⟩, h4⟩, h5⟩ := h
  exact ⟨h1, h2, h3, h4, h5⟩

/-- A write that passes over the SPI port. -/
theorem spi_passes {tag : Byte} {key : Nat} {value : Bytes} {s : State}
    (h : (s.engine.job.isNone && !absent s && spiPresent s && !s.spi.asked && s.spi.resp.isNone) = true)
    (k : judge (atEngine .spi s) (writeRequest .spi tag key value) = .ok) : Passes .spi tag key value s := ⟨spi_free h, k⟩

/-- A register that the host may write. -/
theorem reg_free {addr : Nat} {s : State} (h : (spiPresent s && rdy s && !regGated s addr) = true) : RegFree addr s := by
  simp only [Bool.and_eq_true, Bool.not_eq_true'] at h
  exact ⟨h.1, h.2⟩

/-- A state whose invariant can be computed. -/
theorem inv_of {s : State} (h : s.ring = []) (k : (s.live.all fun p => p.2 != defaultOf p.1) = true)
    (r : (s.live.map fun p => p.1).Pairwise (· < ·)) : Inv s := by
  refine ⟨⟨by simp [h], by simp [h]⟩, ?_, ?_⟩
  · simpa [List.pairwise_map] using r
  · intro p hp
    have := List.all_eq_true.mp k p hp
    simpa using this

theorem inv_on : Inv on := inv_of (by decide +kernel) (by decide +kernel) (by decide +kernel)

/-- Every command answers a next state. -/
theorem runs (c : Instr) (s : State) : exec c s = .next (after c s) := by cases c <;> rfl

theorem steps (c : Instr) (q : List Instr) (s : State) :
    step { s with pending := c :: q } = .next (after c { s with pending := q }) := runs c _

theorem inv_pending {s : State} (q : List Instr) (h : Inv s) : Inv { s with pending := q } :=
  ⟨⟨h.ring.1, h.ring.2⟩, h.live.1, h.live.2⟩

theorem wit_StepKeepsInvariant : Inv { on with pending := [.statusOnly] } ∧
    ∃ t, step { on with pending := [.statusOnly] } = .next t :=
  ⟨inv_pending _ inv_on, _, steps .statusOnly [] on⟩

theorem wit_StepIdles : State.reset.pending = [] := rfl
theorem wit_CommandsAreConfined : ∃ t, exec .statusOnly on = .next t := ⟨_, runs .statusOnly on⟩
theorem wit_ResetNTakesTheWarmReset : on.boot.held = false ∧ on.sup.power ≠ .shutdown ∧ on.pins.bankA = true ∧
    timerKey K.gpioout = false := by decide +kernel
theorem wit_BrownOutTakesTheColdReset : on.sup.power ≠ .off := by decide +kernel
def booting0 : State := after (.powerOnReset false { run0 with stall := some 3 }) State.reset
def lowN : State := after .resetN on
theorem wit_ResetsStartTheBoot : absent on = false ∧ inBoot booting0 = true ∧ inReset lowN = true ∧ lowN.pins.bankA = true ∧
    lowN.pins.resetLow = true ∧ on.pins.resetLow = false ∧ on.pins.bankA = true ∧
    { on with boot := { on.boot with resetDue := true } }.boot.resetDue = true ∧ on.boot.held = false ∧
    responseSent { on with boot := { on.boot with resetDue := true } } = true := by decide +kernel
theorem wit_PortUp : PortUp on := ⟨by decide +kernel, by decide +kernel⟩
theorem wit_SoftwareResetKeys : Passes .spi 5 K.resetCmd (leBytes 4 0xA55A) on :=
  spi_passes (by decide +kernel) (by decide +kernel)

def warned : State := after (.bodWarn 1000 commit0) on
theorem wit_BodWarn : bodArmed on = true ∧ on.sup.bodWarn = false ∧ on.sup.sleepDue = none ∧ on.engine.waits = [] ∧
    on.engine.job = none ∧ (1099 : Half).toNat < bodThr on ∧ bodThr on ≤ (1100 : Half).toNat ∧ canCommit on = true ∧
    warned.sup.bodWarn = true ∧ bodThr warned + 30 < (1131 : Half).toNat ∧ (1130 : Half).toNat ≤ bodThr warned + 30 := by
  decide +kernel

/-- The warning came in the middle of a reception. -/
def resumable : State := { warned with sup := { warned.sup with bodRx := true } }
theorem wit_BodWarn_rx : resumable.radio.state = .idle ∧ radioPermitted resumable = true ∧ rxBlocks resumable = true ∧
    modeOk resumable = true ∧ rxChannelsOk resumable = true ∧ resumable.sup.therm ≠ 3 ∧ resumable.sup.bodRx = true := by
  decide +kernel

/-- A Course commit waits for its seal. -/
def unsealed : State := { on with engine := { on.engine with job := some (writeRequest .spi 5 K.imageCommit [], .seal true) } }
theorem wit_BodWarn_image : isImageCommit (writeRequest .spi 5 K.imageCommit []).key = true ∧ bodArmed unsealed = true ∧
    unsealed.sup.sleepDue = none ∧ unsealed.engine.waits = [] := by decide +kernel
theorem wit_PinSupplies : bodArmed on = true ∧ (after (.iovddLoss .a) on).pins.bankA = false ∧ awake on = true ∧
    bit (liveNat (after (.iovddLoss .a) on) K.wakeEn) 6 = true ∧ on.boot.held = false ∧ on.sys.ready = true ∧
    on.pins.reversed = false ∧ inBankB .irqN = false ∧ inBankB (.gpio 6) = true ∧ on.sys.dev ≠ .safe := by decide +kernel
def txen : State := having [(K.pinmux1, leBytes 4 0x40)] on
theorem wit_PinSupplies_txen : pinFunc txen 9 = 4 ∧ bit (liveNat txen K.gpiood) 9 = false ∧ txen.pins.bankB = true ∧
    txen.sys.ready = true := by decide +kernel

/-- Source: Table 2.5; GPIO9 with the function of TXEN follows the PA, and is low in SAFE. -/
theorem test_txen : pinOut (.gpio 9) { txen with radio := { txen.radio with onAir := some ⟨false, 2, 0, 0, 2, 16, 0, 0, 0, 0, 0, []⟩ } } =
      .high ∧ pinOut (.gpio 9) txen = .low := by decide +kernel

theorem wit_ClocksStart :
    asleep on = false ∧ on.boot.waiting = none ∧ on.clk.xoOk = true ∧ on.clk.restarts < 3 ∧ on.clk.xoFailed = false ∧
    on.clk.stopped = false ∧ on.clk.lfxoFailed = false ∧ on.sup.power ≠ .off ∧ background on = true ∧
    (after (.wake 0 run0) dormant).sup.waking = true ∧ asleep (after (.wake 0 run0) dormant) = false := by
  decide +kernel
theorem wit_XoAndLock : on.clk.xoOk = true ∧ absent on = false ∧ on.boot.waiting = none ∧ on.sys.ready = true ∧
    on.clk.lock = true ∧ on.clk.recent < 2 ∧ on.clk.refHfrc = false := by decide +kernel
theorem wit_Xo_window : (after .sniffWindow sniffing).clk.xoOk = true ∧ (after .sniffWindow sniffing).radio.state = .sniff ∧
    sniffing.sys.ready = true := by decide +kernel
theorem wit_Lfxo : (after .lfxoQualified on).clk.lfxoOk = true ∧
    hasPlace (after .lfxoQualified on).ring evClkFail = true := by decide +kernel
def rising0 : State := { on with sup := { on.sup with rising := BitVec.ofNat 206 (2 ^ 191) } }
theorem wit_Gating : bit rising0.sup.rising.toNat 191 = true ∧ blockDomain 4 = 191 ∧ absent rising0 = false ∧
    blocks.contains 3 = true ∧ blockOn { on with live := [] } 3 = true ∧ enableBit { on with live := [] } 3 = false ∧
    blockBusy { on with live := [] } 3 = false ∧ asleep on = false ∧ blockOn { on with live := [] } 0 = true ∧
    enableBit { on with live := [] } 0 = false ∧ on.field.sending = false ∧ on.field.busy = false := by decide +kernel
theorem wit_TimeBase : { on with tb := { on.tb with state := tbDisciplined, load := some 5 } }.tb.state = tbDisciplined ∧
    holdExpired { on with timer := { on.timer with time := 1 } } = true ∧ holdExpired on = false ∧
    on.sys.role ≠ .coordinator ∧ unmasked on evTbHoldover = true ∧ hasPlace on.ring evTbHoldover = true := by
  decide +kernel

-- Power states, Lintel, Plumb, the thermal level

theorem wit_Sleep (v : Nat) (h : v = 1 ∨ v = 2 ∨ v = 3) : Takes .register 0x0804 K.pstateCmd v [BitVec.ofNat 8 v] on := by
  rcases h with rfl | rfl | rfl <;>
    exact ⟨reg_free (by decide +kernel), by decide +kernel, by decide +kernel⟩
theorem wit_Sleep_dict (v : Byte) (h : v = 1 ∨ v = 2 ∨ v = 3) : Passes .spi 5 K.pstateCmd [v] on := by
  rcases h with rfl | rfl | rfl <;> exact spi_passes (by decide +kernel) (by decide +kernel)
theorem wit_Sleep_idle : on.mortar.waiting2 = [] ∧ on.radio.commits = [] := by decide +kernel
theorem wit_Wakes : dormant.boot.held = false ∧ dormant.sup.power = .dormant ∧ wakeSources 0 dormant = 1 ∧
    shut.sup.power = .shutdown ∧ wakeSources 0 shut = 1 ∧ shut.pins.bankA = true ∧ shut.boot.held = false ∧
    shut.pins.reversed = false ∧ dormant.clk.lock = false ∧ dormant.clk.stopped = false := by
  decide +kernel
def lifted : State := having [(K.plumbEn, [1])]
  { on with sup := { on.sup with op := 3, vcore := 890, vend := 890, trims := [3, 0, 5, 2] } }
def dropping : State := { lifted with sup := { lifted.sup with vcore := 960 } }
def above : State := { lifted with sup := { lifted.sup with vcore := 930, vend := 930 } }
theorem wit_Lintel : awake on = true ∧ opTarget (having [(K.opReq, [2])] on) = 2 ∧ on.sup.op.val = 0 ∧
    atBoundary on = true ∧ opTarget lifted = 0 ∧ lifted.radio.state = .idle ∧ on.clk.lock = true ∧
    dormant.clk.lock = false := by decide +kernel
theorem wit_Plumb : awake lifted = true ∧ liveBool lifted K.plumbEn = true ∧ AtTrim lifted 2 ∧
    AtTrim { lifted with sup := { lifted.sup with vcore := 820, vend := 820, trims := [3, 0, 5, 16] } } 16 ∧
    bit lifted.sup.trimLock.toNat 3 = false ∧ nominalMv above.sup.op.val < above.sup.vend.toNat ∧
    AtTrim { lifted with sup := { lifted.sup with vcore := 900, vend := 900, trims := [3, 0, 5, 0] } } 0 ∧
    awake dropping = true ∧ falling dropping = true :=
  ⟨by decide +kernel, by decide +kernel, ⟨by decide, by decide +kernel, by decide +kernel, by decide +kernel, by decide +kernel⟩,
    ⟨by decide, by decide +kernel, by decide +kernel, by decide +kernel, by decide +kernel⟩, by decide +kernel,
    by decide +kernel, ⟨by decide, by decide +kernel, by decide +kernel, by decide +kernel, by decide +kernel⟩,
    by decide +kernel, by decide +kernel⟩

/-- Source: R68; a near-miss in a fall ends it 20 mV higher, above nominal too, from where Plumb steps down. -/
theorem test_near_miss_falling : (after .nearMiss dropping).sup.vcore = 980 ∧
    (after .plumbStepDown (after .nearMiss dropping)).sup.vcore = 975 := by decide +kernel
theorem wit_Therm : awake on = true ∧ (1501 : Half).toInt = 1501 ∧ (0xFDDA : Half).toInt = -550 ∧
    { on with sup := { on.sup with badRun := 7 } }.sup.therm.val < 2 ∧ on.sup.waking = false ∧
    hasPlace on.ring evThermStep = true := by decide +kernel
theorem wit_Quiet : absent on = false ∧ on.sys.dev ≠ .quiet ∧ on.sys.ready = true ∧ on.sup.bodWarn = false ∧
    absent warned = false ∧ warned.sys.ready = true ∧
    absent { on with sys := { on.sys with dev := .quiet } } = false ∧ on.scarab.dets = [] := by decide +kernel

/-- The durable frame of queue 5 is sealed, and the device has booted since. -/
def sealed5 : State := { on with
  sys := { on.sys with restore := [5, 6] }
  mortar := (after (.mortarAppend 1 .done) (push 5 [1, 2, 3] (durable5 on))).mortar }
def sealedSeq : Word := ((chainSeqs sealed5.mortar 5 true).head?).getD 0
theorem wit_Restore : sealed5.sys.ready = true ∧ absent sealed5 = false ∧ sealed5.sup.bodWarn = false ∧
    sealed5.sys.restore = 5 :: [6] ∧ chainSeqs sealed5.mortar 5 false = [] ∧ chainSeqs sealed5.mortar 5 true = [sealedSeq] ∧
    (sealedFrame sealed5.mortar 5 true sealedSeq).any (fun f => (allocate sealed5 5 f.payload.length).isSome &&
      f.payload == [1, 2, 3]) = true ∧ (getQueue sealed5 5).inCh.length < 65535 ∧ chainSeqs on.mortar 5 true = [] := by
  decide +kernel

-- The host port

theorem wit_Spi : spiPresent on = true ∧ opcodes.contains 0x77 = false := by decide +kernel
theorem wit_RegisterRead : RegFree 0x1118 on ∧ c8Error on ([0x20] ++ leBytes 2 0x1118 ++ [1]) none = none ∧
    regValue (cleared on) 0x1118 = some 0 := ⟨reg_free (by decide +kernel), by decide +kernel, by decide +kernel⟩
theorem wit_RegisterRead_crc : RegFree 0x1118 (having [(K.spiCrc, [1])] on) ∧
    c8Error (having [(K.spiCrc, [1])] on) ([0x20] ++ leBytes 2 0x1118 ++ [64])
      (some (crc8 ([0x20] ++ leBytes 2 0x1118 ++ [64]))) = none := ⟨reg_free (by decide +kernel), by decide +kernel⟩
theorem wit_RegisterWrite : spiPresent on = true ∧ RegFree 0x1004 on ∧
    c8Error on ([0x21] ++ leBytes 2 0x1118 ++ [1] ++ [1, 0, 0, 0]) none = none :=
  ⟨by decide +kernel, reg_free (by decide +kernel), by decide +kernel⟩

/-- A read of GPIO_OUT. -/
def readGpio : Bytes := [1, 7] ++ leBytes 2 (K.gpioout / 256) ++ [BitVec.ofNat 8 (K.gpioout % 256)]
def answered : State := after (.dictionaryRequest 5 readGpio none) on
theorem wit_DictionaryTransport : PortFree .spi on ∧ readGpio.length = 5 ∧
    c8Error on ([0x30, 5] ++ readGpio) none = none ∧ spiPresent answered = true ∧ answered.spi.resp.isSome = true ∧
    c8Error answered ([0x30, 5] ++ readGpio) none = none ∧ c8Error answered [0x30, 0] none = none :=
  ⟨spi_free (by decide +kernel), by decide +kernel⟩
theorem wit_PushIsAccepted :
    c8Error on ([0x40] ++ leBytes 2 5 ++ leBytes 2 3) none = none ∧
    pushError 5 3 [1, 2, 3] (crc32 [1, 2, 3]).toNat (cleared on) = none ∧ isLocal on 5 = true ∧
    pushError 0 3 [1, 2, 3] (crc32 [1, 2, 3]).toNat (cleared on) = none ∧ isLocal on 0 = false := by decide +kernel
theorem wit_PushIsRefused : pushError 5 3 [1, 2, 3] 0 (cleared on) = some errCrc := by decide +kernel
def queued : State := push 5 [4, 5] (push 5 [1, 2, 3] (durable5 on))
def head5 : Sys2Proof.Machine.Frame := (getQueue queued 5).inCh.headD ⟨0, 0, 0, [], [], false⟩
theorem wit_Pop : (getQueue queued 5).inCh = head5 :: (getQueue queued 5).inCh.tail ∧
    popError 5 1 head5.seq head5 (cleared queued) = none ∧ head5.segs.any (segmentLost queued) = false ∧
    spiPresent queued = true ∧ rdy queued = true ∧ queued.sys.restore.contains 5 = false ∧
    c8Error queued ([0x41] ++ leBytes 2 5 ++ [1] ++ leBytes 4 head5.seq.toNat) none = none := by decide +kernel
theorem wit_Peek : (getQueue queued 5).inCh[0]? = some head5 ∧
    c8Error queued ([0x42] ++ leBytes 2 5 ++ leBytes 2 0) none = none := by decide +kernel
theorem wit_EventFetch : c8Error on [0x50, 16] none = none := by decide +kernel

-- The dictionary engine, Footing, Courses, device states

theorem air_free {slot : Option (Fin 8)} {s : State}
    (h : (s.engine.job.isNone && !absent s && s.sys.ready && s.net.held.isNone && !airAsked s) = true) :
    PortFree (.air slot) s := by
  simp only [Bool.and_eq_true, Option.isNone_iff_eq_none, Bool.not_eq_true'] at h
  obtain ⟨⟨⟨⟨h1, h2⟩, h3⟩, h4⟩, h5⟩ := h
  exact ⟨h1, h2, h3, h4, h5⟩

theorem field_free {s : State}
    (h : (s.engine.job.isNone && !absent s && fieldServed s && !s.field.busy && !s.field.mute) = true) :
    PortFree .field s := by
  simp only [Bool.and_eq_true, Option.isNone_iff_eq_none, Bool.not_eq_true'] at h
  obtain ⟨⟨⟨⟨h1, h2⟩, h3⟩, h4⟩, h5⟩ := h
  exact ⟨h1, h2, h3, h4, h5⟩

/-- The key of slot 3 may carry requests over the air. -/
def trusted : State :=
  { on with mortar := (appendBatch 3 false .done [⟨rtOnce, K.keyUse + 3, [2]⟩] on.mortar).1 }

theorem wit_DictionaryReads : Reads .spi 7 K.gpioout on ∧ Reads .field 7 K.gpioout on ∧
    Reads (.air (some 3)) 7 K.gpioout trusted :=
  ⟨⟨spi_free (by decide +kernel), by decide +kernel⟩, ⟨field_free (by decide +kernel), by decide +kernel⟩,
    air_free (by decide +kernel), by decide +kernel⟩

def verdict (s : State) (key : Nat) (value : Bytes) : Verdict := judge (atEngine .spi s) (writeRequest .spi 5 key value)
def badImage : State := { cfg with courses := { cfg.courses with loads := setNth cfg.courses.loads 2 (some [1, 2]) } }
theorem wit_RefusedWrites : PortFree .spi on ∧ verdict on K.role [9] ≠ .ok ∧ verdict cfg K.role [9] = .abort abRange :=
  ⟨spi_free (by decide +kernel), by decide +kernel, by decide +kernel⟩
theorem wit_RefusedWrites_gated : verdict { on with clk := { on.clk with run0 := 0 } } K.pulseCfg [1, 0, 0, 0] = .gated 4 := by
  decide +kernel
theorem wit_RefusedWrites_state : verdict on K.cnt [1, 0] = .state false := by decide +kernel
theorem wit_RefusedWrites_image : PortFree .spi badImage ∧
    verdict badImage (K.imageCommit + 512) (leBytes 4 2) = .image 1 0 abLength :=
  ⟨spi_free (by decide +kernel), by decide +kernel⟩
theorem wit_RefusedWrites_denied : PortFree (.air none) on ∧
    judge on (writeRequest (.air none) 5 K.gpioout [1, 0, 0, 0]) = .denied :=
  ⟨air_free (by decide +kernel), by decide +kernel⟩

/-- A key is written. -/
def keyed : State :=
  { cfg with mortar := (appendBatch 3 false .done [⟨rtOnce, onceKeys.headD 0, zeros 16⟩] cfg.mortar).1 }
theorem wit_RefusedWrites_locked : PortFree .spi keyed ∧
    verdict keyed (onceKeys.headD 0) (List.replicate 16 1) = .locked := ⟨spi_free (by decide +kernel), by decide +kernel⟩

/-- An image of no records for Course 2. -/
def image2 : Bytes :=
  [0xE5, 0xC0, 1, 2, 0, 0, 16, 0, 0, 0, 0, 0] ++
    leBytes 4 (crc32 [0xE5, 0xC0, 1, 2, 0, 0, 16, 0, 0, 0, 0, 0]).toNat
def loaded : State := { cfg with courses := { cfg.courses with loads := setNth cfg.courses.loads 2 (some image2) } }

theorem wit_WritesAwait : Passes .spi 5 K.gpioout [3, 0, 0, 0] cfg ∧ Passes .spi 5 K.tbMode [1] cfg ∧
    Passes .spi 5 K.role [2] cfg ∧ Passes .spi 5 K.footingCmd (leBytes 4 0xC1EA) cfg :=
  ⟨spi_passes (by decide +kernel) (by decide +kernel), spi_passes (by decide +kernel) (by decide +kernel),
    spi_passes (by decide +kernel) (by decide +kernel), spi_passes (by decide +kernel) (by decide +kernel)⟩
theorem wit_WritesAwait_rwp : entryKey (BitVec.ofNat 16 (K.gpioout / 256)) (BitVec.ofNat 8 K.gpioout) = K.gpioout ∧
    (rowOf (K.gpioout / 256) (K.gpioout % 256)).any (fun r => r.access == .rwp) = true := by decide +kernel
theorem wit_WritesAwait_once : Passes .spi 5 K.ledgerClear (leBytes 4 0x1ED6) cfg ∧
    Passes .spi 5 (K.imageCommit + 256 * (2 : Fin 8).val) (leBytes 4 16) loaded ∧
    Passes .spi 5 K.decommission ((decomValue keyed).getD []) keyed :=
  ⟨spi_passes (by decide +kernel) (by decide +kernel), spi_passes (by decide +kernel) (by decide +kernel),
    spi_passes (by decide +kernel) (by decide +kernel)⟩

/-- Whether the append at the front can be sealed. -/
def sealable (s : State) : Bool :=
  let u := stallLower true true (tidyFlash s)
  match u.mortar.waiting2 with
  | [] => false
  | a :: _ =>
    s.mortar.state == 1 && u.mortar.state == 1 && !absent s && !hot s && a.owner == .request && s.engine.waits.isEmpty &&
      s.courses.pend.isNone && s.engine.regTarget.isNone && s.sup.sleepDue.isNone && !overLimit u a.recs &&
      (appendBatch 3 (hotWrite s) .done a.recs u.mortar).2.isEmpty &&
      (match s.engine.job with
       | some (_, .seal _) => true
       | _ => false)
theorem wit_Seals_role : sealable (after (.roleWrite .spi 5 [2]) cfg) = true := by decide +kernel
theorem wit_Seals_footing : sealable (after (.footingCmd .spi 5 (leBytes 4 0xC1EA)) cfg) = true := by decide +kernel
theorem wit_Seals_ledger : sealable (after (.ledgerClear .spi 5 (leBytes 4 0x1ED6)) cfg) = true := by decide +kernel
theorem wit_Seals_decommission :
    sealable (after (.decommission .spi 5 ((decomValue keyed).getD [])) keyed) = true := by decide +kernel
theorem wit_Seals_gpio : sealable (after (.dictWrite .spi 5 (BitVec.ofNat 16 (K.gpioout / 256))
    (BitVec.ofNat 8 K.gpioout) [3, 0, 0, 0]) cfg) = true := by decide +kernel
theorem wit_Seals_tb : sealable (after (.tbModeWrite .field 5 [1]) cfg) = true ∧ { cfg with tb := { cfg.tb with state := tbFree } }.tb.state = tbFree ∧
    cfg.sys.role ≠ .coordinator ∧ (after (.tbModeWrite .field 5 [1]) cfg).field.mute = false := by decide +kernel

theorem wit_AtOnce : Passes .spi 5 K.courseReq [15] cfg ∧
    Passes .spi 5 (K.imageLoad + 256 * (2 : Fin 8).val) ([0, 0] ++ image2) cfg ∧
    Passes .spi 5 K.airDreq [5, 0, 1, 3, 0x18, 0x11, 0, 7] { cfg with sys := { cfg.sys with role := .coordinator } } ∧
    Passes .spi 5 K.qPurge (leBytes 4 1) cfg ∧ Passes .spi 5 K.telemClear [1] cfg :=
  ⟨spi_passes (by decide +kernel) (by decide +kernel), spi_passes (by decide +kernel) (by decide +kernel),
    spi_passes (by decide +kernel) (by decide +kernel), spi_passes (by decide +kernel) (by decide +kernel),
    spi_passes (by decide +kernel) (by decide +kernel)⟩

def waiting : State := { on with radio := { on.radio with state := .ackWait } }
theorem wit_StateCommands (v : Fin 8) (h : v = 3 ∨ v = 4 ∨ v = 5 ∨ v = 6) :
    Takes .register 0x0004 K.stateCmd v.val [BitVec.ofNat 8 v.val] on ∧ Passes .spi 5 K.stateCmd [BitVec.ofNat 8 v.val] on ∧
    Takes .register 0x0004 K.stateCmd v.val [BitVec.ofNat 8 v.val] waiting := by
  rcases h with rfl | rfl | rfl | rfl <;>
    exact ⟨⟨reg_free (by decide +kernel), by decide +kernel, by decide +kernel⟩,
      spi_passes (by decide +kernel) (by decide +kernel), reg_free (by decide +kernel), by decide +kernel,
      by decide +kernel⟩
theorem wit_StateCommands_boundary : on.courses.pend = none ∧ on.sys.dev = .run ∧ atBoundary on = true ∧
    atBoundary waiting = false := by decide +kernel
def targeted : State := { on with engine := { on.engine with regTarget := some 5 } }
def asked (r : Request) : State := { on with engine := { on.engine with job := some (r, .boundary 5) } }
theorem wit_FrameBoundary : atBoundary on = true ∧ absent on = false ∧ transitionLegal targeted 5 = true ∧
    transitionLegal { targeted with sys := { targeted.sys with dev := .quiet } } 5 = false ∧
    { on with courses := { on.courses with pend := some (15, 1) } }.engine.job = none ∧
    on.courses.cleared = false ∧ (asked (writeRequest .spi 5 K.stateCmd [5])).engine.waits = [] ∧
    transitionLegal (asked (writeRequest .spi 5 K.stateCmd [5])) 5 = true := by decide +kernel

-- The field port

def lineLow : State := { on with field := { on.field with idleLow := true } }
theorem wit_FieldFrame : fieldServed lineLow = true ∧ absent lineLow = false ∧ lineLow.field.sending = false ∧
    lineLow.field.addr = 1 ∧ fieldGood [0x7E, 1, 2] = false ∧ fieldGood [0x7E] = false ∧ liveNat lineLow K.fpPolarity = 0 ∧
    Reads .field 7 K.gpioout { lineLow with field := { lineLow.field with idleLow := false } } :=
  ⟨by decide +kernel, by decide +kernel, by decide +kernel, by decide +kernel, by decide +kernel, by decide +kernel,
    by decide +kernel, field_free (by decide +kernel), by decide +kernel⟩
def replied : State := { on with field := { on.field with reply := some readGpio, busy := true } }
def echoed (n : Nat) : State :=
  { replied with field := { replied.field with waitChars := 9, retries := n } }
theorem wit_FieldReply : fieldServed replied = true ∧ absent replied = false ∧ replied.field.sending = false ∧
    replied.field.waitChars = 0 ∧ (after .fieldReply replied).field.sending = true ∧
    (echoed 1).field.waitChars ≠ 0 ∧ (echoed 1).field.retries < liveNat (echoed 1) K.fpRetry ∧
    liveNat (echoed 2) K.fpRetry ≤ (echoed 2).field.retries ∧ (echoed 1).field.own ≠ some K.fpAddr := by decide +kernel

-- The radio

theorem wit_Radio_rx : Takes .register 0x4004 K.radioCmd 1 [1] on ∧ on.radio.state = .idle ∧
    Takes .register 0x4004 K.radioCmd 1 [1] rcv ∧ Takes .register 0x4004 K.radioCmd 2 [2] rcv ∧ confirmed rcv = false ∧
    Takes .register 0x4004 K.radioCmd 15 [15] rcv :=
  ⟨⟨reg_free (by decide +kernel), by decide +kernel, by decide +kernel⟩, by decide +kernel,
    ⟨reg_free (by decide +kernel), by decide +kernel, by decide +kernel⟩,
    ⟨reg_free (by decide +kernel), by decide +kernel, by decide +kernel⟩, by decide +kernel,
    reg_free (by decide +kernel), by decide +kernel, by decide +kernel⟩

/-- A node with a frame for its coordinator. -/
def sender : State := push 0 [1, 2, 3] (having [(K.addr, [5, 0])] { on with sup := { on.sup with op := 3 } })
def head0 (s : State) : Sys2Proof.Machine.Frame := (outHead s 0).getD ⟨0, 0, 0, [], [], false⟩
def job0 : TxJob := dataJob sender 0 (head0 sender)
theorem wit_Radio_abort : sender.radio.state = .idle ∧ rcv.radio.state = .rx := by decide +kernel
def selecting : State := having [(K.txQueue, [0, 0])] sender
theorem wit_Radio_tx : Takes .register 0x4004 K.radioCmd 3 [3] selecting ∧ liveNat selecting K.txQueue = 0 ∧
    outHead (macRead 0 selecting) 0 = some (head0 sender) ∧ job0 = dataJob (macRead 0 selecting) 0 (head0 sender) ∧
    job0.fits (macRead 0 selecting) = true ∧ canStart (macRead 0 selecting) job0 = true ∧
    dutyRefusal (macRead 0 selecting) job0 = none ∧ exempt (macRead 0 selecting) job0 = false ∧
    exempt (macRead 0 (having [(K.lbtEn, [0])] selecting)) job0 = true ∧ selecting.sys.role ≠ .coordinator :=
  ⟨⟨reg_free (by decide +kernel), by decide +kernel, by decide +kernel⟩, by decide +kernel, by decide +kernel,
    by decide +kernel, by decide +kernel, by decide +kernel, by decide +kernel, by decide +kernel, by decide +kernel,
    by decide +kernel⟩

def attempt0 : Attempt := ⟨job0, 0, true, false, 5000⟩
def listening : State := { sender with
  sup := { sender.sup with power := .rx }, radio := { sender.radio with state := .cca, lock := true, cca := some attempt0 } }
def backed : State :=
  { listening with radio := { listening.radio with cca := some { attempt0 with listen := false, busy := 1 } } }
theorem wit_ChannelAccess : absent listening = false ∧ listening.radio.cca = some attempt0 ∧
    listening.radio.state = .cca ∧ attempt0.listen = true ∧ detected listening (jobChan listening job0) = false ∧
    dutyRefusal listening job0 = none ∧ maySend listening job0 = true ∧
    maySend { listening with sys := { listening.sys with dev := .safe } } job0 = false ∧
    (listenPaths listening job0).any (fun p => decide (ccaThr listening (p == .b) ≤ -100)) = true ∧
    attempt0.busy + 1 < liveNat listening K.lbtTries ∧ liveNat (having [(K.lbtTries, [1])] listening) K.lbtTries ≤ 1 ∧
    backed.radio.state = .cca ∧ confirmed backed = false ∧ backed.radio.acks = [] ∧ backed.radio.commits = [] ∧
    maySend backed job0 = true ∧ job0.latest = none := by
  decide +kernel

def locking (u : UpFor) : State := { sender with
  sup := { sender.sup with power := .rx }, radio := { sender.radio with state := .synthUp, up := u, cca := some attempt0 } }
theorem wit_SynthLock (u : UpFor) (h : u = .rx ∨ u = .cca ∨ u = .tx job0 ∨ u = .ack job0) :
    absent (locking u) = false ∧ (locking u).radio.state = .synthUp ∧ (locking u).clk.lock = true ∧
    opTarget (locking u) ≤ (locking u).sup.op.val ∧ rxReady (locking u) = true ∧ maySend (locking u) job0 = true ∧
    detected (locking u) (jobChan (locking u) attempt0.job) = false := by
  rcases h with rfl | rfl | rfl | rfl <;> decide +kernel
theorem wit_SynthUnlock : rcv.radio.lock = true ∧ rcv.radio.state = .rx ∧ rcv.radio.rxOn = true ∧
    radioPermitted rcv = true ∧ rxReady rcv = true ∧ absent rcv = false := by decide +kernel

def sending (st : RadioState) (j : TxJob) : State := { sender with
  sup := { sender.sup with power := .tx }, radio := { sender.radio with state := st, tx := some j, lock := true } }
def poll0 : TxJob := { job0 with kind := .poll, frame := { job0.frame with ar := false } }
theorem wit_TxEnd : absent (sending .tx job0) = false ∧ job0.frame.ar = true ∧ poll0.frame.ar = false ∧
    poll0.kind = .poll ∧ (sending .tx poll0).radio.stopping = false ∧ (∀ m : BitVec 2, modeOk (setMosaic m (sending .tx poll0)) = true ∧
      rxChannelsOk (setMosaic m (sending .tx poll0)) = true) ∧ (sending .tx job0).radio.untested = true ∧
    (sending .ackTx job0).radio.state = .ackTx ∧ (sending .ackWait job0).radio.state = .ackWait := by decide +kernel
def owing (b : Bool) : State := { node5 with radio := { node5.radio with acks := [⟨job0, 4, b, 1⟩] } }
theorem wit_AckTx : absent (owing true) = false ∧ (owing true).radio.state = .rx ∧ (owing true).radio.cca = none ∧
    dutyRefusal (owing true) job0 = none ∧ acknowledges (owing true) = true ∧ maySend (owing true) job0 = true ∧
    (owing false).radio.acks = [⟨job0, 4, false, 1⟩] := by decide +kernel

-- Detection and reception

/-- Soft values of coded bits without noise. -/
def soft (l : List Bool) : List Int := l.map fun b => if b then -8 else 7
def early0 : Early := ⟨.a, 4, 2, true, false, 15, 40, 100, List.replicate 4 ⟨40, 100, 0⟩, [], -150, -200⟩
def header0 (n : Nat) (d : Byte) : Bytes := [BitVec.ofNat 8 n, d] ++ [crc8 [BitVec.ofNat 8 n, d]]
def confirmed0 (h : Bytes) : Confirm := ⟨1, 0xF9AC, 20, -150, -200, 100, 0, 5, h, soft ((headerCoding false).encode (bytesBits h)), [], [1], [], [], []⟩
def confirm0 (n : Nat) (d : Byte) : Confirm := confirmed0 (header0 n d)
def found (e : Early) : State := { rcv with scarab := { rcv.scarab with dets := [⟨1, e, false⟩] } }
theorem wit_Detections : absent rcv = false ∧ canDetect rcv early0 = true ∧ rcv.scarab.dets = [] ∧
    (detsOn rcv .a).length < 4 ∧ rcv.radio.cca = none ∧ receiving (found early0) = true ∧
    reception (found early0) .a = none ∧ headerOk false (header0 20 9) = true ∧ headerOk false [1, 2, 3] = false ∧
    early0.sf ≠ 7 ∧ (found { early0 with sf := 7 }).scarab.dets.find? (fun d => d.tag == 1) =
      some ⟨1, { early0 with sf := 7 }, false⟩ := by decide +kernel
theorem wit_Detections_good : foundDet (found early0) (confirm0 20 9) = some ⟨1, early0, false⟩ := by decide +kernel
theorem wit_Detections_bad : foundDet (found early0) (confirmed0 [1, 2, 3]) = some ⟨1, early0, false⟩ := by decide +kernel

/-- A frame is in reception. -/
def getting (n : Nat) (d : Byte) (at_ : Int) (e : Early) (s : State) : State :=
  setReception .a (some ⟨1, e, confirm0 n d, at_, false⟩) s
def framed (p : Bytes) (crc : Word) : RxFrame :=
  ⟨.a, p, crc, soft ((payloadCoding false 0 p.length).encode (whitened p crc)), [], [], [], 10, 0⟩
def frame0 (p : Bytes) : RxFrame := framed p (crc32 p)
def psdu (type : Nat) (dst src : Half) (body : Bytes) : Bytes :=
  BitVec.ofNat 8 type :: leBytes 2 dst.toNat ++ leBytes 2 src.toNat ++ body
theorem wit_BadFrames : absent (getting 20 9 0 early0 rcv) = false ∧
    (reception (getting 20 9 0 early0 rcv) .a).any (fun r => r.seen.sf != 7 &&
      lost 8 ((phyNat rcv K.earlyThr : Int) - 12) (List.replicate 8 (-1)) 3 r &&
      !lost 8 ((phyNat rcv K.earlyThr : Int) - 12) (List.replicate 8 0) 3 r) = true ∧
    (reception (getting 20 9 0 { early0 with sf := 7 } rcv) .a).any (fun r => r.seen.sf == 7 &&
      lost 4 0 [5, -1, -1, -1, -1] 0 r && !lost 4 0 [-1, -1, -1, 0] 0 r) = true ∧
    receiving (getting 3 9 0 early0 rcv) = true ∧ crc32 [1, 2, 3] ≠ 5 := by decide +kernel
theorem wit_BadFrames_heard : (reception (getting 3 9 0 early0 rcv) .a).any
    (fun r => heard (getting 3 9 0 early0 rcv) r (framed [1, 2, 3] 5)) = true := by decide +kernel
def samples0 : List Int := (List.range 64).map fun (n : Nat) => if n = 40 then (-157 : Int) else (n : Int) - 200
theorem wit_NoiseFloor : receiving rcv = true ∧ samples0.length = 64 ∧
    (pathsOf rcv .a ++ pathsOf rcv .b).contains .a = true ∧ detected rcv (chanOfPath rcv .a) = false ∧
    (((sortInts samples0).drop 8).take 48).sum % 48 ≠ 24 := by decide +kernel

/-- Whether a frame ends whole. -/
def wholeB (f : RxFrame) (s : State) : Bool :=
  match reception s f.chan, parseMac f.psdu with
  | some r, some m =>
    receiving s && heard s r f && crc32 f.psdu == f.crc && typeOk m && m.flood.isNone && m.aux.isNone && !liveBool s K.rxRequire && forMe s m
  | _, _ => false
theorem whole_of {f : RxFrame} {s : State} (h : wholeB f s = true) : ∃ r m, Whole f r m s := by
  unfold wholeB at h
  split at h
  · rename_i r m hr hm
    simp only [Bool.and_eq_true, beq_iff_eq, Option.isNone_iff_eq_none, Bool.not_eq_true'] at h
    obtain ⟨⟨⟨⟨⟨⟨⟨h1, h2⟩, h3⟩, h4⟩, h5⟩, h6⟩, h7⟩, h8⟩ := h
    exact ⟨r, m, hr, h1, h2, h3, hm, h4, h5, h6, h7, h8⟩
  · cases h

def beacon0 : Bytes := psdu tyBeacon 0xFFFF 0
  (leBytes 6 1000000 ++ leBytes 4 77 ++ leBytes 2 60 ++ [0, 1] ++ leBytes 2 100 ++ [8, 20] ++ leBytes 4 0xABCD1234)
def pollPsdu : Bytes := psdu tyPoll 5 0 [2]
def data0 : Bytes := psdu (tyData + 16) 0 5 ([0] ++ leBytes 4 9 ++ [7, 7])
def join0 : Bytes := psdu (tyJoin + 16) 0 5 (leBytes 8 0x123456 ++ [0, 1])
def null0 : Bytes := psdu tyNull 0 5 [0]
def hearing (p : Bytes) (s : State) : State := getting p.length 9 12345 early0 s
theorem wit_Frames_beacon : (∃ r m, Whole (frame0 beacon0) r m (hearing beacon0 node5)) ∧
    (parseMac beacon0).any (fun m => m.type == tyBeacon && decide (22 ≤ m.body.length)) = true :=
  ⟨whole_of (by decide +kernel), by decide +kernel⟩
theorem wit_Frames_poll : (∃ r m, Whole (frame0 pollPsdu) r m (hearing pollPsdu node5)) ∧ node5.sys.role ≠ .coordinator ∧
    myAddr node5 ≠ 0 ∧ running node5 = true ∧
    (parseMac pollPsdu).any (fun m => m.type == tyPoll && pollBody m.body == some (2, none, none)) = true :=
  ⟨whole_of (by decide +kernel), by decide +kernel⟩
theorem wit_Frames_data : (∃ r m, Whole (frame0 data0) r m (hearing data0 coord)) ∧ coord.sys.role = .coordinator ∧
    takesAir (hearing data0 coord) 5 = true ∧ judgedDuplicate (hearing data0 coord) 5 9 = false ∧
    (hearing data0 coord).net.exch = none ∧
    (parseMac data0).any (fun m => m.type == tyData && replyFields m.body == some (none, none, leBytes 4 9 ++ [7, 7]) &&
      takeSeq true (leBytes 4 9 ++ [7, 7]) == some (some 9, [7, 7])) = true :=
  ⟨whole_of (by decide +kernel), by decide +kernel⟩
def polling : State := { coord with
  net := { coord.net with exch := some ⟨5, false, false, false, 2, none, 1, true⟩ }
  radio := { coord.radio with endedAt := 100000 } }
def polled : State := getting null0.length 9 7060160 early0 polling
theorem wit_Frames_null : (∃ r m, Whole (frame0 null0) r m polled) ∧ polled.sys.role = .coordinator ∧
    (match reception polled .a, parseMac null0 with
     | some r, some m => m.type == tyNull && isReply polled r m && replyFields m.body == some (none, none, [])
     | _, _ => false) = true := ⟨whole_of (by decide +kernel), by decide +kernel⟩
theorem wit_Frames_join : (∃ r m, Whole (frame0 join0) r m (hearing join0 coord)) ∧
    (parseMac join0).any (fun m => m.type == tyJoin && decide (10 ≤ m.body.length)) = true ∧
    tabGet none 5 (hearing join0 coord).net.stations = none ∧ mayCommit (hearing join0 coord) = true :=
  ⟨whole_of (by decide +kernel), by decide +kernel⟩
def fetched : State := push 0 [1, 2, 3] node5
def fack0 : Bytes := psdu tyFack 5 0 (leBytes 4 (head0 fetched).seq.toNat)
theorem wit_Frames_fack : (∃ r m, Whole (frame0 fack0) r m (hearing fack0 fetched)) ∧ fetched.sys.role = .node ∧
    outHead (hearing fack0 fetched) 0 = some (head0 fetched) ∧
    (parseMac fack0).any (fun m => m.type == tyFack && decide (4 ≤ m.body.length) &&
      (head0 fetched).seq == BitVec.ofNat 32 (leNat (m.body.take 4))) = true :=
  ⟨whole_of (by decide +kernel), by decide +kernel⟩

def sentJob : TxJob := { dataJob fetched 0 (head0 fetched) with hdata := 77, item := some (0, (head0 fetched).seq) }
def acked : State := getting 0 77 6614720 { early0 with sf := Fin.ofNat 8 (liveNat fetched K.ackSf) }
  { fetched with radio := { fetched.radio with state := .ackWait, endedAt := 100000, tx := some sentJob } }
theorem wit_AckReceived : absent acked = false ∧
    (reception acked .a).any (fun r => headerLength (r.seen.sf == 7) r.conf.header == 0 && ackMatches acked .a r) = true ∧
    acked.radio.tx = some sentJob ∧ sentJob.item = some (0, (head0 fetched).seq) ∧
    (outHead acked 0).any (fun f => f.seq == (head0 fetched).seq) = true := by decide +kernel
def due0 : CommitDue := ⟨.a, 5, 9, 0, [7, 7], (1, 3, false, 5), none, false⟩
def committing0 : State := { coord with radio := { coord.radio with commits := [due0], acks := [⟨job0, 5, false, 1⟩] } }
theorem wit_AirCommit : absent committing0 = false ∧
    nextCommit committing0 .a = some due0 ∧ committing0.sup.sleepDue = none ∧ takesAir committing0 5 = true ∧
    isDuplicate (getQueue committing0 5) 9 = false ∧ ledgerFullFor committing0 5 = false ∧ noRoom committing0 5 true 0 [7, 7] = none := by decide +kernel

-- Firefly and the polled network

def window0 : State := after .sniffWindow sniffing
/-- A word of Firefly, heard well. -/
def word0 (w : Half) : WakeSeen := ⟨List.replicate 4 ⟨40, 100, 0⟩, 100, 0, w⟩
def staying : State := { node5 with radio := { node5.radio with temp := true, ffStay := true } }
theorem wit_Firefly : sniffing.sup.power = .sniff ∧ sniffing.radio.state = .sleep ∧ windowBlocks sniffing = true ∧
    sniffing.sup.bodWarn = false ∧ sniffing.clk.xoFailed = false ∧ sniffing.clk.stopped = false ∧
    channelOk sniffing (chanHz sniffing false) false = true ∧
    window0.radio.state = .sniff ∧ window0.clk.lock = true ∧
    fireflyHears window0 (word0 0xA006) = true ∧ wakeMatches window0 (word0 0xA006).word = false ∧
    wakeMatches window0 (word0 0xA005).word = true ∧ fireflyHears window0 { word0 0xA005 with run := [] } = false ∧
    window0.sys.role = .node ∧ window0.sys.dev = .run ∧ window0.sys.ready = true ∧ window0.sys.skipped = false ∧
    (∀ n ∈ [1, 7, 32, 33, 34, 35, 36, 37, 39], enableBit window0 n = true) ∧ window0.rx.mosaic = 0 ∧
    modeOk window0 = true ∧ rxChannelsOk window0 = true ∧ absent staying = false ∧ staying.radio.state = .rx ∧
    confirmed staying = false ∧ staying.radio.acks = [] ∧ staying.radio.commits = [] ∧ staying.radio.cca = none ∧
    staying.net.reply = none ∧ staying.net.exch = none ∧ staying.net.fackWait = none := by decide +kernel

def centre : State := { on with
  sys := { on.sys with role := .coordinator }, net := { on.net with polls := [(5, 0x81)] } }
def beaconJob0 : TxJob := beaconJob centre (cycleNow centre) centre.net.beaconOf.isSome
def poll5 : TxJob × Exchange := pollJob (macRead 5 centre) 5
theorem wit_Coordinator : absent centre = false ∧ running centre = true ∧ centre.net.beaconOf ≠ some (cycleNow centre) ∧
    inWindow centre = false ∧ centre.net.exch = none ∧ canStart centre beaconJob0 = true ∧
    dutyRefusal centre beaconJob0 = none ∧
    centre.net.again = none ∧ nextPoll centre.net.polls centre.net.pollNext.toNat = some 5 ∧
    mayPoll (macRead 5 centre) poll5.1 = true ∧ dutyRefusal (macRead 5 centre) poll5.1 = none ∧
    polling.sys.role = .coordinator ∧ running polling = true ∧ polling.net.exch.isSome = true ∧
    replyBegun polling = false ∧ replyBegun polled = true := by decide +kernel

def reply0 : Reply := ⟨2, false, 0, false, false, none, none, false, none⟩
def station : State := having [(K.addr, [5, 0])] { on with net := { on.net with reply := some reply0 } }
def slotted (d : DevState) : State := having [(K.addr, [5, 0])]
  { on with net := { on.net with slot := some (1000, 900000) }, sys := { on.sys with dev := d } }
theorem wit_Station : absent station = false ∧ running station = true ∧ station.net.reply = some reply0 ∧
    canStart station (buildReply station reply0).1 = true ∧ dutyRefusal station (buildReply station reply0).1 = none ∧
    (slotted .quiet).net.joined = false ∧ myAddr (slotted .quiet) ≠ 0 ∧
    canStart (quietEnd (slotted .quiet)) (joinJob (slotted .quiet)) = true ∧
    canStart (quietEnd (slotted .run)) (joinJob (slotted .run)) = true ∧
    dutyRefusal (quietEnd (slotted .quiet)) (joinJob (slotted .quiet)) = none ∧
    (∀ k < liveNat (slotted .run) K.lbtRand + 1,
      listenFits (slotted .run) (joinJob (slotted .run)) (liveNat (slotted .run) K.lbtListen + k * 500) = true) ∧
    (slotted .run).sys.role ≠ .coordinator := by decide +kernel
def copyJob : TxJob := { job0 with kind := .copy, frame := { job0.frame with flood := some (7, 9, 3, 1) } }
def relaying (n : Nat) : State := { on with
  sys := { on.sys with role := .relay }, swarm := { on.swarm with buffers := [⟨7, 9, copyJob, 0, n, [2]⟩] } }
theorem wit_Relay : absent (relaying 0) = false ∧
    (relaying 0).swarm.buffers.find? (fun b => b.orig == 7 && b.fseq == 9) = some ⟨7, 9, copyJob, 0, 0, [2]⟩ ∧
    running (relaying 0) = true ∧ running (relaying 5) = true ∧ confirmed (relaying 0) = false ∧ (relaying 0).net.reply = none ∧ (relaying 0).radio.state = .idle ∧
    (relaying 0).net.fackWait = none ∧ (relaying 0).radio.acks = [] ∧ (relaying 0).radio.commits = [] ∧
    0 < liveNat (relaying 0) K.swSuppress ∧ liveNat (relaying 5) K.swSuppress ≤ 5 ∧ copyJob.frame.type ≠ tyBeacon ∧ copyJob.latest = none ∧
    canStart (relaying 0) copyJob = true ∧ dutyRefusal (relaying 0) copyJob = none := by decide +kernel

-- Queues and Mortar

def keystone : State := { on with
  repair := { on.repair with slicesOk := 1 }
  qe := { on.qe with slicesOn := 1, stones := (List.range 64).map fun n => ⟨n, n, ⟨n == 1, n == 1, false⟩⟩ } }
theorem wit_Eviction : absent keystone = false ∧ (stonePlaces keystone).length ≤ keystone.qe.stones.length ∧
    keystone.qe.stones = [⟨0, 0, ⟨false, false, false⟩⟩] ++ ⟨1, 1, ⟨true, true, false⟩⟩ :: keystone.qe.stones.drop 2 ∧ pinned keystone 0 = true ∧
    pinned keystone 1 = false ∧ inProgress keystone 1 = false ∧ keystone.qe.evb.findIdx? (fun e => e.isNone) = some 0 := by decide +kernel
theorem wit_Retire : absent (after .stoneEviction keystone) = false ∧
    nth none (after .stoneEviction keystone).qe.evb 0 = some ⟨1, ⟨true, true, false⟩⟩ ∧ tabGet 0 96255 on.qe.refusals < 3 ∧
    on.qe.stones = [] := by decide +kernel
def idle5 : State := { push 5 [1] on with timer := { on.timer with time := 8000000 } }
theorem wit_Qto : absent idle5 = false ∧ idleDue idle5 5 = true ∧ unmasked idle5 evQto = true ∧
    hasPlace idle5.ring evQto = true := by decide +kernel
theorem wit_Writer : absent queued = false ∧ queued.jrn.stage.length = 2 ∧ queued.mortar.state = 1 ∧
    queued.mortar.waiting2 = [] ∧ queued.sup.bodWarn = false ∧ hot queued = false ∧ queued.mortar.erasing = none ∧
    (stallLower false true (tidyFlash queued)).mortar.state = 1 ∧ queued.jrn.relWait = [] ∧
    overLimit (stallLower false true (tidyFlash queued)) (queued.jrn.stage.take 2) = false ∧
    (appendBatch 3 (hotWrite queued) .done (queued.jrn.stage.take 2)
      (stallLower false true (tidyFlash queued)).mortar).2 = [] := by decide +kernel
theorem wit_Writer_late : (after (.roleWrite .spi 5 [2]) cfg).mortar.waiting2 =
      [⟨[⟨rtFoot, K.role, [2]⟩], .request, false⟩] ∧
    (after (.roleWrite .spi 5 [2]) cfg).engine.job = some (writeRequest .spi 5 K.role [2], .seal false) := by
  decide +kernel

def rec0 (k : Nat) (hot : Bool) : Rec := ⟨rtFoot, k, BitVec.ofNat 23 k, [1, 0, 0, 0], hot, true, true, true, true⟩
def pair0 (hot : Bool) : Pair := ⟨0, 0, 64, true, [rec0 3 hot, rec0 4 hot]⟩
def few : List Sector := (List.range 136).map fun k =>
  if k % 64 < 2 ∧ k < 128 then ⟨.inPair, 1⟩ else if k % 64 < 6 ∧ k < 128 then ⟨.prepared, 1⟩ else ⟨.retired, 1⟩
def worn (hot : Bool) : State := { on with
  mortar := { on.mortar with pairs := [pair0 hot, ⟨1, 1, 65, false, [rec0 3 false]⟩], sectors := few, nextSseq := 2, nextGen := 10 } }
theorem wit_Mortar : backgroundFlash (worn false) = true ∧ tidyFlash (worn false) = worn false ∧ (pair0 false).recs[1]? = some (rec0 4 false) ∧ (worn false).mortar.refresh = [] ∧
    prepared (worn false).mortar true ≤ 4 ∧ wearPair (worn false).mortar = none ∧ (worn false).sup.therm = 0 ∧
    (worn false).mortar.pairs.find? (fun p => p.sseq == (0 : Word).toNat) = some (pair0 false) ∧
    (worn true).mortar.pairs.filter (hotPair (worn true).mortar) = [pair0 true] ∧
    (worn false).mortar.pairs.filter (hotPair (worn false).mortar) = [] := by decide +kernel
theorem wit_Compactable : Compactable (pair0 false) (worn false) ∧ Compactable (pair0 true) (worn true) :=
  ⟨⟨by decide +kernel, by decide +kernel, by decide +kernel⟩, by decide +kernel, by decide +kernel, by decide +kernel⟩
def erasing0 : State := { worn false with mortar := { (worn false).mortar with erasing := some (0, 64) } }
theorem wit_EraseEnd : absent erasing0 = false ∧ backgroundFlash erasing0 = true ∧ erasing0.mortar.failing = [] ∧
    eraseCount erasing0 0 = 1 ∧ eraseCount erasing0 64 = 1 := by decide +kernel

-- TIME, compare, counters and capture

def timed : State := having [(K.cmpCfg, [1, 0, 0, 0])] { on with timer := { on.timer with
  time := 100, cmps := setNth on.timer.cmps 0 ⟨0, 101, 0, false, false⟩ } }
theorem wit_TimeStep : timed.sup.power ≠ .off ∧ timed.timer.cmps.length = 16 ∧ cmpEn timed 0 = true ∧
    cmpBase timed 0 = false ∧ crosses (getCmp timed 0).val (timed.timer.time.setWidth 48)
      ((timed.timer.time + BitVec.ofNat 64 (timeAdvance timed).1).setWidth 48) = true := by decide +kernel
theorem wit_Snap : Takes .register 0x6004 K.snapCmd 1 [1] on ∧ Passes .spi 5 K.snapCmd [1] on :=
  ⟨⟨reg_free (by decide +kernel), by decide +kernel, by decide +kernel⟩, spi_passes (by decide +kernel) (by decide +kernel)⟩
theorem wit_Compare : Inv on ∧ on.timer.cmps.length = 16 ∧ on.timer.cnts.length = 8 ∧ RegFree (0x6100 + 16 * 15) on ∧
    cmpCfgOk on 15 ((3 : Word).toNat &&& 0x00FF0F3F) = true ∧ cmpEn on 15 = false ∧
    ahead (getCmp on 15).val (on.timer.time.setWidth 48) = false ∧ ahead (getCmp on 15).val ((ntime on).setWidth 48) = false :=
  ⟨inv_on, by decide +kernel, by decide +kernel, reg_free (by decide +kernel), by decide +kernel⟩
theorem wit_Compare_dict : Passes .spi 5 (K.cmpCfg + 15) (leBytes 4 1) on ∧ Passes .spi 5 (K.cmpVal + 15) (leBytes 6 7) on ∧
    RegFree (0x6104 + 16 * 15) on ∧ RegFree (0x6108 + 16 * 15) on :=
  ⟨spi_passes (by decide +kernel) (by decide +kernel), spi_passes (by decide +kernel) (by decide +kernel),
    reg_free (by decide +kernel), reg_free (by decide +kernel)⟩
theorem wit_Cnt : Inv cfg ∧ Takes .register (0x6404 + 8 * 7) (K.cnt + 7) 9 (leBytes 2 9) cfg ∧
    Passes .spi 5 (K.cnt + 7) (leBytes 2 9) cfg :=
  ⟨inv_of (by decide +kernel) (by decide +kernel) (by decide +kernel),
    ⟨reg_free (by decide +kernel), by decide +kernel, by decide +kernel⟩, spi_passes (by decide +kernel) (by decide +kernel)⟩
def staged : State := { on with timer := { on.timer with stgMask := 0x8005, stgBase := 5000, stgSpace := 70 } }
def staggerValue : Bytes := leBytes 4 0x8005 ++ leBytes 8 5000 ++ leBytes 4 70 ++ leBytes 4 0
theorem wit_Stagger : RegFree 0x6064 staged ∧
    staggerBad staged.timer.stgMask.toNat staged.timer.stgBase staged.timer.stgSpace.toNat staged = false ∧
    (maskChans 0x8005)[2]? = some 15 ∧ Passes .spi 5 K.stagger staggerValue on :=
  ⟨reg_free (by decide +kernel), by decide +kernel, by decide +kernel, spi_passes (by decide +kernel) (by decide +kernel)⟩

def edged (u : Nat) : State := having [(K.capsCfg + 1, [7, 0, 0, 0])] { on with timer := { on.timer with
  edges := setNth on.timer.edges u [(true, 500), (false, 600)] } }
theorem wit_Capture : on.timer.capPairs.length = 8 ∧ on.timer.capSingles.length = 4 ∧ on.timer.edges.length = 12 ∧
    nth [] (edged 2).timer.edges 2 = (true, 500) :: [(false, 600)] ∧
    nth [] (edged 9).timer.edges (8 + 1) = (true, 500) :: [(false, 600)] := by decide +kernel
theorem wit_CaptureRead : RegFree (0x6204 + 32 * 7) on ∧ RegFree (0x6208 + 32 * 7) on ∧
    (∀ k < 4, RegFree (0x6204 + 32 * 7 + 4 * k) on) ∧ RegFree (0x6304 + 8 * 3) on ∧ Reads .spi 5 (K.cappVal + 7) on := by
  refine ⟨reg_free (by decide +kernel), reg_free (by decide +kernel), ?_, reg_free (by decide +kernel),
    spi_free (by decide +kernel), by decide +kernel⟩
  intro k hk
  obtain rfl | rfl | rfl | rfl : k = 0 ∨ k = 1 ∨ k = 2 ∨ k = 3 := by omega
  all_goals exact reg_free (by decide +kernel)

-- Pulse channels, the ADC and Hod

def pulsed (level : Bool) : State := having [(K.pulseCfg + 3, [0x31, 0, 0, 0]), (K.cntCfg + 3, [1, 0, 0, 0])]
  (setPulse 3 { noPulse with level := level, out := true, run := 2, line := .normal, reading := .normal } on)
theorem wit_Pulse : (pulsed false).pulse.chans.length = 8 ∧ pulseEn (pulsed false) 3 = true ∧
    blockOn (pulsed false) 4 = true ∧ (pulsed false).pins.bankB = true ∧ (pulsed false).pins.reversed = false ∧ (pulsed false).pulse.stopped = false ∧
    absent (pulsed false) = false ∧ (getPulse (pulsed false) 3).line = .normal ∧
    field (pulseCfg (pulsed false) 3) 4 4 = 3 ∧ strobed (pulsed false) 3 600 = (600, 1000) ∧
    comparator true 600 1000 = true ∧ comparator true 500 1000 = false ∧
    (getPulse (pulsed false) 3).run + 1 = 3 ∧ cntEn (pulsed false) 3 = true ∧ cntSrc (pulsed false) 3 = 0 ∧
    (getCnt (pulsed false) 3).val ≠ 0xFFFF ∧ (getPulse (pulsed true) 3).level = true := by decide +kernel
def converting (trig : Nat) (running pend : Bool) : State := having [(K.adcSeqLen, [2])]
  { on with adc := { on.adc with trig := trig, running := running, pend := pend } }
theorem wit_Adc : absent (converting 2 true true) = false ∧ (converting 2 true true).adc.trig = 2 ∧
    (converting 2 true true).adc.pend = true ∧ (converting 1 false false).adc.running = false ∧
    RegFree 0x6C40 (converting 0 false false) ∧ liveNat (converting 0 false false) K.adcSeqLen = 2 ∧
    Passes .spi 5 K.adcCmd [1] (converting 0 false false) :=
  ⟨by decide +kernel, by decide +kernel, by decide +kernel, by decide +kernel, reg_free (by decide +kernel),
    by decide +kernel, spi_passes (by decide +kernel) (by decide +kernel)⟩
def gathering : State := having [(K.hodCfg + 3, leBytes 4 (0x10000 * 77 + 1))]
  { on with hod := { on.hod with frames := setNth on.hod.frames 3 [[7, 7], [1, 2]] } }
theorem wit_Hod : (nth [] gathering.hod.frames 3).flatten = [7, 7, 1, 2] ∧ field (hodCfg gathering 3) 16 16 = 77 ∧
    blockOn gathering 6 = true ∧ gathering.sys.ready = true ∧ 4 ≤ liveNat gathering K.qMaxlen ∧
    pushRefusal gathering (hodQueue gathering 3) true 0x02 [7, 7, 1, 2] = none := by decide +kernel

-- Background work and self-repair

def watched (n : Nat) : State := { on with repair := { on.repair with watch := [(0, 4, n)] } }
theorem wit_Scrub : background on = true ∧ bankLive on 0 = true ∧
    (watchRow 0 4 (watched 0).repair.watch).2 < liveNat on K.rowLimit ∧
    liveNat (watched 9) K.rowLimit ≤ (watchRow 0 4 (watched 9).repair.watch).2 ∧ rowsUsedIn (watched 9) 0 < 8 ∧
    bit { on with qe := { on.qe with slicesOn := 2 } }.qe.slicesOn.toNat 1 = true ∧ on.repair.badStones = [] := by
  decide +kernel
theorem wit_Repairs : { on with repair := { on.repair with migrating := [(9, 2), (40, 3)] } }.repair.spareOf.length = 4 ∧
    on.scarab.lanePhys.findIdx? (fun x => x == 4) = some 4 ∧ on.scarab.dets = [] ∧ ¬ 32 ∈ on.scarab.lanePhys ∧
    ¬ 32 ∈ on.scarab.physFail := by decide +kernel
theorem wit_Calibrations : absent on = false ∧ background on = true ∧ blockOn on 5 = true ∧ on.adc.running = false ∧
    on.radio.state = .idle ∧ on.clk.xoOk = true ∧ on.clk.refHfrc = false ∧ vcoValid on 4 = false ∧
    on.radio.vco.length = 5 ∧ on.radio.vcoAt.length = 5 ∧ bit on.rx.pathsOk.toNat 1 = true ∧ on.rx.iqAt.length = 2 ∧
    iqDue on .b = true ∧ on.repair.telemSeen = false := by decide +kernel
def testing (u : Fin 37) (once : List Nat) : State :=
  { on with repair := { on.repair with bistUnit := u, bistOnce := once } }
theorem wit_SelfTest (u : Fin 37) (h : u = 0 ∨ u = 33 ∨ u = 34 ∨ u = 35 ∨ u = 36) : testable (testing u [u.val]) = true ∧
    testable (testing u []) = true ∧ (testing u []).scarab.laneDue = [] ∧ (testing u []).scarab.physFail = [] ∧
    (testing u []).rx.pathsOk = 3 := by
  rcases h with rfl | rfl | rfl | rfl | rfl <;> decide +kernel

end Sys2Proof.Tests
end

section
/-! SUPPORT. O15: what a posted event leaves unchanged and where it stands in the ring, and from that the effect of an
LFXO failure (R99). -/

namespace Sys2Proof.Machine

open Sys2Proof.Safety

-- An event that the log keeps: what it leaves unchanged, and what it adds to the ring

/-- A logged event is confined to the ring, its count of losses, the stage of the log and the log's own position. -/
theorem confined_postLogged (code tag : Half) (arg : Word) (s : State) :
    Confined [.ring, .evtLost, .mortar, .repair] s (postLogged code tag arg s) :=
  postLogged_frame code tag arg s (frame_refl _ s)

@[simp] theorem postLogged_sys (code tag : Half) (arg : Word) (s : State) : (postLogged code tag arg s).sys = s.sys :=
  (confined_postLogged code tag arg s).same .sys (by decide)

@[simp] theorem postLogged_timer (code tag : Half) (arg : Word) (s : State) :
    (postLogged code tag arg s).timer = s.timer :=
  (confined_postLogged code tag arg s).same .timer (by decide)

@[simp] theorem postLogged_clk (code tag : Half) (arg : Word) (s : State) : (postLogged code tag arg s).clk = s.clk :=
  (confined_postLogged code tag arg s).same .clk (by decide)

/-- An event that the mask lets in, and that finds a place, stands at the end of the ring with the present TIME. -/
theorem post_ring_of_hasPlace {code : Half} {s : State} (tag : Half) (arg : Word) (hm : unmasked s code = true)
    (hp : hasPlace s.ring code = true) :
    (post code tag arg s).ring = s.ring ++ [⟨code, tag, s.timer.time.setWidth 48, arg⟩] := by
  unfold post
  rw [if_pos hm, if_pos hp]

/-- The mask bits of CLKFAIL, BOD_WARN and THERM_STEP always read 1 (R181). -/
theorem unmasked_of_keptEvent {code : Half} (s : State) (h : keptEvent code = true) : unmasked s code = true := by
  simp [unmasked, h]

/-- One of the three events with kept places (R151) that finds a place stands at the end of the ring; the log, which
takes it too, holds no part of the ring. -/
theorem postLogged_ring_of_keptEvent {code : Half} {s : State} (tag : Half) (arg : Word) (hk : keptEvent code = true)
    (hp : hasPlace s.ring code = true) :
    (postLogged code tag arg s).ring = s.ring ++ [⟨code, tag, s.timer.time.setWidth 48, arg⟩] := by
  have hl := logEvent_frame code tag arg s (frame_refl [.mortar, .repair] s)
  have hring : (logEvent code tag arg s).ring = s.ring := hl.same .ring (by decide)
  have htimer : (logEvent code tag arg s).timer = s.timer := hl.same .timer (by decide)
  unfold postLogged
  rw [post_ring_of_hasPlace tag arg (unmasked_of_keptEvent _ hk) (by rwa [hring]), hring, htimer]

-- ALERT_N and the failure of LFXO

/-- ALERT_N is asserted while a latch of CLK.MON is set (R101). -/
theorem alert_of_mon_ne_zero {s : State} (h : s.clk.mon ≠ 0#3) : alert s = true := by
  simp [alert, h]

/-- Setting the latch LFXOFAIL leaves CLK.MON with a latch set, whatever it held. -/
theorem mon_or_lfxofail_ne_zero (m : BitVec 3) : m ||| 2#3 ≠ 0#3 := by
  intro h
  obtain ⟨-, hlatch⟩ := BitVec.or_eq_zero_iff.mp h
  exact absurd hlatch (by decide)

/-- The clocks once LFXO has failed (R96, R99): LFCLK runs from LFRC, and the failure and its latch are set. -/
def lfxoLost (c : Clocks) : Clocks :=
  { c with lfxoOk := false, lfSrc := false, lfxoFailed := true, mon := c.mon ||| 2#3 }

/-- A failure of an LFXO in work changes the clocks and posts CLKFAIL with argument 2; nothing else is done. -/
theorem lfxoFailure_of_lfxoOk {s : State} (h : s.clk.lfxoOk = true) :
    lfxoFailure s = postLogged evClkFail 0 2 { s with clk := lfxoLost s.clk } := by
  simp [lfxoFailure, h, lfxoLost]

theorem lfxoFailure_clk {s : State} (h : s.clk.lfxoOk = true) : (lfxoFailure s).clk = lfxoLost s.clk := by
  rw [lfxoFailure_of_lfxoOk h, postLogged_clk]

/-- TIME continues (R94, R99): no part of the timers changes at the failure. -/
theorem lfxoFailure_timer {s : State} (h : s.clk.lfxoOk = true) : (lfxoFailure s).timer = s.timer := by
  rw [lfxoFailure_of_lfxoOk h, postLogged_timer]

theorem lfxoFailure_sys {s : State} (h : s.clk.lfxoOk = true) : (lfxoFailure s).sys = s.sys := by
  rw [lfxoFailure_of_lfxoOk h, postLogged_sys]

theorem lfxoFailure_alert {s : State} (h : s.clk.lfxoOk = true) : alert (lfxoFailure s) = true := by
  refine alert_of_mon_ne_zero ?_
  rw [lfxoFailure_clk h]
  exact mon_or_lfxofail_ne_zero s.clk.mon

theorem lfxoFailure_ring {s : State} (h : s.clk.lfxoOk = true) (hp : hasPlace s.ring evClkFail = true) :
    (lfxoFailure s).ring = s.ring ++ [⟨evClkFail, 0, s.timer.time.setWidth 48, 2⟩] := by
  rw [lfxoFailure_of_lfxoOk h]
  exact postLogged_ring_of_keptEvent (s := { s with clk := lfxoLost s.clk }) 0 2 (by decide) hp

/-- Settles O15: the failure is one change of the clocks followed by a logged CLKFAIL, and each clause is one field of
that state; CLKFAIL is never masked and has kept places in the ring. -/
theorem lfxoFailureChangesToLfrc : Obligations.LfxoFailureChangesToLfrc := by
  intro s h
  have hlf : (lfxoFailure s).clk.lfSrc = false := by rw [lfxoFailure_clk h]; rfl
  exact ⟨lfxoFailure s, rfl, hlf, lfxoFailure_timer h, lfxoFailure_alert h, lfxoFailure_sys h, lfxoFailure_ring h⟩

end Sys2Proof.Machine
end

section
/-! SUPPORT. O24, O25: what every SPI transaction has in common (R137, R138), the bits of the status byte (Table 6.1),
and the opcodes that reach no body of Table 6.3 (R142). -/

namespace Sys2Proof.Machine

open Sys2Proof.Safety

-- A transaction in a state in which the port is present

/-- A transaction sends the status byte of the state it starts in, then what its body answers from that state with the
error cleared. -/
theorem transact_of_spiPresent {s : State} (hp : spiPresent s = true) (body : State → Bytes × State) :
    transact body s = { (body (cleared s)).2 with
      spi := { (body (cleared s)).2.spi with miso := statusByte s :: (body (cleared s)).1 } } := by
  simp [transact, hp, cleared]

theorem transact_miso_head {s : State} (hp : spiPresent s = true) (body : State → Bytes × State) :
    (transact body s).spi.miso.head? = some (statusByte s) := by
  rw [transact_of_spiPresent hp, List.head?_cons]

/-- The first error of a transaction is the one that is reported (R138). -/
theorem spiError_of_noError {s : State} (code : Byte) (h : s.spi.err = false) :
    spiError code s = { s with spi := { s.spi with err := true, errcode := code } } := by
  simp [spiError, h]

/-- A transaction that ends in an error and does nothing else changes ERR, PORT.ERRCODE and what was sent. -/
theorem transact_of_spiError {s : State} {body : State → Bytes × State} {out : Bytes} {code : Byte}
    (hp : spiPresent s = true) (hbody : body (cleared s) = (out, spiError code (cleared s))) :
    transact body s = { s with spi := { s.spi with err := true, errcode := code, miso := statusByte s :: out } } := by
  rw [transact_of_spiPresent hp, hbody, spiError_of_noError code (s := cleared s) rfl]
  rfl

-- The commands of the port that are no transaction of a known opcode from its start to its end

theorem unknownOpcode_of_unknown {op : Byte} (h : opcodes.contains op.toNat = false) (s : State) :
    unknownOpcode op s = transact (fun s => ([], spiError errOpcode s)) s := by
  simp only [unknownOpcode, h, Bool.false_eq_true, if_false]

/-- Once a byte has been clocked, the rise of SPI_CS_N ends a transaction. -/
theorem spiCsNRise_cons (b : Byte) (m : Bytes) (fill : Nat) (s : State) :
    spiCsNRise (b :: m) fill s = transact (cutBody (b :: m) fill) s :=
  if_neg (List.cons_ne_nil b m)

/-- An unknown opcode is none of the cases of a cut transaction but the last: zeros for the rest, and OPCODE. -/
theorem cutBody_of_unknown {op : Byte} (h : opcodes.contains op.toNat = false) (m : Bytes) (fill : Nat) (s : State) :
    cutBody (op :: m) fill s = (zeros (m.length + fill), spiError errOpcode s) := by
  have hne : ∀ k : Byte, opcodes.contains k.toNat = true → op ≠ k := by
    rintro k hk rfl
    exact Bool.false_ne_true (h.symm.trans hk)
  unfold cutBody
  simp only [List.getD_cons_zero]
  split
  case h_9 => simp
  all_goals exact absurd rfl (hne _ (by decide))

-- The bits of the status byte

theorem b2n_le_one (b : Bool) : b2n b ≤ 1 := by cases b <;> decide

theorem DevState.code_le_six (d : DevState) : d.code ≤ 6 := by cases d <;> decide

theorem bit_eq_of_mod {x i : Nat} {b : Bool} (h : x / 2 ^ i % 2 = b2n b) : bit x i = b := by
  rw [bit, h]
  cases b <;> rfl

theorem statusByte_of_notReady {s : State} (h : s.sys.dev = .notReady) : statusByte s = 0 := if_pos h

/-- The fields of Table 6.1 fit in the byte and do not overlap: each is read back from its own bits. -/
theorem statusByte_bits {s : State} (h : s.sys.dev ≠ .notReady) :
    (statusByte s).toNat % 8 = s.sys.dev.code ∧ bit (statusByte s).toNat 3 = s.spi.err ∧
      bit (statusByte s).toNat 4 = queueNews s ∧ bit (statusByte s).toNat 5 = !s.ring.isEmpty ∧
      bit (statusByte s).toNat 6 = alert s ∧ bit (statusByte s).toNat 7 = rdy s := by
  have hcode := s.sys.dev.code_le_six
  have herr := b2n_le_one s.spi.err
  have hnews := b2n_le_one (queueNews s)
  have hevt := b2n_le_one (!s.ring.isEmpty)
  have halert := b2n_le_one (alert s)
  have hrdy := b2n_le_one (rdy s)
  have hbyte : (statusByte s).toNat = s.sys.dev.code + b2n s.spi.err * 8 + b2n (queueNews s) * 16 +
      b2n (!s.ring.isEmpty) * 32 + b2n (alert s) * 64 + b2n (rdy s) * 128 := by
    rw [statusByte, if_neg h, BitVec.toNat_ofNat]
    simp only [pack]
    omega
  rw [hbyte]
  refine ⟨?_, bit_eq_of_mod ?_, bit_eq_of_mod ?_, bit_eq_of_mod ?_, bit_eq_of_mod ?_, bit_eq_of_mod ?_⟩ <;> omega

/-- Settles O24: every command of the port is one transaction, whatever its body does, and a transaction sends the
status byte of its start first; the bits of that byte are those of Table 6.1. -/
theorem firstByteIsStatus : Obligations.FirstByteIsStatus := by
  intro s hp
  refine ⟨?registerRead, ?registerWrite, ?dictionaryRequest, ?responseFetch, ?queuePush, ?queuePop, ?queuePeek,
    ?eventFetch, ?statusOnly, ?unknownOpcode, ?spiCsNRise, statusByte_of_notReady, statusByte_bits⟩
  case registerRead => exact fun _ _ _ => ⟨_, rfl, transact_miso_head hp _⟩
  case registerWrite => exact fun _ _ _ _ => ⟨_, rfl, transact_miso_head hp _⟩
  case dictionaryRequest => exact fun _ _ _ => ⟨_, rfl, transact_miso_head hp _⟩
  case responseFetch => exact fun _ => ⟨_, rfl, transact_miso_head hp _⟩
  case queuePush => exact fun _ _ _ _ _ => ⟨_, rfl, transact_miso_head hp _⟩
  case queuePop => exact fun _ _ _ _ => ⟨_, rfl, transact_miso_head hp _⟩
  case queuePeek => exact fun _ _ _ => ⟨_, rfl, transact_miso_head hp _⟩
  case eventFetch => exact fun _ _ => ⟨_, rfl, transact_miso_head hp _⟩
  case statusOnly => exact ⟨_, rfl, transact_miso_head hp _⟩
  case unknownOpcode =>
    intro op hop
    refine ⟨unknownOpcode op s, rfl, ?_⟩
    rw [unknownOpcode_of_unknown hop]
    exact transact_miso_head hp _
  case spiCsNRise =>
    intro b m fill
    refine ⟨spiCsNRise (b :: m) fill s, rfl, ?_⟩
    rw [spiCsNRise_cons]
    exact transact_miso_head hp _

/-- Settles O25: an unknown opcode ends its transaction with the error OPCODE alone, cut or whole; the body of opcode
0x5F answers nothing and leaves the state as it finds it. -/
theorem opcodesWithoutEffect : Obligations.OpcodesWithoutEffect := by
  intro s hp
  refine ⟨fun op hop => ?_, fun op m fill hop => ?_, congrArg _ (transact_of_spiPresent hp fun s => ([], s))⟩
  · refine congrArg Host.Outcome.next ?_
    rw [unknownOpcode_of_unknown hop]
    exact transact_of_spiError hp rfl
  · refine congrArg Host.Outcome.next ?_
    rw [spiCsNRise_cons]
    exact transact_of_spiError hp (cutBody_of_unknown hop m fill (cleared s))

end Sys2Proof.Machine
end

section
/-! SUPPORT. O1 to O6: a step runs the front of the queue, and what every command keeps (R151, R176) and leaves
unchanged, from the laws of its operation; the first boot (Table 5.5). -/

namespace Sys2Proof.Machine

open Sys2Proof.Safety

set_option Elab.async false

-- The reset in force, which the boot and what follows it keep

/-- Whether a reset is held, and the bits of its causes, are those of the state before. -/
structure SameReset (r s : State) : Prop where
  held  : s.boot.held = r.boot.held
  cause : causeBits s = causeBits r

theorem SameReset.refl (s : State) : SameReset s s := ⟨rfl, rfl⟩

theorem SameReset.trans {r s t : State} (h : SameReset r s) (k : SameReset s t) : SameReset r t :=
  ⟨k.held.trans h.held, k.cause.trans h.cause⟩

theorem SameReset.of_eq {r s : State} (h : s.boot.held = r.boot.held) (k : s.boot.cause = r.boot.cause) :
    SameReset r s :=
  ⟨h, by rw [causeBits, k, causeBits]⟩

theorem SameReset.of_confined {w : List Part} {r s : State} (h : Confined w r s) (hw : Part.boot ∉ w) :
    SameReset r s :=
  have hboot : s.boot = r.boot := h.same .boot hw
  .of_eq (congrArg Boot.held hboot) (congrArg Boot.cause hboot)

-- Changes that are confined to parts of the device

theorem confined_trans {w : List Part} {r s t : State} (h : Confined w r s) (k : Confined w s t) : Confined w r t :=
  ⟨fun p hp => same_trans (h.same p hp) (k.same p hp)⟩

theorem confined_mono {w w' : List Part} {r s : State} (hw : w ⊆ w') (h : Confined w r s) : Confined w' r s :=
  ⟨fun p hp => h.same p fun k => hp (hw k)⟩

/-- A part that is set changes nothing besides. -/
theorem confined_setSpi (s : State) (a : Spi) : Confined [.spi] s { s with spi := a } :=
  frame_mk (List.Subset.refl _) (frame_refl _ s)

theorem confined_setField (s : State) (a : FieldPort) : Confined [.field] s { s with field := a } :=
  frame_mk (List.Subset.refl _) (frame_refl _ s)

theorem confined_setNet (s : State) (a : Net) : Confined [.net] s { s with net := a } :=
  frame_mk (List.Subset.refl _) (frame_refl _ s)

theorem confined_setCourses (s : State) (a : Courses) : Confined [.courses] s { s with courses := a } :=
  frame_mk (List.Subset.refl _) (frame_refl _ s)

theorem confined_setBoot (s : State) (a : Boot) : Confined [.boot] s { s with boot := a } :=
  frame_mk (List.Subset.refl _) (frame_refl _ s)

theorem confined_setSec (s : State) (a : Security) : Confined [.sec] s { s with sec := a } :=
  frame_mk (List.Subset.refl _) (frame_refl _ s)

theorem confined_setRepair (s : State) (a : Repair) : Confined [.repair] s { s with repair := a } :=
  frame_mk (List.Subset.refl _) (frame_refl _ s)

theorem confined_setMortar (s : State) (a : Mortar) : Confined [.mortar] s { s with mortar := a } :=
  frame_mk (List.Subset.refl _) (frame_refl _ s)

theorem confined_setSup (s : State) (a : Supply) : Confined [.sup] s { s with sup := a } :=
  frame_mk (List.Subset.refl _) (frame_refl _ s)

theorem confined_setHod (s : State) (a : Hod) : Confined [.hod] s { s with hod := a } :=
  frame_mk (List.Subset.refl _) (frame_refl _ s)

theorem confined_setQe (s : State) (a : QueueEngine) : Confined [.qe] s { s with qe := a } :=
  frame_mk (List.Subset.refl _) (frame_refl _ s)

theorem confined_setRadio (s : State) (a : Radio) : Confined [.radio] s { s with radio := a } :=
  frame_mk (List.Subset.refl _) (frame_refl _ s)

theorem confined_setRx (s : State) (a : Rx) : Confined [.rx] s { s with rx := a } :=
  frame_mk (List.Subset.refl _) (frame_refl _ s)

theorem confined_setEngine (s : State) (a : Engine) : Confined [.engine] s { s with engine := a } :=
  frame_mk (List.Subset.refl _) (frame_refl _ s)

theorem confined_setSwarm (s : State) (a : Swarm) : Confined [.swarm] s { s with swarm := a } :=
  frame_mk (List.Subset.refl _) (frame_refl _ s)

-- What every command keeps

/-- Every command keeps the invariant, the identity and the queue of the commands that wait: one arm for each row, by
the law of the operation that gives the row its meaning. -/
theorem exec_kept {c : Instr} {s t : State} (h : exec c s = .next t) : Kept s t := by
  have h0 := kept_refl s
  cases c <;> obtain rfl := Host.Outcome.next.inj h
  case powerOnReset => exact powerOnReset_kept (h := h0) ..
  case brownOutReset => exact brownOutReset_kept (h := h0) ..
  case resetN => exact resetN_kept (h := h0) ..
  case watchdogReset => exact watchdogReset_kept (h := h0) ..
  case bootWatchdog => exact bootWatchdog_kept (h := h0) ..
  case softwareReset => exact softwareReset_kept (h := h0) ..
  case resetCmd | tbModeWrite | dictWrite | roleWrite | footingCmd | courseReq | imageLoad | imageCommit |
      airDreqWrite | qPurge | ledgerClear | telemClear | decommission =>
    exact dictWrite_kept (h := h0) ..
  case deferredReset => exact deferredReset_kept (h := h0) ..
  case jtagReset => exact jtagReset_kept (h := h0) ..
  case vinReversal => exact bodSettled_kept _ (vinReversal_kept (h := h0) ..)
  case bodWarn => exact bodSettled_kept _ (bodWarn_kept (h := h0) ..)
  case bodWarnClear => exact bodWarnClear_kept (h := h0) ..
  case iovddLoss => exact iovddLoss_kept (h := h0) ..
  case iovddReturn => exact iovddReturn_kept (h := h0) ..
  case resetNRelease => exact resetNRelease_kept (h := h0) ..
  case xoStarted => exact xoStarted_kept (h := h0) ..
  case pllLock => exact pllLocked_kept (h := h0) ..
  case pllLockTimeout => exact pllTimeout_kept (h := h0) ..
  case quietEnd => exact present_kept _ _ (fun _ h => quietEnd_kept (h := h) ..) h0
  case journalRestore => exact journalRestore_kept (h := h0) ..
  case shutdownRequest | dormantRequest | sniffRequest | stateCmdConfig | stateCmdRun | stateCmdMaint | stateCmdSafe |
      radioRx | radioStop | radioTx | radioAbort | snap =>
    exact control_kept (h := h0) ..
  case wake => exact wake_kept (h := h0) ..
  case spiWake => exact spiWake_kept (h := h0) ..
  case lintelStepUp => exact lintelStepUp_kept (h := h0) ..
  case lintelStepDown => exact lintelStepDown_kept (h := h0) ..
  case plumbStepDown => exact plumbStepDown_kept (h := h0) ..
  case nearMiss => exact nearMiss_kept (h := h0) ..
  case thermSample => exact thermSampled_kept (h := h0) ..
  case lfxoQualified => exact lfxoQualified_kept (h := h0) ..
  case xoFailure => exact xoFailure_kept (h := h0) ..
  case lfxoFailure => exact lfxoFailure_kept (h := h0) ..
  case lossOfLock => exact lossOfLock_kept (h := h0) ..
  case rcCalibration => exact rcCalibration_kept (h := h0) ..
  case ckenDeferredGate => exact ckenDeferredGate_kept (h := h0) ..
  case powerGood => exact present_kept _ _ (fun _ h => powerGood_kept (h := h) ..) h0
  case fcwLoad => exact fcwLoad_kept (h := h0) ..
  case slewEnd => exact slewEnd_kept (h := h0) ..
  case holdoverEntry => exact holdoverEntry_kept (h := h0) ..
  case registerRead => exact registerRead_kept (h := h0) ..
  case registerWrite => exact registerWrite_kept (h := h0) ..
  case dictionaryRequest => exact dictionaryRequest_kept (h := h0) ..
  case responseFetch => exact responseFetch_kept (h := h0) ..
  case queuePush => exact queuePush_kept (h := h0) ..
  case queuePop => exact queuePop_kept (h := h0) ..
  case queuePeek => exact queuePeek_kept (h := h0) ..
  case eventFetch => exact eventFetch_kept (h := h0) ..
  case statusOnly => exact statusOnly_kept (h := h0) ..
  case unknownOpcode => exact unknownOpcode_kept (h := h0) ..
  case spiCsNRise => exact spiCsNRise_kept (h := h0) ..
  case errcodeClear => exact hostRegister_kept (h := h0) ..
  case dictRead => exact dictRead_kept (h := h0) ..
  case frameBoundary => exact frameBoundary_kept (h := h0) ..
  case fieldFrame => exact fieldFrame_kept (h := h0) ..
  case fieldReply => exact fieldReply_kept (h := h0) ..
  case echoFault => exact echoFault_kept (h := h0) ..
  case replyRetry => exact replyRetry_kept (h := h0) ..
  case fieldConfigApply => exact fieldConfigApply_kept (h := h0) ..
  case interCharacterGap => exact interCharacterGap_kept (h := h0) ..
  case idleLow => exact idleLow_kept (h := h0) ..
  case listenEnd => exact present_kept _ _ (fun _ h => listenEnd_kept (h := h) ..) h0
  case ccaBusy => exact present_kept _ _ (fun _ h => ccaBusy_kept (h := h) ..) h0
  case backoffEnd => exact present_kept _ _ (fun _ h => backoffEnd_kept (h := h) ..) h0
  case synthLock => exact present_kept _ _ (fun _ h => synthLock_kept (h := h) ..) h0
  case synthUnlock => exact present_kept _ _ (fun _ h => synthUnlock_kept (h := h) ..) h0
  case txEnd => exact present_kept _ _ (fun _ h => txEnd_kept (h := h) ..) h0
  case antVerdict => exact present_kept _ _ (fun _ h => antVerdict_kept (h := h) ..) h0
  case ackWaitExpiry => exact present_kept _ _ (fun _ h => ackWaitExpiry_kept (h := h) ..) h0
  case ackTx => exact present_kept _ _ (fun _ h => ackTx_kept (h := h) ..) h0
  case earlySync => exact present_kept _ _ (fun _ h => earlyHeard_kept (h := h) ..) h0
  case sync => exact present_kept _ _ (fun _ h => syncFound_kept (h := h) ..) h0
  case syncWordTimeout | ltsTimeout =>
    exact present_kept _ _ (fun _ h => syncTimeout_kept (h := h) ..) h0
  case signalLoss => exact present_kept _ _ (fun _ h => signalLoss_kept (h := h) ..) h0
  case pilotLoss => exact present_kept _ _ (fun _ h => pilotLoss_kept (h := h) ..) h0
  case noiseFloorWindow => exact present_kept _ _ (fun _ h => noiseWindow_kept (h := h) ..) h0
  case beaconReceived => exact present_kept _ _ (fun _ h => beaconReceived_kept (h := h) ..) h0
  case pollReceived => exact present_kept _ _ (fun _ h => pollReceived_kept (h := h) ..) h0
  case dataReceived => exact present_kept _ _ (fun _ h => dataReceived_kept (h := h) ..) h0
  case nullReceived => exact present_kept _ _ (fun _ h => nullReceived_kept (h := h) ..) h0
  case joinReceived => exact present_kept _ _ (fun _ h => joinReceived_kept (h := h) ..) h0
  case fackReceived => exact present_kept _ _ (fun _ h => fackReceived_kept (h := h) ..) h0
  case ackReceived => exact present_kept _ _ (fun _ h => ackReceived_kept (h := h) ..) h0
  case airCommit => exact present_kept _ _ (fun _ h => airCommit_kept (h := h) ..) h0
  case sniffWindow => exact sniffWindow_kept (h := h0) ..
  case sniffWindowEnd => exact sniffWindowEnd_kept (h := h0) ..
  case wakeWord => exact wakeWord_kept (h := h0) ..
  case ffStayExpiry => exact present_kept _ _ (fun _ h => ffStayExpiry_kept (h := h) ..) h0
  case beaconCycle => exact present_kept _ _ (fun _ h => beaconCycle_kept (h := h) ..) h0
  case pollStart => exact present_kept _ _ (fun _ h => pollStart_kept (h := h) ..) h0
  case pollReply => exact present_kept _ _ (fun _ h => pollReply_kept (h := h) ..) h0
  case pollMiss => exact present_kept _ _ (fun _ h => pollMiss_kept (h := h) ..) h0
  case joinSlot => exact present_kept _ _ (fun _ h => joinSlot_kept (h := h) ..) h0
  case fackWaitExpiry => exact present_kept _ _ (fun _ h => fackWaitExpiry_kept (h := h) ..) h0
  case relayCopyDue => exact present_kept _ _ (fun _ h => relayCopyDue_kept (h := h) ..) h0
  case seenExpiry => exact seenExpiry_kept (h := h0) ..
  case dutyBinRoll => exact rollBins_kept (h := h0) ..
  case stoneEviction => exact present_kept _ _ (fun _ h => stoneEviction_kept (h := h) ..) h0
  case evictionRetire => exact present_kept _ _ (fun _ h => retireEntry_kept (h := h) ..) h0
  case segmentRefused => exact present_kept _ _ (fun _ h => segmentRefused_kept (h := h) ..) h0
  case sliceIdleOff => exact present_kept _ _ (fun _ h => sliceIdleOff_kept (h := h) ..) h0
  case qto => exact present_kept _ _ (fun _ h => postQto_kept (h := h) ..) h0
  case mortarAppend => exact mortarAppend_kept (h := h0) ..
  case appendTimeout => exact present_kept _ _ (fun _ h => appendTimeout_kept (h := h) ..) h0
  case compaction => exact compact_kept _ h0
  case eraseEnd => exact eraseEnd_kept (h := h0) ..
  case marginScan => exact marginScan_kept (h := h0) ..
  case hotRefresh => exact hotRefresh_kept (h := h0) ..
  case timeStep => exact timeStep_kept (h := h0) ..
  case stagger => exact stagger_kept (h := h0) ..
  case compareConfigWrite => exact compareConfigWrite_kept (h := h0) ..
  case compareValueWrite => exact compareValueWrite_kept (h := h0) ..
  case cntWrite => exact cntWrite_kept (h := h0) ..
  case captureEdge => exact captureEdge_kept (h := h0) ..
  case captureRead => exact captureRead_kept (h := h0) ..
  case pulseSample => exact pulseSample_kept (h := h0) ..
  case adcStart => exact adcStart_kept (h := h0) ..
  case adcSequenceEnd => exact kept_ite (adcEnd_kept (h := h0) ..) h0
  case hodFlush => exact present_kept _ _ (fun _ h => hodFlush_kept (h := h) ..) h0
  case ashlarScrub => exact ashlarScrub_kept (h := h0) ..
  case migrationEnd => exact present_kept _ _ (fun _ h => migrationEnd_kept (h := h) ..) h0
  case keystoneScrub => exact keystoneScrub_kept (h := h0) ..
  case selfTest => exact selfTested_kept (h := h0) ..
  case bistSkip => exact present_kept _ _ (fun _ h => bistSkip_kept (h := h) ..) h0
  case laneReassign => exact present_kept _ _ (fun _ h => laneReassign_kept (h := h) ..) h0
  case telemSample => exact telemSample_kept (h := h0) ..
  case adcOffset => exact adcOffset_kept (h := h0) ..
  case canaryCheck => exact canaryCheck_kept (h := h0) ..
  case vcoCalibration => exact vcoCalibration_kept (h := h0) ..
  case iqImageCalibration => exact iqImageCalibration_kept (h := h0) ..

/-- Every command is confined to the parts that are listed for it, by the law of its operation. -/
theorem exec_confined {c : Instr} {s t : State} (h : exec c s = .next t) : Confined (frameOf c) s t := by
  have h0 := frame_refl (frameOf c) s
  cases c <;> obtain rfl := Host.Outcome.next.inj h <;> dsimp only [frameOf] at h0 ⊢
  case powerOnReset => exact powerOnReset_frame (h := h0) ..
  case brownOutReset => exact brownOutReset_frame (h := h0) ..
  case resetN => exact resetN_frame (h := h0) ..
  case watchdogReset => exact watchdogReset_frame (h := h0) ..
  case bootWatchdog => exact bootWatchdog_frame (h := h0) ..
  case softwareReset => exact softwareReset_frame (h := h0) ..
  case resetCmd | tbModeWrite | dictWrite | roleWrite | footingCmd | courseReq | imageLoad | imageCommit |
      airDreqWrite | qPurge | ledgerClear | telemClear | decommission =>
    exact dictWrite_frame (h := h0) ..
  case deferredReset => exact deferredReset_frame (h := h0) ..
  case jtagReset => exact jtagReset_frame (h := h0) ..
  case vinReversal => exact bodSettled_frame _ (vinReversal_frame (h := h0) ..)
  case bodWarn => exact bodSettled_frame _ (bodWarn_frame (h := h0) ..)
  case bodWarnClear => exact bodWarnClear_frame (h := h0) ..
  case iovddLoss => exact iovddLoss_frame (h := h0) ..
  case iovddReturn => exact iovddReturn_frame (h := h0) ..
  case resetNRelease => exact resetNRelease_frame (h := h0) ..
  case xoStarted => exact xoStarted_frame (h := h0) ..
  case pllLock => exact pllLocked_frame (h := h0) ..
  case pllLockTimeout => exact pllTimeout_frame (h := h0) ..
  case quietEnd => exact present_frame _ _ (fun _ h => quietEnd_frame (h := h) ..) h0
  case journalRestore => exact journalRestore_frame (h := h0) ..
  case shutdownRequest | dormantRequest | sniffRequest | stateCmdConfig | stateCmdRun | stateCmdMaint | stateCmdSafe |
      radioRx | radioStop | radioTx | radioAbort | snap =>
    exact control_frame (h := h0) ..
  case wake => exact wake_frame (h := h0) ..
  case spiWake => exact spiWake_frame (h := h0) ..
  case lintelStepUp => exact lintelStepUp_frame (h := h0) ..
  case lintelStepDown => exact lintelStepDown_frame (h := h0) ..
  case plumbStepDown => exact plumbStepDown_frame (h := h0) ..
  case nearMiss => exact nearMiss_frame (h := h0) ..
  case thermSample => exact thermSampled_frame (h := h0) ..
  case lfxoQualified => exact lfxoQualified_frame (h := h0) ..
  case xoFailure => exact xoFailure_frame (h := h0) ..
  case lfxoFailure => exact lfxoFailure_frame (h := h0) ..
  case lossOfLock => exact lossOfLock_frame (h := h0) ..
  case rcCalibration => exact rcCalibration_frame (h := h0) ..
  case ckenDeferredGate => exact ckenDeferredGate_frame (h := h0) ..
  case powerGood => exact present_frame _ _ (fun _ h => powerGood_frame (h := h) ..) h0
  case fcwLoad => exact fcwLoad_frame (h := h0) ..
  case slewEnd => exact slewEnd_frame (h := h0) ..
  case holdoverEntry => exact holdoverEntry_frame (h := h0) ..
  case registerRead => exact registerRead_frame (h := h0) ..
  case registerWrite => exact registerWrite_frame (h := h0) ..
  case dictionaryRequest => exact dictionaryRequest_frame (h := h0) ..
  case responseFetch => exact responseFetch_frame (h := h0) ..
  case queuePush => exact queuePush_frame (h := h0) ..
  case queuePop => exact queuePop_frame (h := h0) ..
  case queuePeek => exact queuePeek_frame (h := h0) ..
  case eventFetch => exact eventFetch_frame (h := h0) ..
  case statusOnly => exact statusOnly_frame (h := h0) ..
  case unknownOpcode => exact unknownOpcode_frame (h := h0) ..
  case spiCsNRise => exact spiCsNRise_frame (h := h0) ..
  case errcodeClear => exact hostRegister_frame (h := h0) ..
  case dictRead => exact dictRead_frame (h := h0) ..
  case frameBoundary => exact frameBoundary_frame (h := h0) ..
  case fieldFrame => exact fieldFrame_frame (h := h0) ..
  case fieldReply => exact fieldReply_frame (h := h0) ..
  case echoFault => exact echoFault_frame (h := h0) ..
  case replyRetry => exact replyRetry_frame (h := h0) ..
  case fieldConfigApply => exact fieldConfigApply_frame (h := h0) ..
  case interCharacterGap => exact interCharacterGap_frame (h := h0) ..
  case idleLow => exact idleLow_frame (h := h0) ..
  case listenEnd => exact present_frame _ _ (fun _ h => listenEnd_frame (h := h) ..) h0
  case ccaBusy => exact present_frame _ _ (fun _ h => ccaBusy_frame (h := h) ..) h0
  case backoffEnd => exact present_frame _ _ (fun _ h => backoffEnd_frame (h := h) ..) h0
  case synthLock => exact present_frame _ _ (fun _ h => synthLock_frame (h := h) ..) h0
  case synthUnlock => exact present_frame _ _ (fun _ h => synthUnlock_frame (h := h) ..) h0
  case txEnd => exact present_frame _ _ (fun _ h => txEnd_frame (h := h) ..) h0
  case antVerdict => exact present_frame _ _ (fun _ h => antVerdict_frame (h := h) ..) h0
  case ackWaitExpiry => exact present_frame _ _ (fun _ h => ackWaitExpiry_frame (h := h) ..) h0
  case ackTx => exact present_frame _ _ (fun _ h => ackTx_frame (h := h) ..) h0
  case earlySync => exact present_frame _ _ (fun _ h => earlyHeard_frame (h := h) ..) h0
  case sync => exact present_frame _ _ (fun _ h => syncFound_frame (h := h) ..) h0
  case syncWordTimeout | ltsTimeout =>
    exact present_frame _ _ (fun _ h => syncTimeout_frame (h := h) ..) h0
  case signalLoss => exact present_frame _ _ (fun _ h => signalLoss_frame (h := h) ..) h0
  case pilotLoss => exact present_frame _ _ (fun _ h => pilotLoss_frame (h := h) ..) h0
  case noiseFloorWindow => exact present_frame _ _ (fun _ h => noiseWindow_frame (h := h) ..) h0
  case beaconReceived => exact present_frame _ _ (fun _ h => beaconReceived_frame (h := h) ..) h0
  case pollReceived => exact present_frame _ _ (fun _ h => pollReceived_frame (h := h) ..) h0
  case dataReceived => exact present_frame _ _ (fun _ h => dataReceived_frame (h := h) ..) h0
  case nullReceived => exact present_frame _ _ (fun _ h => nullReceived_frame (h := h) ..) h0
  case joinReceived => exact present_frame _ _ (fun _ h => joinReceived_frame (h := h) ..) h0
  case fackReceived => exact present_frame _ _ (fun _ h => fackReceived_frame (h := h) ..) h0
  case ackReceived => exact present_frame _ _ (fun _ h => ackReceived_frame (h := h) ..) h0
  case airCommit => exact present_frame _ _ (fun _ h => airCommit_frame (h := h) ..) h0
  case sniffWindow => exact sniffWindow_frame (h := h0) ..
  case sniffWindowEnd => exact sniffWindowEnd_frame (h := h0) ..
  case wakeWord => exact wakeWord_frame (h := h0) ..
  case ffStayExpiry => exact present_frame _ _ (fun _ h => ffStayExpiry_frame (h := h) ..) h0
  case beaconCycle => exact present_frame _ _ (fun _ h => beaconCycle_frame (h := h) ..) h0
  case pollStart => exact present_frame _ _ (fun _ h => pollStart_frame (h := h) ..) h0
  case pollReply => exact present_frame _ _ (fun _ h => pollReply_frame (h := h) ..) h0
  case pollMiss => exact present_frame _ _ (fun _ h => pollMiss_frame (h := h) ..) h0
  case joinSlot => exact present_frame _ _ (fun _ h => joinSlot_frame (h := h) ..) h0
  case fackWaitExpiry => exact present_frame _ _ (fun _ h => fackWaitExpiry_frame (h := h) ..) h0
  case relayCopyDue => exact present_frame _ _ (fun _ h => relayCopyDue_frame (h := h) ..) h0
  case seenExpiry => exact seenExpiry_frame (h := h0) ..
  case dutyBinRoll => exact rollBins_frame (h := h0) ..
  case stoneEviction => exact present_frame _ _ (fun _ h => stoneEviction_frame (h := h) ..) h0
  case evictionRetire => exact present_frame _ _ (fun _ h => retireEntry_frame (h := h) ..) h0
  case segmentRefused => exact present_frame _ _ (fun _ h => segmentRefused_frame (h := h) ..) h0
  case sliceIdleOff => exact present_frame _ _ (fun _ h => sliceIdleOff_frame (h := h) ..) h0
  case qto => exact present_frame _ _ (fun _ h => postQto_frame (h := h) ..) h0
  case mortarAppend => exact mortarAppend_frame (h := h0) ..
  case appendTimeout => exact present_frame _ _ (fun _ h => appendTimeout_frame (h := h) ..) h0
  case compaction => exact compact_frame _ h0
  case eraseEnd => exact eraseEnd_frame (h := h0) ..
  case marginScan => exact marginScan_frame (h := h0) ..
  case hotRefresh => exact hotRefresh_frame (h := h0) ..
  case timeStep => exact timeStep_frame (h := h0) ..
  case stagger => exact stagger_frame (h := h0) ..
  case compareConfigWrite => exact compareConfigWrite_frame (h := h0) ..
  case compareValueWrite => exact compareValueWrite_frame (h := h0) ..
  case cntWrite => exact cntWrite_frame (h := h0) ..
  case captureEdge => exact captureEdge_frame (h := h0) ..
  case captureRead => exact captureRead_frame (h := h0) ..
  case pulseSample => exact pulseSample_frame (h := h0) ..
  case adcStart => exact adcStart_frame (h := h0) ..
  case adcSequenceEnd => exact frame_ite (adcEnd_frame (h := h0) ..) h0
  case hodFlush => exact present_frame _ _ (fun _ h => hodFlush_frame (h := h) ..) h0
  case ashlarScrub => exact ashlarScrub_frame (h := h0) ..
  case migrationEnd => exact present_frame _ _ (fun _ h => migrationEnd_frame (h := h) ..) h0
  case keystoneScrub => exact keystoneScrub_frame (h := h0) ..
  case selfTest => exact selfTested_frame (h := h0) ..
  case bistSkip => exact present_frame _ _ (fun _ h => bistSkip_frame (h := h) ..) h0
  case laneReassign => exact present_frame _ _ (fun _ h => laneReassign_frame (h := h) ..) h0
  case telemSample => exact telemSample_frame (h := h0) ..
  case adcOffset => exact adcOffset_frame (h := h0) ..
  case canaryCheck => exact canaryCheck_frame (h := h0) ..
  case vcoCalibration => exact vcoCalibration_frame (h := h0) ..
  case iqImageCalibration => exact iqImageCalibration_frame (h := h0) ..

/-- A step that goes on either finds the queue empty and idles, or executes the command at its front. -/
theorem step_cases {s t : State} (h : step s = .next t) :
    t = s ∨ ∃ c q, s.pending = c :: q ∧ exec c { s with pending := q } = .next t := by
  unfold step at h
  split at h
  case h_1 => exact .inl (Host.Outcome.next.inj h).symm
  case h_2 c q hq => exact .inr ⟨c, q, hq, h⟩

/-- Settles O1. -/
theorem stepRunsTheFront : Obligations.StepRunsTheFront := by
  refine ⟨fun c q s => rfl, fun s hs => ?_⟩
  simp only [step, hs]

/-- Settles O2: no event is in the ring, and no value is listed. -/
theorem resetHasInvariant : Obligations.ResetHasInvariant :=
  ⟨⟨Nat.zero_le _, fun _ h => nomatch h⟩, ⟨List.Pairwise.nil, fun _ h => nomatch h⟩⟩

/-- Settles O3: the command at the front keeps the invariant of the state without it, which is that of the state. -/
theorem stepKeepsInvariant : Obligations.StepKeepsInvariant := by
  intro s t hinv h
  rcases step_cases h with rfl | ⟨c, q, -, hexec⟩
  · exact hinv
  · have hkept := exec_kept hexec
    exact ⟨hkept.ring hinv.ring, hkept.live hinv.live⟩

/-- Settles O4. -/
theorem stepKeepsFuses : Obligations.StepKeepsFuses := by
  intro s t h
  rcases step_cases h with rfl | ⟨c, q, -, hexec⟩
  · exact ⟨fun _ => id, fun _ => id, rfl, rfl, rfl⟩
  · have hkept := exec_kept hexec
    exact ⟨hkept.xoCfg, hkept.region, hkept.serial, hkept.siliconRev, hkept.codeVersion⟩

/-- Settles O5. -/
theorem commandsAreConfined : Obligations.CommandsAreConfined :=
  fun _ _ _ h => exec_confined h

/-- The device after its first boot with an empty Mortar, as it measures itself (R120, R372). -/
def firstUp : State := powerOnReset false ⟨none, 25000, 17000, 0, [], []⟩ State.reset

theorem firstUp_reports : firstUp.sys.ready = true ∧ firstUp.sys.dev = .config ∧ firstUp.sys.role = .node ∧
    firstUp.boot.cause = 0x801 ∧ firstUp.boot.readyUs = 25000 ∧ firstUp.mortar.mountUs = 17000 ∧
    firstUp.boot.phase = 7 := by
  decide +kernel

/-- Settles O6: the values at reset are those of the tables, and the first boot is run. -/
theorem resetValuesAndFirstBoot : Obligations.ResetValuesAndFirstBoot := by
  refine ⟨⟨rfl, rfl, rfl, rfl, rfl, rfl, rfl, rfl, rfl, rfl, rfl, rfl, rfl, rfl, fun _ => rfl⟩, firstUp, rfl, ?_⟩
  exact firstUp_reports

end Sys2Proof.Machine
end

section
/-! SUPPORT. O7 to O9: the bits of RESET_CAUSE, what a boot leaves of them, and the resets (R111 to R116, Table 5.2). -/

namespace Sys2Proof.Machine

open Sys2Proof.Safety

-- Bits of a number and of a word

theorem bit_eq_testBit (x i : Nat) : bit x i = x.testBit i := by
  rw [Nat.testBit_eq_decide_div_mod_eq, bit]
  rfl

/-- A bit that is put into a word is read back. -/
theorem bit_or_twoPow {w i : Nat} (x : BitVec w) (h : i < w) : bit (x ||| BitVec.ofNat w (2 ^ i)).toNat i = true := by
  rw [bit_eq_testBit, BitVec.testBit_toNat, BitVec.getLsbD_or, BitVec.getLsbD_ofNat]
  simp [h]

-- The cause bits

/-- The cause bits of a word of RESET_CAUSE made of two numbers that fit below bit 11. -/
theorem causeBits_or {t : State} {n : Nat} {x : BitVec 16} (h : t.boot.cause = BitVec.ofNat 16 n ||| x)
    (hn : n < 2048) (hx : x.toNat < 2048) : causeBits t = n ||| x.toNat := by
  have hlow : ∀ a b : Nat, (a ||| b) % 2048 = a % 2048 ||| b % 2048 := fun a b => Nat.or_mod_two_pow (n := 11)
  rw [causeBits, h, BitVec.toNat_or, hlow, BitVec.toNat_ofNat, Nat.mod_mod_of_dvd _ (by decide : 2048 ∣ 2 ^ 16),
    Nat.mod_eq_of_lt hn, Nat.mod_eq_of_lt hx]

/-- The bits of further sources lie below bit 7 (Table 5.1). -/
theorem alsoBits_lt (run : BootRun) (s : State) : (alsoBits run s).toNat < 2048 := by
  have hmask : ∀ a b : Bool, (BitVec.ofNat 16 (8 + 16 + 32 * b2n a + 64 * b2n b)).toNat < 2048 := by decide
  rw [alsoBits, BitVec.toNat_and]
  exact Nat.lt_of_le_of_lt Nat.and_le_right (hmask _ _)

-- What the boot leaves of a reset

/-- The mount sets at most bit 11, which is no bit of a cause. -/
theorem mountPhase_sameReset (us : Word) (s : State) : SameReset s (mountPhase us s) := by
  have hbit : ∀ c : BitVec 16, (c ||| 0x800#16).toNat % 2048 = c.toNat % 2048 := by
    intro c
    have hlow : (c.toNat ||| 2048) % 2048 = c.toNat % 2048 ||| 2048 % 2048 := Nat.or_mod_two_pow (n := 11)
    rw [BitVec.toNat_or]
    simpa using hlow
  have hmount : ∀ a b, SameReset s (mount us (!s.sys.skipped) { s with repair := a, pulse := b }) := fun a b =>
    have hset : SameReset s { s with repair := a, pulse := b } := ⟨rfl, rfl⟩
    hset.trans (.of_confined (w := wide.erase .boot) (mount_frame us _ _ (frame_refl _ _) (hw := by decide))
        (by decide))
  have hfound : ∀ (t : State) (found : Bool), SameReset t { t with boot := { t.boot with
      footingOk := found, cause := if found then t.boot.cause else t.boot.cause ||| 0x800#16 } } := by
    intro t found
    refine ⟨rfl, ?_⟩
    cases found
    · exact hbit t.boot.cause
    · rfl
  exact (hmount _ _).trans (hfound _ _)

/-- Phase 6 sets BOOT.STATUS.COURSE, and nothing else of the boot. -/
theorem footingPhase_sameReset (s : State) : SameReset s (footingPhase s) := by
  have hlive : ∀ t a, SameReset t { t with live := a } := fun _ _ => ⟨rfl, rfl⟩
  have htables : ∀ t, SameReset t (loadTables t) := fun t =>
    .of_confined (w := wide.erase .boot) (loadTables_frame t (frame_refl _ t) (hw := by decide)) (by decide)
  have hcourse : ∀ t : State, SameReset t (bootCourse t) := by
    intro t
    simp only [bootCourse]
    split <;> exact ⟨rfl, rfl⟩
  have hrole : ∀ t a, SameReset t { t with sys := a } := fun _ _ => ⟨rfl, rfl⟩
  have hvalues : ∀ keys t, SameReset t (recompute keys (bootClocks t)) := fun keys t =>
    .of_confined (w := wide.erase .boot)
      (recompute_frame keys _ (bootClocks_frame t (frame_refl _ t) (hw := by decide)) (hw := by decide)) (by decide)
  have hlast : ∀ t a b, SameReset t { t with pulse := a, field := b } := fun _ _ _ => ⟨rfl, rfl⟩
  exact (hlive s _).trans ((htables _).trans ((hcourse _).trans
      ((hrole _ _).trans ((hvalues _ _).trans (hlast _ _ _)))))

theorem phaseWork_sameReset {p : Nat} {run : BootRun} {s t : State} (h : phaseWork p run s = some t) :
    SameReset s t := by
  unfold phaseWork at h
  split at h
  · obtain rfl := Option.some.inj h
    exact .of_confined (w := wide.erase .boot) (factoryPhase_frame _ (frame_refl _ s) (hw := by decide)) (by decide)
  split at h
  · obtain rfl := Option.some.inj h
    exact ⟨rfl, rfl⟩
  split at h
  · obtain rfl := Option.some.inj h
    exact mountPhase_sameReset _ s
  split at h
  · obtain rfl := Option.some.inj h
    exact .of_confined (w := wide.erase .boot)
      (repairPhase_frame _ _ (frame_refl _ s) (hw := by decide)) (by decide)
  split at h
  · exact .of_confined (w := wide.erase .boot)
      (queuePhase_frame run s t (frame_refl _ s) h (hw := by decide)) (by decide)
  split at h
  · obtain rfl := Option.some.inj h
    exact footingPhase_sameReset s
  · obtain rfl := Option.some.inj h
    exact .refl s

theorem reportReady_sameReset (run : BootRun) (s : State) : SameReset s (reportReady run s) := by
  have hlater : ∀ t : State, SameReset t (autoReceive (judgeOff (armBod (leaveBootTb t)))) := fun t =>
    .of_confined (w := wide.erase .boot)
      (autoReceive_frame _ (judgeOff_frame _ (armBod_frame _ (leaveBootTb_frame _ (frame_refl _ t) (hw := by decide))
          (hw := by decide)) (hw := by decide)) (hw := by decide)) (by decide)
  have hrestore : ∀ t : State, SameReset t
      (if t.boot.anew && !t.sys.skipped then (restoresOf t).foldl (fun t q => unrestore q t) t else t) := fun t =>
    .of_confined (w := wide.erase .boot)
      (frame_ite (foldl_frame _ _ _ (frame_refl _ t) fun u q hu => unrestore_frame q u hu (hw := by decide))
          (frame_refl _ t)) (by decide)
  have hmap : ∀ t : State, SameReset t
      (if mapUnreadable t.mortar && !t.sys.skipped then postRepair 0 0xFFFFFFFF t else t) := fun t =>
    .of_confined (w := wide.erase .boot)
      (frame_ite (postRepair_frame _ _ _ (frame_refl _ t) (hw := by decide)) (frame_refl _ t)) (by decide)
  have hready : ∀ (t : State) (a : Sys) (b : Boot), b.held = t.boot.held → b.cause = t.boot.cause →
      SameReset t { t with sys := a, boot := b } :=
    fun _ _ _ h k => .of_eq h k
  unfold reportReady
  extract_lets d restore t sys boot u v
  have htu : SameReset t u := hready t _ _ rfl rfl
  exact (hrestore s).trans (htu.trans ((hmap u).trans (hlater v)))

/-- The boot leaves whether a reset is held and the bits of its causes as they are, however far it comes. -/
theorem runPhases_sameReset (l : List Nat) (run : BootRun) (s : State) : SameReset s (runPhases l run s) := by
  induction l generalizing s with
  | nil => exact reportReady_sameReset run s
  | cons p ps ih =>
    have hphase : SameReset s { s with boot := { s.boot with phase := Fin.ofNat 8 p } } := ⟨rfl, rfl⟩
    refine hphase.trans ?_
    rw [runPhases]
    generalize { s with boot := { s.boot with phase := Fin.ofNat 8 p } } = t
    dsimp only
    have hwait : ∀ t a, SameReset t { t with boot := { t.boot with waiting := a } } := fun _ _ => ⟨rfl, rfl⟩
    split
    · have hmount : SameReset t (if p = 2 then mountPhase run.mountUs t else t) := by
        split
        · exact mountPhase_sameReset _ t
        · exact .refl t
      exact hmount.trans (hwait _ _)
    · split
      case h_1 v hv => exact (phaseWork_sameReset hv).trans (ih v)
      case h_2 => exact hwait _ _

/-- The end of a reset begins the boot: it is no longer held, and its causes stand. -/
theorem startBoot_held_cause (run : BootRun) (s : State) :
    (startBoot run s).boot.held = false ∧ causeBits (startBoot run s) = causeBits s := by
  obtain ⟨hheld, hcause⟩ := runPhases_sameReset (phasesOf (decide (3 ≤ s.boot.fails.toNat))) run { s with
    sys := { s.sys with dev := .notReady, skipped := decide (3 ≤ s.boot.fails.toNat) }
    boot := { s.boot with held := false, resetDue := false }
    sup := { s.sup with power := .idle } }
  exact ⟨hheld, hcause⟩

-- The states in which a command of reset is met

theorem absent_eq_false_iff {s : State} :
    absent s = false ↔ asleep s = false ∧ s.boot.held = false ∧ s.sup.power ≠ .off := by
  simp [absent, and_assoc]

theorem inReset_of_not_held {s : State} (h : s.boot.held = false) : inReset s = false := by
  simp [inReset, h]

theorem cutBoot_of_not_held {s : State} (h : s.boot.held = false) : cutBoot s = inBoot s := by
  simp [cutBoot, inReset_of_not_held h]

theorem not_held_of_inBoot {s : State} (h : inBoot s = true) : s.boot.held = false := by
  simp only [inBoot, Bool.and_eq_true, Bool.not_eq_true'] at h
  exact h.2

/-- A warm reset that ends at once starts the boot with its own bit, bits 9 and 10, and those of further sources. -/
theorem resetAndBoot_held_cause {cause : Nat} (commit : Bool) (run : BootRun) {s : State} (hc : cause ≤ 6)
    (hheld : s.boot.held = false) :
    (resetAndBoot cause commit run s).boot.held = false ∧ causeBits (resetAndBoot cause commit run s) =
      (2 ^ cause + 512 * b2n (inBoot s) + 1024 * b2n (!commit)) ||| (alsoBits run s).toNat := by
  have hboot := startBoot_held_cause run { takeReset cause commit run.fails s with
    boot := { (takeReset cause commit run.fails s).boot with
      cause := (takeReset cause commit run.fails s).boot.cause ||| alsoBits run s } }
  refine ⟨hboot.1, hboot.2.trans (causeBits_or ?_ ?_ (alsoBits_lt run s))⟩
  · simp only [takeReset, cutBoot_of_not_held hheld]
  · have hpow : 2 ^ cause ≤ 2 ^ 6 := Nat.pow_le_pow_right (by decide) hc
    have hb := b2n_le_one (inBoot s)
    have hs := b2n_le_one (!commit)
    omega

/-- Settles O7: RESET_N takes the warm reset; the reset commit before it changes Mortar, the journal, the checkpoints
and Hod alone, and every value outside AON leaves the table of live values. -/
theorem resetNTakesTheWarmReset : Obligations.ResetNTakesTheWarmReset := by
  intro s hheld hpower hbank
  have hshut : (s.sup.power == PowerState.shutdown) = false := by simpa using hpower
  have hreset : resetN s = takeReset 2 true [] { s with pins := { s.pins with resetLow := true } } := by
    simp [resetN, inReset, hbank, hheld]
  have hcommit := resetCommit_frame (w := [.mortar, .jrn, .pulse, .hod]) []
      { s with pins := { s.pins with resetLow := true } }
    (frame_refl _ _) (hw := by decide)
  generalize hc : resetCommit [] { s with pins := { s.pins with resetLow := true } } = c at hcommit
  have hwarm : resetN s = { warmState true c with boot := (resetN s).boot } := by
    rw [hreset]
    simp [takeReset, hshut, hc]
  have hlive : ∀ k, timerKey k = false → liveBytes (resetN s) k = defaultOf k := by
    intro k hk
    have hfind : (c.live.filter fun p => timerKey p.1).find? (fun p => p.1 == k) = none := by
      rw [List.find?_eq_none]
      intro p hp hkey
      rw [List.mem_filter, eq_of_beq hkey, hk] at hp
      exact Bool.false_ne_true hp.2
    rw [hwarm]
    simp only [liveBytes, warmState, hfind]
  have hcause : (resetN s).boot.cause = BitVec.ofNat 16 (4 + 512 * b2n (inBoot s)) := by
    rw [hreset]
    have hcut : cutBoot { s with pins := { s.pins with resetLow := true } } = inBoot s := cutBoot_of_not_held hheld
    simp [takeReset, hcut, b2n]
  refine ⟨resetN s, rfl, by rw [hreset]; rfl, ?_, by rw [hwarm]; rfl, hcause, by rw [hwarm]; rfl, ?_, ?_, ?_,
    ?_, ?_, ?_, by rw [hwarm]; rfl, ?_, hlive⟩ <;> rw [hwarm]
  · exact (congrArg Pins.resetLow (hcommit.same .pins (by decide)) :)
  · exact hcommit.same .timer (by decide)
  · exact (congrArg Radio.bins (hcommit.same .radio (by decide)) :)
  · exact (congrArg Sys.lockviol (hcommit.same .sys (by decide)) :)
  · exact (congrArg Spi.rcptQ (hcommit.same .spi (by decide)) :)
  · exact (congrArg Spi.rcptSeq (hcommit.same .spi (by decide)) :)
  · exact (congrArg QueueEngine.queues (hcommit.same .qe (by decide)) :)
  · exact hcommit.same .id (by decide)

/-- Settles O8: a brown-out leaves the cold state with its cause. -/
theorem brownOutTakesTheColdReset : Obligations.BrownOutTakesTheColdReset := by
  intro s hpower
  refine ⟨brownOutReset s, rfl, ?_⟩
  rw [brownOutReset, if_neg hpower]
  exact ⟨rfl, rfl, rfl, rfl, rfl, rfl, rfl, rfl, rfl, rfl, rfl, rfl, rfl⟩

/-- The power-on reset, when it is released with RESET_N high, is the only cause, unless a brown-out before it is. -/
theorem powerOnReset_held_cause {s : State} (hlow : s.pins.resetLow = false) (dipped : Bool) (run : BootRun) :
    (powerOnReset dipped run s).boot.held = false ∧ causeBits (powerOnReset dipped run s) =
      if s.sup.power = .off ∧ bit s.boot.cause.toNat 1 = true ∧ dipped = false then causeBits s else 1 := by
  have hboot := startBoot_held_cause run { coldState s with
    boot := { Boot.reset with
      cause := if s.sup.power == .off && bit s.boot.cause.toNat 1 && !dipped then s.boot.cause else 1 }
    pins := { s.pins with reversed := false } }
  have hrun : powerOnReset dipped run s = startBoot run { coldState s with
    boot := { Boot.reset with
      cause := if s.sup.power == .off && bit s.boot.cause.toNat 1 && !dipped then s.boot.cause else 1 }
    pins := { s.pins with reversed := false } } := by
    simp [powerOnReset, hlow]
  rw [hrun]
  refine ⟨hboot.1, hboot.2.trans ?_⟩
  simp only [causeBits, Bool.and_eq_true, beq_iff_eq, Bool.not_eq_true', and_assoc]
  split <;> rfl

/-- Settles O9: a reset that ends at once is one warm or cold state and one boot, which keeps the causes; a reset that
is held takes the bit of each further source. -/
theorem resetsStartTheBoot : Obligations.ResetsStartTheBoot := by
  intro run s
  refine ⟨fun hlow dipped => ?_, fun hlow dipped => ?_, fun hhere e => ?_, fun hboot => ?_, fun hup => ?_,
    fun hdue hheld hsent => ?_, fun hhere hbank => ?_, fun hreset => ⟨?_, fun e => ?_, fun hbank => ⟨?_, ?_⟩⟩⟩
  · exact ⟨_, rfl, powerOnReset_held_cause hlow dipped run⟩
  · refine ⟨_, rfl, ?_⟩
    simp only [powerOnReset, hlow, if_true, addCause]
    exact ⟨rfl, bit_or_twoPow _ (by decide), nofun⟩
  · obtain ⟨-, hheld, -⟩ := absent_eq_false_iff.mp hhere
    refine ⟨_, rfl, ?_⟩
    simp only [watchdogReset, inReset_of_not_held hheld, hhere, Bool.false_eq_true, if_false]
    have hskip : (!(e != .mortar)) = (e == .mortar) := Bool.not_not _
    have h := resetAndBoot_held_cause (cause := 3) (e != .mortar) run (by decide) hheld
    rwa [hskip] at h
  · refine ⟨_, rfl, ?_⟩
    simp only [bootWatchdog, hboot, if_true]
    have h := resetAndBoot_held_cause (cause := 3) true run (s :=
        { s with boot := { s.boot with fails := inc8 s.boot.fails } })
      (by decide) (not_held_of_inBoot hboot)
    have hin : inBoot { s with boot := { s.boot with fails := inc8 s.boot.fails } } = true := hboot
    rw [hin] at h
    exact h
  · obtain ⟨hp, hr⟩ := hup
    have hhere : absent s = false := by
      simp only [spiPresent, Bool.and_eq_true, Bool.not_eq_true'] at hp
      exact hp.1.1
    obtain ⟨-, hheld, -⟩ := absent_eq_false_iff.mp hhere
    refine ⟨_, rfl, ?_⟩
    simp only [softwareReset, inReset_of_not_held hheld, hp, hr]
    have h := resetAndBoot_held_cause (cause := 4) true run (by decide) hheld
    simpa [b2n] using h
  · refine ⟨_, rfl, ?_⟩
    simp only [deferredReset, hdue, inReset_of_not_held hheld, hheld, hsent]
    have h := resetAndBoot_held_cause (cause := 5) true run (by decide) hheld
    simpa [b2n] using h
  · obtain ⟨-, hheld, -⟩ := absent_eq_false_iff.mp hhere
    refine ⟨_, rfl, ?_⟩
    simp only [jtagReset, hbank, inReset_of_not_held hheld, hhere]
    have h := resetAndBoot_held_cause (cause := 6) true run (by decide) hheld
    simpa [b2n] using h
  · have hin : inReset { s with pins := { s.pins with resetLow := false } } = true := hreset
    have hb := startBoot_held_cause run { s with pins := { s.pins with resetLow := false } }
    have hpins := (startBoot_frame (w := wide) run { s with pins := { s.pins with resetLow := false } }
        (frame_refl _ _) (hw := by decide)).same
      .pins (by decide)
    refine ⟨_, rfl, ?_⟩
    simp only [resetNRelease, hin, if_true]
    exact ⟨hb.1, congrArg Pins.resetLow hpins, hb.2⟩
  · exact congrArg Host.Outcome.next (by simp [watchdogReset, hreset])
  · exact congrArg Host.Outcome.next (by simp [jtagReset, hreset, hbank])
  · exact congrArg Host.Outcome.next (by simp [softwareReset, hreset, hbank])

end Sys2Proof.Machine
end

section
/-! SUPPORT. A request that a port presents (R9, R149, R159, R307) and what the engine does with it; from that O10, the
keys of the software reset. -/

namespace Sys2Proof.Machine

open Sys2Proof.Safety

-- Composing frames

/-- The frame of an update of parts of the port. -/
theorem portParts_subset (w : List Part) (p : Port) : portParts p ⊆ w ++ portParts p :=
  List.subset_append_right w _

-- What the port's own traffic changes

/-- What the transaction of the SPI port adds to a request that it presents: the bytes sent. -/
def sent (p : Port) (m : Bytes) (t : State) : State :=
  match p with
  | .spi => { t with spi := { t.spi with miso := m } }
  | _ => t

/-- The transaction changes no part but that of the SPI port. -/
theorem sent_eq (p : Port) (m : Bytes) (t : State) : sent p m t = { t with spi := (sent p m t).spi } := by
  cases p <;> rfl

theorem confined_sent (p : Port) (m : Bytes) (t : State) : Confined (portParts p) t (sent p m t) := by
  cases p
  case spi => exact confined_setSpi ..
  all_goals exact frame_refl _ t

/-- The engine's view of the state differs in the marks of the wired ports alone. -/
theorem atEngine_eq (p : Port) (s : State) :
    atEngine p s = { s with spi := (atEngine p s).spi, field := (atEngine p s).field } := by
  cases p <;> rfl

theorem confined_atEngine (p : Port) (s : State) : Confined (portParts p) s (atEngine p s) := by
  cases p
  case spi => exact confined_setSpi ..
  case field => exact confined_setField ..
  case air => exact frame_refl _ s

theorem respond_eq (r : Request) (code : Half) (value : Bytes) (s : State) : respond r code value s =
    { s with
      spi := (respond r code value s).spi, field := (respond r code value s).field
      net := (respond r code value s).net } := by
  unfold respond
  cases r.port <;> rfl

theorem confined_respond (r : Request) (code : Half) (value : Bytes) (s : State) :
    Confined (portParts r.port) s (respond r code value s) := by
  unfold respond
  cases r.port
  case spi => exact confined_setSpi ..
  case field => exact confined_setField ..
  case air => exact confined_setNet ..

/-- A request is answered at its port, unless it came as a broadcast over the field port (R159). -/
theorem answered_respond {r : Request} (code : Half) (value : Bytes) {s : State}
    (h : r.port = .field → s.field.mute = false) : Answered r code value (respond r code value s) := by
  unfold Answered respond
  cases hp : r.port
  case spi => exact ⟨rfl, rfl⟩
  case field => simp [h hp]
  case air => rfl

theorem answered_sent {r : Request} {code : Half} {value m : Bytes} {t : State} (h : Answered r code value t) :
    Answered r code value (sent r.port m t) := by
  unfold Answered sent at *
  cases hp : r.port <;> rw [hp] at h <;> exact h

-- A port presents a request

/-- With the SPI port free a transaction's request reaches the engine. -/
theorem submit_spi_of_portFree {r : Request} {s : State} (codes : List AdcCode) (hr : r.port = .spi)
    (h : PortFree .spi s) : submit r codes (cleared s) = serve r codes (atEngine .spi s) := by
  obtain ⟨hjob, habs, -, hasked, hresp⟩ := h
  have habs' : absent (cleared s) = false := habs
  have hasked' : (cleared s).spi.asked = false := hasked
  have hresp' : (cleared s).spi.resp = none := hresp
  have hjob' : (cleared s).engine.job = none := hjob
  have hserve : submit r codes (cleared s) =
      serve r codes { cleared s with spi := { (cleared s).spi with asked := true } } := by
    simp [submit, reach, hr, habs', hasked', hresp', hjob']
  exact hserve

/-- A free port hands its request to the engine, which serves it at once. -/
theorem portRequest_of_portFree {r : Request} {p : Port} {s : State} (codes : List AdcCode) (hr : r.port = p)
    (h : PortFree p s) : ∃ m, portRequest r codes s = sent p m (serve r codes (atEngine p s)) := by
  subst hr
  obtain ⟨hjob, habs, hport⟩ := h
  unfold portRequest sent atEngine
  cases hp : r.port <;> simp only [hp] at hport ⊢
  case spi =>
    obtain ⟨hhere, hasked, hresp⟩ := hport
    refine ⟨statusByte s :: zeros (6 + r.value.length + c8Len (cleared s)), ?_⟩
    rw [transact_of_spiPresent hhere, submit_spi_of_portFree codes hp ⟨hjob, habs, hhere, hasked, hresp⟩]
    rfl
  case field =>
    obtain ⟨hserved, hbusy, -⟩ := hport
    exact ⟨[], by simp [hserved, submit, reach, hp, habs, hbusy, hjob]⟩
  case air =>
    obtain ⟨hready, hheld, hasked⟩ := hport
    exact ⟨[], by simp [hready, submit, reach, hp, habs, hheld, hasked, hjob]⟩

/-- A field port that is free serves no broadcast. -/
theorem not_mute_of_portFree {p : Port} {s : State} (h : PortFree p s) :
    p = .field → (atEngine p s).field.mute = false := by
  rintro rfl
  obtain ⟨-, -, -, -, hmute⟩ := h
  exact hmute

/-- What a request does before it is answered, and the answer: its frame is that of the work with the port's own
parts. -/
theorem work_then_answer {r : Request} {p : Port} {s u : State} {w : List Part} (code : Half) (value m : Bytes)
    (hr : r.port = p) (hfree : PortFree p s) (hu : Confined w (atEngine p s) u) (hw : Part.field ∉ w) :
    Confined (w ++ portParts p) s (sent p m (respond r code value u)) ∧
      Answered r code value (sent p m (respond r code value u)) := by
  subst hr
  have hsub := portParts_subset w r.port
  constructor
  · refine confined_trans (confined_mono hsub (confined_atEngine r.port s)) ?_
    refine confined_trans (confined_mono (List.subset_append_left ..) hu) ?_
    exact confined_trans (confined_mono hsub (confined_respond r code value u)) (confined_mono hsub (confined_sent ..))
  · refine answered_sent (answered_respond _ _ fun hf => ?_)
    rw [show u.field = (atEngine r.port s).field from hu.same .field hw]
    exact not_mute_of_portFree hfree hf

-- The key of a request

theorem entryKey_lt (index : Half) (sub : Byte) : entryKey index sub < 2 ^ 24 := by
  have := index.isLt
  have := sub.isLt
  unfold entryKey
  omega

theorem writeRequest_key (port : Port) (tag : Byte) {key : Nat} (value : Bytes) (h : key < 2 ^ 24) :
    (writeRequest port tag key value).key = key := by
  simp only [writeRequest, Request.key, BitVec.toNat_ofNat]
  omega

theorem readRequest_key (port : Port) (tag : Byte) {key : Nat} (h : key < 2 ^ 24) :
    (readRequest port tag key).key = key := by
  simp only [readRequest, Request.key, BitVec.toNat_ofNat]
  omega

@[simp] theorem writeRequest_write (port : Port) (tag : Byte) (key : Nat) (value : Bytes) :
    (writeRequest port tag key value).write = true := rfl

@[simp] theorem readRequest_write (port : Port) (tag : Byte) (key : Nat) :
    (readRequest port tag key).write = false := rfl

-- What the engine does with an accepted request

theorem serve_of_ok {r : Request} {s : State} (codes : List AdcCode) (h : judge s r = .ok) :
    serve r codes s = perform r codes s := by
  simp only [serve, h]

theorem dictWrite_of_passes {port : Port} {tag : Byte} {key : Nat} {value : Bytes} {s : State}
    (h : Passes port tag key value s) :
    ∃ m, dictWrite port tag key value s = sent port m (perform (writeRequest port tag key value) []
        (atEngine port s)) := by
  obtain ⟨hfree, hok⟩ := h
  obtain ⟨m, hm⟩ := portRequest_of_portFree (r := writeRequest port tag key value) [] rfl hfree
  exact ⟨m, hm.trans (congrArg _ (serve_of_ok [] hok))⟩

theorem perform_read {r : Request} {codes : List AdcCode} {s : State} (h : r.write = false) :
    perform r codes s = respond r abOk (readEntry s r.key) (readEffect r.key s) := by
  simp [perform, h]

theorem perform_resetCmd {r : Request} {codes : List AdcCode} {s : State} (hw : r.write = true)
    (hk : r.key = K.resetCmd) : perform r codes s =
      { respond r abOk [] s with
        boot := { (respond r abOk [] s).boot with resetDue := true, resetPort := r.port } } := by
  simp [perform, hw, hk]

/-- The keys of the commands that the engine treats by themselves. -/
def engineKey (key : Nat) : Prop := key = K.stateCmd ∨ key = K.pstateCmd ∨ key = K.resetCmd

/-- A write that needs no record takes its effect at once (R168). -/
theorem perform_effect {r : Request} {codes : List AdcCode} {s : State} (hw : r.write = true) (hk : ¬ engineKey r.key)
    (hp : persisted r.key = false) : perform r codes s = respond r abOk [] (writeEffect r codes s) := by
  simp only [engineKey, not_or] at hk
  simp [perform, hw, hk, hp]

/-- A write that R170 governs waits for the seal of its records. -/
theorem perform_persisted {r : Request} {codes : List AdcCode} {s : State} (hw : r.write = true)
    (hk : ¬ engineKey r.key) (hp : persisted r.key = true) (hr : recordsOf s r.key r.value ≠ []) :
    perform r codes s = askSeal r (recordsOf s r.key r.value) s := by
  simp only [engineKey, not_or] at hk
  simp [perform, hw, hk, hp, hr]

/-- A write that is accepted and needs no record is answered with abort 0; outside its port it changes what its effect
changes. -/
theorem dictWrite_effect {port : Port} {tag : Byte} {key : Nat} {value : Bytes} {s : State} {w : List Part}
    (h : Passes port tag key value s) (hlt : key < 2 ^ 24) (hk : ¬ engineKey key) (hp : persisted key = false)
    (hw : Part.field ∉ w)
    (hc : ∀ u, Confined w u (writeEffect (writeRequest port tag key value) [] u)) :
    ∃ m, dictWrite port tag key value s = sent port m (respond (writeRequest port tag key value) abOk []
        (writeEffect (writeRequest port tag key value) [] (atEngine port s))) ∧
      Confined (w ++ portParts port) s (dictWrite port tag key value s) ∧
      Answered (writeRequest port tag key value) abOk [] (dictWrite port tag key value s) := by
  obtain ⟨m, hm⟩ := dictWrite_of_passes h
  have hkey := writeRequest_key port tag value hlt
  rw [perform_effect (writeRequest_write ..) (by rwa [hkey]) (by rwa [hkey])] at hm
  exact ⟨m, hm, hm ▸ work_then_answer abOk [] m rfl h.1 (hc _) hw⟩

-- O10

/-- A register write over SPI is one transaction. -/
theorem hostRegister_of_spiPresent {s : State} (h : spiPresent s = true) (a v : Nat) (codes : List AdcCode) :
    hostRegister a v codes s = sent .spi (statusByte s :: zeros (7 + c8Len (cleared s)))
        (hostWrite a v codes (cleared s)) :=
  transact_of_spiPresent h _

/-- The port's transaction alone: the error is cleared and bytes are sent. -/
theorem confined_sent_cleared (s : State) (m : Bytes) : Confined [.spi] s (sent .spi m (cleared s)) := by
  have h : sent .spi m (cleared s) = { s with spi := { s.spi with err := false, miso := m } } := rfl
  rw [h]
  exact confined_setSpi ..

/-- SYS.RSTCMD is a register that a write does not change (R113). -/
theorem hostWrite_rstcmd {s : State} (h : rdy s = true) (v : Nat) : hostWrite 0x0024 v [] s = s := by
  have hval : regValue s 0x0024 = some 0 := rfl
  have hrdy : rdy s = true := h
  simp [hostWrite, hval, earlyBlock, hrdy, writeReg, writeEarly]

/-- Settles O10: without its key and GO a write of SYS.RSTCMD is a transaction that writes nothing; RESET_CMD is
answered and marks the reset as due. -/
theorem softwareResetKeys : Obligations.SoftwareResetKeys := by
  refine ⟨fun key go run s hup hkey => ?_, fun port tag value s h => ?_⟩
  · obtain ⟨hp, hr⟩ := hup
    have hno : (key == 0x5A && go) = false := by
      rcases hkey with hkey | rfl
      · rw [beq_false_of_ne hkey, Bool.false_and]
      · simp
    have heq : softwareReset key go run s = hostRegister 0x0024 (b2n go + 2 ^ 24 * key.toNat) [] s := by
      simp only [softwareReset, Bool.and_assoc, hno, Bool.and_false, Bool.false_eq_true, if_false]
    refine ⟨_, rfl, ?_⟩
    rw [heq, hostRegister_of_spiPresent hp, hostWrite_rstcmd (s := cleared s) hr]
    exact ⟨confined_sent_cleared s _, rfl⟩
  · obtain ⟨m, hm⟩ := dictWrite_of_passes h
    rw [perform_resetCmd (writeRequest_write ..) (writeRequest_key port tag value (by decide))] at hm
    have hsub := portParts_subset [.boot] port
    refine ⟨_, congrArg Host.Outcome.next hm, ?_, ?_, ?_, answered_sent
        (answered_respond _ _ (not_mute_of_portFree h.1))⟩
    · refine confined_trans (confined_mono hsub (confined_atEngine port s)) ?_
      refine confined_trans ?_ (confined_mono hsub (confined_sent ..))
      exact confined_trans (confined_mono hsub (confined_respond (writeRequest port tag K.resetCmd value) ..))
        (confined_mono (List.subset_append_left ..) (confined_setBoot ..))
    · rw [sent_eq]
    · rw [sent_eq]
      rfl

end Sys2Proof.Machine
end

section
/-! SUPPORT. O32 to O34 and O36: reads, refused writes, writes that await their seal, and commands that act at once. -/

namespace Sys2Proof.Machine

open Sys2Proof.Safety

-- O32

/-- Reading an entry changes nothing but the flags of a capture unit (R420). -/
theorem readEffect_of_noCapture {key : Nat} (s : State) (hp : inRun key K.cappVal 8 = false)
    (hs : inRun key K.capsVal 4 = false) : readEffect key s = s := by
  simp [readEffect, hp, hs]

/-- Settles O32: an accepted read is one answer after the flags it clears. -/
theorem dictionaryReads : Obligations.DictionaryReads := by
  intro port tag index sub s ⟨hfree, hok⟩
  have hkey := readRequest_key port tag (entryKey_lt index sub)
  obtain ⟨m, hm⟩ := portRequest_of_portFree (r := readRequest port tag (entryKey index sub)) (p := port) [] rfl hfree
  rw [serve_of_ok [] hok, perform_read (readRequest_write ..), hkey] at hm
  have heffect := readEffect_frame (w := [.timer]) (entryKey index sub) (atEngine port s) (frame_refl _ _)
    (hw := by decide)
  obtain ⟨hconf, hans⟩ := work_then_answer (r := readRequest port tag (entryKey index sub)) abOk
    (readEntry (atEngine port s) (entryKey index sub)) m rfl hfree heffect (by decide)
  refine ⟨_, congrArg Host.Outcome.next hm, hconf, hans, fun hp hs => ?_⟩
  rw [readEffect_of_noCapture _ hp hs, sent_eq, respond_eq, atEngine_eq]

-- O33

/-- A refusal by an abort code alone drops the partial load of a Course where a segment does not fit it (R186). -/
theorem refuse_abort (r : Request) (code : Half) (s : State) :
    ∃ loads, refuse r (.abort code) s = respond r code [] { s with courses := { s.courses with loads := loads } } := by
  simp only [refuse]
  split
  · exact ⟨_, rfl⟩
  · exact ⟨s.courses.loads, rfl⟩

/-- What a refused write may change outside its port (R86, R174, R177, R186, R480). -/
def refusalParts : List Part :=
  [.sys, .ring, .evtLost, .engine, .courses, .mortar, .repair, .clk, .sec]

theorem serve_of_refused {r : Request} {v : Verdict} {s : State} (codes : List AdcCode) (hv : judge s r = v)
    (hne : v ≠ .ok) : serve r codes s = refuse r v s := by
  simp only [serve, hv]

/-- The verdicts that report more than their abort: each makes one report, and answers after it. -/
theorem refuse_report {r : Request} {p : Port} {s : State} (m : Bytes) (hr : r.port = p) (hfree : PortFree p s)
    {v : Verdict} {code : Half} {u : State} (hv : refuse r v (atEngine p s) = respond r code [] u)
    (hu : Confined refusalParts (atEngine p s) u) :
    Confined (refusalParts ++ portParts p) s (sent p m (refuse r v (atEngine p s))) ∧
      Answered r code [] (sent p m (refuse r v (atEngine p s))) :=
  hv ▸ work_then_answer code [] m hr hfree hu (by decide)

/-- Settles O33: each verdict but ok has its own report and one answer; none of them reaches an entry. -/
theorem refusedWritesChangeNoEntry : Obligations.RefusedWritesChangeNoEntry := by
  intro port tag index sub value s r v hfree hr hv hne
  have hport : r.port = port := by rw [hr]; rfl
  obtain ⟨m, hm⟩ := portRequest_of_portFree (r := r) [] hport hfree
  rw [serve_of_refused [] hv hne] at hm
  have hrun : exec (.dictWrite port tag index sub value) s = .next (sent port m (refuse r v (atEngine port s))) :=
    congrArg Host.Outcome.next (by rw [← hm, hr]; rfl)
  clear hm hr
  refine ⟨_, hrun, ?_⟩
  clear hrun hv
  cases v
  case ok => exact absurd rfl hne
  case abort code =>
    obtain ⟨loads, hload⟩ := refuse_abort r code (atEngine port s)
    have hu : Confined [.courses] (atEngine port s)
        { atEngine port s with courses := { (atEngine port s).courses with loads := loads } } :=
      confined_setCourses ..
    have h := work_then_answer code [] m hport hfree hu (by decide)
    rw [← hload] at h
    obtain ⟨hconf, hans⟩ := h
    refine ⟨confined_mono (List.append_subset.mpr ⟨?_, List.subset_append_right ..⟩) hconf, ?_, nofun, nofun, nofun,
      nofun, nofun⟩
    · exact List.Subset.trans (by decide : [Part.courses] ⊆ refusalParts) (List.subset_append_left ..)
    · rintro _ ⟨rfl⟩
      exact ⟨hconf, hans⟩
  case gated b =>
    obtain ⟨hconf, hans⟩ := refuse_report m hport hfree (v := .gated b) rfl
        (gateError_frame _ _ _ _ _ _ (frame_refl _ _) (hw := by decide))
    refine ⟨hconf, nofun, ?_, nofun, nofun, nofun, nofun⟩
    rintro _ ⟨rfl⟩
    refine ⟨hans, ?_⟩
    rw [sent_eq, refuse, respond_eq]
    simp only [gateError, post_clk]
    rw [atEngine_eq]
  case state radio =>
    obtain ⟨hconf, hans⟩ := refuse_report m hport hfree (v := .state radio) rfl
      (illegalState_frame _ _ _ _ _ _ _ (frame_refl _ _) (hw := by decide))
    refine ⟨hconf, nofun, nofun, ?_, nofun, nofun, nofun⟩
    rintro _ ⟨rfl⟩
    refine ⟨hans, ?_⟩
    rw [sent_eq, refuse, respond_eq]
    simp only [illegalState, post_engine]
    rw [atEngine_eq]
  case denied =>
    obtain ⟨hconf, hans⟩ := refuse_report m hport hfree (v := .denied) rfl
      (confined_mono (by decide) (confined_setSec ..))
    refine ⟨hconf, nofun, nofun, nofun, fun _ => ⟨hans, ?_⟩, nofun, nofun⟩
    rw [sent_eq, refuse, respond_eq, atEngine_eq]
  case locked =>
    obtain ⟨hconf, hans⟩ := refuse_report m hport hfree (v := .locked) rfl
      (lockViolation_frame _ _ _ _ _ (frame_refl _ _) (hw := by decide))
    refine ⟨hconf, nofun, nofun, nofun, nofun, fun _ => ⟨hans, ?_⟩, nofun⟩
    rw [sent_eq, refuse, respond_eq]
    simp only [lockViolation, postLogged_sys]
  case image reason place code =>
    obtain ⟨hconf, hans⟩ := refuse_report m hport hfree (v := .image reason place code) rfl
      (confined_mono (by decide) (confined_setCourses ..))
    refine ⟨hconf, nofun, nofun, nofun, nofun, nofun, ?_⟩
    rintro _ _ _ ⟨rfl, rfl, rfl⟩
    refine ⟨hans, ?_⟩
    rw [sent_eq, refuse, respond_eq]

-- O34

/-- The keys of writes whose record is not FOOT, or that the engine treats by themselves. -/
def ordinaryKey (key : Nat) : Bool :=
  !([K.stateCmd, K.pstateCmd, K.resetCmd, K.role, K.footingCmd, K.ledgerClear, K.decommission].contains key) &&
    !onceKey key && !isImageCommit key

/-- What the dictionary's table says of the keys of this section, evaluated once: no row of a persistent entry names a
command or an entry that is written once; which commands wait for a seal, and which act at once. -/
theorem table_keys :
    ((table.all fun r => r.access != .rwp ||
      (List.range r.count).all fun i => ordinaryKey (r.idx * 256 + (r.sub + i))) = true) ∧
    (∀ key ∈ [K.tbMode, K.role, K.footingCmd, K.ledgerClear, K.decommission], persisted key = true) ∧
    (∀ key ∈ [K.courseReq, K.airDreq, K.qPurge, K.telemClear, K.adcCmd, K.radioCmd], persisted key = false) ∧
    ordinaryKey K.tbMode = true ∧
    (∀ c : Fin 8, persisted (K.imageCommit + 256 * c.val) = true ∧ onceKey (K.imageCommit + 256 * c.val) = false ∧
      isImageCommit (K.imageCommit + 256 * c.val) = true ∧ courseOf (K.imageCommit + 256 * c.val) = c.val) ∧
    ∀ c : Fin 8, persisted (K.imageLoad + 256 * c.val) = false ∧ onceKey (K.imageLoad + 256 * c.val) = false ∧
      isImageLoad (K.imageLoad + 256 * c.val) = true ∧ courseOf (K.imageLoad + 256 * c.val) = c.val := by
  decide +kernel

theorem rwp_rows_ordinary : (table.all fun r => r.access != .rwp ||
    (List.range r.count).all fun i => ordinaryKey (r.idx * 256 + (r.sub + i))) = true := table_keys.1

theorem persisted_of_command {key : Nat}
    (h : key ∈ [K.tbMode, K.role, K.footingCmd, K.ledgerClear, K.decommission]) : persisted key = true :=
  table_keys.2.1 key h

theorem not_persisted_of_command {key : Nat} (h : key ∈ [K.courseReq, K.airDreq, K.qPurge, K.telemClear, K.adcCmd,
    K.radioCmd]) :
    persisted key = false :=
  table_keys.2.2.1 key h

theorem ordinaryKey_tbMode : ordinaryKey K.tbMode = true := table_keys.2.2.2.1

/-- The keys of IMAGE_COMMIT and of IMAGE_LOAD, one of each for every Course. -/
theorem imageCommit_key (c : Fin 8) : persisted (K.imageCommit + 256 * c.val) = true ∧
    onceKey (K.imageCommit + 256 * c.val) = false ∧ isImageCommit (K.imageCommit + 256 * c.val) = true ∧
    courseOf (K.imageCommit + 256 * c.val) = c.val := table_keys.2.2.2.2.1 c

theorem imageLoad_row (c : Fin 8) : persisted (K.imageLoad + 256 * c.val) = false ∧
    onceKey (K.imageLoad + 256 * c.val) = false ∧ isImageLoad (K.imageLoad + 256 * c.val) = true ∧
    courseOf (K.imageLoad + 256 * c.val) = c.val := table_keys.2.2.2.2.2 c

theorem ordinaryKey_of_rwp {index : Half} {sub : Byte} {row : Row} (hrow : rowOf index.toNat sub.toNat = some row)
    (hacc : row.access = .rwp) : ordinaryKey (entryKey index sub) = true := by
  have hmem := List.mem_of_find?_eq_some hrow
  have hfit := List.find?_some hrow
  simp only [Bool.and_eq_true, beq_iff_eq, decide_eq_true_eq] at hfit
  obtain ⟨⟨hidx, hlo⟩, hhi⟩ := hfit
  have hall := List.all_eq_true.mp rwp_rows_ordinary row hmem
  simp only [hacc, bne_self_eq_false, Bool.false_or, List.all_eq_true, List.mem_range] at hall
  have hi := hall (sub.toNat - row.sub) (by omega)
  rwa [hidx, Nat.add_sub_cancel' hlo] at hi

/-- An accepted write that R170 governs is put before the writer; until its seal nothing else is done. -/
theorem awaits_of_passes {port : Port} {tag : Byte} {key : Nat} {value : Bytes} {s : State} {recs : List NewRec}
    (h : Passes port tag key value s) (hlt : key < 2 ^ 24) (hk : ¬ engineKey key) (hp : persisted key = true)
    (hrecs : recordsOf (atEngine port s) key value = recs) (hne : recs ≠ []) :
    Awaits port tag key value recs s (dictWrite port tag key value s) ∧
      (dictWrite port tag key value s).sys = { s.sys with rolePending :=
        s.sys.rolePending || ((key == K.role && leNat value != s.sys.role.code) || key == K.footingCmd) } := by
  obtain ⟨m, hm⟩ := dictWrite_of_passes h
  have hkey := writeRequest_key port tag value hlt
  have hval : (writeRequest port tag key value).value = value := rfl
  rw [perform_persisted (writeRequest_write ..) (by rwa [hkey]) (by rwa [hkey]) (by rwa [hkey, hval, hrecs]),
    hkey, hval, hrecs] at hm
  have hsub := portParts_subset [.engine, .mortar, .sys, .qe] port
  rw [hm]
  refine ⟨⟨?_, ?_, ?_, ?_, ?_, ?_, ?_⟩, ?_⟩
  · refine confined_trans (confined_mono hsub (confined_atEngine port s)) ?_
    refine confined_trans ?_ (confined_mono hsub (confined_sent ..))
    exact askSeal_frame _ _ _ (frame_refl _ _) (hw := List.Subset.trans (by decide) (List.subset_append_left ..))
  · rw [sent_eq, askSeal, atEngine_eq]
  · rw [sent_eq, askSeal, atEngine_eq]
  · cases port <;> rfl
  · cases port <;> rfl
  · cases port <;> rfl
  · rw [sent_eq, askSeal, atEngine_eq]
    dsimp only
    split <;> rfl
  · rw [sent_eq, askSeal, hkey, atEngine_eq]
    rfl

/-- Where neither the role nor the Footing is written, the role in force does not end. -/
theorem sys_of_awaits {sys : Sys} {a b c : Bool} (hb : b = false) (hc : c = false) :
    { sys with rolePending := sys.rolePending || ((b && a) || c) } = sys := by
  subst hb hc
  simp

/-- Settles O34: each of these writes is one that R170 governs, with the records that Table 15.8 gives it. -/
theorem writesAwaitTheirSeal : Obligations.WritesAwaitTheirSeal := by
  intro port tag s
  have hfoot : ∀ key value, ordinaryKey key = true → key ≠ K.pollAttr → key ≠ K.qAttr → ∀ u,
      recordsOf u key value = [⟨rtFoot, key, stored key value⟩] := by
    intro key value hord hpoll hattr u
    simp only [ordinaryKey, Bool.and_eq_true, Bool.not_eq_true', List.contains_eq_mem, decide_eq_false_iff_not,
      List.mem_cons, List.not_mem_nil, or_false, not_or] at hord
    obtain ⟨⟨⟨-, -, -, -, hfoot, hledger, hdecom⟩, honce⟩, himage⟩ := hord
    simp [recordsOf, honce, hfoot, hledger, himage, hdecom, hpoll, hattr]
  refine ⟨fun index sub value row hrow hacc hpoll hattr h => ?_, fun value h => ?_, fun value h => ?_,
      fun value h => ?_,
    fun value h => ?_, fun c value h => ?_, fun value h => ?_⟩
  · have hord := ordinaryKey_of_rwp hrow hacc
    have hpers : persisted (entryKey index sub) = true := by
      have hi : entryKey index sub / 256 = index.toNat := by have := sub.isLt; unfold entryKey; omega
      have hs : entryKey index sub % 256 = sub.toNat := by have := sub.isLt; unfold entryKey; omega
      simp [persisted, hi, hs, hrow, hacc]
    have hrecs := hfoot _ value hord hpoll hattr (atEngine port s)
    simp only [ordinaryKey, Bool.and_eq_true, Bool.not_eq_true', List.contains_eq_mem, decide_eq_false_iff_not,
      List.mem_cons, List.not_mem_nil, or_false, not_or] at hord
    obtain ⟨⟨⟨hstate, hpstate, hreset, hrole, hfooting, -, -⟩, -⟩, -⟩ := hord
    obtain ⟨haw, hsys⟩ := awaits_of_passes h (entryKey_lt index sub)
        (by simp [engineKey, hstate, hpstate, hreset]) hpers
      hrecs (List.cons_ne_nil _ _)
    exact ⟨_, rfl, hsys.trans (sys_of_awaits (by simpa using hrole) (by simpa using hfooting)), haw⟩
  · obtain ⟨haw, hsys⟩ := awaits_of_passes h (by decide) (by simp [engineKey]) (persisted_of_command (by simp))
      (hfoot K.tbMode value ordinaryKey_tbMode (by decide) (by decide) _) (List.cons_ne_nil _ _)
    exact ⟨_, rfl, hsys.trans (sys_of_awaits (by decide) (by decide)), haw⟩
  · obtain ⟨haw, hsys⟩ := awaits_of_passes h (by decide) (by simp [engineKey]) (persisted_of_command (by simp))
      (show recordsOf _ K.role value = [⟨rtFoot, K.role, stored K.role value⟩] from rfl) (List.cons_ne_nil _ _)
    refine ⟨_, rfl, haw, hsys.trans ?_⟩
    simp [show (K.role == K.footingCmd) = false by decide]
  · obtain ⟨haw, hsys⟩ := awaits_of_passes h (by decide) (by simp [engineKey]) (persisted_of_command (by simp))
      (show recordsOf _ K.footingCmd value = [⟨rtFclr, 0, []⟩] from rfl) (List.cons_ne_nil _ _)
    refine ⟨_, rfl, haw, hsys.trans ?_⟩
    simp
  · obtain ⟨haw, hsys⟩ := awaits_of_passes h (by decide) (by simp [engineKey]) (persisted_of_command (by simp))
      (show recordsOf (atEngine port s) K.ledgerClear value =
          [⟨rtLedger, 0, ledgerEntryBytes (selQueue s, false, 0)⟩] by
        rw [atEngine_eq]; rfl) (List.cons_ne_nil _ _)
    exact ⟨_, rfl, haw, hsys.trans (sys_of_awaits (by decide) (by decide))⟩
  · have hlt : ∀ c : Fin 8, K.imageCommit + 256 * c.val < 2 ^ 24 := by decide
    have hcmd : ∀ c : Fin 8, ¬ engineKey (K.imageCommit + 256 * c.val) := by unfold engineKey; decide
    have hne : ∀ c : Fin 8, K.imageCommit + 256 * c.val ≠ K.footingCmd ∧ K.imageCommit + 256 * c.val ≠ K.ledgerClear ∧
        (K.imageCommit + 256 * c.val == K.role) = false ∧ (K.imageCommit + 256 * c.val == K.footingCmd) = false := by
      decide
    obtain ⟨hpers, honce, himage, hcourse⟩ := imageCommit_key c
    obtain ⟨hfooting, hledger, hrole, hfooting'⟩ := hne c
    obtain ⟨haw, hsys⟩ := awaits_of_passes h (hlt c) (hcmd c) hpers
      (show recordsOf (atEngine port s) _ value = imageRecords s c.val (loadOf s c.val) by
        simp only [recordsOf, honce, hfooting, hledger, himage, hcourse, Bool.false_eq_true, if_false, if_true]
        rw [atEngine_eq]; rfl) (by simp [imageRecords])
    exact ⟨_, rfl, hsys.trans (sys_of_awaits hrole hfooting'), haw⟩
  · obtain ⟨haw, hsys⟩ := awaits_of_passes h (by decide) (by simp [engineKey]) (persisted_of_command (by simp))
      (show recordsOf (atEngine port s) K.decommission value = onceKeys.map fun k => ⟨rtOnce, k, []⟩ from rfl)
      (by decide)
    exact ⟨_, rfl, haw, hsys.trans (sys_of_awaits (by decide) (by decide))⟩

-- O36

/-- Purging a queue empties its chains and keeps the rest of it; the stage takes the releases. -/
theorem purge_queues (q : Nat) (s : State) :
    (purge q s).qe.queues = (setQueue q { getQueue s q with inCh := [], outCh := [] } s).qe.queues := by
  have hrelease : ∀ inCh x t, (stageRelease q inCh x t).qe = t.qe := fun inCh x t =>
    (stageRelease_frame (w := [.jrn]) q inCh x t (frame_refl _ t) (hw := by decide)).same .qe (by decide)
  have hparts : ∀ change t, (markParts q change t).qe.queues = t.qe.queues := by
    intro change t
    unfold markParts
    split <;> rfl
  simp only [purge]
  split
  · split <;> split <;> simp only [hrelease, hparts]
  · exact hparts _ _

-- The effect of each command of this kind

section
variable (port : Port) (tag : Byte) (value : Bytes) (s : State)

theorem writeEffect_courseReq : writeEffect (writeRequest port tag K.courseReq value) [] s =
    { s with courses := { s.courses with pend := some (Fin.ofNat 16 (leNat value), 0) } } := by
  simp only [writeEffect, writeRequest_key port tag value (show K.courseReq < 2 ^ 24 by decide)]
  rfl

theorem writeEffect_airDreq : writeEffect (writeRequest port tag K.airDreq value) [] s = setDreq value s := by
  simp only [writeEffect, writeRequest_key port tag value (show K.airDreq < 2 ^ 24 by decide)]
  rfl

theorem writeEffect_qPurge : writeEffect (writeRequest port tag K.qPurge value) [] s = purge (selQueue s) s := by
  simp only [writeEffect, writeRequest_key port tag value (show K.qPurge < 2 ^ 24 by decide)]
  rfl

theorem writeEffect_telemClear : writeEffect (writeRequest port tag K.telemClear value) [] s = telemClear s := by
  simp only [writeEffect, writeRequest_key port tag value (show K.telemClear < 2 ^ 24 by decide)]
  rfl

/-- The keys of IMAGE_LOAD fit in a request, and are none that the engine treats by themselves. -/
theorem imageLoad_key (c : Fin 8) : K.imageLoad + 256 * c.val < 2 ^ 24 ∧ ¬ engineKey (K.imageLoad + 256 * c.val) := by
  unfold engineKey
  revert c
  decide

theorem writeEffect_imageLoad (c : Fin 8) : writeEffect (writeRequest port tag (K.imageLoad + 256 * c.val) value) [] s =
    { s with
      courses := { s.courses with
        loads := setNth s.courses.loads c.val
          (some ((if leNat (value.take 2) = 0 then [] else loadOf s c.val) ++ value.drop 2)) } } := by
  have hlist : ∀ c : Fin 8, [K.xoCfg, K.region, K.radioCmd, K.courseReq].contains (K.imageLoad + 256 * c.val) =
      false := by
    decide
  have hother := hlist c
  obtain ⟨hlt, -⟩ := imageLoad_key c
  obtain ⟨-, honce, hload, hcourse⟩ := imageLoad_row c
  simp only [List.contains_eq_mem, decide_eq_false_iff_not, List.mem_cons, List.not_mem_nil, or_false, not_or] at hother
  obtain ⟨hxo, hregion, hradio, hreq⟩ := hother
  simp only [writeEffect, writeRequest_key port tag value hlt, if_neg hxo, if_neg hregion, if_neg hradio, if_neg hreq,
    honce, hload, hcourse, Bool.false_eq_true, if_false, if_true]
  rfl

end

/-- Settles O36: each of these writes needs no record, and is one effect and one answer. -/
theorem commandsActAtOnce : Obligations.CommandsActAtOnce := by
  intro port tag value s
  refine ⟨fun h => ?_, fun c h => ?_, fun h => ?_, fun h => ?_, fun h => ?_⟩
  · obtain ⟨m, hm, hconf, hans⟩ := dictWrite_effect (w := [.courses]) h (by decide) (by simp [engineKey])
      (not_persisted_of_command (by simp)) (by decide) fun u => by
        rw [writeEffect_courseReq]
        exact confined_setCourses ..
    refine ⟨_, rfl, hconf, hans, ?_⟩
    rw [hm, sent_eq, respond_eq, writeEffect_courseReq, atEngine_eq]
  · obtain ⟨hlt, hcmd⟩ := imageLoad_key c
    obtain ⟨hpers, -⟩ := imageLoad_row c
    obtain ⟨m, hm, hconf, hans⟩ := dictWrite_effect (w := [.courses]) h hlt hcmd hpers (by decide) fun u => by
        rw [writeEffect_imageLoad]
        exact confined_setCourses ..
    refine ⟨_, rfl, hconf, hans, ?_, ?_⟩ <;> rw [hm, sent_eq, respond_eq, writeEffect_imageLoad, atEngine_eq]
    rfl
  · obtain ⟨m, hm, hconf, hans⟩ := dictWrite_effect (w := [.net]) h (by decide) (by simp [engineKey])
      (not_persisted_of_command (by simp)) (by decide) fun u => by
        rw [writeEffect_airDreq]
        exact setDreq_frame _ _ (frame_refl _ u) (hw := by decide)
    refine ⟨_, rfl, hconf, hans, ?_⟩
    rw [hm, writeEffect_airDreq]
    cases port <;> simp [sent, respond, writeRequest, setDreq]
  · obtain ⟨m, hm, hconf, hans⟩ := dictWrite_effect (w := [.qe, .jrn]) h (by decide) (by simp [engineKey])
      (not_persisted_of_command (by simp)) (by decide) fun u => by
        rw [writeEffect_qPurge]
        exact purge_frame _ _ (frame_refl _ u) (hw := by decide)
    refine ⟨_, rfl, hconf, hans, ?_⟩
    rw [hm, sent_eq, respond_eq, writeEffect_qPurge]
    refine (purge_queues _ _).trans ?_
    rw [atEngine_eq]
    rfl
  · obtain ⟨m, hm, hconf, hans⟩ := dictWrite_effect (w := [.repair]) h (by decide) (by simp [engineKey])
      (not_persisted_of_command (by simp)) (by decide) fun u => by
        rw [writeEffect_telemClear]
        exact telemClear_frame _ (frame_refl _ u) (hw := by decide)
    refine ⟨_, rfl, hconf, hans, ?_⟩
    rw [hm, sent_eq, respond_eq, writeEffect_telemClear, atEngine_eq]
    rfl

end Sys2Proof.Machine
end

section
/-! SUPPORT. O26 to O28: what a register transaction and a dictionary transaction over SPI send and do (R141, R149). -/

namespace Sys2Proof.Machine

open Sys2Proof.Safety

-- The numbers that bytes spell

theorem leBytes_length (n x : Nat) : (leBytes n x).length = n := by
  induction n generalizing x with
  | zero => rfl
  | succ n ih => rw [leBytes, List.length_cons, ih]

theorem leNat_leBytes (n x : Nat) : leNat (leBytes n x) = x % 256 ^ n := by
  induction n generalizing x with
  | zero => simp [leBytes, leNat, Nat.mod_one]
  | succ n ih =>
    have h := Nat.mod_mul (x := x) (a := 256) (b := 256 ^ n)
    rw [← Nat.pow_succ'] at h
    simpa [leBytes, leNat, ih] using h.symm

theorem leNat_leBytes_of_lt {n x : Nat} (h : x < 256 ^ n) : leNat (leBytes n x) = x := by
  rw [leNat_leBytes, Nat.mod_eq_of_lt h]

-- A transaction whose [C8] is in order

/-- Where no error stands against the [C8], the host has clocked as many of its bytes as the setting asks. -/
theorem c8Sent_of_noError {s : State} {host : Bytes} {c8 : Option Byte} (h : c8Error s host c8 = none) :
    c8Sent s c8 = c8Len s := by
  unfold c8Error at h
  unfold c8Sent c8Len
  split at h
  · simp_all
  · split at h
    · cases h
    · rfl

theorem rdy_ready {s : State} (h : rdy s = true) : s.sys.ready = true := by
  simp only [rdy, Bool.and_eq_true] at h
  exact h.1.1

-- O26

/-- A read of a register that is served sends its four bytes. -/
theorem hostRead_of_served {s : State} {a v : Nat} (hready : s.sys.ready = true) (hgate : regGated s a = false)
    (hval : regValue s a = some v) :
    (hostRead a s).1 = leBytes 4 v ∧ (hostRead a s).2.spi = s.spi := by
  have heffect : (regReadEffect a s).spi = s.spi :=
    (regReadEffect_frame (w := [.timer, .draws]) a s (frame_refl _ s) (hw := by decide)).same .spi (by decide)
  simp only [hostRead, hval, hready, hgate]
  split
  · exact ⟨rfl, rfl⟩
  · exact ⟨rfl, heffect⟩

/-- A register read whose header is in order sends what its registers answer, after the host's bytes and the
turnaround. -/
theorem registerRead_sent {addr : Half} {n : Byte} {c8 : Option Byte} {s : State} (hp : spiPresent s = true)
    (ha : addr.toNat % 4 = 0) (h1 : 1 ≤ n.toNat) (h64 : n.toNat ≤ 64)
    (hc : c8Error s ([0x20] ++ leBytes 2 addr.toNat ++ [n]) c8 = none) :
    registerRead addr n c8 s = sent .spi
      (statusByte s :: zeros (3 + c8Len s) ++ 0 :: withC8 s (readRegs n.toNat addr.toNat (cleared s)).1)
      (readRegs n.toNat addr.toNat (cleared s)).2 := by
  have haccess : accessError addr.toNat n.toNat = none := by
    simp only [accessError, ha]
    rw [if_neg (by decide), if_neg (by omega)]
  have hc' : c8Error (cleared s) ([0x20] ++ leBytes 2 addr.toNat ++ [n]) c8 = none := hc
  have hbody : readBody addr n c8 none (cleared s) =
      (zeros (3 + c8Sent (cleared s) c8) ++ 0 :: withC8 (cleared s) (readRegs n.toNat addr.toNat (cleared s)).1,
        (readRegs n.toNat addr.toNat (cleared s)).2) := by
    simp only [readBody, hc', haccess, Option.orElse_none, clocked, whole, Option.all_none, if_true]
  rw [registerRead, transact_of_spiPresent hp, hbody, c8Sent_of_noError hc']
  rfl

/-- Settles O26. -/
theorem registerReads : Obligations.RegisterReads := by
  intro addr c8 s ⟨⟨hp, hrdy⟩, hgate⟩ ha
  refine ⟨fun n v hn hc hval => ⟨_, rfl, ?_⟩, fun n h1 h64 hc => ⟨_, rfl, ?_⟩⟩
  · subst hn
    have hlt : addr.toNat % 65536 = addr.toNat := Nat.mod_eq_of_lt addr.isLt
    obtain ⟨hbytes, hspi⟩ := hostRead_of_served (s := cleared s) (rdy_ready hrdy) hgate hval
    have hregs : readRegs 1 addr.toNat (cleared s) = hostRead addr.toNat (cleared s) := by
      simp [readRegs, hlt]
    rw [registerRead_sent hp ha (by decide) (by decide) hc]
    show (readRegs 1 addr.toNat (cleared s)).2.spi.err = false ∧
        _ :: _ ++ 0 :: withC8 s (readRegs 1 addr.toNat (cleared s)).1 = _
    rw [hregs, hbytes, hspi]
    exact ⟨rfl, rfl⟩
  · rw [registerRead_sent hp ha h1 h64 hc]
    rfl

-- O27: a value of no byte

/-- A device in work in whose table of live values GPIO_OUT has a value of no byte: the invariant says nothing of the
length of a value. -/
def emptyGpioOut : State := { State.reset with
  sys := { State.reset.sys with ready := true, dev := .config }
  boot := { State.reset.boot with held := false }
  sup := { State.reset.sup with power := .idle }
  live := [(K.gpioout, [])] }

/-- The device there as the model evaluates it: a register write keeps the length of the value that it finds, so the 1
that is written is lost. -/
theorem emptyGpioOut_run : [] ≠ defaultOf K.gpioout ∧ spiPresent emptyGpioOut = true ∧ rdy emptyGpioOut = true ∧
    regGated emptyGpioOut 0x1118 = false ∧ c8Error emptyGpioOut
        ([0x21] ++ leBytes 2 0x1118 ++ [1] ++ leBytes 4 (1#12).toNat) none = none ∧
    liveNat (registerWrite 0x1118 1 (leBytes 4 (1#12).toNat) none emptyGpioOut) K.gpioout = 0 := by
  decide +kernel

theorem emptyGpioOut_inv : Inv emptyGpioOut := by
  refine ⟨⟨Nat.zero_le _, fun _ h => nomatch h⟩, List.pairwise_singleton _ _, ?_⟩
  intro p hp
  rw [List.mem_singleton.mp hp]
  exact emptyGpioOut_run.1

/-- Refutes O27: the clause of GPIO_OUT fails from a state of the invariant whose value of GPIO_OUT has no byte: the
write of 1 leaves it reading 0. -/
theorem not_registerWrites : ¬ Obligations.RegisterWrites := by
  intro h
  obtain ⟨-, hup, hrdy, hgated, hc8, hlost⟩ := emptyGpioOut_run
  obtain ⟨t, hrun, -, hval, -⟩ := h.1.2 1 none emptyGpioOut emptyGpioOut_inv ⟨⟨hup, hrdy⟩, hgated⟩ hc8
  rw [← Host.Outcome.next.inj hrun] at hval
  exact absurd (hlost.symm.trans hval) (by decide)

-- O28

/-- A request that the SPI port cannot take is refused with BUSY (R149). -/
theorem submit_spi_busy {r : Request} {s : State} (codes : List AdcCode) (hr : r.port = .spi) (habs : absent s = false)
    (hbusy : s.spi.asked = true ∨ s.spi.resp.isSome = true) : submit r codes s = spiError errBusy s := by
  simp [submit, hr, habs, hbusy]

/-- The body of a request whose bytes and [C8] are in order presents the request. -/
theorem dictionaryRequest_sent {n : Byte} {p : Bytes} {c8 : Option Byte} {s : State} (hp : spiPresent s = true)
    (h5 : 5 ≤ n.toNat) (hlen : p.length = n.toNat) (hc : c8Error s ([0x30, n] ++ p) c8 = none) :
    ∃ m, dictionaryRequest n p c8 s = sent .spi m (submit (requestOf .spi p) [] (cleared s)) := by
  have hn : n ≠ 0 := by
    rintro rfl
    exact absurd h5 (by decide)
  have hc' : c8Error (cleared s) ([0x30, n] ++ p) c8 = none := hc
  have hbody : requestBody n p c8 (cleared s) =
      (zeros (1 + p.length + c8Sent (cleared s) c8), submit (requestOf .spi p) [] (cleared s)) := by
    have htake : p.take n.toNat = p := by rw [← hlen, List.take_length]
    simp only [requestBody, htake, hc', if_neg (show ¬ n.toNat < 5 by omega),
        if_neg (show ¬ p.length < n.toNat by omega)]
  refine ⟨statusByte s :: zeros (1 + p.length + c8Sent (cleared s) c8), ?_⟩
  rw [dictionaryRequest, if_neg hn, transact_of_spiPresent hp, hbody]
  rfl

/-- Settles O28. -/
theorem dictionaryTransport : Obligations.DictionaryTransport := by
  intro n p c8 s
  refine ⟨fun hfree h5 hlen hc => ?_, fun hp hbusy h5 hlen hc => ?_, fun r hp hresp hc => ?_⟩
  · obtain ⟨m, hm⟩ := dictionaryRequest_sent hfree.2.2.1 h5 hlen hc
    rw [submit_spi_of_portFree [] rfl hfree] at hm
    exact ⟨_, congrArg Host.Outcome.next hm, confined_sent .spi m _, rfl⟩
  · obtain ⟨m, hm⟩ := dictionaryRequest_sent hp h5 hlen hc
    have habs : absent (cleared s) = false := by
      simp only [spiPresent, Bool.and_eq_true, Bool.not_eq_true'] at hp
      exact hp.1.1
    rw [submit_spi_busy [] rfl habs hbusy, spiError_of_noError _ (s := cleared s) rfl] at hm
    refine ⟨_, congrArg Host.Outcome.next hm, ?_, rfl, rfl, rfl⟩
    refine confined_trans (s := cleared s) (confined_setSpi ..) ?_
    exact confined_trans (confined_setSpi ..) (confined_sent .spi m _)
  · have hc' : c8Error (cleared s) [0x30, 0] c8 = none := hc
    have hresp' : (cleared s).spi.resp = some r := hresp
    refine congrArg Host.Outcome.next ?_
    rw [responseFetch, transact_of_spiPresent hp]
    simp only [fetchBody, hc', hresp', clocked, whole, Option.all_none, if_true, c8Sent_of_noError hc',
        Option.getD_some]
    rfl

end Sys2Proof.Machine
end

section
/-! SUPPORT. O29 to O31: what an operation of the queue engine does to the chains, and the pushes, pops, peeks and event
fetches over SPI (R143 to R150). -/

namespace Sys2Proof.Machine

open Sys2Proof.Safety

-- A sparse table read after a write

theorem tabGet_tabSet_ne {α : Type} [DecidableEq α] (d v : α) {k j : Nat} (h : j ≠ k) (m : List (Nat × α)) :
    tabGet d j (tabSet d k v m) = tabGet d j m := by
  induction m with
  | nil => unfold tabSet; split <;> simp [tabGet, h]
  | cons p m ih =>
    obtain ⟨i, w⟩ := p
    unfold tabSet
    split
    · split <;> simp [tabGet, h]
    · split
      · rename_i hk
        subst hk
        split <;> simp [tabGet, h]
      · simp only [tabGet, ih]

/-- A value other than the default is read back, whatever the order of the keys. -/
theorem tabGet_tabSet_eq {α : Type} [DecidableEq α] {d v : α} (k : Nat) (h : v ≠ d) (m : List (Nat × α)) :
    tabGet d k (tabSet d k v m) = v := by
  induction m with
  | nil => simp [tabSet, tabGet, h]
  | cons p m ih =>
    obtain ⟨i, w⟩ := p
    unfold tabSet
    split
    · simp [tabGet]
    · split
      · simp [tabGet]
      · rename_i hk
        simp [tabGet, hk, ih]

theorem getQueue_setQueue_ne (s : State) (v : Queue) {q k : Nat} (h : k ≠ q) :
    getQueue (setQueue q v s) k = getQueue s k :=
  tabGet_tabSet_ne _ _ h _

theorem getQueue_setQueue_eq (s : State) (q : Nat) {v : Queue} (h : v ≠ emptyQueue s.qe.accBase) :
    getQueue (setQueue q v s) q = v :=
  tabGet_tabSet_eq q h _

-- Operations that leave the chains as they are

/-- The queues, the sequence a new queue starts from, and what xSPI has lost are the same. -/
structure SameChains (r s : State) : Prop where
  queues  : s.qe.queues = r.qe.queues
  accBase : s.qe.accBase = r.qe.accBase
  xsBad   : s.qe.xsBad = r.qe.xsBad

theorem SameChains.refl (s : State) : SameChains s s := ⟨rfl, rfl, rfl⟩

theorem SameChains.trans {r s t : State} (h : SameChains r s) (k : SameChains s t) : SameChains r t :=
  ⟨k.queues.trans h.queues, k.accBase.trans h.accBase, k.xsBad.trans h.xsBad⟩

theorem SameChains.of_qe {r s : State} (h : s.qe = r.qe) : SameChains r s :=
  ⟨congrArg _ h, congrArg _ h, congrArg _ h⟩

theorem SameChains.ite {r s t : State} {c : Prop} [Decidable c] (h : SameChains r s) (k : SameChains r t) :
    SameChains r (if c then s else t) := by
  split
  · exact h
  · exact k

theorem SameChains.getQueue {r s : State} (h : SameChains r s) (q : Nat) : getQueue s q = getQueue r q := by
  rw [Machine.getQueue, h.accBase, h.queues, Machine.getQueue]

theorem SameChains.attrOf {r s : State} (h : SameChains r s) (hl : s.live = r.live) (q : Nat) :
    attrOf s q = attrOf r q := by
  simp only [Machine.attrOf, h.getQueue, liveNat, liveBytes, hl]

theorem SameChains.durable {r s : State} (h : SameChains r s) (hl : s.live = r.live) (q : Nat) :
    durable s q = durable r q := by
  simp only [Machine.durable, h.attrOf hl]

/-- The same write to the same chains. -/
theorem SameChains.setQueue {r s : State} (h : SameChains r s) (q : Nat) (v : Queue) :
    (setQueue q v s).qe.queues = (setQueue q v r).qe.queues := by
  rw [setQueue_qe, setQueue_qe, h.accBase, h.queues]

theorem retireEntry_sameChains (i : Nat) (s : State) : SameChains s (retireEntry i s) := by
  unfold retireEntry
  split <;> exact ⟨rfl, rfl, rfl⟩

theorem evictStone_sameChains (t : Stone) (s : State) : SameChains s (evictStone t s) := by
  unfold evictStone
  split <;> exact ⟨rfl, rfl, rfl⟩

theorem freeStone_sameChains (s : State) : SameChains s (freeStone s) := by
  unfold freeStone
  split
  · exact .refl s
  · refine SameChains.trans ?_ (evictStone_sameChains _ _)
    split
    · exact .refl s
    · exact retireEntry_sameChains 0 s

/-- A queue that takes a stone keeps its chains (R339). -/
theorem touch_sameChains (q : Nat) (s : State) : SameChains s (touch q s) := by
  unfold touch
  split
  · exact ⟨rfl, rfl, rfl⟩
  · have hhit : ∀ (t : State) a, SameChains t { t with qe := { t.qe with evbHits := a } } := fun _ _ => ⟨rfl, rfl, rfl⟩
    have hload : ∀ (t : State) a b, SameChains t { t with qe := { t.qe with stones := a, slicesOn := b } } :=
      fun _ _ _ => ⟨rfl, rfl, rfl⟩
    extract_lets t entry dirty qe u
    have ht : SameChains s t := .ite (freeStone_sameChains s) (.refl s)
    have hu : SameChains t u := .ite (hhit _ _) (.refl t)
    refine (ht.trans hu).trans ?_
    split
    · exact .refl u
    · exact hload u _ _

theorem markParts_sameChains (q : Nat) (change : Parts → Parts) (s : State) : SameChains s (markParts q change s) := by
  unfold markParts
  split <;> exact ⟨rfl, rfl, rfl⟩

theorem stageEpoch_sameChains (seq : Word) (s : State) : SameChains s (stageEpoch seq s) :=
  .of_qe ((stageEpoch_frame (w := [.jrn]) seq s (frame_refl _ s) (hw := by decide)).same .qe (by decide))

theorem stageRelease_sameChains (q : Nat) (inCh : Bool) (seq : Word) (s : State) :
    SameChains s (stageRelease q inCh seq s) :=
  .of_qe ((stageRelease_frame (w := [.jrn]) q inCh seq s (frame_refl _ s) (hw := by decide)).same .qe (by decide))

theorem touch_confined (q : Nat) (s : State) : Confined [.qe] s (touch q s) :=
    touch_frame q s (frame_refl _ s) (hw := by decide)

theorem touch_live (q : Nat) (s : State) : (touch q s).live = s.live := (touch_confined q s).same .live (by decide)

-- Accepting a frame and taking one

/-- The queue after it has accepted a frame (Table 13.6). -/
def accepted (s : State) (inCh : Bool) (f : Frame) (v : Queue) : Queue :=
  if inCh then
    { v with
      inCh := v.inCh ++ [f]
      accSeq := v.accSeq + 1
      readMs := if v.inCh.isEmpty then nowMs s else v.readMs
      qto := if v.inCh.isEmpty then false else v.qto }
  else { v with outCh := v.outCh ++ [f], accSeq := v.accSeq + 1 }

theorem accepted_ne_empty (s : State) (inCh : Bool) (f : Frame) (v : Queue) (base : Word) :
    accepted s inCh f v ≠ emptyQueue base := by
  intro h
  cases inCh
  · exact absurd (congrArg Queue.outCh h) (by simp [accepted, emptyQueue])
  · exact absurd (congrArg Queue.inCh h) (by simp [accepted, emptyQueue])

/-- The acceptance of a frame is a write of its queue; every other queue stays. -/
theorem accept_chains (q : Nat) (inCh : Bool) (src : Byte) (payload : Bytes) (s : State) :
    (accept q inCh src payload s).qe.accBase = s.qe.accBase ∧ (accept q inCh src payload s).qe.queues =
      (setQueue q (accepted s inCh (nextFrame s q src payload ((allocate s q payload.length).getD []))
        (getQueue s q)) s).qe.queues := by
  have htouch := touch_sameChains q s
  have hnow : nowMs (touch q s) = nowMs s := by
    rw [nowMs, show (touch q s).timer = s.timer from (touch_confined q s).same .timer (by decide), nowMs]
  simp only [accept]
  generalize hf : nextFrame s q src payload ((allocate s q payload.length).getD []) = f
  have hadvance : ∀ n, SameChains s (advanceGen n (touch q s)) := fun n => ⟨htouch.queues, htouch.accBase, htouch.xsBad⟩
  generalize hn : appendWrites s q inCh ((allocate s q payload.length).getD []).length = n
  have hget : getQueue (advanceGen n (touch q s)) q = getQueue s q := (hadvance n).getQueue q
  have hnow' : nowMs (advanceGen n (touch q s)) = nowMs s := hnow
  rw [hget, hnow']
  have hstage := stageEpoch_sameChains
  generalize hw : setQueue q _ (advanceGen n (touch q s)) = u
  have hmark := markParts_sameChains q (appended inCh) u
  have hq : u.qe.queues = (setQueue q (accepted s inCh f (getQueue s q)) s).qe.queues := by
    rw [← hw]
    exact (hadvance n).setQueue q _
  have hb : u.qe.accBase = s.qe.accBase := by
    rw [← hw]
    exact htouch.accBase
  constructor
  · rw [(hstage _ _).accBase]
    exact hmark.accBase.trans hb
  · rw [(hstage _ _).queues]
    exact hmark.queues.trans hq

theorem getQueue_accept (q : Nat) (inCh : Bool) (src : Byte) (payload : Bytes) (s : State) :
    getQueue (accept q inCh src payload s) q =
      accepted s inCh (nextFrame s q src payload ((allocate s q payload.length).getD [])) (getQueue s q) := by
  obtain ⟨hbase, hqueues⟩ := accept_chains q inCh src payload s
  rw [getQueue, hbase, hqueues]
  exact getQueue_setQueue_eq s q (accepted_ne_empty s inCh _ _ _)

/-- A pop takes the head of the in chain from its queue (R148). -/
theorem popHead_queues {q : Nat} {s : State} {f : Frame} {rest : List Frame} (h : (getQueue s q).inCh = f :: rest) :
    (popHead q s).qe.queues =
      (setQueue q { getQueue s q with inCh := rest, readMs := nowMs s, qto := false } s).qe.queues := by
  simp only [popHead, h]
  split
  · exact (stageRelease_sameChains ..).queues.trans (markParts_sameChains ..).queues
  · exact (markParts_sameChains ..).queues

-- Pushes

/-- What the push reads back from the stream: the payload and its CRC-32. -/
theorem push_stream {len : Half} {p : Bytes} (crc : Word) (hlen : p.length = len.toNat) :
    ¬ (p ++ leBytes 4 crc.toNat).length < len.toNat + 4 ∧ (p ++ leBytes 4 crc.toNat).take len.toNat = p ∧
      leNat (((p ++ leBytes 4 crc.toNat).drop len.toNat).take 4) = crc.toNat := by
  rw [← hlen]
  refine ⟨by simp [leBytes_length], List.take_left, ?_⟩
  rw [List.drop_left, List.take_of_length_le (by rw [leBytes_length])]
  exact leNat_leBytes_of_lt crc.isLt

/-- Settles O29: the body of an accepted push is one acceptance and its receipt. -/
theorem pushIsAccepted : Obligations.PushIsAccepted := by
  intro q len c8 p s hp hc hlen hok
  have hc' : c8Error (cleared s) ([0x40] ++ leBytes 2 q.toNat ++ leBytes 2 len.toNat) c8 = none := hc
  obtain ⟨hlong, htake, hcrc⟩ := push_stream (crc32 p) hlen
  have hbody : (pushBody q len c8 (p ++ leBytes 4 (crc32 p).toNat) none (cleared s)).2 =
      { accept q.toNat (isLocal s q.toNat) 0 p (cleared s) with
        spi := { (accept q.toNat (isLocal s q.toNat) 0 p (cleared s)).spi with
          rcptQ := q, rcptSeq := (getQueue s q.toNat).accSeq } } := by
    simp only [pushBody, hc', hlong, htake, hcrc, hok, whole, Option.all_none]
    rfl
  have hspi : (accept q.toNat (isLocal s q.toNat) 0 p (cleared s)).spi = (cleared s).spi :=
    (accept_frame (w := [.jrn, .qe]) _ _ _ _ _ (frame_refl _ _) (hw := by decide)).same .spi (by decide)
  have hget := getQueue_accept q.toNat (isLocal s q.toNat) 0 p (cleared s)
  refine ⟨_, nextFrame (cleared s) q.toNat 0 p ((allocate (cleared s) q.toNat p.length).getD []), rfl, ?_⟩
  rw [queuePush, transact_of_spiPresent hp, hbody, hspi]
  generalize hu : accept q.toNat (isLocal s q.toNat) 0 p (cleared s) = u at hget
  refine ⟨rfl, rfl, rfl, rfl, rfl, ?_, fun hl => ?_, fun hl => ?_⟩
  · show (getQueue u q.toNat).accSeq = _
    rw [hget]
    cases isLocal s q.toNat <;> rfl
  · show (getQueue u q.toNat).inCh = _ ∧ (getQueue u q.toNat).outCh = _
    rw [hget, hl]
    exact ⟨rfl, rfl⟩
  · show (getQueue u q.toNat).outCh = _ ∧ (getQueue u q.toNat).inCh = _
    rw [hget, hl]
    exact ⟨rfl, rfl⟩

/-- The counts of a refusal with FULL leave the queues, the stage and the port alone (R335, R358). -/
theorem countFull_keeps (q : Nat) (inCh : Bool) (payload : Bytes) (s : State) :
    (countFull q inCh payload s).qe.queues = s.qe.queues ∧ (countFull q inCh payload s).jrn.stage = s.jrn.stage ∧
      (countFull q inCh payload s).spi = s.spi := by
  simp only [countFull]
  split
  · exact ⟨rfl, rfl, rfl⟩
  · split <;> exact ⟨rfl, rfl, rfl⟩

theorem streamed_keeps (q len : Nat) (s : State) : (streamed q len s).qe.queues = s.qe.queues ∧
    (streamed q len s).jrn.stage = s.jrn.stage ∧ (streamed q len s).spi = s.spi :=
  have htouch := touch_confined q s
  have hjrn : (touch q s).jrn = s.jrn := htouch.same .jrn (by decide)
  ⟨(touch_sameChains q s).queues, congrArg Journal.stage hjrn, htouch.same .spi (by decide)⟩

/-- Settles O30: the counts and the stone of a refusal leave what the host sees. -/
theorem pushIsRefused : Obligations.PushIsRefused := by
  intro q len c8 p crc e s hp hc hlen herr
  have hc' : c8Error (cleared s) ([0x40] ++ leBytes 2 q.toNat ++ leBytes 2 len.toNat) c8 = none := hc
  obtain ⟨hlong, htake, hcrc⟩ := push_stream crc hlen
  have hbody : ∃ u, (u.qe.queues = s.qe.queues ∧ u.jrn.stage = s.jrn.stage ∧ u.spi = (cleared s).spi) ∧
      pushBody q len c8 (p ++ leBytes 4 crc.toNat) none (cleared s) =
        (zeros (4 + c8Len s) ++ zeros (len.toNat + 4) ++ [0x5A, e], spiError e u) := by
    simp only [pushBody, hc', hlong, htake, hcrc, herr, clocked, c8Sent_of_noError hc', reduceCtorEq, if_false]
    refine ⟨_, ?_, rfl⟩
    have hfull := countFull_keeps q.toNat (isLocal (cleared s) q.toNat) p (cleared s)
    generalize hu : (if e = errFull then countFull q.toNat (isLocal (cleared s) q.toNat) p (cleared s)
        else cleared s) = u
    have hkeep : u.qe.queues = s.qe.queues ∧ u.jrn.stage = s.jrn.stage ∧ u.spi = (cleared s).spi := by
      rw [← hu]
      split
      · exact hfull
      · exact ⟨rfl, rfl, rfl⟩
    split
    · obtain ⟨h1, h2, h3⟩ := streamed_keeps q.toNat len.toNat u
      exact ⟨h1.trans hkeep.1, h2.trans hkeep.2.1, h3.trans hkeep.2.2⟩
    · exact hkeep
  obtain ⟨u, ⟨hqueues, hstage, hspi⟩, hu⟩ := hbody
  have herr' : u.spi.err = false := congrArg Spi.err hspi
  refine ⟨_, rfl, ?_⟩
  rw [queuePush, transact_of_spiPresent hp, hu, spiError_of_noError e herr']
  refine ⟨rfl, rfl, ?_, hqueues, hstage, (congrArg Spi.rcptQ hspi :), (congrArg Spi.rcptSeq hspi :)⟩
  simp only [List.cons_append]

-- Pops, peeks and event fetches

/-- A frame whose segments can be read stays where it is (R344). -/
theorem dropUnreadable_of_readable {q i : Nat} {s : State} {f : Frame} (h : (getQueue s q).inCh[i]? = some f)
    (hseg : f.segs.any (segmentLost s) = false) : dropUnreadable q true i s = s := by
  simp [dropUnreadable, h, hseg]

/-- An answer to a take whose place holds a readable frame that `judge` lets go. -/
theorem takeBody_of_readable {host : Bytes} {q i : Nat} {c8 : Option Byte} {judge : Frame → State → Option Byte}
    {effect : State → State} {s : State} {f : Frame} (hr : rdy s = true) (hrest : s.sys.restore.contains q = false)
    (hc : c8Error s host c8 = none) (hf : (getQueue s q).inCh[i]? = some f)
    (hseg : f.segs.any (segmentLost s) = false) (hj : judge f (touch q s) = none) :
    takeBody host q i c8 none judge effect s =
      (zeros (host.length - 1 + c8Len s) ++ 0xA5 :: delivered f, effect (touch q s)) := by
  have htouch := touch_sameChains q s
  have hf' : (getQueue (touch q s) q).inCh[i]? = some f := by rw [htouch.getQueue, hf]
  have hpins : (touch q s).pins = s.pins := (touch_confined q s).same .pins (by decide)
  have hlost : segmentLost (touch q s) = segmentLost s := by
    funext k
    rw [segmentLost, htouch.xsBad, hpins, segmentLost]
  simp only [takeBody, hc, hr, hrest, dropUnreadable_of_readable hf' (hlost ▸ hseg), hf', hj, whole, Option.all_none,
    clocked, c8Sent_of_noError hc, Bool.not_true, Bool.false_eq_true, if_false, if_true]

/-- The refusals of a pop look at nothing that the stone of the queue holds. -/
theorem popError_touch (q : Nat) (flags : Byte) (seq : Word) (f : Frame) (s : State) :
    popError q flags seq f (touch q s) = popError q flags seq f s := by
  have hd := (touch_sameChains q s).durable (touch_live q s) q
  have hjrn : (touch q s).jrn = s.jrn := (touch_confined q s).same .jrn (by decide)
  have hsup : (touch q s).sup = s.sup := (touch_confined q s).same .sup (by decide)
  simp only [popError, hd, hjrn, hsup]

theorem popHead_spi (q : Nat) (s : State) : (popHead q s).spi = s.spi :=
  (popHead_frame (w := [.jrn, .qe]) q s (frame_refl _ s) (hw := by decide)).same .spi (by decide)

/-- The event records that leave the ring are those that are sent (R150). -/
theorem eventFetch_sent {n : Byte} {c8 : Option Byte} {s : State} (hp : spiPresent s = true)
    (hready : s.sys.ready = true) (h1 : 1 ≤ n.toNat) (h16 : n.toNat ≤ 16) (hc : c8Error s [0x50, n] c8 = none) :
    eventFetch n c8 s = sent .spi
      (statusByte s :: zeros (1 + c8Len s) ++ 0 ::
        withC8 s (BitVec.ofNat 8 (min n.toNat s.ring.length) :: ((s.ring.take n.toNat).map eventBytes).flatten))
      { cleared s with ring := s.ring.drop n.toNat } := by
  have hc' : c8Error (cleared s) [0x50, n] c8 = none := hc
  have hready' : (cleared s).sys.ready = true := hready
  have hn : ¬ (n = 0 ∨ 16 < n.toNat) := by
    rintro (rfl | h)
    · exact absurd h1 (by decide)
    · omega
  have htake : s.ring.take (min n.toNat s.ring.length) = s.ring.take n.toNat := by
    rw [← List.take_take, List.take_length]
  have hdrop : s.ring.drop (min n.toNat s.ring.length) = s.ring.drop n.toNat := by
    rcases Nat.le_total n.toNat s.ring.length with h | h
    · rw [Nat.min_eq_left h]
    · rw [Nat.min_eq_right h, List.drop_length, List.drop_eq_nil_of_le h]
  have hring : (cleared s).ring = s.ring := rfl
  rw [eventFetch, transact_of_spiPresent hp]
  simp only [eventBody, hc', hready', hn, hring, htake, hdrop, clocked, whole, Option.all_none, c8Sent_of_noError hc',
    Bool.not_true, Bool.false_eq_true, if_false, if_true]
  rfl

/-- Settles O31. -/
theorem popPeekAndFetch : Obligations.PopPeekAndFetch := by
  refine ⟨fun q f c8 s ⟨hp, hr⟩ hrest hseg => ⟨fun flags seq rest hin hc hpop => ?_, fun i hin hc => ?_⟩,
    fun n c8 s hp hready h1 h16 hc => ⟨_, congrArg Host.Outcome.next (eventFetch_sent hp hready h1 h16 hc), rfl,
        rfl, rfl⟩⟩
  · have hf : (getQueue (cleared s) q.toNat).inCh[0]? = some f := by
      show (getQueue s q.toNat).inCh[0]? = some f
      rw [hin, List.getElem?_cons_zero]
    have hbody := takeBody_of_readable (s := cleared s) (effect := popHead q.toNat) hr hrest hc hf hseg
      ((popError_touch q.toNat flags seq f _).trans hpop)
    have htouch := touch_sameChains q.toNat (cleared s)
    have hin' : (getQueue (touch q.toNat (cleared s)) q.toNat).inCh = f :: rest :=
        (congrArg _ (htouch.getQueue _)).trans hin
    have hnow : nowMs (touch q.toNat (cleared s)) = nowMs s := by
      rw [nowMs, show (touch q.toNat (cleared s)).timer = (cleared s).timer from (touch_confined _ _).same .timer
          (by decide)]
      rfl
    refine ⟨_, rfl, ?_⟩
    rw [queuePop, transact_of_spiPresent hp, popBody, hbody]
    refine ⟨?_, rfl, ?_⟩
    · show (popHead q.toNat (touch q.toNat (cleared s))).spi.err = false
      rw [popHead_spi, show (touch q.toNat (cleared s)).spi = (cleared s).spi from (touch_confined _ _).same .spi
          (by decide)]
      rfl
    · show (popHead q.toNat (touch q.toNat (cleared s))).qe.queues = _
      rw [popHead_queues hin', hnow, htouch.getQueue]
      exact htouch.setQueue q.toNat _
  · have hbody := takeBody_of_readable (s := cleared s) (judge := fun _ _ => none) (effect := id) hr hrest hc
      hin hseg rfl
    refine ⟨_, rfl, ?_⟩
    rw [queuePeek, transact_of_spiPresent hp, peekBody, hbody]
    refine ⟨?_, rfl, (touch_sameChains q.toNat (cleared s)).queues⟩
    show (touch q.toNat (cleared s)).spi.err = false
    rw [show (touch q.toNat (cleared s)).spi = (cleared s).spi from (touch_confined _ _).same .spi (by decide)]
    rfl

end Sys2Proof.Machine
end

section
/-! SUPPORT. What the radio sequencer leaves of the supply: it moves the power state between IDLE, RX and TX, and
nothing else of it (Table 3.3). -/

namespace Sys2Proof.Machine

open Sys2Proof.Safety

/-- Of the supply at most the power state differs, and that of a device that is up stays one of IDLE, RX and TX. -/
structure PowerOnly (r s : State) : Prop where
  sup   : s.sup = { r.sup with power := s.sup.power }
  power : s.sup.power = r.sup.power ∨ (asleep r = false ∧ r.sup.power ≠ .off ∧ awake s = true)

theorem awake_iff {s : State} : awake s = true ↔ s.sup.power = .idle ∨ s.sup.power = .rx ∨ s.sup.power = .tx := by
  simp [awake, or_assoc]

theorem asleep_of_awake {s : State} (h : awake s = true) : asleep s = false := by
  rcases awake_iff.mp h with h | h | h <;> simp [asleep, h]

theorem powered_of_awake {s : State} (h : awake s = true) : s.sup.power ≠ .off := by
  rcases awake_iff.mp h with h | h | h <;> simp [h]

theorem awake_of_power {s : State} (ha : asleep s = false) (ho : s.sup.power ≠ .off) : awake s = true := by
  unfold asleep awake at *
  cases h : s.sup.power <;> simp_all

theorem PowerOnly.refl (s : State) : PowerOnly s s := ⟨rfl, .inl rfl⟩

theorem PowerOnly.of_sup {r s : State} (h : s.sup = r.sup) : PowerOnly r s :=
  ⟨by rw [h], .inl (by rw [h])⟩

theorem PowerOnly.of_confined {w : List Part} {r s : State} (h : Confined w r s) (hw : Part.sup ∉ w) :
    PowerOnly r s :=
  .of_sup (h.same .sup hw)

theorem PowerOnly.asleep {r s : State} (h : PowerOnly r s) : asleep s = asleep r := by
  rcases h.power with hp | ⟨hr, -, hs⟩
  · simp [Machine.asleep, hp]
  · rw [hr, asleep_of_awake hs]

theorem PowerOnly.off_iff {r s : State} (h : PowerOnly r s) : s.sup.power = .off ↔ r.sup.power = .off := by
  rcases h.power with hp | ⟨-, hr, hs⟩
  · rw [hp]
  · exact iff_of_false (powered_of_awake hs) hr

theorem PowerOnly.awake {r s : State} (h : PowerOnly r s) (hr : awake r = true) : awake s = true :=
  awake_of_power (h.asleep.trans (asleep_of_awake hr)) (mt h.off_iff.mp (powered_of_awake hr))

theorem PowerOnly.absent {r s : State} (h : PowerOnly r s) (hb : s.boot = r.boot) : absent s = absent r := by
  have hoff : (s.sup.power == .off) = (r.sup.power == .off) := by
    rw [Bool.eq_iff_iff, beq_iff_eq, beq_iff_eq, h.off_iff]
  simp only [Machine.absent, h.asleep, hb, hoff]

theorem PowerOnly.trans {r s t : State} (h : PowerOnly r s) (k : PowerOnly s t) : PowerOnly r t := by
  refine ⟨by rw [k.sup, h.sup], ?_⟩
  rcases k.power with hp | ⟨ha, ho, ht⟩
  · rcases h.power with hq | ⟨hr, hro, hs⟩
    · exact .inl (hp.trans hq)
    · exact .inr ⟨hr, hro, by rw [awake_iff] at hs ⊢; rwa [hp]⟩
  · exact .inr ⟨h.asleep.symm.trans ha, mt h.off_iff.mpr ho, ht⟩

theorem PowerOnly.ite {r a b : State} {c : Prop} [Decidable c] (ha : PowerOnly r a) (hb : PowerOnly r b) :
    PowerOnly r (if c then a else b) := by
  split <;> assumption

/-- What is told of the supply by a reading that does not look at the power state is kept. -/
theorem PowerOnly.reading {α : Type} {r s : State} (h : PowerOnly r s) (f : Supply → α)
    (hf : ∀ p, f { r.sup with power := p } = f r.sup) : f s.sup = f r.sup := by
  rw [h.sup, hf]

-- The moves of the sequencer

theorem goto_powerOnly (x : RadioState) (s : State) : PowerOnly s (goto x s) := by
  refine ⟨rfl, ?_⟩
  by_cases h : asleep s = true ∨ s.sup.power = .off
  · left
    simp [goto, h]
  · obtain ⟨ha, ho⟩ := not_or.mp h
    rw [Bool.not_eq_true] at ha
    refine .inr ⟨ha, ho, ?_⟩
    have hp : (goto x s).sup.power = powerOf x := by simp [goto, ha, ho]
    rw [awake_iff, hp]
    cases x <;> decide

theorem cancelDets_powerOnly (n : Nat) (p : Det → Bool) (s : State) : PowerOnly s (cancelDets n p s) :=
  .of_confined (cancelDets_frame (w := [.ring, .evtLost, .scarab, .rx, .draws]) n p s (frame_refl _ s)
      (hw := by decide)) (by decide)

theorem gotoIdle_powerOnly (s : State) : PowerOnly s (gotoIdle s) := by
  refine (cancelDets_powerOnly 7 (fun _ => true) s).trans ?_
  have hset : ∀ t a b, PowerOnly t { t with rx := a, radio := b } := fun _ _ _ => .of_sup rfl
  exact (hset _ _ _).trans (.ite (goto_powerOnly ..) (goto_powerOnly ..))

theorem stopReceiving_powerOnly (s : State) : PowerOnly s (stopReceiving s) :=
  .of_confined (stopReceiving_frame (w := [.ring, .evtLost, .rx, .draws]) s (frame_refl _ s) (hw := by decide))
      (by decide)

theorem startUp_powerOnly (u : UpFor) (s : State) : PowerOnly s (startUp u s) := by
  have htail : ∀ t a lo, PowerOnly t (goto .synthUp (tune lo { t with radio := a })) := fun t a lo =>
    PowerOnly.trans (s := tune lo { t with radio := a }) (.of_sup rfl) (goto_powerOnly ..)
  cases u
  case tx => exact (stopReceiving_powerOnly s).trans (htail _ _ _)
  case ack => exact (stopReceiving_powerOnly s).trans (htail _ _ _)
  case rx => exact htail _ _ _
  case cca => exact htail _ _ _

theorem startRx_powerOnly (s : State) : PowerOnly s (startRx s) := startUp_powerOnly .rx s

theorem autoReceive_powerOnly (s : State) : PowerOnly s (autoReceive s) :=
  .ite (startRx_powerOnly s) (.refl s)

theorem calibrateOnLock_powerOnly (s : State) : PowerOnly s (calibrateOnLock s) :=
  .of_confined (calibrateOnLock_frame (w := [.radio, .draws]) s (frame_refl _ s) (hw := by decide)) (by decide)

theorem resumeRx_powerOnly (s : State) : PowerOnly s (resumeRx s) := by
  have htune : ∀ lo t, PowerOnly t (tune lo t) := fun _ _ => .of_sup rfl
  exact .ite (((htune _ s).trans (calibrateOnLock_powerOnly _)).trans (goto_powerOnly ..)) (gotoIdle_powerOnly s)

theorem setMosaic_powerOnly (m : BitVec 2) (s : State) : PowerOnly s (setMosaic m s) :=
  .of_confined (setMosaic_frame (w := [.ring, .evtLost, .scarab, .rx, .draws]) m s (frame_refl _ s) (hw := by decide))
      (by decide)

theorem goReturn_powerOnly (s : State) : PowerOnly s (goReturn s) := by
  have htail : ∀ m t, PowerOnly t (setMosaic m t) := setMosaic_powerOnly
  have hset : ∀ t a, PowerOnly t { t with radio := a } := fun _ _ => .of_sup rfl
  exact ((hset s _).trans (htail _ _)).trans (.ite (resumeRx_powerOnly _) (gotoIdle_powerOnly _))

theorem retuneRx_powerOnly (s : State) : PowerOnly s (retuneRx s) := by
  unfold retuneRx
  extract_lets listen toRx toCca
  exact .ite (.ite (gotoIdle_powerOnly s) (.ite (startUp_powerOnly ..) (.refl s)))
    (.ite (startUp_powerOnly ..) (.refl s))

theorem dropAttempt_powerOnly (s : State) : PowerOnly s (dropAttempt s) :=
  .of_confined (dropAttempt_frame (w := [.ring, .evtLost, .radio, .swarm, .net, .draws]) s (frame_refl _ s)
      (hw := by decide)) (by decide)

theorem endAttempt_powerOnly (s : State) : PowerOnly s (endAttempt s) :=
  (dropAttempt_powerOnly s).trans (goReturn_powerOnly _)

theorem busyListen_powerOnly (rssi : Option Int) (s : State) : PowerOnly s (busyListen rssi s) := by
  unfold busyListen
  split
  · exact .refl s
  next a ha =>
    have hset : ∀ t b, PowerOnly t { t with radio := b } := fun _ _ => .of_sup rfl
    have hpost : ∀ c x y t, PowerOnly t (post c x y t) := fun c x y t => .of_sup (post_sup c x y t)
    have hdraw : ∀ n t, PowerOnly t (draw n t).2 := fun _ _ => .of_sup rfl
    extract_lets n last level src u v x w
    have huv : PowerOnly s v := (hset s _).trans (hpost ..)
    exact .ite (.refl s) (huv.trans (.ite (.ite (endAttempt_powerOnly v) (hset v _)) ((hdraw _ v).trans (hset _ _))))

theorem ccaBusy_powerOnly (rssi : Option Int) (s : State) : PowerOnly s (ccaBusy rssi s) := by
  unfold ccaBusy
  split
  · exact .refl s
  · exact .ite (busyListen_powerOnly rssi s) (.refl s)

theorem listenNow_powerOnly (s : State) : PowerOnly s (listenNow s) := ccaBusy_powerOnly none s

theorem nextListen_powerOnly (a : Attempt) (s : State) : PowerOnly s (nextListen a s) := by
  have hdraw : PowerOnly s (drawListen s).2 := .of_sup rfl
  have hset : ∀ t b, PowerOnly t { t with radio := b } := fun _ _ => .of_sup rfl
  exact hdraw.trans (.ite (endAttempt_powerOnly _)
    ((hset _ _).trans (.ite (listenNow_powerOnly _) (startUp_powerOnly ..))))

theorem resumeAttempt_powerOnly (s : State) : PowerOnly s (resumeAttempt s) := by
  unfold resumeAttempt
  split
  · exact .refl s
  · exact .ite (nextListen_powerOnly ..) (.refl s)

theorem settle_powerOnly (s : State) : PowerOnly s (settle s) :=
  .ite (gotoIdle_powerOnly s) (resumeAttempt_powerOnly s)

theorem startPa_powerOnly (j : TxJob) (s : State) : PowerOnly s (startPa j s) :=
  .of_confined (startPa_frame (w := [.ring, .evtLost, .scarab, .rx, .radio, .draws]) j s (frame_refl _ s)
      (hw := by decide)) (by decide)

theorem startFrame_powerOnly (j : TxJob) (s : State) : PowerOnly s (startFrame j s) := by
  have hfinal : ∀ n, PowerOnly s (finalFrame n j s).2 := fun n =>
    .of_confined (finalFrame_frame (w := [.jrn, .sec]) n j s (frame_refl _ s) (hw := by decide)) (by decide)
  have hrecord : ∀ f t, PowerOnly t (recordStart j f t) := fun _ _ => .of_sup rfl
  have hset : ∀ t b, PowerOnly t { t with net := b } := fun _ _ => .of_sup rfl
  exact (hfinal _).trans ((hrecord _ _).trans ((hset _ _).trans ((startPa_powerOnly ..).trans (goto_powerOnly ..))))

theorem startAck_powerOnly (j : TxJob) (s : State) : PowerOnly s (startAck j s) :=
  (startPa_powerOnly j s).trans (goto_powerOnly ..)

theorem suppressOther_powerOnly (a : AckDue) (s : State) : PowerOnly s (suppressOther a s) :=
  .of_confined (suppressOther_frame (w := [.ring, .evtLost, .radio, .draws]) a s (frame_refl _ s) (hw := by decide))
      (by decide)

theorem leaveSynthUp_powerOnly (s : State) : PowerOnly s (leaveSynthUp s) := by
  have hset : ∀ t b, PowerOnly t { t with radio := b } := fun _ _ => .of_sup rfl
  unfold leaveSynthUp
  split
  · exact .refl s
  split
  · exact .ite ((hset s _).trans (goto_powerOnly ..)) (gotoIdle_powerOnly s)
  · exact (goto_powerOnly ..).trans (listenNow_powerOnly _)
  · exact .ite (startFrame_powerOnly ..) ((endAttempt_powerOnly s).trans (settle_powerOnly _))
  · exact .ite (startAck_powerOnly ..)
      ((suppressOther_powerOnly _ s).trans ((goReturn_powerOnly _).trans (settle_powerOnly _)))

theorem judgeOff_powerOnly (s : State) : PowerOnly s (judgeOff s) := by
  unfold judgeOff
  extract_lets works
  exact .ite (goto_powerOnly ..) (.ite (goto_powerOnly ..)
    (.ite ((dropAttempt_powerOnly s).trans (gotoIdle_powerOnly _)) (.refl s)))

theorem paOff_powerOnly (s : State) : PowerOnly s (paOff s) :=
  .of_confined (paOff_frame (w := [.ring, .evtLost, .radio]) s (frame_refl _ s) (hw := by decide)) (by decide)

theorem abandonAcks_powerOnly (s : State) : PowerOnly s (abandonAcks s) :=
  .of_confined (abandonAcks_frame (w := [.ring, .evtLost, .radio]) s (frame_refl _ s) (hw := by decide)) (by decide)

theorem loseReceptions_powerOnly (s : State) : PowerOnly s (loseReceptions s) :=
  .of_confined (loseReceptions_frame (w := [.ring, .evtLost, .rx, .draws]) s (frame_refl _ s) (hw := by decide))
      (by decide)

theorem halt_powerOnly (n : Nat) (s : State) : PowerOnly s (halt n s) := by
  have hset : ∀ t a b, PowerOnly t { t with radio := a, net := b } := fun _ _ _ => .of_sup rfl
  have hclose : ∀ t, PowerOnly t (closeWindow t) := fun _ => .of_sup rfl
  refine (paOff_powerOnly s).trans ((abandonAcks_powerOnly _).trans ((loseReceptions_powerOnly _).trans
    ((cancelDets_powerOnly n (fun _ => true) _).trans ?_)))
  exact .ite (hset _ _ _) (.ite ((hset _ _ _).trans (hclose _)) ((hset _ _ _).trans (gotoIdle_powerOnly _)))

theorem stopPa_powerOnly (s : State) : PowerOnly s (stopPa s) := by
  have hset : ∀ t a b, PowerOnly t { t with radio := a, net := b } := fun _ _ _ => .of_sup rfl
  exact (paOff_powerOnly s).trans ((abandonAcks_powerOnly _).trans ((hset _ _ _).trans
    (.ite (goReturn_powerOnly _) (.refl _))))

theorem enterSafe_powerOnly (s : State) : PowerOnly s (enterSafe s) := by
  have hset : ∀ t a, PowerOnly t { t with sys := a } := fun _ _ => .of_sup rfl
  exact .ite ((stopPa_powerOnly s).trans ((cancelDets_powerOnly 6 (fun _ => true) _).trans (hset _ _))) (.refl s)

theorem endSecond_powerOnly (s : State) : PowerOnly s (endSecond s) :=
  .of_confined (endSecond_frame (w := [.ring, .evtLost, .scarab, .rx, .draws]) s (frame_refl _ s) (hw := by decide))
      (by decide)

theorem post_powerOnly (code tag : Half) (arg : Word) (s : State) : PowerOnly s (post code tag arg s) :=
  .of_sup (post_sup ..)

theorem postLogged_powerOnly (code tag : Half) (arg : Word) (s : State) : PowerOnly s (postLogged code tag arg s) :=
  .of_confined (confined_postLogged code tag arg s) (by decide)

end Sys2Proof.Machine
end

section
/-! SUPPORT. O16, O17, O20 and O21: the clock gates, the time base, Lintel and Plumb (R46, R53 to R59, R68, R85, R91 to
R93). -/

namespace Sys2Proof.Machine

open Sys2Proof.Safety

-- Clock gating (R46, R85)

/-- A bit that is masked out of a word is no longer read. -/
theorem bit_and_not_twoPow {w i : Nat} (x : BitVec w) : bit (x &&& ~~~(BitVec.ofNat w (2 ^ i))).toNat i = false := by
  rw [bit_eq_testBit, BitVec.testBit_toNat, BitVec.getLsbD_and, BitVec.getLsbD_not, BitVec.getLsbD_ofNat]
  simp

theorem bit_and_not_twoPow_ne {w i n : Nat} (x : BitVec w) (hn : n < w) (h : n ≠ i) :
    bit (x &&& ~~~(BitVec.ofNat w (2 ^ i))).toNat n = bit x.toNat n := by
  rw [bit_eq_testBit, bit_eq_testBit, BitVec.testBit_toNat, BitVec.testBit_toNat, BitVec.getLsbD_and,
    BitVec.getLsbD_not, BitVec.getLsbD_ofNat, Nat.testBit_two_pow]
  simp [hn, Ne.symm h]

theorem blockOn_of_clk {s t : State} (h : t.clk = s.clk) (n : Nat) : blockOn t n = blockOn s n := by
  unfold blockOn
  rw [h]

theorem autoReceive_clk (s : State) : (autoReceive s).clk = s.clk :=
  (autoReceive_frame (w := [.sup, .ring, .evtLost, .rx, .radio, .draws]) s (frame_refl _ s) (hw := by decide)).same
      .clk (by decide)

theorem judgeOff_clk (s : State) : (judgeOff s).clk = s.clk :=
  (judgeOff_frame (w := [.sup, .ring, .evtLost, .scarab, .rx, .radio, .swarm, .net, .draws]) s (frame_refl _ s)
      (hw := by decide)).same
    .clk (by decide)

/-- The clocks of the blocks of a domain: each block of CKEN0 has a domain of its own (Table 4.2). -/
theorem domainMask_eq : ∀ n < 9,
    ((List.range 9).filter fun k => blockDomain k == blockDomain n).foldl (fun m k => m + 2 ^ k) 0 = 2 ^ n := by
  decide

theorem powerGood_of_rising {d : Nat} {s : State} (h : bit s.sup.rising.toNat d = true) :
    bit (powerGood d s).sup.rising.toNat d = false ∧
      ∀ n < 9, blockDomain n = d → blockOn (powerGood d s) n = true := by
  have hgood : ∃ t, powerGood d s = autoReceive t ∧
      t.sup.rising = s.sup.rising &&& ~~~(BitVec.ofNat 206 (2 ^ d)) ∧
      t.clk.run0 = s.clk.run0 |||
        BitVec.ofNat 9 (((List.range 9).filter fun n => blockDomain n == d).foldl (fun m n => m + 2 ^ n) 0) := by
    refine ⟨_, by simp only [powerGood, h]; rfl, rfl, rfl⟩
  obtain ⟨t, ht, hrise, hrun⟩ := hgood
  rw [ht]
  refine ⟨?_, fun n hn hd => ?_⟩
  · rw [(autoReceive_powerOnly t).reading (fun x => bit x.rising.toNat d) fun _ => rfl, hrise]
    exact bit_and_not_twoPow _
  · subst hd
    rw [blockOn_of_clk (autoReceive_clk t), blockOn, if_pos (by omega), hrun, domainMask_eq n hn]
    exact bit_or_twoPow _ hn

theorem blockOn_gateBlock (n : Nat) (s : State) : blockOn (gateBlock n s) n = false := by
  unfold blockOn gateBlock
  split
  · exact bit_and_not_twoPow _
  · exact bit_and_not_twoPow _

theorem blockOn_deferredGate {n : Nat} {s : State} (hb : blocks.contains n = true) (hon : blockOn s n = true)
    (he : enableBit s n = false) (hidle : blockBusy s n = false) (hs : asleep s = false) :
    blockOn (deferredGate n s) n = false := by
  have h : deferredGate n s = judgeOff (gateBlock n s) := by
    simp only [deferredGate, hb, hon, he, hidle, hs]
    rfl
  rw [h, blockOn_of_clk (judgeOff_clk _)]
  exact blockOn_gateBlock n s

/-- Settles O16: a domain's clock bit is set with its power-good, and the bit of an idle block is cleared. -/
theorem gatingFollowsThePower : Obligations.GatingFollowsThePower := by
  refine ⟨fun d s hw hd => ?_, fun n s hb h0 hon he hidle hs => ?_, fun s hsend hbusy hon he hs => ?_⟩
  · refine ⟨_, rfl, ?_⟩
    rw [present, hw]
    exact powerGood_of_rising hd
  · refine ⟨_, rfl, ?_⟩
    rw [ckenDeferredGate, if_neg h0]
    exact blockOn_deferredGate hb hon he hidle hs
  · refine ⟨_, rfl, ?_⟩
    have hreply : endReply s = s := by simp [endReply, hsend]
    have hz : ((0 : Fin 40) : Nat) = 0 := rfl
    rw [hz, ckenDeferredGate, if_pos rfl, hreply]
    exact blockOn_deferredGate (by decide) hon he hbusy hs

-- The time base (R91, R93)

theorem wordOf_disciplined {s : State} (h : s.tb.state = tbDisciplined) : wordOf s = fcwOf (s.tb.freq + s.tb.slew) := by
  unfold wordOf
  rw [h]
  rfl

/-- Settles O17: the word of the state that is entered is that of the measured frequency. -/
theorem timeBaseMoves : Obligations.TimeBaseMoves := by
  intro s
  refine ⟨fun w hw => ?_, fun hd => ?_, fun hf => ?_, fun hd hr hx => ?_⟩
  · have h : fcwLoad s = { s with tb := { s.tb with fcw := w, load := none } } := by
      unfold fcwLoad
      rw [hw]
    exact congrArg Host.Outcome.next h
  · have h : slewEnd s = { s with tb := { s.tb with slew := 0, fcw := fcwOf s.tb.freq, load := none } } := by
      unfold slewEnd refreshFcw
      rw [if_pos hd, wordOf_disciplined (s := { s with tb := { s.tb with slew := 0 } }) hd]
      simp
    exact congrArg Host.Outcome.next h
  · have h : holdoverEntry s = s := by simp [holdoverEntry, hf]
    exact congrArg Host.Outcome.next h
  · have h : holdoverEntry s = post evTbHoldover 0 1 (setTb tbHoldover s) := by
      unfold holdoverEntry
      rw [if_pos ⟨hr, hd, hx⟩]
    refine ⟨_, rfl, ?_, fun hu hp => ?_⟩
    · rw [h, post_tb]
      rfl
    · rw [h]
      exact post_ring_of_hasPlace (s := setTb tbHoldover s) 0 1 hu hp

-- Lintel (R53 to R56, R108)

theorem opTarget_le (s : State) : opTarget s ≤ 3 := by
  have hcap : opCap s ≤ 3 := by
    unfold opCap
    split
    · decide
    split
    · decide
    split <;> decide
  exact (Nat.min_le_left _ _).trans hcap

theorem opTarget_fin (s : State) : (Fin.ofNat 4 (opTarget s)).val = opTarget s :=
  Nat.mod_eq_of_lt (Nat.lt_succ_of_le (opTarget_le s))

theorem fallTo_frameSup (p : Fin 4) (s : State) : Confined [.sup] s (fallTo p s) :=
    fallTo_frame p s (frame_refl _ s) (hw := by decide)

/-- A fall enters the point, and VCORE ends at its voltage, from where it stands if that is higher. -/
theorem fallTo_sup (p : Fin 4) (s : State) :
    (fallTo p s).sup = { s.sup with
      op := p, vend := pointMv p.val (entryTrim s p.val 0), trims := setNth s.sup.trims p.val (entryTrim s p.val 0),
      vcore := if (pointMv p.val (entryTrim s p.val 0)).toNat < s.sup.vcore.toNat then s.sup.vcore
        else pointMv p.val (entryTrim s p.val 0) } := by
  unfold fallTo enterPoint
  dsimp only
  split <;> rfl

theorem lintelStepUp_of_below {failed : Nat} {s : State} (ha : awake s = true) (hl : s.clk.lock = true)
    (ht : s.sup.op.val < opTarget s) (hb : atBoundary s = true) :
    lintelStepUp failed s = leaveSynthUp (enterPoint (Fin.ofNat 4 (opTarget s)) failed s) := by
  simp [lintelStepUp, ha, hl, ht, hb]

theorem lintelStepDown_of_above {s : State} (ha : awake s = true) (hl : s.clk.lock = true)
    (ht : opTarget s < s.sup.op.val) (hr : s.radio.state = .idle ∨ s.radio.state = .off) :
    lintelStepDown s = fallTo (Fin.ofNat 4 (opTarget s)) s := by
  simp [lintelStepDown, ha, hl, ht, hr]

/-- Settles O20: a step enters the target; what lets the radio go on after a step up changes the power state alone. -/
theorem lintelSteps : Obligations.LintelSteps := by
  intro s ha
  refine ⟨fun hl => ⟨fun failed ht hb => ?_, fun ht hr => ?_⟩, fun hl => ⟨fun failed => ?_, ?_⟩⟩
  · refine ⟨_, rfl, ?_⟩
    rw [lintelStepUp_of_below ha hl ht hb]
    have hkept := leaveSynthUp_powerOnly (enterPoint (Fin.ofNat 4 (opTarget s)) failed s)
    rw [hkept.reading (fun x => x.op) fun _ => rfl, hkept.reading (fun x => x.vcore) fun _ => rfl]
    refine ⟨opTarget_fin s, ?_⟩
    simp only [enterPoint, opTarget_fin]
  · refine ⟨_, rfl, ?_⟩
    rw [lintelStepDown_of_above ha hl ht hr]
    refine ⟨fallTo_frameSup _ s, ?_⟩
    rw [fallTo_sup]
    simp only [opTarget_fin]
    refine ⟨trivial, trivial, ?_, ?_, trivial, trivial, trivial⟩
    · split <;> omega
    · split <;> omega
  · exact congrArg Host.Outcome.next (by simp [lintelStepUp, hl])
  · exact congrArg Host.Outcome.next (by simp [lintelStepDown, hl])

-- Plumb (R57, R59, R68)

theorem nominalMv_bounds (p : Fin 4) : 620 ≤ nominalMv p.val ∧ nominalMv p.val ≤ 900 := by
  revert p
  decide

theorem pointMv_toNat {p : Fin 4} {k : Nat} : (pointMv p.val k).toNat = nominalMv p.val - 5 * k := by
  have h := nominalMv_bounds p
  rw [pointMv, BitVec.toNat_ofNat]
  exact Nat.mod_eq_of_lt (by omega)

theorem trimAt_pointMv {p : Fin 4} {k : Nat} (hk : k ≤ 16) : trimAt p.val (pointMv p.val k) = k := by
  have h := nominalMv_bounds p
  rw [trimAt, pointMv_toNat]
  omega

theorem pointMv_sub {p : Fin 4} {k : Nat} (hk : k ≤ 16) : pointMv p.val k - 5 = pointMv p.val (k + 1) := by
  have h := nominalMv_bounds p
  apply BitVec.eq_of_toNat_eq
  rw [BitVec.toNat_sub, pointMv_toNat, pointMv_toNat]
  simp
  omega

theorem plumbTrim_setVcore {v : Half} {s : State} (hp : liveBool s K.plumbEn = true) (hl : s.sup.trims.length = 4) :
    plumbTrim (setVcore v s) = trimAt s.sup.op.val v := by
  have hlive : liveBool (setVcore v s) K.plumbEn = true := hp
  rw [plumbTrim, hlive]
  simp [setVcore, nth, setNth, hl]

theorem setVcore_frameSup (v : Half) (s : State) : Confined [.sup] s (setVcore v s) :=
  setVcore_frame v s (frame_refl _ s) (hw := by decide)

theorem falling_setVcore (v : Half) (s : State) : falling (setVcore v s) = false := by
  simp [falling, setVcore]

theorem not_falling_of_atTrim {s : State} {k : Nat} (h : AtTrim s k) : falling s = false := by
  simp [falling, h.vend]

/-- A step down has room below the nominal voltage at a trim below 16 that is not locked. -/
theorem plumbStepDown_of_atTrim {s : State} {k : Nat} (ha : awake s = true) (hp : liveBool s K.plumbEn = true)
    (h : AtTrim s k) : plumbStepDown s =
      if k < 16 ∧ bit s.sup.trimLock.toNat s.sup.op.val = false then setVcore (s.sup.vcore - 5) s else s := by
  have hb := nominalMv_bounds s.sup.op
  have hv : s.sup.vend = pointMv s.sup.op.val k := h.vend.trans h.vcore
  have hn : ¬ nominalMv s.sup.op.val < s.sup.vend.toNat := by rw [hv, pointMv_toNat]; omega
  have hk : trimAt s.sup.op.val s.sup.vend = k := by rw [hv, trimAt_pointMv h.steps]
  simp only [plumbStepDown, hn, hk, ha, hp, ← h.vend]
  by_cases hc : k < 16 ∧ bit s.sup.trimLock.toNat s.sup.op.val = false
  · simp [hc]
  · rw [if_neg hc, if_neg]
    simpa using hc

/-- A near-miss is counted, and locks the trim of the point where it is 0. -/
def missed (s : State) : State :=
  { s with sup := { s.sup with
      nearMiss := inc s.sup.nearMiss
      trimLock := if plumbTrim s = 0 then s.sup.trimLock ||| BitVec.ofNat 4 (2 ^ s.sup.op.val) else s.sup.trimLock } }

/-- A near-miss is counted, and puts VCORE 20 mV up, to nominal at most. -/
theorem nearMiss_of_awake {s : State} (ha : awake s = true) : nearMiss s =
    setVcore (if falling s then s.sup.vcore + 20 else if nominalMv s.sup.op.val ≤ s.sup.vcore.toNat then s.sup.vcore
      else BitVec.ofNat 16 (min (nominalMv s.sup.op.val) (s.sup.vcore.toNat + 20))) (missed s) := by
  simp only [nearMiss, ha]
  rfl

theorem nearMiss_frameSup (s : State) : Confined [.sup] s (nearMiss s) :=
    nearMiss_frame s (frame_refl _ s) (hw := by decide)

theorem riseMv_of_atTrim {s : State} {k : Nat} (h : AtTrim s k) :
    (if falling s then s.sup.vcore + 20 else if nominalMv s.sup.op.val ≤ s.sup.vcore.toNat then s.sup.vcore
      else BitVec.ofNat 16 (min (nominalMv s.sup.op.val) (s.sup.vcore.toNat + 20))) =
      pointMv s.sup.op.val (k - 4) := by
  have hb := nominalMv_bounds s.sup.op
  have hk := h.steps
  have hv : s.sup.vcore.toNat = nominalMv s.sup.op.val - 5 * k := by rw [h.vcore, pointMv_toNat]
  rw [not_falling_of_atTrim h, if_neg Bool.false_ne_true, hv]
  split
  · rw [h.vcore, show k = 0 by omega]
  · rw [pointMv]
    congr 1
    omega

theorem setNth_nth_self {l : List Nat} {i : Nat} (h : i < l.length) : setNth l i (nth 0 l i) = l := by
  rw [setNth, nth, List.getD_eq_getElem _ _ h, List.set_getElem_self]

/-- Settles O21: VCORE at a trim is one voltage for each trim, and each move of it is a move of the trim. -/
theorem plumbSteps : Obligations.PlumbSteps := by
  refine ⟨fun k s ha hp h => ⟨fun hk hlock => ?_, fun hk => ?_, fun hk => ?_⟩, fun s ha hp hv => ?_,
    fun s ha => ⟨fun h => ?_, fun hf => ?_⟩⟩
  · refine ⟨_, rfl, ?_⟩
    rw [plumbStepDown_of_atTrim ha hp h, if_pos ⟨hk, hlock⟩, plumbTrim_setVcore hp h.points, h.vcore,
      pointMv_sub h.steps, trimAt_pointMv (by omega)]
    exact ⟨setVcore_frameSup _ s, rfl, rfl, rfl⟩
  · refine congrArg Host.Outcome.next ?_
    rw [plumbStepDown_of_atTrim ha hp h, if_neg (by omega)]
  · refine ⟨_, rfl, nearMiss_frameSup s, ?_⟩
    have hle := h.steps
    have htrim : plumbTrim (setVcore (pointMv s.sup.op.val (k - 4)) (missed s)) = k - 4 := by
      rw [plumbTrim_setVcore (s := missed s) hp h.points]
      exact trimAt_pointMv (by omega)
    rw [nearMiss_of_awake ha, riseMv_of_atTrim h]
    exact ⟨rfl, htrim, rfl, rfl⟩
  · refine ⟨_, rfl, ?_⟩
    have hstep : plumbStepDown s = setVcore (s.sup.vend - 5) s := by simp [plumbStepDown, ha, hp, hv]
    rw [hstep]
    exact ⟨setVcore_frameSup _ s, rfl, rfl, rfl⟩
  · have hv : s.sup.vcore = pointMv s.sup.op.val 0 := h.vcore
    have hzero : plumbTrim s = 0 := by
      unfold plumbTrim
      split
      · exact h.trim
      · rfl
    have htrims : setNth s.sup.trims s.sup.op.val (trimAt s.sup.op.val (pointMv s.sup.op.val 0)) = s.sup.trims := by
      rw [trimAt_pointMv (by omega), ← h.trim]
      exact setNth_nth_self (by rw [h.points]; exact s.sup.op.isLt)
    have hmiss : nearMiss s = missed s := by
      rw [nearMiss_of_awake ha, riseMv_of_atTrim h]
      have hset : ∀ t : State, t.sup.vcore = s.sup.vcore → t.sup.vend = s.sup.vend → t.sup.trims = s.sup.trims →
          t.sup.op = s.sup.op → setVcore (pointMv s.sup.op.val 0) t = t := by
        intro t hc he ht ho
        rw [setVcore, ho, ht, htrims, ← hv]
        nth_rewrite 2 [← h.vend]
        rw [← hc, ← he, ← ht]
      exact hset (missed s) rfl rfl rfl rfl
    have hlock : bit (missed s).sup.trimLock.toNat s.sup.op.val = true := by
      simp only [missed, hzero]
      exact bit_or_twoPow _ s.sup.op.isLt
    refine ⟨_, rfl, ?_⟩
    rw [hmiss]
    refine ⟨rfl, rfl, hlock, rfl, congrArg Host.Outcome.next ?_⟩
    have hat : AtTrim (missed s) 0 := ⟨h.steps, h.points, h.trim, h.vcore, h.vend⟩
    have hup : awake (missed s) = true := ha
    by_cases hp : liveBool (missed s) K.plumbEn = true
    · rw [plumbStepDown_of_atTrim hup hp hat, if_neg]
      rintro ⟨-, hc⟩
      exact Bool.false_ne_true (hc.symm.trans hlock)
    · simp [plumbStepDown, hp]
  · refine ⟨_, rfl, nearMiss_frameSup s, ?_⟩
    rw [nearMiss_of_awake ha, if_pos hf]
    exact ⟨rfl, rfl, rfl, falling_setVcore _ _⟩

end Sys2Proof.Machine
end

section
/-! SUPPORT. O13 and O14: the oscillators and the root PLL (R72 to R78, R97 to R101). -/

namespace Sys2Proof.Machine

open Sys2Proof.Safety

theorem resumeBoot_of_not_waiting {s : State} (h : s.boot.waiting = none) : resumeBoot s = s := by
  unfold resumeBoot
  rw [h]

-- The state of the sequencer after its moves

theorem cancelDets_radio (n : Nat) (p : Det → Bool) (s : State) : (cancelDets n p s).radio = s.radio :=
  (cancelDets_frame (w := [.ring, .evtLost, .scarab, .rx, .draws]) n p s (frame_refl _ s) (hw := by decide)).same
      .radio (by decide)

theorem cancelDets_sys (n : Nat) (p : Det → Bool) (s : State) : (cancelDets n p s).sys = s.sys :=
  (cancelDets_frame (w := [.ring, .evtLost, .scarab, .rx, .draws]) n p s (frame_refl _ s) (hw := by decide)).same .sys
      (by decide)

theorem cancelDets_clk (n : Nat) (p : Det → Bool) (s : State) : (cancelDets n p s).clk = s.clk :=
  (cancelDets_frame (w := [.ring, .evtLost, .scarab, .rx, .draws]) n p s (frame_refl _ s) (hw := by decide)).same .clk
      (by decide)

theorem radioPermitted_of_eq {s t : State} (hs : t.sys = s.sys) (hc : t.clk = s.clk) :
    radioPermitted t = radioPermitted s := by
  unfold radioPermitted blockOn
  rw [hs, hc]

/-- IDLE, or OFF while the radio is not permitted: reception is no longer on. -/
theorem gotoIdle_radio (s : State) : (gotoIdle s).radio = { s.radio with
    rxOn := false, stopping := false, temp := false, lock := false,
    state := if radioPermitted s then .idle else .off } := by
  obtain ⟨v, hv, hr, hs, hc⟩ : ∃ v, gotoIdle s = (if radioPermitted v then goto .idle v else goto .off v) ∧
      v.radio = { (cancelDets 7 (fun _ => true) s).radio with rxOn := false, stopping := false, temp := false } ∧
      v.sys = (cancelDets 7 (fun _ => true) s).sys ∧ v.clk = (cancelDets 7 (fun _ => true) s).clk :=
    ⟨_, rfl, rfl, rfl, rfl⟩
  rw [cancelDets_radio] at hr
  rw [hv, radioPermitted_of_eq (hs.trans (cancelDets_sys ..)) (hc.trans (cancelDets_clk ..))]
  split <;> simp [goto, hr]

theorem stopReceiving_radio (s : State) : (stopReceiving s).radio = s.radio :=
  (stopReceiving_frame (w := [.ring, .evtLost, .rx, .draws]) s (frame_refl _ s) (hw := by decide)).same .radio
      (by decide)

/-- The LO that SYNTH_UP tunes to. -/
def startLo (u : UpFor) (s : State) : Nat := match u with
  | .tx j => j.freq
  | .ack j => j.freq
  | .cca => (s.radio.cca.map fun a => listenLo s a.job).getD (rxLo s)
  | .rx => rxLo s

/-- SYNTH_UP towards a purpose: the synthesizer is tuned, and not locked yet. -/
theorem startUp_radio (u : UpFor) (s : State) :
    (startUp u s).radio = { s.radio with up := u, lock := false, lo := startLo u s, state := .synthUp } := by
  cases u <;> simp [startUp, startLo, goto, tune, stopReceiving_radio]

theorem startRx_radio (s : State) :
    (startRx s).radio = { s.radio with up := .rx, lock := false, lo := rxLo s, state := .synthUp } :=
  startUp_radio .rx s

/-- The device that is idle starts to receive by itself, or stays as it is. -/
theorem autoReceive_cases (s : State) :
    autoReceive s = s ∨ (s.radio.state = .idle ∧ autoReceive s = startRx s) := by
  unfold autoReceive
  extract_lets wants
  split
  next h =>
    simp only [Bool.and_eq_true, beq_iff_eq] at h
    obtain ⟨⟨⟨⟨⟨-, hidle⟩, -⟩, -⟩, -⟩, -⟩ := h
    exact .inr ⟨hidle, rfl⟩
  · exact .inl rfl

/-- IDLE is reached: the wake is over, and the radio is idle, off, or starts to receive. -/
theorem reachIdle_of_waking {s : State} (hw : s.sup.waking = true) (hl : s.clk.lock = true ∨ s.clk.stopped = true) :
    (reachIdle s).sup.waking = false ∧ ((reachIdle s).radio.state = .idle ∨ (reachIdle s).radio.state = .off ∨
      (reachIdle s).radio.state = .synthUp) := by
  have hlk : (s.clk.lock || s.clk.stopped) = true := by simpa using hl
  have hidle : ∃ u, reachIdle s = autoReceive (gotoIdle u) ∧ u.sup.waking = false :=
    ⟨_, by simp only [reachIdle, hw, hlk]; rfl, rfl⟩
  obtain ⟨u, hu, huw⟩ := hidle
  rw [hu]
  refine ⟨?_, ?_⟩
  · rw [((gotoIdle_powerOnly u).trans (autoReceive_powerOnly _)).reading (fun x => x.waking) fun _ => rfl]
    exact huw
  · rcases autoReceive_cases (gotoIdle u) with h | ⟨-, h⟩
    · rw [h, gotoIdle_radio]
      dsimp only
      split
      · exact .inl rfl
      · exact .inr (.inl rfl)
    · rw [h, startRx_radio]
      exact .inr (.inr rfl)

theorem reachIdle_clk (s : State) : (reachIdle s).clk = s.clk :=
  (reachIdle_frame (w := [.sup, .ring, .evtLost, .scarab, .rx, .radio, .draws]) s (frame_refl _ s)
      (hw := by decide)).same .clk (by decide)

theorem leaveSynthUp_clk (s : State) : (leaveSynthUp s).clk = s.clk :=
  (leaveSynthUp_frame (w := [.sup, .ring, .evtLost, .jrn, .scarab, .rx, .radio, .swarm, .net, .sec, .draws]) s
    (frame_refl _ s) (hw := by decide)).same .clk (by decide)

theorem pllLock_boot (s : State) : (pllLock s).boot = s.boot :=
  (pllLock_frame (w := [.sup, .ring, .evtLost, .jrn, .scarab, .rx, .radio, .swarm, .net, .sec, .clk, .draws]) s
    (frame_refl _ s) (hw := by decide)).same .boot (by decide)

theorem pllLock_of_searching {s : State} (hs : asleep s = false) (hl : s.clk.lock = false)
    (hp : s.clk.stopped = false) (hr : s.clk.xoOk = true ∨ s.clk.refHfrc = true) :
    pllLock s = reachIdle (leaveSynthUp { s with clk := { s.clk with lock := true, restarts := 0 } }) := by
  have hr' : (!(s.clk.xoOk || s.clk.refHfrc)) = false := by rcases hr with h | h <;> simp [h]
  simp only [pllLock, hs, hl, hp, hr']
  rfl

/-- Settles O13: lock lets the radio leave SYNTH_UP, and a wake reach IDLE. -/
theorem clocksStart : Obligations.ClocksStart := by
  refine ⟨fun s hs hw => ⟨fun hx hf => ?_, fun hl hp hr => ⟨?_, fun hn => ?_⟩⟩,
      fun s => ⟨fun hf ho => ?_, fun a b hb hx => ?_⟩⟩
  · refine congrArg Host.Outcome.next ?_
    have hstart : xoStart s = { s with clk := { s.clk with xoOk := true } } := by simp [xoStart, hx, hf, hs]
    rw [xoStarted, hstart]
    exact resumeBoot_of_not_waiting hw
  · refine ⟨pllLock s, congrArg Host.Outcome.next (resumeBoot_of_not_waiting (by rw [pllLock_boot, hw])), ?_⟩
    rw [pllLock_of_searching hs hl hp hr]
    refine ⟨by rw [reachIdle_clk, leaveSynthUp_clk], fun hwake => reachIdle_of_waking ?_ (.inl ?_)⟩
    · rw [(leaveSynthUp_powerOnly _).reading (fun x => x.waking) fun _ => rfl]
      exact hwake
    · rw [leaveSynthUp_clk]
  · refine congrArg Host.Outcome.next ?_
    have hr' : (!(s.clk.xoOk || s.clk.refHfrc)) = false := by rcases hr with h | h <;> simp [h]
    have htime : lockTimeout s = { s with clk := { s.clk with restarts := s.clk.restarts + 1 } } := by
      simp only [lockTimeout, hs, hl, hp, hr', hn]
      rfl
    rw [pllTimeout, htime]
    exact resumeBoot_of_not_waiting hw
  · exact congrArg Host.Outcome.next (by simp [lfxoQualified, hf, ho])
  · exact congrArg Host.Outcome.next (by simp [rcCalibration, hb, hx])

-- The end of all radio activity (R275)

/-- What the ends of a transmission leave of the radio: its state, and whether reception is on. -/
structure SameMove (r s : State) : Prop where
  state    : s.radio.state = r.radio.state
  rxOn     : s.radio.rxOn = r.radio.rxOn
  cca      : s.radio.cca = r.radio.cca
  up       : s.radio.up = r.radio.up
  stopping : s.radio.stopping = r.radio.stopping

theorem SameMove.refl (s : State) : SameMove s s := ⟨rfl, rfl, rfl, rfl, rfl⟩

theorem SameMove.trans {r s t : State} (h : SameMove r s) (k : SameMove s t) : SameMove r t :=
  ⟨k.state.trans h.state, k.rxOn.trans h.rxOn, k.cca.trans h.cca, k.up.trans h.up, k.stopping.trans h.stopping⟩

theorem SameMove.of_radio {r s : State} (h : s.radio = r.radio) : SameMove r s := by
  refine ⟨?_, ?_, ?_, ?_, ?_⟩ <;> rw [h]

theorem SameMove.of_confined {w : List Part} {r s : State} (h : Confined w r s) (hw : Part.radio ∉ w) : SameMove r s :=
  .of_radio (h.same .radio hw)

theorem post_sameMove (code tag : Half) (arg : Word) (s : State) : SameMove s (post code tag arg s) :=
  .of_radio (post_radio ..)

theorem paOff_sameMove (s : State) : SameMove s (paOff s) := by
  have hset : SameMove s { s with radio := { s.radio with onAir := none, vpa := 0 } } := ⟨rfl, rfl, rfl, rfl, rfl⟩
  have hclear : ∀ t : State, SameMove t { t with radio := { t.radio with antPost := none, antBad := false } } :=
    fun _ => ⟨rfl, rfl, rfl, rfl, rfl⟩
  have hfault : ∀ t, SameMove t (postAntFault t) := by
    intro t
    unfold postAntFault
    split
    · exact .refl t
    · exact (hclear t).trans (post_sameMove ..)
  exact hset.trans (hfault _)

theorem suppressAck_sameMove (n : Nat) (a : AckDue) (s : State) : SameMove s (suppressAck n a s) := by
  have hset : SameMove s { s with radio := { s.radio with ackSupp := inc s.radio.ackSupp } } :=
      ⟨rfl, rfl, rfl, rfl, rfl⟩
  exact hset.trans (post_sameMove ..)

theorem foldl_sameMove {α : Type} (f : State → α → State) (h : ∀ t a, SameMove t (f t a)) (l : List α) (s : State) :
    SameMove s (l.foldl f s) := by
  induction l generalizing s with
  | nil => exact .refl s
  | cons a l ih => exact (h s a).trans (ih _)

theorem abandonAcks_sameMove (s : State) : SameMove s (abandonAcks s) := by
  have hset : SameMove s { s with radio := { s.radio with acks := [] } } := ⟨rfl, rfl, rfl, rfl, rfl⟩
  exact hset.trans (foldl_sameMove _ (fun t a => suppressAck_sameMove 4 a t) _ _)

theorem loseReceptions_sameMove (s : State) : SameMove s (loseReceptions s) :=
  .of_confined (loseReceptions_frame (w := [.ring, .evtLost, .rx, .draws]) s (frame_refl _ s) (hw := by decide))
      (by decide)

theorem cancelDets_sameMove (n : Nat) (p : Det → Bool) (s : State) : SameMove s (cancelDets n p s) :=
  .of_radio (cancelDets_radio ..)

/-- The state that a halt brings to its end: nothing is on the air, due, in reception or pending. -/
def halted (n : Nat) (s : State) : State :=
  let t := cancelDets n (fun _ => true) (loseReceptions (abandonAcks (paOff s)))
  { t with
    radio := { t.radio with tx := none, cca := none, rxOn := false, temp := false, stopping := false, ffStay := false }
    net := { t.net with reply := none, exch := none } }

theorem halted_state (n : Nat) (s : State) : (halted n s).radio.state = s.radio.state :=
  ((paOff_sameMove s).trans ((abandonAcks_sameMove _).trans ((loseReceptions_sameMove _).trans
    (cancelDets_sameMove n (fun _ => true) _)))).state

theorem halted_frame (n : Nat) (s : State) :
    Confined [.ring, .evtLost, .scarab, .rx, .radio, .net, .draws] s (halted n s) := by
  have h := cancelDets_frame (w := [.ring, .evtLost, .scarab, .rx, .radio, .net, .draws]) n (fun _ => true) _
    (loseReceptions_frame _ (abandonAcks_frame _ (paOff_frame s (frame_refl _ s) (hw := by decide)) (hw := by decide))
      (hw := by decide))
  have hset : ∀ t a b, Confined [.ring, .evtLost, .scarab, .rx, .radio, .net, .draws] t
      { t with radio := a, net := b } := fun t a b => confined_trans (confined_mono (by decide) (confined_setRadio t a))
    (confined_mono (by decide) (confined_setNet _ b))
  exact confined_trans h (hset ..)

/-- A halt ends in OFF or SLEEP where the radio was there, closes a window of SNIFF, and goes to IDLE or OFF else. -/
theorem halt_eq (n : Nat) (s : State) : halt n s =
    if s.radio.state = .off ∨ s.radio.state = .sleep then halted n s
    else if s.radio.state = .sniff then closeWindow (halted n s) else gotoIdle (halted n s) := by
  have h : halt n s = if (halted n s).radio.state == .off || (halted n s).radio.state == .sleep then halted n s
    else if (halted n s).radio.state == .sniff then closeWindow (halted n s) else gotoIdle (halted n s) := rfl
  rw [h, halted_state]
  simp only [Bool.or_eq_true, beq_iff_eq]

theorem gotoIdle_clk (s : State) : (gotoIdle s).clk = s.clk :=
  (gotoIdle_frame (w := [.sup, .ring, .evtLost, .scarab, .rx, .radio, .draws]) s (frame_refl _ s)
      (hw := by decide)).same .clk (by decide)

theorem halt_clk (n : Nat) (s : State) : (halt n s).clk =
    if s.radio.state = .sniff then { s.clk with xoOk := false, lock := false } else s.clk := by
  have hc : (halted n s).clk = s.clk := (halted_frame n s).same .clk (by decide)
  rw [halt_eq]
  by_cases hoff : s.radio.state = .off ∨ s.radio.state = .sleep
  · have hns : s.radio.state ≠ .sniff := by rintro h; simp [h] at hoff
    rw [if_pos hoff, if_neg hns, hc]
  · rw [if_neg hoff]
    split
    · rw [← hc]
      rfl
    · rw [gotoIdle_clk, hc]

/-- After a halt the radio does nothing: it is off, asleep or idle, with reception and channel access ended. -/
theorem halt_radio (n : Nat) (s : State) : (halt n s).radio.rxOn = false ∧ (halt n s).radio.cca = none ∧
    ((halt n s).radio.state = .off ∨ (halt n s).radio.state = .sleep ∨ (halt n s).radio.state = .idle) := by
  rw [halt_eq]
  split
  next h =>
    refine ⟨rfl, rfl, ?_⟩
    rw [halted_state]
    exact h.elim .inl fun h => .inr (.inl h)
  split
  · exact ⟨rfl, rfl, .inr (.inl rfl)⟩
  · rw [gotoIdle_radio]
    refine ⟨rfl, rfl, ?_⟩
    dsimp only
    split
    · exact .inr (.inr rfl)
    · exact .inl rfl

/-- A device without a transmission or a listen under way stops its PA and moves nowhere. -/
theorem stopPa_sameMove {s : State} (hst : s.radio.state = .off ∨ s.radio.state = .sleep ∨ s.radio.state = .idle)
    (hcca : s.radio.cca = none) : SameMove s (stopPa s) := by
  have hmove : SameMove s (abandonAcks (paOff s)) := (paOff_sameMove s).trans (abandonAcks_sameMove _)
  unfold stopPa
  extract_lets t sending waiting src1 src2 u
  have hst' : t.radio.state = .off ∨ t.radio.state = .sleep ∨ t.radio.state = .idle := by rwa [hmove.state]
  have hsend : sending = false := by
    rcases hst' with h | h | h <;> simp [sending, upFrame, upAck, h]
  have hwait : waiting = false := by
    have ht : t.radio.cca = none := hmove.cca.trans hcca
    simp [waiting, ht]
  have hu : SameMove t u := ⟨rfl, rfl, (hmove.cca.trans hcca).symm, rfl, rfl⟩
  rw [hsend, hwait]
  exact hmove.trans hu

/-- A device that does nothing on the air enters SAFE without a move of the radio. -/
theorem enterSafe_sameMove {s : State} (hst : s.radio.state = .off ∨ s.radio.state = .sleep ∨ s.radio.state = .idle)
    (hcca : s.radio.cca = none) : SameMove s (enterSafe s) := by
  unfold enterSafe
  split
  · exact ((stopPa_sameMove hst hcca).trans (cancelDets_sameMove ..)).trans ⟨rfl, rfl, rfl, rfl, rfl⟩
  · exact .refl s

theorem enterSafe_dev {s : State} (h : s.sys.ready = true) : (enterSafe s).sys.dev = .safe := by
  unfold enterSafe
  split
  · rfl
  next hc =>
    rw [h] at hc
    simpa using hc

theorem enterSafe_frameClk (s : State) :
    Confined [.sys, .sup, .ring, .evtLost, .scarab, .rx, .radio, .net, .draws] s (enterSafe s) :=
  enterSafe_frame s (frame_refl _ s) (hw := by decide)

theorem halt_frameWide (n : Nat) (s : State) :
    Confined [.sup, .ring, .evtLost, .scarab, .rx, .radio, .net, .clk, .draws] s (halt n s) :=
  halt_frame n s (frame_refl _ s) (hw := by decide)

theorem mon_or_xofail_ne_zero (m : BitVec 3) : m ||| 1#3 ≠ 0#3 := by
  revert m
  decide

/-- What an XO failure leaves: HFRC as the reference, a DEGRADED time base, the latch, the radio off and SAFE. -/
theorem xoFail_effect (s : State) : (xoFail s).clk.xoFailed = true ∧ (xoFail s).clk.xoOk = false ∧
    (xoFail s).clk.refHfrc = true ∧ (xoFail s).clk.lock = false ∧ (xoFail s).clk.unlocks = s.clk.unlocks ∧
    (xoFail s).tb.state = tbDegraded ∧ alert (xoFail s) = true ∧ (xoFail s).radio.rxOn = false ∧
    (xoFail s).radio.cca = none ∧ (s.sys.ready = true → (xoFail s).sys.dev = .safe) := by
  have hfail : ∃ u, xoFail s = postLogged evClkFail 0 1 (enterSafe (halt 7 u)) ∧
      u.clk = { s.clk with
        xoOk := false, xoFailed := true, refHfrc := true, lock := false, restarts := 0, recent := 0
        mon := s.clk.mon ||| 1#3 } ∧ u.tb.state = tbDegraded ∧ u.sys = s.sys :=
    ⟨_, rfl, rfl, rfl, rfl⟩
  obtain ⟨u, hu, hclk, htb, hsys⟩ := hfail
  have hc : (xoFail s).clk = u.clk := by
    rw [hu, postLogged_clk, (enterSafe_frameClk _).same .clk (by decide), halt_clk]
    split
    · rw [hclk]
    · rfl
  have hl := halt_radio 7 u
  have hm := enterSafe_sameMove hl.2.2 hl.2.1
  have hlog := SameMove.of_confined (confined_postLogged evClkFail 0 1 (enterSafe (halt 7 u))) (by decide)
  refine ⟨by rw [hc, hclk], by rw [hc, hclk], by rw [hc, hclk], by rw [hc, hclk], by rw [hc, hclk], ?_, ?_, ?_, ?_, ?_⟩
  · have htb' : (xoFail s).tb = u.tb := by
      rw [hu]
      exact ((confined_postLogged ..).same .tb (by decide)).trans
        (((enterSafe_frameClk _).same .tb (by decide)).trans ((halt_frameWide 7 u).same .tb (by decide)))
    rw [htb', htb]
  · refine alert_of_mon_ne_zero ?_
    rw [hc, hclk]
    exact mon_or_xofail_ne_zero _
  · rw [hu, (hm.trans hlog).rxOn, hl.1]
  · rw [hu, (hm.trans hlog).cca, hl.2.1]
  · intro hr
    rw [hu, postLogged_sys]
    refine enterSafe_dev ?_
    have hs : (halt 7 u).sys = u.sys := (halt_frameWide 7 u).same .sys (by decide)
    rw [hs, hsys, hr]

theorem xoFail_powerOnly (s : State) : PowerOnly s (xoFail s) := by
  have hset : ∀ t a b, PowerOnly t { t with clk := a, tb := b } := fun _ _ _ => .of_sup rfl
  have hdraw : PowerOnly s (freeBits 32 s).2 := .of_sup rfl
  exact hdraw.trans ((hset _ _ _).trans ((halt_powerOnly 7 _).trans ((enterSafe_powerOnly _).trans
    (postLogged_powerOnly ..))))

theorem xoFail_boot (s : State) : (xoFail s).boot = s.boot :=
  (xoFail_frame (w := [.sys, .sup, .ring, .evtLost, .mortar, .repair, .scarab, .rx, .radio, .net, .tb, .clk, .draws]) s
    (frame_refl _ s) (hw := by decide)).same .boot (by decide)

theorem wakeIdle_sys (x : BitVec 7) (s : State) : (wakeIdle x s).sys = s.sys :=
  (wakeIdle_frame (w := [.sup, .ring, .evtLost, .mortar, .scarab, .rx, .radio, .pulse, .hod, .clk, .draws]) x s
    (frame_refl _ s) (hw := by decide)).same .sys (by decide)

/-- A wake ends in a device that is up. -/
theorem awake_wakeIdle (x : BitVec 7) (s : State) : awake (wakeIdle x s) = true := by
  have hreach : ∀ t, awake t = true → awake (reachIdle t) = true := by
    intro t ht
    unfold reachIdle
    split
    · have hset : ∀ a b, PowerOnly { t with sup := a, radio := b }
        (autoReceive (gotoIdle { t with sup := a, radio := b })) :=
        fun a b => (gotoIdle_powerOnly _).trans (autoReceive_powerOnly _)
      exact (hset _ _).awake ht
    · exact ht
  have hckpt : ∀ k t, awake t = true → awake (stageCkpt k t) = true := fun k t ht =>
    (PowerOnly.of_confined (stageCkpt_frame (w := [.mortar, .pulse]) k t (frame_refl _ t) (hw := by decide))
        (by decide)).awake ht
  have hfall : ∀ t, awake t = true → awake (fallTo 0 t) = true := by
    intro t ht
    have hp : (fallTo 0 t).sup.power = t.sup.power := by rw [fallTo_sup]
    rwa [awake_iff, hp, ← awake_iff]
  obtain ⟨u, hu, hup⟩ : ∃ u, wakeIdle x s = reachIdle (match (fallTo 0 u).hod.sleepCkpt with
      | some k => stageCkpt k { fallTo 0 u with hod := { (fallTo 0 u).hod with sleepCkpt := none } }
      | none => fallTo 0 u) ∧ awake u = true := ⟨_, rfl, rfl⟩
  rw [hu]
  refine hreach _ ?_
  split
  · exact hckpt _ _ (hfall u hup)
  · exact hfall u hup

/-- A loss of lock: lock is lost, and its latch is set. -/
theorem unlock_clk (s : State) : (unlock s).clk.lock = false ∧ (unlock s).clk.mon = s.clk.mon ||| 4#3 ∧
    (unlock s).clk.unlocks = s.clk.unlocks ∧ (unlock s).clk.xoFailed = s.clk.xoFailed := by
  have hrx : ∀ t, (startRx t).clk = t.clk := fun t =>
    (startRx_frame (w := [.sup, .ring, .evtLost, .rx, .radio, .draws]) t (frame_refl _ t) (hw := by decide)).same .clk
        (by decide)
  obtain ⟨u, v, hu, hv, hc⟩ : ∃ u v, unlock s =
        (if s.radio.rxOn && radioPermitted u && rxReady u then startRx u else u) ∧
      u = postLogged evClkFail 0 3 (halt 7 v) ∧
      v.clk = { s.clk with lock := false, restarts := 0, mon := s.clk.mon ||| 4#3 } := ⟨_, _, rfl, rfl, rfl⟩
  have hclk : (unlock s).clk = u.clk := by
    rw [hu]
    split
    · exact hrx u
    · rfl
  rw [hclk, hv, postLogged_clk, halt_clk, hc]
  split <;> exact ⟨rfl, rfl, rfl, rfl⟩

theorem stopPll_clk (s : State) : (stopPll s).clk = { s.clk with stopped := true, lock := false } := by
  have hfall : ∀ t, (fallTo 0 t).clk = t.clk := fun t => (fallTo_frameSup 0 t).same .clk (by decide)
  obtain ⟨u, hu, hc⟩ : ∃ u, stopPll s = reachIdle (fallTo 0 u) ∧ u.clk =
      { s.clk with stopped := true, lock := false } :=
    ⟨_, rfl, rfl⟩
  rw [hu, reachIdle_clk, hfall, hc]

/-- The device as the end of XO in a window of SNIFF finds it (R95). -/
def windowLost (s : State) : State :=
  { s with
    clk := { s.clk with xoOk := false, lock := false }
    radio := { s.radio with state := .sleep } }

theorem xoFailure_in_window {s : State} (hx : s.clk.xoOk = true) (hst : s.radio.state = .sniff) :
    xoFailure s = xoFail (wakeIdle 0 (windowLost s)) := by
  have hs : (s.radio.state == RadioState.sniff) = true := by rw [hst]; rfl
  rw [xoFailure, hx, if_neg (by decide), if_pos hs]
  rfl

/-- The device once a loss of lock is counted (R100). -/
def lossCounted (s : State) : State :=
  { s with clk := { s.clk with
    recent := min 2 (s.clk.recent + 1), unlocks := if s.clk.unlocks = 255 then s.clk.unlocks else s.clk.unlocks + 1 } }

theorem lossOfLock_of_locked {s : State} (hl : s.clk.lock = true) (within : Bool) : lossOfLock within s =
    if within && decide (2 ≤ s.clk.recent) then
      (if s.clk.refHfrc then stopPll (unlock (lossCounted s)) else xoFail (lossCounted s))
    else unlock (lossCounted s) := by
  simp only [lossOfLock, hl]
  rfl

theorem lossCounted_unlocks (s : State) :
    (lossCounted s).clk.unlocks = (if s.clk.unlocks = 255 then 255 else s.clk.unlocks + 1) := by
  show (if s.clk.unlocks = 255 then s.clk.unlocks else s.clk.unlocks + 1) = _
  split
  next h => exact h
  · rfl

/-- Settles O14: each way into an XO failure ends in the one operation, which halts the radio and enters SAFE. -/
theorem xoAndLockFailures : Obligations.XoAndLockFailures := by
  refine ⟨fun s hx hs hw => ?_, fun s hx hst hr => ?_, fun within s hl => ?_⟩
  · refine ⟨_, rfl, ?_⟩
    by_cases hst : s.radio.state = .sniff
    · rw [xoFailure_in_window hx hst]
      obtain ⟨h1, h2, h3, h4, -, h5, h6, h7, h8, h9⟩ := xoFail_effect (wakeIdle 0 (windowLost s))
      rw [wakeIdle_sys] at h9
      exact ⟨h1, h2, h3, h4, h5, h6, h7, h8, h9⟩
    · have h : xoFailure s = xoFail s := by
        have hres : resumeBoot (xoFail s) = xoFail s := resumeBoot_of_not_waiting (by rw [xoFail_boot, hw])
        simp [xoFailure, hx, hst, hs, hres]
      rw [h]
      obtain ⟨h1, h2, h3, h4, -, h5, h6, h7, h8, h9⟩ := xoFail_effect s
      exact ⟨h1, h2, h3, h4, h5, h6, h7, h8, h9⟩
  · refine ⟨_, rfl, ?_⟩
    rw [xoFailure_in_window hx hst]
    obtain ⟨h1, h2, -, -, -, -, h6, -, -, h9⟩ := xoFail_effect (wakeIdle 0 (windowLost s))
    rw [wakeIdle_sys] at h9
    have hup := (xoFail_powerOnly _).awake (awake_wakeIdle 0 (windowLost s))
    exact ⟨asleep_of_awake hup, h1, h2, h9 hr, h6⟩
  · obtain ⟨hul, hum, hun, hux⟩ := unlock_clk (lossCounted s)
    have hn := lossCounted_unlocks s
    refine ⟨_, rfl, ?_⟩
    rw [lossOfLock_of_locked hl]
    by_cases hthird : within = true ∧ 2 ≤ s.clk.recent
    · have hc : (within && decide (2 ≤ s.clk.recent)) = true := by simpa using hthird
      have hnot : ¬ (within = false ∨ s.clk.recent < 2) := by
        obtain ⟨rfl, h2⟩ := hthird
        simp only [Bool.true_eq_false, false_or]
        omega
      rw [if_pos hc]
      by_cases hh : s.clk.refHfrc = true
      · rw [if_pos hh, stopPll_clk]
        exact ⟨rfl, hun.trans hn, fun h => absurd (hh.symm.trans h.2.2) nofun, fun h => absurd h hnot⟩
      · rw [if_neg hh]
        obtain ⟨h1, -, -, h4, h5, -⟩ := xoFail_effect (lossCounted s)
        exact ⟨h4, h5.trans hn, fun _ => h1, fun h => absurd h hnot⟩
    · have hc : ¬ (within && decide (2 ≤ s.clk.recent)) = true := by simpa using hthird
      rw [if_neg hc]
      exact ⟨hul, hun.trans hn, fun h => absurd ⟨h.1, h.2.1⟩ hthird, fun _ => ⟨hum, hux⟩⟩

end Sys2Proof.Machine
end

section
/-! SUPPORT. O22: the die temperature and the thermal level (R60 to R67), which nothing but a sample moves. -/

namespace Sys2Proof.Machine

open Sys2Proof.Safety

/-- The samples of the die temperature, their counts and the thermal level are the same. -/
structure ThermKept (r s : State) : Prop where
  temp      : s.sup.temp = r.sup.temp
  samples   : s.sup.samples = r.sup.samples
  badRun    : s.sup.badRun = r.sup.badRun
  discards  : s.sup.discards = r.sup.discards
  crossings : s.sup.crossings = r.sup.crossings
  therm     : s.sup.therm = r.sup.therm

theorem ThermKept.refl (s : State) : ThermKept s s := ⟨rfl, rfl, rfl, rfl, rfl, rfl⟩

theorem ThermKept.trans {r s t : State} (h : ThermKept r s) (k : ThermKept s t) : ThermKept r t :=
  ⟨k.temp.trans h.temp, k.samples.trans h.samples, k.badRun.trans h.badRun, k.discards.trans h.discards,
    k.crossings.trans h.crossings, k.therm.trans h.therm⟩

theorem ThermKept.of_powerOnly {r s : State} (h : PowerOnly r s) : ThermKept r s := by
  refine ⟨?_, ?_, ?_, ?_, ?_, ?_⟩ <;> rw [h.sup]

theorem ThermKept.of_sup {r s : State} (h : s.sup = r.sup) : ThermKept r s := .of_powerOnly (.of_sup h)

theorem ThermKept.of_confined {w : List Part} {r s : State} (h : Confined w r s) (hw : Part.sup ∉ w) :
    ThermKept r s :=
  .of_powerOnly (.of_confined h hw)

theorem ThermKept.ite {r a b : State} {c : Prop} [Decidable c] (ha : ThermKept r a) (hb : ThermKept r b) :
    ThermKept r (if c then a else b) := by
  split <;> assumption

theorem foldl_thermKept {α : Type} (f : State → α → State) (h : ∀ t a, ThermKept t (f t a)) (l : List α) (s : State) :
    ThermKept s (l.foldl f s) := by
  induction l generalizing s with
  | nil => exact .refl s
  | cons a l ih => exact (h s a).trans (ih _)

-- The lines of the pulse inputs

theorem requestWake_thermKept (b : Nat) (s : State) : ThermKept s (requestWake b s) := by
  unfold requestWake
  split
  · exact ⟨rfl, rfl, rfl, rfl, rfl, rfl⟩
  · exact .refl s

theorem setPulse_thermKept (n : Nat) (c : PulseCh) (s : State) : ThermKept s (setPulse n c s) := .of_sup rfl

theorem setLine_thermKept (n : Nat) (v : LineState) (s : State) : ThermKept s (setLine n v s) := by
  have hpost : ∀ a b c t, ThermKept t (post a b c t) := fun a b c t => .of_sup (post_sup a b c t)
  unfold setLine
  extract_lets c t
  exact .ite (setPulse_thermKept ..)
    (.ite (setPulse_thermKept ..) ((setPulse_thermKept ..).trans ((hpost ..).trans (requestWake_thermKept ..))))

theorem supervise_thermKept (n : Nat) (code : AdcCode) (s : State) : ThermKept s (supervise n code s) := by
  have hp := setPulse_thermKept
  have hl := setLine_thermKept
  have hset : ∀ t a, ThermKept t { t with pulse := a } := fun _ _ => .of_sup rfl
  unfold supervise
  extract_lets src c t
  refine (hp n c s).trans ?_
  split
  · exact (hset _ _).trans (.ite (hl ..) (hp ..))
  · refine .ite (hl ..) (.ite (hp ..) ?_)
    exact (hp n _ _).trans (.ite (hl ..) (.refl _))

theorem startChannel_thermKept (n : Nat) (s : State) : ThermKept s (startChannel n s) := by
  have hcode : ∀ t, ThermKept t (takeCode [] t).2.2 := fun t =>
    .of_confined (takeCode_frame (w := [.draws]) [] t (frame_refl _ t) (hw := by decide)) (by decide)
  unfold startChannel
  extract_lets c t src u x
  have ht : ThermKept s t := (setPulse_thermKept ..).trans (setLine_thermKept ..)
  have hu : ThermKept t u := setPulse_thermKept ..
  exact .ite ht (.ite (ht.trans (hu.trans ((hcode u).trans (supervise_thermKept ..)))) (ht.trans hu))

theorem setPulseCfg_thermKept (n v : Nat) (s : State) : ThermKept s (setPulseCfg n v s) := by
  have hset : ∀ k b, ThermKept s (setLive s k b) := fun _ _ => .of_sup rfl
  exact (hset _ _).trans (.ite (startChannel_thermKept ..) (.ite (.refl _) (setPulse_thermKept ..)))

-- The effects of an entry

theorem enableBlock_thermKept (s : State) (n : Nat) : ThermKept s (enableBlock s n) := by
  have hgate : ThermKept s (gateBlock n s) := by
    unfold gateBlock
    split
    · exact ⟨rfl, rfl, rfl, rfl, rfl, rfl⟩
    · exact .of_sup rfl
  have hrise : ∀ m, ThermKept s { s with sup := { s.sup with rising := m } } := fun _ => ⟨rfl, rfl, rfl, rfl, rfl, rfl⟩
  have hclk : ∀ c, ThermKept s { s with clk := c } := fun _ => .of_sup rfl
  exact .ite (.ite (.refl s) (.ite (hrise _) (hclk _))) (.ite (.refl s) hgate)

theorem applyEnables_thermKept (s : State) : ThermKept s (applyEnables s) :=
  (foldl_thermKept _ enableBlock_thermKept blocks s).trans
    (.of_powerOnly ((judgeOff_powerOnly _).trans (autoReceive_powerOnly _)))

theorem plumbEffect_thermKept (s : State) : ThermKept s (plumbEffect s) := by
  have hset : ∀ a b c, ThermKept s { s with sup := { s.sup with vcore := a, vend := b, trims := c } } :=
    fun _ _ _ => ⟨rfl, rfl, rfl, rfl, rfl, rfl⟩
  exact .ite (.refl s) (hset _ _ _)

theorem channelsChanged_powerOnly (s t : State) : PowerOnly t (channelsChanged s t) :=
  (PowerOnly.of_confined (judgeFloors_frame (w := [.rx]) s t (frame_refl _ t) (hw := by decide)) (by decide)).trans
      (retuneRx_powerOnly _)

theorem cancelChanged_powerOnly (s : State) : PowerOnly s (cancelChanged s) :=
  .of_confined (cancelChanged_frame (w := [.ring, .evtLost, .scarab, .rx, .draws]) s (frame_refl _ s)
      (hw := by decide)) (by decide)

theorem entryEffect_thermKept (key : Nat) (old s : State) : ThermKept s (entryEffect key old s) := by
  have htb : ThermKept s (tbModeEffect s) :=
    .of_confined (tbModeEffect_frame (w := [.tb]) s (frame_refl _ s) (hw := by decide)) (by decide)
  have hfcw : ThermKept s (refreshFcw s) := .of_sup rfl
  have hsw : ThermKept s (swEnEffect s) :=
    .of_confined (swEnEffect_frame (w := [.swarm]) s (frame_refl _ s) (hw := by decide)) (by decide)
  have hpol : ThermKept s (polarityEffect s) :=
    .of_confined (polarityEffect_frame (w := [.field]) s (frame_refl _ s) (hw := by decide)) (by decide)
  have hset : ∀ a, ThermKept s { s with scarab := a } := fun _ => .of_sup rfl
  exact .ite (applyEnables_thermKept s) (.ite htb (.ite (.ite hfcw (.refl s)) (.ite hsw (.ite (plumbEffect_thermKept s)
    (.ite hpol (.ite (.of_powerOnly (channelsChanged_powerOnly old s))
      (.ite ((hset _).trans (.of_powerOnly (cancelChanged_powerOnly _))) (.refl s))))))))

theorem setEntry_thermKept (key : Nat) (b : Bytes) (s : State) : ThermKept s (setEntry key b s) := by
  have hsys : ∀ a, ThermKept s { s with sys := a } := fun _ => .of_sup rfl
  have hattr : ∀ v, ThermKept s (setQAttr v s) := fun v =>
    .of_confined (setQAttr_frame (w := [.qe]) v s (frame_refl _ s) (hw := by decide)) (by decide)
  have hpoll : ∀ v, ThermKept s (setPollAttr v s) := fun v =>
    .of_confined (setPollAttr_frame (w := [.net]) v s (frame_refl _ s) (hw := by decide)) (by decide)
  have hcmpCfg : ∀ n v, ThermKept s (setCmpCfg n v s) := fun n v =>
    .of_confined (setCmpCfg_frame (w := [.live, .timer]) n v s (frame_refl _ s) (hw := by decide)) (by decide)
  have hcmp : ∀ n c, ThermKept s (setCmp n c s) := fun _ _ => .of_sup rfl
  have hcap : ∀ n v, ThermKept s (setCapCfg n v s) := fun n v =>
    .of_confined (setCapCfg_frame (w := [.live, .timer]) n v s (frame_refl _ s) (hw := by decide)) (by decide)
  have hcntCfg : ∀ n v, ThermKept s (setCntCfg n v s) := fun n v =>
    .of_confined (setCntCfg_frame (w := [.live, .timer]) n v s (frame_refl _ s) (hw := by decide)) (by decide)
  have hcnt : ∀ n c, ThermKept s (setCnt n c s) := fun _ _ => .of_sup rfl
  have hhold : ∀ t, ThermKept t (holdSetting key s t) := fun t =>
    .of_confined (holdSetting_frame (w := [.radio]) key s t (frame_refl _ t) (hw := by decide)) (by decide)
  have hlive : ∀ v, ThermKept s (setLive s key v) := fun _ => .of_sup rfl
  exact .ite (hsys _) (.ite (hattr _) (.ite (hpoll _) (.ite (hcmpCfg ..) (.ite (hcmp ..) (.ite (hcmp ..)
    (.ite (hcap ..) (.ite (hcap ..) (.ite (hcntCfg ..) (.ite (hcnt ..) (.ite (setPulseCfg_thermKept ..)
      ((hlive _).trans ((hhold _).trans (entryEffect_thermKept ..)))))))))))))

theorem recompute_thermKept (keys : List Nat) (s : State) : ThermKept s (recompute keys s) :=
  foldl_thermKept _ (fun t k => setEntry_thermKept k _ t) keys s

-- BOD_WARN

theorem loseCommits_powerOnly (s : State) : PowerOnly s (loseCommits s) :=
  .of_confined (loseCommits_frame (w := [.ring, .evtLost, .radio]) s (frame_refl _ s) (hw := by decide)) (by decide)

theorem powerFail_powerOnly (run : CommitRun) (s : State) : PowerOnly s (powerFail run s) :=
  .of_confined (powerFail_frame (w := [.mortar, .jrn, .pulse, .hod]) run s (frame_refl _ s) (hw := by decide))
      (by decide)

theorem fallTo_thermKept (p : Fin 4) (s : State) : ThermKept s (fallTo p s) := by
  refine ⟨?_, ?_, ?_, ?_, ?_, ?_⟩ <;> rw [fallTo_sup]

/-- The device with BOD_WARN in force, before Lintel falls and the commit runs (R50). -/
def warnedState (s : State) : State :=
  let t := halt 7 (loseCommits (post evBodWarn 0 1 s))
  { t with
    sup := { t.sup with bodWarn := true, bodRx := s.radio.rxOn }
    repair := { t.repair with migrating := [] } }

theorem enterBod_eq (run : CommitRun) (s : State) : enterBod run s =
    powerFail run (if 1 < (warnedState s).sup.op.val then fallTo 1 (warnedState s) else warnedState s) := rfl

theorem enterBod_thermKept (run : CommitRun) (s : State) : ThermKept s (enterBod run s) := by
  have hhalt : ThermKept s (halt 7 (loseCommits (post evBodWarn 0 1 s))) :=
    .of_powerOnly ((post_powerOnly ..).trans ((loseCommits_powerOnly _).trans (halt_powerOnly 7 _)))
  have hset : ∀ t a b r, ThermKept t { t with sup := { t.sup with bodWarn := a, bodRx := b }, repair := r } :=
    fun _ _ _ _ => ⟨rfl, rfl, rfl, rfl, rfl, rfl⟩
  have hk : ThermKept (halt 7 (loseCommits (post evBodWarn 0 1 s))) (warnedState s) := hset (halt 7 _) _ _ _
  rw [enterBod_eq]
  refine hhalt.trans (hk.trans (ThermKept.trans ?_ (.of_powerOnly (powerFail_powerOnly ..))))
  split
  · exact fallTo_thermKept ..
  · exact .refl _

-- The boot

theorem footingPhase_thermKept (s : State) : ThermKept s (footingPhase s) := by
  have hlive : ∀ t a, ThermKept t { t with live := a } := fun _ _ => .of_sup rfl
  have htables : ∀ t, ThermKept t (bootCourse (loadTables t)) := fun t =>
    .of_confined (bootCourse_frame (w := [.boot, .courses, .qe, .net]) _
        (loadTables_frame t (frame_refl _ t) (hw := by decide)) (hw := by decide)) (by decide)
  have hrole : ∀ t a, ThermKept t { t with sys := a } := fun _ _ => .of_sup rfl
  have hclk : ∀ t, ThermKept t (bootClocks t) := fun _ => .of_sup rfl
  have hlast : ∀ t a b, ThermKept t { t with pulse := a, field := b } := fun _ _ _ => .of_sup rfl
  exact (hlive s _).trans ((htables _).trans ((hrole _ _).trans ((hclk _).trans ((recompute_thermKept ..).trans
    (hlast _ _ _)))))

theorem phaseWork_thermKept {p : Nat} {run : BootRun} {s t : State} (h : phaseWork p run s = some t) :
    ThermKept s t := by
  unfold phaseWork at h
  split at h
  · obtain rfl := Option.some.inj h
    exact .of_confined (w := wide.erase .sup) (factoryPhase_frame _ (frame_refl _ s) (hw := by decide)) (by decide)
  split at h
  · obtain rfl := Option.some.inj h
    exact .of_sup rfl
  split at h
  · obtain rfl := Option.some.inj h
    exact .of_confined (w := wide.erase .sup) (mountPhase_frame _ _ (frame_refl _ s) (hw := by decide)) (by decide)
  split at h
  · obtain rfl := Option.some.inj h
    exact .of_confined (w := wide.erase .sup) (repairPhase_frame _ _ (frame_refl _ s) (hw := by decide)) (by decide)
  split at h
  · exact .of_confined (w := wide.erase .sup) (queuePhase_frame run s t (frame_refl _ s) h (hw := by decide))
      (by decide)
  split at h
  · obtain rfl := Option.some.inj h
    exact footingPhase_thermKept s
  · obtain rfl := Option.some.inj h
    exact .refl s

theorem reportReady_thermKept (run : BootRun) (s : State) : ThermKept s (reportReady run s) := by
  have harm : ∀ t, ThermKept t (armBod t) := by
    have hdraw : ∀ t, ThermKept t (freeBits 16 (freeBits 16 t).2).2 := fun _ => .of_sup rfl
    exact fun t => .ite ((hdraw t).trans (enterBod_thermKept ..)) (.refl t)
  have hlater : ∀ t, ThermKept t (autoReceive (judgeOff (armBod (leaveBootTb t)))) := fun t =>
    (ThermKept.of_confined (leaveBootTb_frame (w := [.tb]) t (frame_refl _ t) (hw := by decide)) (by decide)).trans
      ((harm _).trans (.of_powerOnly ((judgeOff_powerOnly _).trans (autoReceive_powerOnly _))))
  have hrestore : ∀ t : State, ThermKept t
      (if t.boot.anew && !t.sys.skipped then (restoresOf t).foldl (fun t q => unrestore q t) t else t) := fun t =>
    .of_confined (w := [.qe])
      (frame_ite (foldl_frame _ _ _ (frame_refl _ t) fun u q hu => unrestore_frame q u hu (hw := by decide))
          (frame_refl _ t)) (by decide)
  have hready : ∀ t a b, ThermKept t { t with sys := a, boot := b } := fun _ _ _ => .of_sup rfl
  have hmap : ∀ t : State, ThermKept t
      (if mapUnreadable t.mortar && !t.sys.skipped then postRepair 0 0xFFFFFFFF t else t) := fun t =>
    .of_confined (w := [.ring, .evtLost, .mortar, .repair])
      (frame_ite (postRepair_frame _ _ _ (frame_refl _ t) (hw := by decide)) (frame_refl _ t)) (by decide)
  exact (hrestore s).trans ((hready _ _ _).trans ((hmap _).trans (hlater _)))

theorem runPhases_thermKept (l : List Nat) (run : BootRun) (s : State) : ThermKept s (runPhases l run s) := by
  induction l generalizing s with
  | nil => exact reportReady_thermKept run s
  | cons p ps ih =>
    have hboot : ∀ t a, ThermKept t { t with boot := a } := fun _ _ => .of_sup rfl
    have hmount : ∀ t, ThermKept t (if p = 2 then mountPhase run.mountUs t else t) := fun t =>
      .of_confined (w := wide.erase .sup) (frame_ite (mountPhase_frame _ _ (frame_refl _ t) (hw := by decide))
          (frame_refl _ t)) (by decide)
    rw [runPhases]
    refine (hboot s { s.boot with phase := Fin.ofNat 8 p }).trans ?_
    generalize { s with boot := { s.boot with phase := Fin.ofNat 8 p } } = t
    dsimp only
    split
    · exact (hmount t).trans (hboot _ _)
    · split
      case h_1 v hv => exact (phaseWork_thermKept hv).trans (ih v)
      case h_2 => exact hboot _ _

theorem resumeQueues_thermKept (s : State) : ThermKept s (resumeQueues s) := by
  have hboot : ∀ a, ThermKept s { s with boot := a } := fun _ => .of_sup rfl
  unfold resumeQueues
  split
  · exact .ite ((hboot _).trans (runPhases_thermKept ..)) (.refl s)
  · exact .refl s

/-- A boot that waits in phase 5 stays there while the level is HOT. -/
theorem resumeQueues_of_hot {s : State} (h : hot s = true) : resumeQueues s = s := by
  unfold resumeQueues
  split
  · simp [h]
  · rfl

-- A change of the level

/-- The samples of the die temperature and their counts are the same, whatever the level. -/
structure SamplesKept (r s : State) : Prop where
  temp      : s.sup.temp = r.sup.temp
  samples   : s.sup.samples = r.sup.samples
  badRun    : s.sup.badRun = r.sup.badRun
  discards  : s.sup.discards = r.sup.discards
  crossings : s.sup.crossings = r.sup.crossings

theorem SamplesKept.refl (s : State) : SamplesKept s s := ⟨rfl, rfl, rfl, rfl, rfl⟩

theorem SamplesKept.trans {r s t : State} (h : SamplesKept r s) (k : SamplesKept s t) : SamplesKept r t :=
  ⟨k.temp.trans h.temp, k.samples.trans h.samples, k.badRun.trans h.badRun, k.discards.trans h.discards,
    k.crossings.trans h.crossings⟩

theorem ThermKept.samplesKept {r s : State} (h : ThermKept r s) : SamplesKept r s :=
  ⟨h.temp, h.samples, h.badRun, h.discards, h.crossings⟩

/-- A level that is set is entered, with the samples as they were. -/
theorem setTherm_level (level flag : Nat) (s : State) :
    SamplesKept s (setTherm level flag s) ∧ (setTherm level flag s).sup.therm = Fin.ofNat 4 level := by
  obtain ⟨u, hu, hk, hl⟩ : ∃ u, setTherm level flag s = endSecond (if level = 3 then
        enterSafe (stopPa (if level = 3 then
          postLogged evThermStep 0 (BitVec.ofNat 32 (s.sup.therm.val + 256 * level + 65536 * flag)) u
          else post evThermStep 0 (BitVec.ofNat 32 (s.sup.therm.val + 256 * level + 65536 * flag)) u))
        else (if level = 3 then
          postLogged evThermStep 0 (BitVec.ofNat 32 (s.sup.therm.val + 256 * level + 65536 * flag)) u
          else post evThermStep 0 (BitVec.ofNat 32 (s.sup.therm.val + 256 * level + 65536 * flag)) u)) ∧
      SamplesKept s u ∧ u.sup.therm = Fin.ofNat 4 level :=
    ⟨_, rfl, ⟨rfl, rfl, rfl, rfl, rfl⟩, rfl⟩
  have hlog : ∀ arg, PowerOnly u (if level = 3 then postLogged evThermStep 0 arg u else post evThermStep 0 arg u) :=
    fun arg => .ite (postLogged_powerOnly ..) (post_powerOnly ..)
  have hall : PowerOnly u (setTherm level flag s) := by
    rw [hu]
    exact (PowerOnly.ite ((hlog _).trans ((stopPa_powerOnly _).trans (enterSafe_powerOnly _))) (hlog _)).trans
      (endSecond_powerOnly _)
  exact ⟨hk.trans (ThermKept.of_powerOnly hall).samplesKept, (ThermKept.of_powerOnly hall).therm.trans hl⟩

theorem judgeTherm_samplesKept (s : State) : SamplesKept s (judgeTherm s) := by
  have hcrit : SamplesKept s (enterCrit s) := by
    have hfold : ∀ (l : List Nat) (t : State),
        SamplesKept t (l.foldl (fun t l => if t.sup.therm.val < l then setTherm l 0 t else t) t) := by
      intro l
      induction l with
      | nil => exact .refl
      | cons a l ih =>
        intro t
        refine SamplesKept.trans ?_ (ih _)
        dsimp only
        split
        · exact (setTherm_level a 0 t).1
        · exact .refl t
    exact hfold _ s
  unfold judgeTherm
  extract_lets l all
  split
  · exact hcrit
  split
  · exact .refl s
  split
  · exact (setTherm_level ..).1
  split
  · exact (setTherm_level ..).1
  · exact .refl s

-- A sample

/-- The supply with a valid sample taken in (R61). -/
def sampled (temp : Half) (s : State) : State :=
  { s with sup := { s.sup with
      temp := temp, sampled := true, badRun := 0
      crossings := incBy (if s.sup.sampled then crossed s.sup.temp.toInt temp.toInt else 0) s.sup.crossings
      samples := (temp :: s.sup.samples).take 8 } }

/-- The supply with a sample out of range discarded (R64). -/
def discarded (s : State) : State :=
  { s with sup := { s.sup with discards := inc s.sup.discards, badRun := s.sup.badRun + 1 } }

theorem thermSample_of_valid {temp : Half} {s : State} (ha : awake s = true) (hw : s.sup.waking = false)
    (ht : ¬ (temp.toInt < -550 ∨ 1500 < temp.toInt)) : thermSample temp s = judgeTherm (sampled temp s) := by
  have hup : ¬ (!awake s || s.sup.waking) = true := by simp [ha, hw]
  rw [thermSample, if_neg hup, if_neg ht]
  rfl

theorem thermSample_of_bad {temp : Half} {s : State} (ha : awake s = true) (hw : s.sup.waking = false)
    (ht : temp.toInt < -550 ∨ 1500 < temp.toInt) : thermSample temp s =
      if s.sup.badRun + 1 = 8 then
        senseLost { discarded s with sup := { (discarded s).sup with samples := [] } }
      else discarded s := by
  have hup : ¬ (!awake s || s.sup.waking) = true := by simp [ha, hw]
  rw [thermSample, if_neg hup, if_pos ht]
  rfl

/-- Eight samples out of range leave the level at HOT or the higher one in force. -/
theorem senseLost_level (s : State) : (senseLost s).sup.temp = s.sup.temp ∧
    (senseLost s).sup.discards = s.sup.discards ∧
    (senseLost s).sup.badRun = s.sup.badRun ∧ (s.sup.therm.val < 2 → (senseLost s).sup.therm = 2) ∧
    (¬ s.sup.therm.val < 2 → (senseLost s).sup.therm = s.sup.therm) := by
  unfold senseLost
  extract_lets l arg
  split
  next h =>
    obtain ⟨hk, hl⟩ := setTherm_level 2 1 s
    exact ⟨hk.temp, hk.discards, hk.badRun, fun _ => hl, fun hn => absurd h hn⟩
  next h =>
    have hk : PowerOnly s (if l = 3 then postLogged evThermStep 0 arg s else post evThermStep 0 arg s) :=
      .ite (postLogged_powerOnly ..) (post_powerOnly ..)
    have hk' := ThermKept.of_powerOnly hk
    exact ⟨hk'.temp, hk'.discards, hk'.badRun, fun hl => absurd hl h, fun _ => hk'.therm⟩

/-- Eight samples out of range at HOT post THERM_STEP with bit 16. -/
theorem senseLost_ring {s : State} (h : s.sup.therm = 2) (hp : hasPlace s.ring evThermStep = true) :
    (senseLost s).ring = s.ring ++ [⟨evThermStep, 0, s.timer.time.setWidth 48, 2 + 256 * 2 + 65536⟩] := by
  have hl : s.sup.therm.val = 2 := by rw [h]; rfl
  have hs : senseLost s = post evThermStep 0 (2 + 256 * 2 + 65536) s := by
    unfold senseLost
    simp [hl]
  rw [hs]
  exact post_ring_of_hasPlace _ _ (unmasked_of_keptEvent s rfl) hp

/-- Settles O22: the level is judged after the sample has been taken, and a boot that has waited for HOT to end keeps
both. -/
theorem thermSamples : Obligations.ThermSamples := by
  intro temp s ha hw
  refine ⟨fun ht => ⟨_, rfl, ?_⟩, fun ht => ⟨_, rfl, ?_⟩⟩
  · have hk : SamplesKept (sampled temp s) (thermSampled temp s) := by
      rw [thermSampled, thermSample_of_valid ha hw (by omega)]
      exact (judgeTherm_samplesKept _).trans (resumeQueues_thermKept _).samplesKept
    exact ⟨hk.temp, hk.samples, hk.badRun, hk.crossings⟩
  · by_cases h8 : s.sup.badRun + 1 = 8
    · have h7 : s.sup.badRun = 7 := by omega
      obtain ⟨hdeg, hdis, hrun, hlow, hhigh⟩ :=
        senseLost_level { discarded s with sup := { (discarded s).sup with samples := [] } }
      have hsample : thermSample temp s = senseLost { discarded s with
          sup := { (discarded s).sup with samples := [] } } := by
        rw [thermSample_of_bad ha hw ht, if_pos h8]
      have hhot : hot (thermSample temp s) = true := by
        rw [hsample, hot]
        by_cases hl : s.sup.therm.val < 2
        · rw [hlow hl]
          rfl
        · rw [hhigh hl]
          exact decide_eq_true (Nat.le_of_not_lt hl)
      have hend : thermSampled temp s = senseLost { discarded s with
          sup := { (discarded s).sup with samples := [] } } := by
        rw [thermSampled, resumeQueues_of_hot hhot, hsample]
      rw [hend]
      refine ⟨hdeg, hdis, hrun, fun _ => hlow, fun _ h2 hp => ⟨?_, ?_⟩, fun hn => absurd h7 hn⟩
      · have hn : ¬ s.sup.therm.val < 2 := by rw [h2]; decide
        exact (hhigh hn).trans h2
      · exact senseLost_ring h2 hp
    · have hk : ThermKept (discarded s) (thermSampled temp s) := by
        rw [thermSampled, thermSample_of_bad ha hw ht, if_neg h8]
        exact resumeQueues_thermKept _
      exact ⟨hk.temp, hk.discards, hk.badRun, fun h => absurd h (by omega), fun h => absurd h (by omega),
          fun _ => hk.therm⟩

end Sys2Proof.Machine
end

section
/-! SUPPORT. O11 and O12 fail at one state: BOD_WARN rejects a Course commit that is not sealed, the engine is free
then, and a request for SHUTDOWN that has waited behind the commit is served in the same step. SHUTDOWN ends BOD_WARN
(R41). -/

namespace Sys2Proof.Machine

open Sys2Proof.Safety

/-- A device in CONFIG whose engine waits for the seal of a Course commit of the host, with a request of the field port
for SHUTDOWN behind it. -/
def sleepBehindImage : State :=
  { State.reset with
    sys := { State.reset.sys with ready := true, dev := .config }
    sup := { State.reset.sup with power := .idle }
    engine := { State.reset.engine with
      job := some (writeRequest .spi 1 K.imageCommit [], .seal false)
      waits := [writeRequest .field 2 K.pstateCmd [1]] } }

/-- What the power-fail commit of the reversal measures. -/
def reversalRun : CommitRun := ⟨100, 900, []⟩

/-- BOD_WARN is armed there and not in force, and no sleep is pending; the reversal ends in SHUTDOWN, where BOD_WARN is
not in force. -/
theorem sleepBehindImage_run : bodArmed sleepBehindImage = true ∧ sleepBehindImage.sup.bodWarn = false ∧
    sleepBehindImage.sup.sleepDue = none ∧
    (bodSettled (vinReversal reversalRun sleepBehindImage)).sup.bodWarn = false := by
  decide +kernel

/-- Refutes O11: a VIN reversal with BOD_WARN armed and no sleep pending leaves BOD_WARN not in force, where the request
that waits behind a rejected Course commit takes the device into SHUTDOWN. -/
theorem not_bodWarnComesAndGoes : ¬ Obligations.BodWarnComesAndGoes := by
  rintro ⟨-, -, hreversal⟩
  obtain ⟨harmed, -, hdue, hreversed⟩ := sleepBehindImage_run
  obtain ⟨t, ht, -, hwarn⟩ := hreversal reversalRun sleepBehindImage
  obtain rfl := Host.Outcome.next.inj ht
  exact Bool.false_ne_true (hreversed.symm.trans (hwarn harmed hdue))

/-- Refutes O12: the same reversal does not bring BOD_WARN into force. -/
theorem not_pinSuppliesComeAndGo : ¬ Obligations.PinSuppliesComeAndGo := by
  rintro ⟨hreversal, -⟩
  obtain ⟨harmed, hoff, hdue, hreversed⟩ := sleepBehindImage_run
  obtain ⟨t, ht, -, -, -, -, hwarn⟩ := hreversal reversalRun sleepBehindImage
  obtain rfl := Host.Outcome.next.inj ht
  exact Bool.false_ne_true (hreversed.symm.trans (hwarn harmed hoff hdue).1)

end Sys2Proof.Machine
end

section
/-! SUPPORT. O18: a request for a sleep state, by its register or its entry, and the entry of the state (R40 to R42). -/

namespace Sys2Proof.Machine

open Sys2Proof.Safety

-- The request

/-- A sleep state is entered at once where nothing has to end before it. -/
theorem requestSleep_of_idle {c : Fin 8} {s : State} (hm : s.mortar.waiting2 = []) (hr : s.radio.commits = []) :
    requestSleep c s = enterSleep c.val { s with sup := { s.sup with sleepDue := none, wakeReq := 0 } } := by
  simp [requestSleep, finishSleep, hm, hr]

theorem requestSleep_frameSleep (c : Fin 8) (s : State) : Confined [.sys, .sup, .ring, .evtLost, .mortar, .jrn, .qe,
    .repair, .rx, .radio, .pulse, .hod, .clk, .draws] s (requestSleep c s) :=
  requestSleep_frame c s (frame_refl _ s) (hw := by decide)

/-- What a port has been told depends on the port's own parts alone. -/
theorem Answered.of_parts {r : Request} {code : Half} {value : Bytes} {s t : State} (h : Answered r code value s)
    (hs : t.spi = s.spi) (hf : t.field = s.field) (hn : t.net = s.net) : Answered r code value t := by
  unfold Answered at *
  cases hp : r.port <;> simp only [hp, hs, hf, hn] at * <;> exact h

theorem hostWrite_pstate {s : State} {c : Fin 8} (h1 : 1 ≤ c.val) (h3 : c.val ≤ 3) (hr : rdy s = true)
    (hstate : stateRefusal s K.pstateCmd c.val true = none) (hbusy : busyRefusal s K.pstateCmd c.val true = false) :
    hostWrite 0x0804 c.val [] s = requestSleep c s := by
  have hval : (regValue s 0x0804).isNone = false := rfl
  have hc : field c.val 0 3 = c.val := by
    have := c.isLt
    simp only [field]
    omega
  have hwrite : writeReg 0x0804 c.val [] s = requestSleep c s := by
    simp [writeReg, writeEarly, hc, command, h1, h3, hstate, hbusy]
  simp only [hostWrite, hval, Bool.false_eq_true, if_false]
  rw [if_pos (by decide), if_pos hr, hwrite]

theorem perform_pstate {r : Request} {codes : List AdcCode} {s : State} (hw : r.write = true)
    (hk : r.key = K.pstateCmd) :
    perform r codes s = requestSleep (Fin.ofNat 8 r.num) (respond r abOk [] s) := by
  simp [perform, hw, hk]

/-- A request for a sleep state that passes its tests is acknowledged, and the sleep is requested of the state. -/
theorem pstate_taken {via : Via} {c : Fin 8} {s : State} (h1 : 1 ≤ c.val) (h3 : c.val ≤ 3)
    (h : Takes via 0x0804 K.pstateCmd c.val [BitVec.ofNat 8 c.val] s) :
    ∃ p m u, control via 0x0804 K.pstateCmd c.val [BitVec.ofNat 8 c.val] s = sent p m (requestSleep c u) ∧
      Told via K.pstateCmd [BitVec.ofNat 8 c.val] (sent p m (requestSleep c u)) ∧
      u.mortar = s.mortar ∧ u.radio = s.radio ∧ u.live = s.live := by
  cases via
  case register =>
    obtain ⟨⟨⟨hp, hr⟩, -⟩, hstate, hbusy⟩ := h
    refine ⟨.spi, statusByte s :: zeros (7 + c8Len (cleared s)), cleared s, ?_, ?_, rfl, rfl, rfl⟩
    · have hctl : ∀ v, control .register 0x0804 K.pstateCmd v [BitVec.ofNat 8 v] s = hostRegister 0x0804 v [] s :=
        fun _ => rfl
      rw [hctl, hostRegister_of_spiPresent hp, hostWrite_pstate (s := cleared s) h1 h3 hr hstate hbusy]
    · have hspi : (requestSleep c (cleared s)).spi = (cleared s).spi :=
        (requestSleep_frameSleep c (cleared s)).same .spi (by decide)
      show (requestSleep c (cleared s)).spi.err = false
      rw [hspi]
      rfl
  case dict port tag =>
    obtain ⟨m, hm⟩ := dictWrite_of_passes h
    have hval : ∀ c : Fin 8, Fin.ofNat 8 (leNat [BitVec.ofNat 8 c.val]) = c := by decide
    have hnum : Fin.ofNat 8 (writeRequest port tag K.pstateCmd [BitVec.ofNat 8 c.val]).num = c := hval c
    rw [perform_pstate (writeRequest_write ..) (writeRequest_key port tag _ (by decide)), hnum] at hm
    generalize hr : writeRequest port tag K.pstateCmd [BitVec.ofNat 8 c.val] = r at hm
    have hport : r.port = port := by rw [← hr]; rfl
    have hframe := requestSleep_frameSleep c (respond r abOk [] (atEngine port s))
    have hans : Answered r abOk [] (requestSleep c (respond r abOk [] (atEngine port s))) := by
      refine Answered.of_parts (answered_respond abOk [] ?_) (hframe.same .spi (by decide))
        (hframe.same .field (by decide)) (hframe.same .net (by decide))
      rw [hport]
      exact not_mute_of_portFree h.1
    refine ⟨port, m, respond r abOk [] (atEngine port s), hm, ?_, ?_, ?_, ?_⟩
    · show Answered (writeRequest port tag K.pstateCmd [BitVec.ofNat 8 c.val]) abOk [] _
      rw [hr, ← hport]
      rw [← hport] at hans
      exact answered_sent hans
    · rw [respond_eq, atEngine_eq]
    · rw [respond_eq, atEngine_eq]
    · rw [respond_eq, atEngine_eq]

-- The entry

/-- What the clocks, the radio and the supply are in a sleep state. -/
structure Stopped (power : PowerState) (s : State) : Prop where
  power : s.sup.power = power
  op    : s.sup.op = 0
  radio : s.radio.state = .sleep
  xoOk  : s.clk.xoOk = false
  run1  : s.clk.run1 = 0

theorem stopClocks_stopped (power : PowerState) (s : State) : Stopped power (stopClocks power s) :=
  ⟨rfl, rfl, rfl, rfl, rfl⟩

/-- The migrations that end before a sleep leave the supply and the live values. -/
theorem migrations_frame {α : Type} (l : List α) (s : State) :
    Confined [.ring, .evtLost, .mortar, .repair] s (l.foldl (fun t _ => migrationEnd t) s) :=
  foldl_frame _ _ _ (frame_refl _ s) fun t _ h => migrationEnd_frame t h (hw := by decide)

/-- The state in which SHUTDOWN stops the clocks: what waits at source 4, and the commit, are in Mortar (R41). -/
def shutdownCommitted (s : State) : State :=
  let t := sealWaiting false s
  fullCommit [] { t with mortar := { t.mortar with erasing := none, waiting4 := [] } }

theorem shutdownCommitted_sup (s : State) : (shutdownCommitted s).sup = s.sup :=
  (fullCommit_frame (w := [.mortar, .jrn, .pulse, .hod]) [] _
    (confined_trans (sealWaiting_frame false s (frame_refl _ s) (hw := by decide))
      (confined_mono (by decide) (confined_setMortar ..))) (hw := by decide)).same .sup (by decide)

theorem enterShutdown_effect (s : State) : Stopped .shutdown (enterShutdown s) ∧
    (enterShutdown s).sys.ready = false ∧ (enterShutdown s).clk.run0 = 0 ∧
    (enterShutdown s).sup.sleepDue = s.sup.sleepDue := by
  refine ⟨⟨rfl, rfl, rfl, rfl, rfl⟩, rfl, rfl, ?_⟩
  show (shutdownCommitted s).sup.sleepDue = _
  rw [shutdownCommitted_sup]

/-- The state in which DORMANT and SNIFF stop the clocks: every stone is written back (R42). -/
def writtenBack (s : State) : State :=
  let t := (List.range 4).foldl (fun t i => retireEntry i t) (sealWaiting true s)
  t.qe.stones.foldl (fun t x => advanceGen (tailWrites x.dirty) t) t

theorem writtenBack_frame (s : State) : Confined [.mortar, .jrn, .qe] s (writtenBack s) := by
  refine foldl_frame _ _ _ ?_ fun t x h => advanceGen_frame _ t h (hw := by decide)
  exact foldl_frame _ _ _ (sealWaiting_frame true s (frame_refl _ s) (hw := by decide)) fun t i h => retireEntry_frame
      i t h (hw := by decide)

theorem stopClocks_sleepDue (power : PowerState) (s : State) :
    (stopClocks power s).sup.sleepDue = s.sup.sleepDue := rfl

theorem stopClocks_live (power : PowerState) (s : State) : (stopClocks power s).live = s.live := rfl

theorem stopClocks_qe (power : PowerState) (s : State) : (stopClocks power s).qe = s.qe := rfl

theorem enterDormant_eq (power : PowerState) (s : State) : enterDormant power s =
    stopClocks power { writtenBack s with qe := { (writtenBack s).qe with
      stones := [], slicesOn := (writtenBack s).qe.slicesOn &&& 1#8 } } := by
  simp only [enterDormant, writtenBack]

theorem enterDormant_effect (power : PowerState) (s : State) : Stopped power (enterDormant power s) ∧
    (enterDormant power s).qe.stones = [] ∧ (enterDormant power s).live = s.live ∧
    (enterDormant power s).sup.sleepDue = s.sup.sleepDue := by
  rw [enterDormant_eq]
  refine ⟨stopClocks_stopped .., ?_, ?_, ?_⟩
  · rw [stopClocks_qe]
  · rw [stopClocks_live]
    exact (writtenBack_frame s).same .live (by decide)
  · rw [stopClocks_sleepDue]
    exact (congrArg Supply.sleepDue ((writtenBack_frame s).same .sup (by decide)) :)

/-- The state in which a sleep is entered: the request is no longer pending, and a migration has ended (§18.5). -/
def sleepReady (s : State) : State :=
  let t := { s with sup := { s.sup with sleepDue := none, wakeReq := 0 } }
  t.repair.migrating.foldl (fun t _ => migrationEnd t) t

theorem sleepReady_frame (s : State) : Confined [.sup, .ring, .evtLost, .mortar, .repair] s (sleepReady s) :=
  foldl_frame _ _ _ (confined_mono (by decide) (confined_setSup ..)) fun t _ h => migrationEnd_frame t h
      (hw := by decide)

theorem sleepReady_sleepDue (s : State) : (sleepReady s).sup.sleepDue = none :=
  (congrArg Supply.sleepDue ((migrations_frame s.repair.migrating
    { s with sup := { s.sup with sleepDue := none, wakeReq := 0 } }).same .sup (by decide)) :)

/-- What the states of PWR.CTRL leave when they are requested and nothing has to end before them (R41, R42). -/
theorem requestSleep_effect {c : Fin 8} {s : State} (hm : s.mortar.waiting2 = []) (hr : s.radio.commits = []) :
    requestSleep c s = if c.val = 1 then enterShutdown (sleepReady s)
      else enterDormant (if c.val = 3 then .sniff else .dormant) (sleepReady s) :=
  requestSleep_of_idle hm hr

/-- DORMANT or SNIFF as the request's own transaction leaves it, with what the port has been told. -/
theorem dormant_entered (power : PowerState) (p : Port) (m : Bytes) {s u : State} {told : State → Prop}
    (hl : u.live = s.live) (ht : told (sent p m (enterDormant power (sleepReady u)))) :
    let t := sent p m (enterDormant power (sleepReady u))
    t.sup.power = power ∧ t.sup.op = 0 ∧ t.radio.state = .sleep ∧ t.clk.xoOk = false ∧ t.clk.run1 = 0 ∧
      t.qe.stones = [] ∧ t.live = s.live ∧ t.sup.sleepDue = none ∧ told t := by
  obtain ⟨hstop, hstones, hlive, hdue⟩ := enterDormant_effect power (sleepReady u)
  have hul : (sleepReady u).live = u.live := (sleepReady_frame u).same .live (by decide)
  refine ⟨?_, ?_, ?_, ?_, ?_, ?_, ?_, ?_, ht⟩ <;> rw [sent_eq]
  · exact hstop.power
  · exact hstop.op
  · exact hstop.radio
  · exact hstop.xoOk
  · exact hstop.run1
  · exact hstones
  · exact hlive.trans (hul.trans hl)
  · exact hdue.trans (sleepReady_sleepDue u)

/-- Settles O18: a request that passes its tests is acknowledged, and the sleep state that it names is entered in the
same step. -/
theorem sleepStatesAreEntered : Obligations.SleepStatesAreEntered := by
  intro via s hm hr
  have hsent : ∀ p m t, sent p m t = { t with spi := (sent p m t).spi } := sent_eq
  refine ⟨fun h => ?_, fun h => ?_, fun h => ?_⟩
  · obtain ⟨p, m, u, ht, htold, hum, hur, -⟩ := pstate_taken (c := 1) (by decide) (by decide) h
    refine ⟨_, congrArg Host.Outcome.next ht, ?_⟩
    have hreq : requestSleep 1 u = enterShutdown (sleepReady u) :=
      requestSleep_effect (hum ▸ hm) (hur ▸ hr)
    obtain ⟨hstop, hready, hrun, hdue⟩ := enterShutdown_effect (sleepReady u)
    rw [hreq] at htold ⊢
    refine ⟨?_, ?_, ?_, ?_, ?_, ?_, ?_, ?_, htold⟩ <;> rw [hsent]
    · exact hstop.power
    · exact hready
    · exact hstop.op
    · exact hstop.radio
    · exact hstop.xoOk
    · exact hrun
    · exact hstop.run1
    · exact hdue.trans (sleepReady_sleepDue u)
  · obtain ⟨p, m, u, ht, htold, hum, hur, hul⟩ := pstate_taken (c := 2) (by decide) (by decide) h
    have hreq : requestSleep 2 u = enterDormant .dormant (sleepReady u) :=
      requestSleep_effect (hum ▸ hm) (hur ▸ hr)
    exact ⟨_, congrArg Host.Outcome.next (ht.trans (congrArg _ hreq)), dormant_entered _ p m hul (hreq ▸ htold)⟩
  · obtain ⟨p, m, u, ht, htold, hum, hur, hul⟩ := pstate_taken (c := 3) (by decide) (by decide) h
    have hreq : requestSleep 3 u = enterDormant .sniff (sleepReady u) :=
      requestSleep_effect (hum ▸ hm) (hur ▸ hr)
    exact ⟨_, congrArg Host.Outcome.next (ht.trans (congrArg _ hreq)), dormant_entered _ p m hul (hreq ▸ htold)⟩

end Sys2Proof.Machine
end

section
/-! SUPPORT. O19: a wake from DORMANT or SNIFF, and one from SHUTDOWN (R41, R43, R44, R136). -/

namespace Sys2Proof.Machine

open Sys2Proof.Safety

/-- The device as a wake finds it up, before IDLE is reached: the wake is reported, and the radio still sleeps. -/
structure Woken (sources : BitVec 7) (r s : State) : Prop where
  wakeSrc : s.sup.wakeSrc = sources.setWidth 16
  wakeReq : s.sup.wakeReq = 0
  waking  : s.sup.waking = true
  lock    : s.clk.lock = r.clk.lock
  stopped : s.clk.stopped = r.clk.stopped
  xoOk    : s.clk.xoOk = r.clk.xoOk
  radio   : s.radio.state = .sleep

/-- The device that wakes, with VCORE on its way to that of OP0. -/
def waking (sources : BitVec 7) (s : State) : State :=
  fallTo 0 { s with
    sup := { s.sup with power := .idle, wakeSrc := sources.setWidth 16, wakeReq := 0, waking := true }
    clk := { s.clk with
      run0 := BitVec.ofNat 9 (liveNat s K.cken0), run1 := BitVec.ofNat 8 (liveNat s K.cken1) }
    radio := { s.radio with state := .sleep, window := s.radio.state == .sniff } }

theorem waking_woken (sources : BitVec 7) (s : State) : Woken sources s (waking sources s) := by
  have hframe : ∀ t, Confined [.sup] t (fallTo 0 t) := fun t => fallTo_frameSup 0 t
  unfold waking
  generalize hu : ({ s with
    sup := { s.sup with power := .idle, wakeSrc := sources.setWidth 16, wakeReq := 0, waking := true }
    clk := { s.clk with
      run0 := BitVec.ofNat 9 (liveNat s K.cken0), run1 := BitVec.ofNat 8 (liveNat s K.cken1) }
    radio := { s.radio with state := .sleep, window := s.radio.state == .sniff } } : State) = u
  have hclk : (fallTo 0 u).clk = u.clk := (hframe u).same .clk (by decide)
  have hradio : (fallTo 0 u).radio = u.radio := (hframe u).same .radio (by decide)
  exact ⟨by rw [fallTo_sup, ← hu], by rw [fallTo_sup, ← hu], by rw [fallTo_sup, ← hu], by rw [hclk, ← hu],
    by rw [hclk, ← hu], by rw [hclk, ← hu], by rw [hradio, ← hu]⟩

/-- The checkpoint that was latched in sleep is staged (R448). -/
def ckptStaged (s : State) : State :=
  match s.hod.sleepCkpt with
  | some k => stageCkpt k { s with hod := { s.hod with sleepCkpt := none } }
  | none => s

theorem ckptStaged_frame (s : State) : Confined [.mortar, .pulse, .hod] s (ckptStaged s) := by
  unfold ckptStaged
  split
  · exact stageCkpt_frame _ _ (confined_mono (by decide) (confined_setHod ..)) (hw := by decide)
  · exact frame_refl _ s

theorem wakeIdle_eq (sources : BitVec 7) (s : State) :
    wakeIdle sources s = reachIdle (ckptStaged (waking sources s)) := by
  unfold wakeIdle ckptStaged waking
  rfl

theorem ckptStaged_woken {sources : BitVec 7} {r s : State} (h : Woken sources r s) :
    Woken sources r (ckptStaged s) := by
  have hsup : (ckptStaged s).sup = s.sup := (ckptStaged_frame s).same .sup (by decide)
  have hclk : (ckptStaged s).clk = s.clk := (ckptStaged_frame s).same .clk (by decide)
  have hradio : (ckptStaged s).radio = s.radio := (ckptStaged_frame s).same .radio (by decide)
  exact ⟨hsup ▸ h.wakeSrc, hsup ▸ h.wakeReq, hsup ▸ h.waking, hclk ▸ h.lock, hclk ▸ h.stopped, hclk ▸ h.xoOk,
    hradio ▸ h.radio⟩

/-- Whether IDLE is reached or not, the report of the wake stands. -/
theorem reachIdle_wakeReport (s : State) :
    (reachIdle s).sup.wakeSrc = s.sup.wakeSrc ∧ (reachIdle s).sup.wakeReq = s.sup.wakeReq := by
  have hmove : ∀ t, PowerOnly t (autoReceive (gotoIdle t)) := fun t =>
    (gotoIdle_powerOnly t).trans (autoReceive_powerOnly _)
  unfold reachIdle
  split
  · exact ⟨(hmove _).reading (fun x => x.wakeSrc) fun _ => rfl, (hmove _).reading (fun x => x.wakeReq) fun _ => rfl⟩
  · exact ⟨rfl, rfl⟩

/-- What a wake from DORMANT or SNIFF leaves. -/
theorem wakeIdle_effect (sources : BitVec 7) (s : State) :
    (wakeIdle sources s).sup.wakeSrc = sources.setWidth 16 ∧ (wakeIdle sources s).sup.wakeReq = 0 ∧
      (wakeIdle sources s).clk.xoOk = s.clk.xoOk ∧ (wakeIdle sources s).clk.lock = s.clk.lock ∧
      (s.clk.lock = false → s.clk.stopped = false → (wakeIdle sources s).sup.waking = true ∧
        (wakeIdle sources s).radio.state = .sleep) ∧
      (s.clk.stopped = true → (wakeIdle sources s).sup.waking = false) := by
  rw [wakeIdle_eq]
  have h := ckptStaged_woken (waking_woken sources s)
  generalize ckptStaged (waking sources s) = u at h
  obtain ⟨hsrc, hreq⟩ := reachIdle_wakeReport u
  refine ⟨hsrc.trans h.wakeSrc, hreq.trans h.wakeReq, by rw [reachIdle_clk, h.xoOk], by rw [reachIdle_clk, h.lock],
    fun hl hp => ?_, fun hp => (reachIdle_of_waking h.waking (.inr (h.stopped.trans hp))).1⟩
  have hstay : reachIdle u = u := by simp [reachIdle, h.lock, h.stopped, hl, hp]
  rw [hstay]
  exact ⟨h.waking, h.radio⟩

theorem rdy_of_waking {s : State} (h : s.sup.waking = true) : rdy s = false := by
  simp [rdy, h]

/-- A wake from SHUTDOWN boots, with the bits of a power-on and of a wake. -/
theorem wakeFrom_shutdown (sources : BitVec 7) (run : BootRun) {s : State} (h : s.sup.power = .shutdown) :
    (wakeFrom sources run s).boot.held = false ∧ causeBits (wakeFrom sources run s) = 0x101 := by
  rw [wakeFrom, if_pos h]
  obtain ⟨hheld, hcause⟩ := startBoot_held_cause run { warmState false s with
    sup := { (warmState false s).sup with wakeSrc := sources.setWidth 16 }
    boot := { Boot.reset with cause := 0x101, fails := s.boot.fails, kind := .shutdown } }
  exact ⟨hheld, hcause⟩

theorem wakeFrom_dormant (sources : BitVec 7) (run : BootRun) {s : State}
    (h : s.sup.power = .dormant ∨ s.sup.power = .sniff) : wakeFrom sources run s = wakeIdle sources s := by
  have hn : s.sup.power ≠ .shutdown := by rcases h with h | h <;> simp [h]
  rw [wakeFrom, if_neg hn]

theorem asleep_of_dormant {s : State} (h : s.sup.power = .dormant ∨ s.sup.power = .sniff) : asleep s = true := by
  rcases h with h | h <;> simp [asleep, h]

theorem asleep_of_shutdown {s : State} (h : s.sup.power = .shutdown) : asleep s = true := by simp [asleep, h]

theorem wake_of_asleep {sources : BitVec 7} {s : State} (run : BootRun) (ha : asleep s = true)
    (hh : s.boot.held = false) (hw : wakeSources sources s ≠ 0) :
    wake sources run s = wakeFrom (wakeSources sources s) run s := by
  have hw' : (wakeSources sources s != 0) = true := bne_iff_ne.mpr hw
  simp only [wake, ha, hh, hw']
  rfl

/-- The source of a wake by the SPI port, with those requested inside the device. -/
def spiSources (s : State) : BitVec 7 := 1#7 ||| (s.sup.wakeReq &&& BitVec.ofNat 7 (liveNat s K.wakeEn))

theorem spiWake_of_asleep {s : State} (run : BootRun) (ha : asleep s = true) (hh : s.boot.held = false)
    (hb : s.pins.bankA = true) (hr : s.pins.reversed = false) : spiWake run s =
      { wakeFrom (spiSources s) run s with
        spi := { (wakeFrom (spiSources s) run s).spi with err := false, miso := [0] } } := by
  simp only [spiWake, ha, hh, hb, hr]
  rfl

theorem spiSources_zero (s : State) : bit ((spiSources s).setWidth 16).toNat 0 = true := by
  rw [bit_eq_testBit, BitVec.testBit_toNat, BitVec.getLsbD_setWidth, spiSources, BitVec.getLsbD_or]
  simp

/-- Settles O19: a wake leaves the sleep state with its sources, and goes on to IDLE once there is a lock to have. -/
theorem wakes : Obligations.Wakes := by
  intro run s hh
  refine ⟨fun sources hw => ⟨fun hd => ?_, fun hp => ?_⟩, fun hb hr => ⟨fun hd => ?_, fun hp => ?_⟩⟩
  · refine ⟨wakeIdle (wakeSources sources s) s, congrArg Host.Outcome.next ?_, ?_⟩
    · rw [wake_of_asleep run (asleep_of_dormant hd) hh hw, wakeFrom_dormant _ run hd]
    · obtain ⟨hsrc, hreq, hxo, hlock, hwait, hstop⟩ := wakeIdle_effect (wakeSources sources s) s
      refine ⟨asleep_of_awake (awake_wakeIdle _ s), hsrc, hreq, hxo, hlock, fun hl hp => ?_, hstop⟩
      obtain ⟨hwk, hst⟩ := hwait hl hp
      exact ⟨hwk, rdy_of_waking hwk, hst⟩
  · refine ⟨_, congrArg Host.Outcome.next (wake_of_asleep run (asleep_of_shutdown hp) hh hw), ?_⟩
    exact wakeFrom_shutdown _ run hp
  · refine ⟨_, congrArg Host.Outcome.next (spiWake_of_asleep run (asleep_of_dormant hd) hh hb hr), ?_⟩
    rw [wakeFrom_dormant _ run hd]
    obtain ⟨hsrc, -, -, -, hwait, -⟩ := wakeIdle_effect (spiSources s) s
    refine ⟨asleep_of_awake (awake_wakeIdle _ s), ?_, rfl, fun hl hp => rdy_of_waking (hwait hl hp).1⟩
    exact (congrArg (fun x => bit x.toNat 0) hsrc).trans (spiSources_zero s)
  · refine ⟨_, congrArg Host.Outcome.next (spiWake_of_asleep run (asleep_of_shutdown hp) hh hb hr), ?_⟩
    obtain ⟨hheld, hcause⟩ := wakeFrom_shutdown (spiSources s) run hp
    exact ⟨hheld, hcause, rfl⟩

end Sys2Proof.Machine
end

section
/-! SUPPORT. O23: the end of QUIET, and the restore of durable queues (R126, R129, R132, R238, R367). -/

namespace Sys2Proof.Machine

open Sys2Proof.Safety

-- Detections that are cancelled

/-- A detection that is cancelled is no longer pending. -/
theorem cancelDet_dets (n : Nat) (d : Det) (s : State) :
    (cancelDet n d s).scarab.dets = s.scarab.dets.filter fun x => x.tag != d.tag := by
  have hrelease : ∀ t, (releaseGain t).scarab = t.scarab := fun _ => rfl
  have hprov : ∀ t, (discardProv d t).scarab = t.scarab := fun t =>
    (discardProv_frame (w := [.rx, .draws]) d t (frame_refl _ t) (hw := by decide)).same .scarab (by decide)
  rw [cancelDet, hrelease, hprov, post_scarab]

theorem foldl_cancelDet_dets (n : Nat) (l : List Det) (s : State) :
    (l.foldl (fun t d => cancelDet n d t) s).scarab.dets =
      s.scarab.dets.filter fun x => l.all fun d => x.tag != d.tag := by
  induction l generalizing s with
  | nil => simp
  | cons d l ih =>
    rw [List.foldl_cons, ih, cancelDet_dets, List.filter_filter]
    simp only [List.all_cons, Bool.and_comm]

/-- What stays pending is what shares no tag with a detection that is cancelled. -/
theorem cancelDets_dets (n : Nat) (p : Det → Bool) (s : State) : (cancelDets n p s).scarab.dets =
    s.scarab.dets.filter fun x => (s.scarab.dets.filter p).all fun d => x.tag != d.tag :=
  foldl_cancelDet_dets n _ s

theorem cancelDets_all_dets (n : Nat) (s : State) : (cancelDets n (fun _ => true) s).scarab.dets = [] := by
  rw [cancelDets_dets, List.filter_eq_nil_iff]
  intro x hx hall
  rw [List.filter_true, List.all_eq_true] at hall
  exact absurd rfl (bne_iff_ne.mp (hall x hx))

theorem cancelDets_of_none {s : State} (h : s.scarab.dets = []) (n : Nat) (p : Det → Bool) : cancelDets n p s = s := by
  simp [cancelDets, h]

-- The end of QUIET (R126)

theorem quietEnd_of_quiet {s : State} (h : s.sys.dev = .quiet) : quietEnd s =
    { cancelDets 6 (fun _ => true) s with
      sys := { (cancelDets 6 (fun _ => true) s).sys with dev := .run }
      net := { (cancelDets 6 (fun _ => true) s).net with beaconOf := none, open_ := none } } := by
  have hn : (s.sys.dev == DevState.maint) = false := by rw [h]; rfl
  rw [quietEnd, if_pos h, enterRun]
  simp only [hn]
  rfl

theorem cancelDets_net (n : Nat) (p : Det → Bool) (s : State) : (cancelDets n p s).net = s.net :=
  (cancelDets_frame (w := [.ring, .evtLost, .scarab, .rx, .draws]) n p s (frame_refl _ s) (hw := by decide)).same .net
      (by decide)

-- The restore of a chain (R129, R367)

/-- The other queues are as they were. -/
def OthersKept (q : Nat) (r s : State) : Prop := ∀ k, k ≠ q → getQueue s k = getQueue r k

theorem OthersKept.trans {q : Nat} {r s t : State} (h : OthersKept q r s) (k : OthersKept q s t) : OthersKept q r t :=
  fun j hj => (k j hj).trans (h j hj)

theorem SameChains.othersKept {q : Nat} {r s : State} (h : SameChains r s) : OthersKept q r s := fun k _ => h.getQueue k

/-- The queue and its segments as they are just before a restored frame is put into its chain. -/
def restoring (q : Nat) (inCh : Bool) (segs : Nat) (s : State) : State :=
  advanceGen (appendWrites s q inCh segs) (touch q s)

theorem restoring_sameChains (q : Nat) (inCh : Bool) (segs : Nat) (s : State) :
    SameChains s (restoring q inCh segs s) :=
  (touch_sameChains q s).trans ⟨rfl, rfl, rfl⟩

/-- A queue with a restored frame at the end of a chain. -/
def chainRestored (s : State) (inCh : Bool) (f : Frame) (v : Queue) : Queue :=
  if inCh then { v with
      inCh := v.inCh ++ [f]
      readMs := if v.inCh.isEmpty then nowMs s else v.readMs
      qto := if v.inCh.isEmpty then false else v.qto }
    else { v with outCh := v.outCh ++ [f] }

theorem chainRestored_ne_empty (s : State) (inCh : Bool) (f : Frame) (v : Queue) (base : Word) :
    chainRestored s inCh f v ≠ emptyQueue base := by
  intro h
  cases inCh
  · have hout : v.outCh ++ [f] = [] := congrArg Queue.outCh h
    simp at hout
  · have hin : v.inCh ++ [f] = [] := congrArg Queue.inCh h
    simp at hin

/-- The state with a frame restored to the end of its chain, in segments that were free. -/
def restored (q : Nat) (inCh : Bool) (f : Frame) (segs : List Nat) (s : State) : State :=
  let u := restoring q inCh segs.length s
  let v := chainRestored u inCh { f with segs := segs, mirrored := guarded s q } (getQueue u q)
  let t := markParts q (appended inCh) (setQueue q v u)
  { t with qe := { t.qe with xsBad := t.qe.xsBad.filter fun i => !segs.contains i } }

theorem restoreFrame_eq (q : Nat) (inCh : Bool) (f : Frame) (s : State) : restoreFrame q inCh f s =
    (allocate s q f.payload.length).bind fun segs =>
      if 65535 ≤ (if inCh then (getQueue s q).inCh else (getQueue s q).outCh).length then none
      else some (restored q inCh f segs s) := by
  unfold restoreFrame
  cases allocate s q f.payload.length <;> rfl

/-- A restored frame is the last of its chain. -/
theorem getQueue_restored_same (q : Nat) (inCh : Bool) (f : Frame) (segs : List Nat) (s : State) :
    ∃ u, getQueue (restored q inCh f segs s) q =
      chainRestored u inCh { f with segs := segs, mirrored := guarded s q } (getQueue s q) := by
  refine ⟨restoring q inCh segs.length s, ?_⟩
  have hput := markParts_sameChains q (appended inCh) (setQueue q (chainRestored (restoring q inCh segs.length s) inCh
    { f with segs := segs, mirrored := guarded s q } (getQueue (restoring q inCh segs.length s) q))
    (restoring q inCh segs.length s))
  refine (hput.getQueue q).trans ?_
  rw [getQueue_setQueue_eq _ _ (chainRestored_ne_empty _ _ _ _ _), (restoring_sameChains q inCh segs.length s).getQueue]

theorem restored_othersKept (q : Nat) (inCh : Bool) (f : Frame) (segs : List Nat) (s : State) :
    OthersKept q s (restored q inCh f segs s) := by
  intro k hk
  have hput := markParts_sameChains q (appended inCh) (setQueue q (chainRestored (restoring q inCh segs.length s) inCh
    { f with segs := segs, mirrored := guarded s q } (getQueue (restoring q inCh segs.length s) q))
    (restoring q inCh segs.length s))
  refine (hput.getQueue k).trans ?_
  rw [getQueue_setQueue_ne _ _ hk, (restoring_sameChains q inCh segs.length s).getQueue]

/-- Frames that are lost are counted, and their release is staged; their queue itself stays. -/
theorem countLost_sameChains (q n : Nat) (s : State) : SameChains s (countLost q n s) := by
  have hset : ∀ a b, SameChains s { s with qe := { s.qe with framesLost := a }, repair := b } :=
    fun _ _ => ⟨rfl, rfl, rfl⟩
  have hlog : ∀ code tag arg t, SameChains t (postLogged code tag arg t) := fun code tag arg t =>
    .of_qe ((confined_postLogged code tag arg t).same .qe (by decide))
  exact (hset _ _).trans (hlog ..)

theorem releaseLost_sameChains (q : Nat) (inCh : Bool) (seq : Word) (s : State) :
    SameChains s (releaseLost q inCh seq s) :=
  .of_qe ((releaseLost_frame (w := [.jrn]) q inCh seq s (frame_refl _ s) (hw := by decide)).same .qe (by decide))

theorem restoreFrames_othersKept (q : Nat) (inCh : Bool) (l : List Frame) (s : State) :
    OthersKept q s (restoreFrames q inCh l s) := by
  induction l generalizing s with
  | nil => exact fun _ _ => rfl
  | cons f l ih =>
    rw [restoreFrames]
    split
    next t ht =>
      refine OthersKept.trans ?_ (ih t)
      rw [restoreFrame_eq] at ht
      obtain ⟨segs, -, hput⟩ := Option.bind_eq_some_iff.mp ht
      obtain ⟨-, hput⟩ := (Option.ite_none_left_eq_some).mp hput
      obtain rfl := Option.some.inj hput
      exact restored_othersKept q inCh f segs s
    next => exact ((releaseLost_sameChains ..).trans (countLost_sameChains ..)).othersKept

theorem restoreChain_of_nothing {q : Nat} {inCh : Bool} {s : State} (h : chainSeqs s.mortar q inCh = []) :
    restoreChain q inCh s = s := by
  simp [restoreChain, h, restoreFrames]

theorem restoreChain_othersKept (q : Nat) (inCh : Bool) (s : State) : OthersKept q s (restoreChain q inCh s) := by
  have hcount : ∀ n : Nat, SameChains s (if n = 0 then s else { s with qe := { s.qe with
      framesLost := incBy n s.qe.framesLost } }) := by
    intro n
    split
    · exact .refl s
    · exact ⟨rfl, rfl, rfl⟩
  exact (hcount _).othersKept.trans (restoreFrames_othersKept q inCh _ _)

theorem restoreChain_frameQueues (q : Nat) (inCh : Bool) (s : State) :
    Confined [.ring, .evtLost, .mortar, .jrn, .qe, .repair] s (restoreChain q inCh s) :=
  restoreChain_frame q inCh s (frame_refl _ s) (hw := by decide)

/-- A chain of one sealed frame for which there is room comes back with that frame. -/
theorem restoreChain_of_one {q : Nat} {inCh : Bool} {s : State} {x : Word} {f : Frame} {segs : List Nat}
    (hx : chainSeqs s.mortar q inCh = [x]) (hf : sealedFrame s.mortar q inCh x = some f)
    (hroom : allocate s q f.payload.length = some segs)
    (hlen : (if inCh then (getQueue s q).inCh else (getQueue s q).outCh).length < 65535) :
    restoreChain q inCh s = restored q inCh f segs s := by
  have hput : restoreFrame q inCh f s = some (restored q inCh f segs s) := by
    rw [restoreFrame_eq, hroom, Option.bind_some, if_neg (Nat.not_le_of_lt hlen)]
  simp [restoreChain, hx, hf, restoreFrames, hput]

-- The restore (R128, R132)

/-- One turn of the restore: the next queue's chains, and the queue is no longer named. -/
def turned (q : Nat) (rest : List Nat) (s : State) : State :=
  { restoreChain q true (restoreChain q false s) with sys := { s.sys with restore := rest } }

theorem turned_parts (q : Nat) (rest : List Nat) (s : State) : (turned q rest s).sys = { s.sys with restore := rest } ∧
    (turned q rest s).sup = s.sup ∧ (turned q rest s).boot = s.boot := by
  have hframe := confined_trans (restoreChain_frameQueues q false s) (restoreChain_frameQueues q true _)
  simp only [turned, true_and]
  exact ⟨hframe.same .sup (by decide), hframe.same .boot (by decide)⟩

theorem journalRestore_succ {n q : Nat} {rest : List Nat} {s : State} (hr : s.sys.ready = true)
    (hb : s.sup.bodWarn = false) (hw : absent s = false) (hq : s.sys.restore = q :: rest) :
    journalRestore (n + 1) s = journalRestore n (turned q rest s) := by
  have hgo : (!s.sys.ready || s.sup.bodWarn || absent s) = false := by simp [hr, hb, hw]
  rw [journalRestore, hgo, hq]
  simp only [Bool.false_eq_true, if_false, turned]

theorem journalRestore_of_bodWarn (n : Nat) {s : State} (hb : s.sup.bodWarn = true) : journalRestore n s = s := by
  cases n
  · rfl
  · rw [journalRestore, if_pos (by simp [hb])]

theorem journalRestore_restore (n : Nat) {s : State} (hr : s.sys.ready = true) (hb : s.sup.bodWarn = false)
    (hw : absent s = false) : (journalRestore n s).sys.restore = s.sys.restore.drop n := by
  induction n generalizing s with
  | zero => rfl
  | succ n ih =>
    cases hq : s.sys.restore with
    | nil =>
      have hgo : (!s.sys.ready || s.sup.bodWarn || absent s) = false := by simp [hr, hb, hw]
      rw [journalRestore, hgo, hq]
      simp only [Bool.false_eq_true, if_false, hq, List.drop_nil]
    | cons q rest =>
      obtain ⟨hsys, hsup, hboot⟩ := turned_parts q rest s
      have habs : absent (turned q rest s) = false := ((PowerOnly.of_sup hsup).absent hboot).trans hw
      have hready : (turned q rest s).sys.ready = true := (congrArg Sys.ready hsys).trans hr
      have hwarn : (turned q rest s).sup.bodWarn = false := (congrArg Supply.bodWarn hsup).trans hb
      have hrest : (turned q rest s).sys.restore = rest := congrArg Sys.restore hsys
      rw [journalRestore_succ hr hb hw hq, ih hready hwarn habs, hrest, List.drop_succ_cons]

/-- Settles O23: the restore takes its queues one by one, and touches no other. -/
theorem quietAndRestoreEnd : Obligations.QuietAndRestoreEnd := by
  refine ⟨fun s hw => ⟨fun hq => ⟨quietEnd s, ?_, ?_⟩, fun hq => ?_⟩, fun s hr hw => ⟨fun n hb => ?_, fun n hb => ?_,
    fun q rest hb hq hout => ?_⟩⟩
  · have habs : absent s = false := hw
    exact congrArg Host.Outcome.next (by simp [present, habs])
  · refine ⟨quietEnd_frame s (frame_refl _ s) (hw := by decide), ?_⟩
    rw [quietEnd_of_quiet hq]
    refine ⟨by rw [cancelDets_sys], by rw [cancelDets_net], cancelDets_all_dets 6 s, fun hd => ?_⟩
    rw [cancelDets_of_none hd]
    exact ⟨rfl, rfl, rfl⟩
  · exact congrArg Host.Outcome.next (by simp [present, quietEnd, hq])
  · exact ⟨_, rfl, journalRestore_restore n hr hb hw⟩
  · exact congrArg Host.Outcome.next (journalRestore_of_bodWarn n hb)
  · have hrun : exec (.journalRestore 1) s = .next (turned q rest s) :=
      congrArg Host.Outcome.next (journalRestore_succ hr hb hw hq)
    have hone : turned q rest s = { restoreChain q true s with sys := { s.sys with restore := rest } } := by
      rw [turned, restoreChain_of_nothing hout]
    refine ⟨⟨_, hrun, (turned_parts q rest s).1, fun k hk => ?_⟩, fun hin => ?_, fun x f segs hx hf hroom hlen => ?_⟩
    · rw [hone]
      exact restoreChain_othersKept q true s k hk
    · rw [hrun, hone, restoreChain_of_nothing hin]
    · rw [hrun, hone, restoreChain_of_one hx hf hroom hlen]
      obtain ⟨u, hu⟩ := getQueue_restored_same q true f segs s
      refine ⟨_, { f with segs := segs, mirrored := guarded s q }, rfl, ?_⟩
      have hget : ∀ t a, getQueue { t with sys := a } q = getQueue t q := fun _ _ => rfl
      rw [hget, hu]
      exact ⟨rfl, rfl, rfl, rfl, rfl⟩

end Sys2Proof.Machine
end

section
/-! SUPPORT. O57 to O59: scrubbing, repair, telemetry, calibrations and the self-test (R203, R233, R452 to R459). -/

namespace Sys2Proof.Machine

open Sys2Proof.Safety

-- The field map (R464)

/-- A repair that is posted counts in REPAIR_COUNT, and the log moves on. -/
theorem postRepair_repair (tag arg : Nat) (s : State) : (postRepair tag arg s).repair = { s.repair with
    repairCount := inc s.repair.repairCount, elogNext := (s.repair.elogNext + 1) % 64 } :=
  (post_frame (w := [.ring, .evtLost]) evRepair (BitVec.ofNat 16 tag) (BitVec.ofNat 32 arg) _ (frame_refl _ _)
      (hw := by decide)).same
    .repair (by decide)

theorem stageMap_repair (l : List MapEntry) (s : State) :
    ∃ gen, (stageMap l s).repair = { s.repair with map := l, mapGen := gen } := by
  by_cases h : (mapRecs s.repair.mapGen s.repair.map).all s.mortar.waiting4.contains = true
  · exact ⟨s.repair.mapGen, congrArg State.repair (if_pos h)⟩
  · exact ⟨inc s.repair.mapGen, congrArg State.repair (if_neg h)⟩

/-- A repair that is entered changes the map and the log's place, and counts. -/
theorem enterRepair_repair (tag arg : Nat) (e : MapEntry) (drop : MapEntry → Bool) (s : State) :
    ∃ map gen unsaved next, (enterRepair tag arg e drop s).repair = { s.repair with
      map := map, mapGen := gen, mapUnsaved := unsaved, elogNext := next, repairCount :=
          inc s.repair.repairCount } := by
  by_cases h : (s.repair.map.filter fun x => !drop x).length < 62
  · rw [show enterRepair tag arg e drop s =
      stageMap ((s.repair.map.filter fun x => !drop x) ++ [e]) (postRepair tag arg s) from if_pos h]
    obtain ⟨gen, h⟩ := stageMap_repair ((s.repair.map.filter fun x => !drop x) ++ [e]) (postRepair tag arg s)
    rw [postRepair_repair] at h
    exact ⟨_, _, _, _, h⟩
  · rw [show enterRepair tag arg e drop s = postRepair tag (arg + 2 ^ 31)
      { s with repair := { s.repair with mapUnsaved := inc8 s.repair.mapUnsaved } } from if_neg h]
    exact ⟨_, _, _, _, postRepair_repair ..⟩

theorem enterRepair_confined (tag arg : Nat) (e : MapEntry) (drop : MapEntry → Bool) (s : State) :
    Confined [.ring, .evtLost, .mortar, .repair] s (enterRepair tag arg e drop s) :=
  enterRepair_frame tag arg e drop s (frame_refl _ s) (hw := by decide)

-- Scrubbing and repair

/-- A row that is remapped takes one more spare row of its bank. -/
theorem remapRow_of_spare {bank : Nat} (row : Nat) {s : State} (h : rowsUsedIn s bank < 8) :
    rowsUsedIn (remapRow bank row s) bank = rowsUsedIn s bank + 1 ∧
      (remapRow bank row s).repair.eccCorrected = s.repair.eccCorrected ∧
      (remapRow bank row s).repair.repairCount = inc s.repair.repairCount ∧ (remapRow bank row s).qe = s.qe := by
  obtain ⟨u, e, hu, hrows, hfac, hecc, hcount, hqe⟩ : ∃ u e, remapRow bank row s =
      enterRepair 0x01 (bank + 256 * row + 65536 * rowsUsedIn s bank) e (fun _ => false) u ∧
      u.repair.rowsUsed = tabSet 0 bank (tabGet 0 bank s.repair.rowsUsed + 1) s.repair.rowsUsed ∧
      u.repair.factory = s.repair.factory ∧ u.repair.eccCorrected = s.repair.eccCorrected ∧
      u.repair.repairCount = s.repair.repairCount ∧ u.qe = s.qe :=
    ⟨_, _, if_neg (Nat.not_le.mpr h), rfl, rfl, rfl, rfl, rfl⟩
  obtain ⟨_, _, _, _, hrep⟩ := enterRepair_repair 0x01 (bank + 256 * row + 65536 * rowsUsedIn s bank) e
      (fun _ => false) u
  rw [hu]
  refine ⟨?_, ?_, ?_, ((enterRepair_confined ..).same .qe (by decide)).trans hqe⟩
  · rw [rowsUsedIn, hrep]
    dsimp only
    rw [hrows, hfac, tabGet_tabSet_eq bank (Nat.succ_ne_zero _), rowsUsedIn]
    omega
  · rw [hrep]
    exact hecc
  · rw [hrep]
    exact congrArg inc hcount

theorem not_background_or {s : State} {p : Prop} (h : background s = true) (hp : ¬ p) :
    ¬ (((!background s) = true) ∨ p) := by
  rw [h]
  simpa using hp

theorem ashlarScrub_of_live {bank : Nat} (row : Nat) {s : State} (h : background s = true)
    (hl : bankLive s bank = true) :
    ashlarScrub bank row .clean s = s ∧
    ((watchRow bank row s.repair.watch).2 < liveNat s K.rowLimit → ashlarScrub bank row .corrected s =
      { s with repair := { s.repair with
        eccCorrected := inc s.repair.eccCorrected, watch := (watchRow bank row s.repair.watch).1 } }) ∧
    (liveNat s K.rowLimit ≤ (watchRow bank row s.repair.watch).2 → ashlarScrub bank row .corrected s =
      remapRow bank row { s with repair := { s.repair with
        eccCorrected := inc s.repair.eccCorrected, watch := (watchRow bank row s.repair.watch).1 } }) := by
  have hno := not_background_or (p := bankLive s bank = false) h (by simp [hl])
  refine ⟨?_, fun hw => ?_, fun hw => ?_⟩
  · rw [ashlarScrub, if_neg hno]
  · rw [ashlarScrub, if_neg hno]
    exact if_neg (Nat.not_le.mpr hw)
  · rw [ashlarScrub, if_neg hno]
    exact if_pos hw

theorem keystoneScrub_of_on {slice stone : Nat} {s : State} (h : background s = true)
    (hon : slice = 0 ∨ bit s.qe.slicesOn.toNat slice = true) :
    keystoneScrub slice stone .clean s = s ∧
    keystoneScrub slice stone .corrected s = { s with repair := { s.repair with
      eccCorrected := inc s.repair.eccCorrected } } ∧
    ((∀ x ∈ s.repair.badStones, x.1 = slice → x.2 = stone) → keystoneScrub slice stone .uncorrectable s =
      { s with repair := { s.repair with
        eccUncorrected := inc s.repair.eccUncorrected
        badStones := s.repair.badStones ++ [(slice, stone)] } }) := by
  have hno := not_background_or (p := slice ≠ 0 ∧ bit s.qe.slicesOn.toNat slice = false) h
    (by rcases hon with hs | hs <;> simp [hs])
  refine ⟨?_, ?_, fun hone => ?_⟩
  · rw [keystoneScrub, if_neg hno]
  · rw [keystoneScrub, if_neg hno]
  · have htwo : (s.repair.badStones.any fun x => x.1 == slice && x.2 != stone) = false := by
      rw [List.any_eq_false]
      intro x hx
      have := hone x hx
      simpa using this
    rw [keystoneScrub, if_neg hno]
    simp [htwo]

/-- The oldest migration ends: its spare serves the number of the bank. -/
theorem migrationEnd_of_cons {bank k : Nat} {rest : List (Nat × Nat)} {s : State}
    (hm : s.repair.migrating = (bank, k) :: rest) (hk : k < s.repair.spareOf.length) :
    (migrationEnd s).repair.migrating = rest ∧ nth none (migrationEnd s).repair.spareOf k = some bank ∧
      (migrationEnd s).repair.repairCount = inc s.repair.repairCount := by
  obtain ⟨u, e, drop, hu, hmig, hspare, hcount⟩ : ∃ u e drop, migrationEnd s =
      enterRepair 0x02 (bank + 256 * k) e drop u ∧ u.repair.migrating = rest ∧
      u.repair.spareOf = setNth (s.repair.spareOf.map fun x => if x = some bank then none else x) k (some bank) ∧
      u.repair.repairCount = s.repair.repairCount :=
    by
      unfold migrationEnd
      rw [hm]
      exact ⟨_, _, _, rfl, rfl, rfl, rfl⟩
  obtain ⟨_, _, _, _, hrep⟩ := enterRepair_repair 0x02 (bank + 256 * k) e drop u
  rw [hu, hrep]
  refine ⟨hmig, ?_, congrArg inc hcount⟩
  dsimp only
  rw [hspare]
  simp [nth, setNth, hk]

/-- A failed lane is replaced by spare 32 where that is neither in use nor failed (R233). -/
theorem replaceLane_of_spare {p n : Nat} {s : State} (hn : s.scarab.lanePhys.findIdx? (fun x => x == p) = some n)
    (hfree : 32 ∉ s.scarab.lanePhys) (hok : 32 ∉ s.scarab.physFail) :
    replaceLane s p = (setNth s.scarab.lanePhys n 32, 32, 255) := by
  have hleft : ∃ l, sparesLeft s = 32 :: l := by
    simp [sparesLeft, hfree, hok, List.filter_cons]
  obtain ⟨l, hl⟩ := hleft
  rw [replaceLane, hn]
  dsimp only
  rw [hl]

theorem laneReassign_of_spare {p n : Nat} {rest : List Nat} {s : State} (hd : s.scarab.laneDue = p :: rest)
    (hn : s.scarab.lanePhys.findIdx? (fun x => x == p) = some n) (hnone : s.scarab.dets = []) (hp : p < 32)
    (hfree : 32 ∉ s.scarab.lanePhys) (hok : 32 ∉ s.scarab.physFail) :
    (laneReassign s).scarab.laneDue = rest ∧ (laneReassign s).scarab.lanePhys = setNth s.scarab.lanePhys n 32 ∧
      p ∈ (laneReassign s).scarab.physFail ∧ (laneReassign s).repair.repairCount = inc s.repair.repairCount := by
  obtain ⟨arg, e, he⟩ : ∃ arg e, laneReassign s = enterRepair 0x04 arg e (fun _ => false)
      (applyLaneFail p { s with scarab := { s.scarab with laneDue := rest } }) := by
    unfold laneReassign
    rw [hd]
    dsimp only
    rw [hnone]
    exact ⟨_, _, rfl⟩
  have hmap : (replaceLane { s with scarab := { s.scarab with
      laneDue := rest, physFail := s.scarab.physFail.filter (fun x => x != p) ++ [p] } } p).1 =
      setNth s.scarab.lanePhys n 32 := by
    rw [replaceLane_of_spare (s := { s with scarab := { s.scarab with
      laneDue := rest, physFail := s.scarab.physFail.filter (fun x => x != p) ++ [p] } }) (n := n) hn hfree
      (by simp [hok]; omega)]
  rw [he, (enterRepair_confined ..).same .scarab (by decide)]
  refine ⟨rfl, hmap, by simp [applyLaneFail], ?_⟩
  obtain ⟨_, _, _, _, hrep⟩ := enterRepair_repair 0x04 arg e (fun _ => false)
    (applyLaneFail p { s with scarab := { s.scarab with laneDue := rest } })
  rw [hrep]
  rfl

/-- Settles O57: a correction is counted, and each repair is entered in the map once it is in force. -/
theorem repairsAreMade : Obligations.RepairsAreMade := by
  intro s hb
  refine ⟨fun bank row hl => ?_, fun slice stone hon => ?_, fun bank k rest hw hm hk => ?_,
    fun p rest n hw hd hn hnone hp hfree hok => ?_⟩
  · obtain ⟨hclean, hfew, hmany⟩ := ashlarScrub_of_live row.toNat hb hl
    refine ⟨congrArg Host.Outcome.next hclean, fun h => congrArg Host.Outcome.next (hfew h),
        fun h hrows => ⟨_, rfl, ?_⟩⟩
    rw [hmany h]
    exact remapRow_of_spare row.toNat hrows
  · have hon' : slice.val = 0 ∨ bit s.qe.slicesOn.toNat slice.val = true := hon.imp_left fun h => congrArg Fin.val h
    obtain ⟨hclean, hfixed, hbad⟩ := keystoneScrub_of_on (stone := stone.val) hb hon'
    exact ⟨congrArg Host.Outcome.next hclean, congrArg Host.Outcome.next hfixed,
        fun h => congrArg Host.Outcome.next (hbad h)⟩
  · refine ⟨_, rfl, ?_⟩
    rw [present, hw]
    exact migrationEnd_of_cons hm hk
  · refine ⟨_, rfl, ?_⟩
    rw [present, hw]
    exact laneReassign_of_spare hd hn hnone hp hfree hok

-- Calibrations and telemetry

theorem movedFrom_self (s : State) : movedFrom s.sup.temp s = 0 := by
  simp [movedFrom]

theorem nth_setNth_self {α : Type} (d : α) {l : List α} {i : Nat} (h : i < l.length) (v : α) :
    nth d (setNth l i v) i = v := by
  simp [nth, setNth, h]

/-- The extremes take in the sample, from their first one on. -/
theorem telemSample_effect {s : State} (hb : background s = true) (vin vhold : Half) :
    ∃ r, telemSample vin vhold s = { s with repair := r, sup := { s.sup with vinMv := vin, vholdMv := vhold } } ∧
      r.telemSeen = true ∧ r.tempMin.toInt ≤ s.sup.temp.toInt ∧ s.sup.temp.toInt ≤ r.tempMax.toInt ∧
      r.vinMin.toNat ≤ vin.toNat ∧ r.vholdMin.toNat ≤ vhold.toNat ∧
      (s.repair.telemSeen = false → r.tempMin = s.sup.temp ∧ r.tempMax = s.sup.temp ∧ r.vinMin = vin ∧
        r.vholdMin = vhold) := by
  refine ⟨_, by rw [telemSample, if_neg (by simp [hb])], ?_⟩
  cases hs : s.repair.telemSeen
  · simp
  · simp only [if_true]
    refine ⟨trivial, ?_, ?_, ?_, ?_, fun h => nomatch h⟩
    all_goals
      split
      · exact le_refl _
      · omega

theorem vcoValid_calibrated {band : Nat} (setting : Byte) {s : State} (h : band < s.radio.vcoAt.length) :
    vcoValid (calibrateVco band setting s) band = true := by
  have hmoved : movedFrom s.sup.temp (calibrateVco band setting s) = 0 := movedFrom_self (calibrateVco band setting s)
  unfold vcoValid
  rw [show (calibrateVco band setting s).radio.vcoAt = setNth s.radio.vcoAt band (some s.sup.temp) from rfl,
    nth_setNth_self none h]
  dsimp only
  rw [hmoved]
  rfl

theorem pathIndex_lt (p : Path) : pathIndex p < 2 := by
  cases p <;> decide

theorem iqDue_calibrated {p : Path} {s t : State} (hl : s.rx.iqAt.length = 2)
    (hc : pathCentre t p = pathCentre s p) (hsup : t.sup = s.sup)
    (hiq : t.rx.iqAt = setNth s.rx.iqAt (pathIndex p) (some (pathCentre s p, s.sup.temp))) : iqDue t p = false := by
  have hmoved : movedFrom s.sup.temp t = 0 := by
    rw [← hsup]
    exact movedFrom_self t
  unfold iqDue
  rw [hiq, nth_setNth_self none (by rw [hl]; exact pathIndex_lt p)]
  simp [hc, hmoved]

/-- Settles O58: each calibration, when due, puts its result in force and changes nothing besides. -/
theorem calibrationsAndTelemetry : Obligations.CalibrationsAndTelemetry := by
  intro s
  refine ⟨fun hw => ?_, fun hb => ⟨fun vin vhold => ?_, fun code hon hrun => ?_, ?_, ?_,
    fun band setting hidle hx hr hv hvco hat => ?_, fun p hidle hp hl hdue => ?_⟩⟩
  · refine ⟨_, congrArg Host.Outcome.next (if_neg (by rw [hw]; decide)), ?_⟩
    exact ⟨confined_setRepair s _, rfl, rfl, rfl⟩
  · obtain ⟨r, hr, hrest⟩ := telemSample_effect hb vin vhold
    exact ⟨_, congrArg Host.Outcome.next hr, hr ▸ telemSample_frame vin vhold s (frame_refl _ s) (hw := by decide),
        rfl, rfl, hrest⟩
  · have h : (background s && blockOn s 5 && !s.adc.running) = true := by rw [hb, hon, hrun]; rfl
    exact congrArg Host.Outcome.next (if_pos h)
  · refine ⟨_, rfl, canaryCheck_frame false s (frame_refl _ s) (hw := by decide), ?_⟩
    rw [canaryCheck, hb]
    exact ⟨rfl, rfl, rfl, rfl⟩
  · rfl
  · refine ⟨_, rfl, vcoCalibration_frame band.val setting s (frame_refl _ s) (hw := by decide), ?_⟩
    have hcal : vcoCalibration band.val setting s = calibrateVco band.val setting s := by
      rw [vcoCalibration, hb, hidle, hx, hr, hv]
      rfl
    rw [hcal]
    exact ⟨vcoValid_calibrated setting (by omega), nth_setNth_self 0 (by omega) setting⟩
  · refine ⟨_, rfl, iqImageCalibration_frame p s (frame_refl _ s) (hw := by decide), ?_⟩
    have hcal : iqImageCalibration p s = { s with rx := { s.rx with
        iqAt := setNth s.rx.iqAt (pathIndex p) (some (pathCentre s p, s.sup.temp)) } } := by
      rw [iqImageCalibration, hb, hidle, hp, hdue]
      rfl
    rw [hcal]
    exact iqDue_calibrated hl rfl rfl rfl

-- The self-test (R455 to R457)

/-- The paths in use are the same in two states. -/
structure SamePaths (r s : State) : Prop where
  same : s.rx.pathsOk = r.rx.pathsOk

theorem SamePaths.trans {r s t : State} (h : SamePaths r s) (k : SamePaths s t) : SamePaths r t := ⟨k.same.trans h.same⟩

theorem SamePaths.ite {r a b : State} {c : Prop} [Decidable c] (ha : SamePaths r a) (hb : SamePaths r b) :
    SamePaths r (if c then a else b) := by
  split
  · exact ha
  · exact hb

theorem SamePaths.of_confined {w : List Part} {r s : State} (h : Confined w r s) (hw : Part.rx ∉ w) : SamePaths r s :=
  ⟨congrArg Rx.pathsOk (h.same .rx hw)⟩

theorem discardProv_samePaths (d : Det) (s : State) : SamePaths s (discardProv d s) := by
  unfold discardProv
  dsimp only
  repeat' split
  all_goals exact ⟨rfl⟩

theorem post_samePaths (code tag : Half) (arg : Word) (s : State) : SamePaths s (post code tag arg s) :=
  .of_confined (post_frame (w := [.ring, .evtLost]) code tag arg s (frame_refl _ s) (hw := by decide)) (by decide)

theorem releaseGain_samePaths (s : State) : SamePaths s (releaseGain s) := ⟨rfl⟩

theorem cancelDet_samePaths (n : Nat) (d : Det) (s : State) : SamePaths s (cancelDet n d s) := by
  have hset : ∀ t a, SamePaths t { t with scarab := a } := fun _ _ => ⟨rfl⟩
  exact (hset s _).trans ((post_samePaths ..).trans ((discardProv_samePaths d _).trans (releaseGain_samePaths _)))

theorem cancelDets_samePaths (n : Nat) (p : Det → Bool) (s : State) : SamePaths s (cancelDets n p s) := by
  have hall : ∀ (l : List Det) t, SamePaths t (l.foldl (fun t d => cancelDet n d t) t) := by
    intro l
    induction l with
    | nil => exact fun _ => ⟨rfl⟩
    | cons d l ih => exact fun t => (cancelDet_samePaths n d t).trans (ih _)
  exact hall _ s

theorem loseReception_samePaths (outcome : Nat) (c : Path) (s : State) : SamePaths s (loseReception outcome c s) := by
  have hset : ∀ r t, SamePaths t (setReception c r t) := by
    intro r t
    cases c <;> exact ⟨rfl⟩
  have hdraw : ∀ n t, SamePaths t (freeBits n t).2 := fun _ _ => ⟨rfl⟩
  unfold loseReception
  split
  · exact ⟨rfl⟩
  · exact SamePaths.trans (.ite (post_samePaths ..) ((hdraw 4 s).trans ((hdraw 16 _).trans (post_samePaths ..))))
      ((hset none _).trans (releaseGain_samePaths _))

theorem stopReceiving_samePaths (s : State) : SamePaths s (stopReceiving s) := by
  have hcount : ∀ (b : Bool) t, SamePaths t (if b then { t with rx := { t.rx with preempt := inc t.rx.preempt } }
    else t) := fun _ _ => .ite ⟨rfl⟩ ⟨rfl⟩
  exact ((loseReception_samePaths 7 .a s).trans (loseReception_samePaths 7 .b _)).trans (hcount _ _)

theorem goto_samePaths (x : RadioState) (s : State) : SamePaths s (goto x s) := ⟨rfl⟩

theorem gotoIdle_samePaths (s : State) : SamePaths s (gotoIdle s) := by
  have hset : ∀ t b, SamePaths t { t with rx := { t.rx with mosaic := 0 }, radio := b } := fun _ _ => ⟨rfl⟩
  exact (cancelDets_samePaths 7 _ s).trans ((hset _ _).trans (.ite (goto_samePaths ..) (goto_samePaths ..)))

theorem startUp_samePaths (u : UpFor) (s : State) : SamePaths s (startUp u s) := by
  have hset : ∀ t b lo, SamePaths t (goto .synthUp (tune lo { t with radio := b })) := fun _ _ _ => ⟨rfl⟩
  cases u with
  | tx j => exact (stopReceiving_samePaths s).trans (hset ..)
  | ack j => exact (stopReceiving_samePaths s).trans (hset ..)
  | cca => exact hset ..
  | rx => exact hset ..

theorem judgeFloors_samePaths (s t : State) : SamePaths t (judgeFloors s t) := by
  have hset : ∀ (p : Prop) [Decidable p] t nf v, SamePaths t
      (if p then t else { t with rx := { t.rx with nfA := nf, nfValid := v } }) :=
    fun _ _ _ _ _ => .ite ⟨rfl⟩ ⟨rfl⟩
  have hsetB : ∀ (p : Prop) [Decidable p] t nf v, SamePaths t
      (if p then t else { t with rx := { t.rx with nfB := nf, nfValid := v } }) :=
    fun _ _ _ _ _ => .ite ⟨rfl⟩ ⟨rfl⟩
  exact (hset _ t _ _).trans (hsetB _ _ _ _)

theorem channelsChanged_samePaths (s t : State) : SamePaths t (channelsChanged s t) := by
  have hsame : ∀ u, SamePaths u u := fun _ => ⟨rfl⟩
  have hretune : ∀ u, SamePaths u (retuneRx u) := fun u =>
    .ite (.ite (gotoIdle_samePaths u) (.ite (startUp_samePaths .rx u) (hsame u)))
        (.ite (startUp_samePaths .cca u) (hsame u))
  exact (judgeFloors_samePaths s t).trans (hretune _)

theorem channelsChanged_repair (s t : State) : (channelsChanged s t).repair = t.repair :=
  (channelsChanged_frame (w := [.sup, .ring, .evtLost, .scarab, .rx, .radio, .draws]) s t (frame_refl _ t)
      (hw := by decide)).same .repair
    (by decide)

theorem selfTested_of_samePaths {pass : Bool} {s : State} (h : (selfTest pass s).rx.pathsOk = s.rx.pathsOk) :
    selfTested pass s = selfTest pass s := if_pos h

/-- A turn of a unit that can be tested, whose lane is not skipped. -/
theorem selfTest_pass {s : State} (ht : testable s = true)
    (hl : ¬ (s.repair.bistUnit.val < 34 ∧ s.scarab.laneDue ≠ [])) :
    selfTest true s = nextUnit { s with repair := { s.repair with
      bistOnce := s.repair.bistOnce.filter fun x => x != s.repair.bistUnit.val } } := by
  rw [selfTest, if_neg (by simp [ht]), if_neg hl]
  rfl

/-- The state in which a second failure of a unit is counted, and its first one forgotten. -/
def failedTwice (s : State) : State := { s with repair := { s.repair with
  bistFails := inc s.repair.bistFails
  bistOnce := s.repair.bistOnce.filter fun x => x != s.repair.bistUnit.val } }

theorem selfTest_first_failure {s : State} (ht : testable s = true)
    (hl : ¬ (s.repair.bistUnit.val < 34 ∧ s.scarab.laneDue ≠ []))
    (h : s.repair.bistOnce.contains s.repair.bistUnit.val = false) :
    selfTest false s = nextUnit { s with repair := { s.repair with
      bistFails := inc s.repair.bistFails, bistOnce := s.repair.bistOnce ++ [s.repair.bistUnit.val] } } := by
  rw [selfTest, if_neg (by simp [ht]), if_neg hl]
  simp only [Bool.false_eq_true, if_false]
  exact if_neg (by rw [h]; decide)

theorem selfTest_second_failure {s : State} (ht : testable s = true)
    (hl : ¬ (s.repair.bistUnit.val < 34 ∧ s.scarab.laneDue ≠ []))
    (h : s.repair.bistOnce.contains s.repair.bistUnit.val = true) : selfTest false s =
      if s.repair.bistUnit.val < 34 then
        if s.scarab.physFail.contains s.repair.bistUnit.val then nextUnit (failedTwice s)
        else nextUnit { failedTwice s with scarab := { s.scarab with
          laneDue := s.scarab.laneDue ++ [s.repair.bistUnit.val] } }
      else if s.repair.bistUnit.val < 36 then
        if bit s.rx.pathsOk.toNat (s.repair.bistUnit.val - 34) then
          nextUnit (pathFailed (s.repair.bistUnit.val - 34) (failedTwice s))
        else nextUnit (failedTwice s)
      else nextUnit (postRepair 0x09 0 (failedTwice s)) := by
  rw [selfTest, if_neg (by simp [ht]), if_neg hl]
  simp only [Bool.false_eq_true, if_false]
  exact if_pos h

/-- What a second failure leaves of the counts, whatever it leads to. -/
structure FailedTwice (s t : State) : Prop where
  fails : t.repair.bistFails = inc s.repair.bistFails
  unit  : t.repair.bistUnit.val = (s.repair.bistUnit.val + 1) % 37
  once  : t.repair.bistOnce = s.repair.bistOnce.filter fun x => x != s.repair.bistUnit.val

theorem FailedTwice.of_repair {s t : State} (h : t.repair = (nextUnit (failedTwice s)).repair) : FailedTwice s t :=
  ⟨congrArg Repair.bistFails h, congrArg (fun r => r.bistUnit.val) h, congrArg Repair.bistOnce h⟩

theorem FailedTwice.congr {s t u : State} (h : u.repair = t.repair) : FailedTwice s u = FailedTwice s t :=
  propext ⟨fun k => ⟨h ▸ k.fails, h ▸ k.unit, h ▸ k.once⟩, fun k => ⟨h ▸ k.fails, h ▸ k.unit, h ▸ k.once⟩⟩

/-- A path that is taken out of use: its bit is cleared, the repair is entered and counted. -/
theorem pathFailed_effect (p : Nat) (s : State) :
    FailedTwice s (nextUnit (pathFailed p (failedTwice s))) ∧
      (∀ t : State, bit (pathFailed p t).rx.pathsOk.toNat p = false) ∧
      (pathFailed p (failedTwice s)).repair.repairCount = inc s.repair.repairCount := by
  obtain ⟨_, _, _, _, hrep⟩ := enterRepair_repair 0x05 p ⟨0x05, BitVec.ofNat 8 p, 0xFF, 0xFF⟩ (fun _ => false)
    { failedTwice s with rx := { s.rx with pathsOk := s.rx.pathsOk &&& ~~~(BitVec.ofNat 2 (2 ^ p)) } }
  have hpath : (pathFailed p (failedTwice s)).repair = _ := hrep
  refine ⟨⟨?_, ?_, ?_⟩, fun t => ?_, ?_⟩
  · exact congrArg Repair.bistFails hpath
  · exact congrArg (fun r => (r.bistUnit.val + 1) % 37) hpath
  · exact congrArg Repair.bistOnce hpath
  · rw [pathFailed, (enterRepair_confined ..).same .rx (by decide)]
    exact bit_and_not_twoPow _
  · exact congrArg Repair.repairCount hpath

section Second

variable {s : State} (ht : testable s = true) (hl : ¬ (s.repair.bistUnit.val < 34 ∧ s.scarab.laneDue ≠ []))
  (htwo : s.repair.bistOnce.contains s.repair.bistUnit.val = true)
include ht hl htwo

/-- A lane that fails twice is due for replacement, unless it has failed before. -/
theorem selfTested_lane (hu : s.repair.bistUnit.val < 34) : FailedTwice s (selfTested false s) ∧
    (s.scarab.physFail.contains s.repair.bistUnit.val = false →
      (selfTested false s).scarab.laneDue = s.scarab.laneDue ++ [s.repair.bistUnit.val]) := by
  have hsecond := selfTest_second_failure ht hl htwo
  rw [if_pos hu] at hsecond
  cases hf : s.scarab.physFail.contains s.repair.bistUnit.val with
  | true =>
    rw [if_pos hf] at hsecond
    rw [selfTested_of_samePaths (congrArg (fun t => t.rx.pathsOk) hsecond), hsecond]
    exact ⟨.of_repair rfl, nofun⟩
  | false =>
    rw [if_neg (by rw [hf]; decide)] at hsecond
    rw [selfTested_of_samePaths (congrArg (fun t => t.rx.pathsOk) hsecond), hsecond]
    exact ⟨.of_repair rfl, fun _ => rfl⟩

/-- A path that fails twice is taken out of use, and the radio takes its channels anew. -/
theorem selfTested_path (hlo : 34 ≤ s.repair.bistUnit.val) (hhi : s.repair.bistUnit.val < 36) :
    FailedTwice s (selfTested false s) ∧ (bit s.rx.pathsOk.toNat (s.repair.bistUnit.val - 34) = true →
      bit (selfTested false s).rx.pathsOk.toNat (s.repair.bistUnit.val - 34) = false ∧
        (selfTested false s).repair.repairCount = inc s.repair.repairCount) := by
  have hsecond := selfTest_second_failure ht hl htwo
  rw [if_neg (Nat.not_lt.mpr hlo), if_pos hhi] at hsecond
  cases hbit : bit s.rx.pathsOk.toNat (s.repair.bistUnit.val - 34) with
  | false =>
    rw [if_neg (by rw [hbit]; decide)] at hsecond
    rw [selfTested_of_samePaths (congrArg (fun t => t.rx.pathsOk) hsecond), hsecond]
    exact ⟨.of_repair rfl, nofun⟩
  | true =>
    rw [if_pos hbit] at hsecond
    obtain ⟨htwice, hoff, hcount⟩ := pathFailed_effect (s.repair.bistUnit.val - 34) s
    have hnow := hoff (failedTwice s)
    have hne : ¬ (selfTest false s).rx.pathsOk = s.rx.pathsOk := by
      intro he
      rw [← he, hsecond] at hbit
      exact absurd (hbit.symm.trans hnow) (by decide)
    have hthen : selfTested false s = channelsChanged s (selfTest false s) := if_neg hne
    rw [hthen, FailedTwice.congr (channelsChanged_repair ..), (channelsChanged_samePaths ..).same,
      channelsChanged_repair, hsecond]
    exact ⟨htwice, fun _ => ⟨hnow, hcount⟩⟩

/-- The synthesizer's second failure is reported. -/
theorem selfTested_synth (hu : 36 ≤ s.repair.bistUnit.val) : FailedTwice s (selfTested false s) ∧
    (selfTested false s).repair.repairCount = inc s.repair.repairCount := by
  have hsecond := selfTest_second_failure ht hl htwo
  rw [if_neg (by omega), if_neg (Nat.not_lt.mpr hu)] at hsecond
  have hrep := postRepair_repair 0x09 0 (failedTwice s)
  have hpaths : (postRepair 0x09 0 (failedTwice s)).rx = s.rx :=
    (postRepair_frame (w := [.ring, .evtLost, .mortar, .repair]) 0x09 0 (failedTwice s) (frame_refl _ _)
        (hw := by decide)).same .rx (by decide)
  rw [selfTested_of_samePaths ((congrArg (fun t => t.rx.pathsOk) hsecond).trans (congrArg Rx.pathsOk hpaths)), hsecond]
  exact ⟨⟨congrArg Repair.bistFails hrep, congrArg (fun r => (r.bistUnit.val + 1) % 37) hrep,
    congrArg Repair.bistOnce hrep⟩, congrArg Repair.repairCount hrep⟩

end Second

/-- Settles O59: a first failure of a unit is remembered, a second one in a row declares it failed. -/
theorem selfTestsDeclareFailures : Obligations.SelfTestsDeclareFailures := by
  rintro u s rfl ht hlane
  have hl : ¬ (s.repair.bistUnit.val < 34 ∧ s.scarab.laneDue ≠ []) := fun h => h.2 (hlane h.1)
  refine ⟨⟨_, rfl, ?_⟩, fun hone => ⟨_, rfl, ?_⟩, fun htwo => ⟨_, rfl, ?_⟩⟩
  · rw [selfTested_of_samePaths (congrArg (fun t => t.rx.pathsOk) (selfTest_pass ht hl)), selfTest_pass ht hl]
    exact ⟨confined_setRepair s _, rfl, rfl, rfl⟩
  · have hfirst := selfTest_first_failure ht hl hone
    rw [selfTested_of_samePaths (congrArg (fun t => t.rx.pathsOk) hfirst), hfirst]
    exact ⟨confined_setRepair s _, rfl⟩
  · have hend : FailedTwice s (selfTested false s) := by
      rcases Nat.lt_or_ge s.repair.bistUnit.val 34 with h | h
      · exact (selfTested_lane ht hl htwo h).1
      rcases Nat.lt_or_ge s.repair.bistUnit.val 36 with h' | h'
      · exact (selfTested_path ht hl htwo h h').1
      · exact (selfTested_synth ht hl htwo h').1
    refine ⟨hend.fails, hend.unit, hend.once, fun h hf => ?_, fun hlo hhi => (selfTested_path ht hl htwo hlo hhi).2,
      fun h => (selfTested_synth ht hl htwo h.ge).2⟩
    rw [(selfTested_lane ht hl htwo h).2 hf, hlane h]
    rfl

end Sys2Proof.Machine
end

section
/-! SUPPORT. O55: the capture units (R404, R420, R421). -/

namespace Sys2Proof.Machine

open Sys2Proof.Safety

-- A capture unit as it reads

/-- A capture command writes unit `u` alone. -/
structure PairWritten (u : Nat) (c : CapPair) (es : List (Bool × Word)) (t : State) : Prop where
  unit  : nth noPair t.timer.capPairs u = c
  edges : nth [] t.timer.edges u = es

theorem PairWritten.now {u : Nat} {c : CapPair} {es : List (Bool × Word)} {t : State} (h : PairWritten u c es t) :
    capPairNow t u = es.foldl applyPair c := by
  rw [capPairNow, h.unit, h.edges]

theorem PairWritten.of_timer {u : Nat} {c : CapPair} {es : List (Bool × Word)} {s t : State} (h : PairWritten u c es s)
    (ht : t.timer = s.timer) : PairWritten u c es t := by
  refine ⟨?_, ?_⟩
  · rw [ht, h.unit]
  · rw [ht, h.edges]

theorem capPairNow_of_timer {s t : State} (h : t.timer = s.timer) (u : Nat) : capPairNow t u = capPairNow s u := by
  unfold capPairNow
  rw [h]

theorem capSingleNow_of_timer {s t : State} (h : t.timer = s.timer) (k : Nat) :
    capSingleNow t k = capSingleNow s k := by
  unfold capSingleNow
  rw [h]

/-- The oldest edge of a paired unit is written to it; the others still wait. -/
theorem captureEdge_pair {u : Nat} {e : Bool × Word} {rest : List (Bool × Word)} {s : State} (hu : u < 8)
    (hp : s.timer.capPairs.length = 8) (hl : s.timer.edges.length = 12) (he : nth [] s.timer.edges u = e :: rest) :
    PairWritten u (applyPair (nth noPair s.timer.capPairs u) e) rest (captureEdge u s) := by
  unfold captureEdge
  rw [he]
  dsimp only
  rw [if_pos hu]
  exact ⟨nth_setNth_self _ (by omega) _, nth_setNth_self _ (by simp [putPair, setNth]; omega) _⟩

theorem captureEdge_single {k : Nat} {e : Bool × Word} {rest : List (Bool × Word)} {s : State} (hk : k < 4)
    (hp : s.timer.capSingles.length = 4) (he : nth [] s.timer.edges (8 + k) = e :: rest) :
    nth noSingle (captureEdge (8 + k) s).timer.capSingles k = applySingle (nth noSingle s.timer.capSingles k) e := by
  unfold captureEdge
  rw [he]
  dsimp only
  rw [if_neg (by omega), Nat.add_sub_cancel_left]
  exact nth_setNth_self _ (by omega) _

/-- Clearing NEW flags writes the unit as it reads, and no edge waits for it any more. -/
theorem clearNew_pair {u : Nat} {s : State} (rise fall : Bool) (hu : u < 8) (hp : s.timer.capPairs.length = 8)
    (hl : s.timer.edges.length = 12) : capPairNow (clearNew u rise fall s) u =
      { capPairNow s u with
        rnew := (capPairNow s u).rnew && !rise, fnew := (capPairNow s u).fnew && !fall } := by
  rw [clearNew, if_pos hu]
  have h : PairWritten u { capPairNow s u with
      rnew := (capPairNow s u).rnew && !rise, fnew := (capPairNow s u).fnew && !fall } []
      (putPair u { capPairNow s u with
        rnew := (capPairNow s u).rnew && !rise, fnew := (capPairNow s u).fnew && !fall } s) :=
    ⟨nth_setNth_self _ (by omega) _, nth_setNth_self _ (by omega) _⟩
  exact h.now

theorem clearNew_single {k : Nat} {s : State} (fall : Bool) (hk : k < 4) (hp : s.timer.capSingles.length = 4)
    (hl : s.timer.edges.length = 12) :
    capSingleNow (clearNew (8 + k) true fall s) k = { capSingleNow s k with new_ := false } := by
  have hput : clearNew (8 + k) true fall s = putSingle k { capSingleNow s k with new_ := false } s := by
    rw [clearNew, if_neg (by omega), Nat.add_sub_cancel_left]
    simp
  have hunit := nth_setNth_self noSingle (show k < s.timer.capSingles.length by omega)
      { capSingleNow s k with new_ := false }
  have hedges := nth_setNth_self [] (show 8 + k < s.timer.edges.length by omega) ([] : List (Bool × Word))
  rw [hput, capSingleNow, show (putSingle k { capSingleNow s k with new_ := false } s).timer.edges =
    setNth s.timer.edges (8 + k) [] from rfl, hedges]
  exact hunit

theorem clearNew_lengths (u : Nat) (rise fall : Bool) (s : State) :
    (clearNew u rise fall s).timer.capPairs.length = s.timer.capPairs.length ∧
      (clearNew u rise fall s).timer.edges.length = s.timer.edges.length := by
  unfold clearNew
  split
  · exact ⟨List.length_set .., List.length_set ..⟩
  · exact ⟨rfl, List.length_set ..⟩

-- The registers of a capture unit (Table 21.1)

/-- RISE, FALL, WIDTH and PER of a paired unit: what each register answers and what reading it does. -/
theorem pairRegisters (u : Fin 8) (s : State) :
    regValue s (0x6204 + 32 * u.val) = some (capPairNow s u.val).rise.toNat ∧
    regValue s (0x6208 + 32 * u.val) = some (capPairNow s u.val).fall.toNat ∧
    regValue s (0x620C + 32 * u.val) = some (capPairNow s u.val).width.toNat ∧
    regValue s (0x6210 + 32 * u.val) = some (capPairNow s u.val).per.toNat := by
  fin_cases u <;> exact ⟨rfl, rfl, rfl, rfl⟩

theorem pairReadEffects (u : Fin 8) (s : State) :
    regReadEffect (0x6204 + 32 * u.val) s = clearNew u.val true false s ∧
    regReadEffect (0x6208 + 32 * u.val) s = clearNew u.val false true s ∧
    regReadEffect (0x620C + 32 * u.val) s = s ∧ regReadEffect (0x6210 + 32 * u.val) s = s := by
  fin_cases u <;> exact ⟨rfl, rfl, rfl, rfl⟩

/-- VAL of a single unit. -/
theorem singleRegister (k : Fin 4) (s : State) :
    regValue s (0x6304 + 8 * k.val) = some (capSingleNow s k.val).val.toNat ∧
    regReadEffect (0x6304 + 8 * k.val) s = clearNew (8 + k.val) true true s := by
  fin_cases k <;> exact ⟨rfl, rfl⟩

/-- A read of a register that is served, outside the blocks that answer early. -/
theorem hostRead_of_open {s : State} {a v : Nat} (ha : 0x1000 ≤ a) (hready : s.sys.ready = true)
    (hgate : regGated s a = false) (hval : regValue s a = some v) : hostRead a s =
        (leBytes 4 v, regReadEffect a s) := by
  have hearly : earlyBlock a = false := decide_eq_false (by omega)
  simp [hostRead, hval, hearly, hready, hgate]

theorem hostRegisters_one {s : State} {a v : Nat} (hfree : RegFree a s) (ha : 0x1000 ≤ a) (hlt : a < 65536)
    (hval : regValue (cleared s) a = some v) : hostRegisters 1 a s =
      sent .spi (statusByte s :: zeros (4 + c8Len s) ++ withC8 s (leBytes 4 v)) (regReadEffect a (cleared s)) := by
  obtain ⟨⟨hp, hrdy⟩, hgate⟩ := hfree
  have hread := hostRead_of_open (s := cleared s) ha (rdy_ready hrdy) hgate hval
  have hregs : readRegs 1 a (cleared s) = (leBytes 4 v, regReadEffect a (cleared s)) := by
    simp only [readRegs, Nat.mod_eq_of_lt hlt, hread, List.append_nil]
  rw [hostRegisters, transact_of_spiPresent hp, hregs]
  rfl

theorem regReadEffect_err (a : Nat) (s : State) : (regReadEffect a (cleared s)).spi.err = false :=
  congrArg (fun p => p.err) ((regReadEffect_frame (w := [.timer, .draws]) a (cleared s) (frame_refl _ _)
    (hw := by decide)).same .spi (by decide))

/-- A register that answers and whose read clears flags of a unit alone. -/
theorem captureRead_one {s : State} {a v : Nat} (hfree : RegFree a s) (ha : 0x1000 ≤ a) (hlt : a < 65536)
    (hval : regValue (cleared s) a = some v) : (hostRegisters 1 a s).spi.err = false ∧
      (hostRegisters 1 a s).timer = (regReadEffect a (cleared s)).timer ∧
      (hostRegisters 1 a s).spi.miso = statusByte s :: zeros (4 + c8Len s) ++ withC8 s (leBytes 4 v) := by
  rw [hostRegisters_one hfree ha hlt hval]
  exact ⟨regReadEffect_err a s, rfl, rfl⟩

/-- Where a register is served after a change of the timers, it was served before it. -/
theorem regGated_of_timer {r s : State} (h : Confined [.timer] r s) (a : Nat) : regGated s a = regGated r a := by
  have hclk : s.clk = r.clk := h.same .clk (by decide)
  have hlive : s.live = r.live := h.same .live (by decide)
  unfold regGated blockOpen blockOn enableBit liveNat liveBytes
  rw [hclk, hlive]

theorem clearNew_confined (u : Nat) (rise fall : Bool) (s : State) : Confined [.timer] s (clearNew u rise fall s) :=
  clearNew_frame u rise fall s (frame_refl _ s) (hw := by decide)

/-- A read of the four registers of a paired unit clears both of its NEW flags. -/
theorem captureRead_unit {u : Fin 8} {s : State} (hfree : ∀ k < 4, RegFree (0x6204 + 32 * u.val + 4 * k) s)
    (hp : s.timer.capPairs.length = 8) (hl : s.timer.edges.length = 12) :
    (hostRegisters 4 (0x6204 + 32 * u.val) s).spi.err = false ∧
      capPairNow (hostRegisters 4 (0x6204 + 32 * u.val) s) u.val =
        { capPairNow s u.val with rnew := false, fnew := false } := by
  have hup := (hfree 0 (by omega)).1
  have hready : (cleared s).sys.ready = true := rdy_ready hup.2
  obtain ⟨x, hx⟩ : ∃ x, x = clearNew u.val true false (cleared s) := ⟨_, rfl⟩
  obtain ⟨y, hy⟩ : ∃ y, y = clearNew u.val false true x := ⟨_, rfl⟩
  have hcx : Confined [.timer] (cleared s) x := hx ▸ clearNew_confined ..
  have hcy : Confined [.timer] (cleared s) y := confined_trans hcx (hy ▸ clearNew_confined ..)
  have hstep : ∀ z, Confined [.timer] (cleared s) z → ∀ k < 4, ∀ v, regValue z (0x6204 + 32 * u.val + 4 * k) = some v →
      (hostRead ((0x6204 + 32 * u.val + 4 * k) % 65536) z).2 = regReadEffect (0x6204 + 32 * u.val + 4 * k) z := by
    intro z hz k hk v hv
    have hz' : z.sys.ready = true := (congrArg Sys.ready (hz.same .sys (by decide))).trans hready
    have hgate : regGated z (0x6204 + 32 * u.val + 4 * k) = false := (regGated_of_timer hz _).trans (hfree k hk).2
    rw [Nat.mod_eq_of_lt (by omega), hostRead_of_open (by omega) hz' hgate hv]
  have hstate : (readRegs 4 (0x6204 + 32 * u.val) (cleared s)).2 = y := by
    have ha : ∀ k, 0x6204 + 32 * u.val + 4 * k = 0x6204 + 4 * k + 32 * u.val := fun k => by omega
    have h0 := hstep _ (frame_refl _ _) 0 (by omega) _ (pairRegisters u (cleared s)).1
    have h1 := hstep x hcx 1 (by omega) _ ((congrArg (regValue x) (ha 1)).trans (pairRegisters u x).2.1)
    have h2 := hstep y hcy 2 (by omega) _ ((congrArg (regValue y) (ha 2)).trans (pairRegisters u y).2.2.1)
    have h3 := hstep y hcy 3 (by omega) _ ((congrArg (regValue y) (ha 3)).trans (pairRegisters u y).2.2.2)
    rw [ha 0, (pairReadEffects u _).1, ← hx] at h0
    rw [ha 1, (pairReadEffects u _).2.1, ← hy] at h1
    rw [ha 2, (pairReadEffects u _).2.2.1] at h2
    rw [ha 3, (pairReadEffects u _).2.2.2] at h3
    simp only [readRegs]
    rw [show 0x6204 + 32 * u.val = 0x6204 + 4 * 0 + 32 * u.val by omega, h0,
      show 0x6204 + 4 * 0 + 32 * u.val + 4 = 0x6204 + 4 * 1 + 32 * u.val by omega, h1,
      show 0x6204 + 4 * 1 + 32 * u.val + 4 = 0x6204 + 4 * 2 + 32 * u.val by omega, h2,
      show 0x6204 + 4 * 2 + 32 * u.val + 4 = 0x6204 + 4 * 3 + 32 * u.val by omega, h3]
  have hsent : (hostRegisters 4 (0x6204 + 32 * u.val) s).timer = y.timer ∧
      (hostRegisters 4 (0x6204 + 32 * u.val) s).spi.err = y.spi.err := by
    rw [hostRegisters, transact_of_spiPresent hup.1, ← hstate]
    exact ⟨rfl, rfl⟩
  obtain ⟨hxp, hxl⟩ := clearNew_lengths u.val true false (cleared s)
  rw [← hx] at hxp hxl
  have hnowx := clearNew_pair (s := cleared s) true false u.isLt hp hl
  have hnowy := clearNew_pair (s := x) false true u.isLt (hxp.trans hp) (hxl.trans hl)
  rw [← hx] at hnowx
  rw [← hy, hnowx, capPairNow_of_timer (s := s) (t := cleared s) rfl] at hnowy
  refine ⟨hsent.2.trans (congrArg (fun p => p.err) (hcy.same .spi (by decide))), ?_⟩
  rw [capPairNow_of_timer hsent.1, hnowy]
  simp

/-- A dictionary read of a paired unit clears both of its NEW flags and is answered with the unit as it read. -/
theorem captureRead_dict {u : Fin 8} {port : Port} {tag : Byte} {s : State} (h : Reads port tag (K.cappVal + u.val) s)
    (hp : s.timer.capPairs.length = 8) (hl : s.timer.edges.length = 12) :
    capPairNow (dictRead port tag (K.cappVal + u.val) s) u.val =
        { capPairNow s u.val with rnew := false, fnew := false } ∧
      Answered (readRequest port tag (K.cappVal + u.val)) abOk (readEntry (atEngine port s) (K.cappVal + u.val))
        (dictRead port tag (K.cappVal + u.val) s) := by
  obtain ⟨hfree, hok⟩ := h
  have hlt : K.cappVal + u.val < 2 ^ 24 := by have := u.isLt; simp only [K.cappVal]; omega
  have heffect : readEffect (K.cappVal + u.val) (atEngine port s) = clearNew u.val true true (atEngine port s) := by
    have hrun : inRun (K.cappVal + u.val) K.cappVal 8 = true := by simp [inRun]
    simp only [readEffect, hrun, if_true, Nat.add_sub_cancel_left]
  have hkey := readRequest_key port tag hlt
  obtain ⟨m, hm⟩ := portRequest_of_portFree (r := readRequest port tag (K.cappVal + u.val)) (p := port) [] rfl hfree
  rw [serve_of_ok [] hok, perform_read (readRequest_write ..), hkey, heffect] at hm
  obtain ⟨-, hans⟩ := work_then_answer (r := readRequest port tag (K.cappVal + u.val)) abOk
    (readEntry (atEngine port s) (K.cappVal + u.val)) m rfl hfree
    (clearNew_confined u.val true true (atEngine port s)) (by decide)
  have htimer : (atEngine port s).timer = s.timer := by rw [atEngine_eq]
  have hnow := clearNew_pair (s := atEngine port s) true true u.isLt (by rw [htimer]; exact hp)
      (by rw [htimer]; exact hl)
  rw [capPairNow_of_timer htimer] at hnow
  rw [dictRead, hm]
  refine ⟨?_, hans⟩
  rw [capPairNow_of_timer (s := clearNew u.val true true (atEngine port s)) (by rw [sent_eq, respond_eq]), hnow]
  simp

/-- Settles O55: an edge is applied to its unit, and what reads a unit applies the edges that wait first. -/
theorem capturesLatchEdges : Obligations.CapturesLatchEdges := by
  intro s hp hs hl
  refine ⟨fun u rising at_ rest he => ?_, fun k rising at_ rest he => ?_, fun u hfree => ?_, fun u hfree => ?_,
    fun u hfree => ?_, fun k hfree => ?_, fun u port tag h => ?_⟩
  · obtain hw := captureEdge_pair u.isLt hp hl he
    have hnow : capPairNow (captureEdge u.val s) u.val = capPairNow s u.val := by
      rw [hw.now, capPairNow, he, List.foldl_cons]
    refine ⟨_, rfl, captureEdge_frame _ _ (frame_refl _ s) (hw := by decide), ?_, ?_, hw.edges, hnow⟩
    · rintro rfl
      rw [show capPair (captureEdge u.val s) u = _ from hw.unit]
      exact ⟨rfl, rfl, rfl, fun h => if_pos h⟩
    · rintro rfl
      rw [show capPair (captureEdge u.val s) u = _ from hw.unit]
      exact ⟨rfl, rfl, rfl, fun h => if_pos h⟩
  · refine ⟨_, rfl, captureEdge_frame _ _ (frame_refl _ s) (hw := by decide), ?_⟩
    rw [show capSingle (captureEdge (8 + k.val) s) k = _ from captureEdge_single k.isLt hs he]
    exact ⟨rfl, rfl, rfl⟩
  · obtain ⟨herr, htimer, hmiso⟩ := captureRead_one hfree (by omega) (by omega) (pairRegisters u (cleared s)).1
    have hread : captureRead u.val .rise s = hostRegisters 1 (0x6204 + 32 * u.val) s := if_pos u.isLt
    refine ⟨_, congrArg Host.Outcome.next hread, herr, ?_, hmiso⟩
    rw [capPairNow_of_timer htimer, (pairReadEffects u _).1, clearNew_pair (s := cleared s) true false u.isLt hp hl]
    simp [capPairNow_of_timer (s := s) (t := cleared s) rfl]
  · obtain ⟨herr, htimer, hmiso⟩ := captureRead_one hfree (by omega) (by omega) (pairRegisters u (cleared s)).2.1
    have hread : captureRead u.val .fall s = hostRegisters 1 (0x6208 + 32 * u.val) s := if_pos u.isLt
    refine ⟨_, congrArg Host.Outcome.next hread, herr, ?_, hmiso⟩
    rw [capPairNow_of_timer htimer, (pairReadEffects u _).2.1, clearNew_pair (s := cleared s) false true u.isLt hp hl]
    simp [capPairNow_of_timer (s := s) (t := cleared s) rfl]
  · have hread : captureRead u.val .unit s = hostRegisters 4 (0x6204 + 32 * u.val) s := if_pos u.isLt
    exact ⟨_, congrArg Host.Outcome.next hread, captureRead_unit hfree hp hl⟩
  · obtain ⟨herr, htimer, -⟩ := captureRead_one hfree (by omega) (by omega) (singleRegister k (cleared s)).1
    have hread : captureRead (8 + k.val) .value s = hostRegisters 1 (0x6304 + 8 * k.val) s := by
      rw [captureRead, if_neg (by omega), Nat.add_sub_cancel_left]
    refine ⟨_, congrArg Host.Outcome.next hread, herr, ?_⟩
    rw [capSingleNow_of_timer htimer, (singleRegister k _).2, clearNew_single (s := cleared s) true k.isLt hs hl]
    rfl
  · have hread : captureRead u.val (.dict port tag) s = dictRead port tag (K.cappVal + u.val) s := if_pos u.isLt
    exact ⟨_, congrArg Host.Outcome.next hread, captureRead_dict h hp hl⟩

end Sys2Proof.Machine
end

section
/-! SUPPORT. O54: writes of the compare channels, the counters and STAGGER, by register and by entry (R409 to R415,
R424). -/

namespace Sys2Proof.Machine

open Sys2Proof.Safety

-- Writes by register and by entry

/-- A write of a register that is served is one transaction with the effect of the register (R141). -/
theorem hostRegister_of_free {a v : Nat} {codes : List AdcCode} {s : State} (hfree : RegFree a s) (ha : 0x1000 ≤ a)
    (hval : (regValue (cleared s) a).isSome = true) :
    hostRegister a v codes s =
      sent .spi (statusByte s :: zeros (7 + c8Len (cleared s))) (writeReg a v codes (cleared s)) := by
  obtain ⟨⟨hp, hrdy⟩, hgate⟩ := hfree
  have hsome : ¬ (regValue (cleared s) a).isNone = true := by
    rw [Option.isNone_iff_eq_none]
    exact Option.isSome_iff_ne_none.mp hval
  have hearly : ¬ earlyBlock a = true := by simpa [earlyBlock] using ha
  have hserved : ¬ ((!(cleared s).sys.ready || regGated (cleared s) a) = true) := by
    rw [show (cleared s).sys.ready = true from rdy_ready hrdy, show regGated (cleared s) a = false from hgate]
    decide
  rw [hostRegister_of_spiPresent hp, hostWrite, if_neg hsome, if_neg hearly, if_neg hserved]

/-- A register write whose effect leaves the port is reported without an error, and changes what its effect changes. -/
theorem registerEffect {a v : Nat} {s u : State} {w : List Part} (hfree : RegFree a s) (ha : 0x1000 ≤ a)
    (hval : (regValue (cleared s) a).isSome = true) (hu : writeReg a v [] (cleared s) = u) (hw : Part.spi ∉ w)
    (hc : Confined w (cleared s) u) :
    (∃ m, hostRegister a v [] s = sent .spi m u) ∧ Confined (.spi :: w) s (hostRegister a v [] s) ∧
      (hostRegister a v [] s).spi.err = false := by
  have heq := hostRegister_of_free (v := v) (codes := []) hfree ha hval
  rw [hu] at heq
  refine ⟨⟨_, heq⟩, ?_, ?_⟩
  · rw [heq]
    have hone : [Part.spi] ⊆ .spi :: w := by simp
    refine confined_trans (confined_mono hone (confined_setSpi s { s.spi with err := false })) ?_
    exact confined_trans (confined_mono (List.subset_cons_self ..) hc) (confined_mono hone (confined_sent .spi _ u))
  · rw [heq]
    exact congrArg (fun p => p.err) (hc.same .spi hw)

-- The rows of the timers (Table 21.2)

/-- The rows of the compare channels and the counters, evaluated once. -/
theorem timer_rows :
    (∀ ch : Fin 16, rowOf ((K.cmpCfg + ch.val) / 256) ((K.cmpCfg + ch.val) % 256) =
      some ⟨0x5000, 0x10, 16, .u32, .rwp, 0, .any, some 0xFF0F3F⟩) ∧
    (∀ ch : Fin 16, rowOf ((K.cmpVal + ch.val) / 256) ((K.cmpVal + ch.val) % 256) =
      some ⟨0x5000, 0x20, 16, .time48, .rw, 0, .any, none⟩) ∧
    (∀ n : Fin 8, rowOf ((K.cnt + n.val) / 256) ((K.cnt + n.val) % 256) =
      some ⟨0x5000, 0x68, 8, .u16, .rw, 0, .any, none⟩) ∧
    (∀ ch : Fin 16, persisted (K.cmpVal + ch.val) = false) ∧ (∀ n : Fin 8, persisted (K.cnt + n.val) = false) ∧
    persisted K.stagger = false ∧ persisted K.snapCmd = false := by
  decide +kernel

/-- What the keys of the timers' rows are not: the entries that the setter treats by themselves before them. -/
theorem cmpVal_key (ch : Fin 16) : K.cmpVal + ch.val < 2 ^ 24 ∧ ¬ engineKey (K.cmpVal + ch.val) ∧
    (K.cmpVal + ch.val ∉ [K.wakeEn, K.evtMask, K.ckoCfg, K.lbtExempt, K.retainMask, K.lockviol, K.qAttr, K.pollAttr]) ∧
    inRun (K.cmpVal + ch.val) K.ckoCfg 4 = false ∧ inRun (K.cmpVal + ch.val) K.cappCfg 8 = false ∧
    inRun (K.cmpVal + ch.val) K.cmpCfg 16 = false ∧ inRun (K.cmpVal + ch.val) K.cmpVal 16 = true := by
  unfold engineKey
  revert ch
  decide

theorem cmpCfg_key (ch : Fin 16) :
    (K.cmpCfg + ch.val ∉ [K.wakeEn, K.evtMask, K.ckoCfg, K.lbtExempt, K.retainMask, K.lockviol, K.qAttr, K.pollAttr]) ∧
    inRun (K.cmpCfg + ch.val) K.ckoCfg 4 = false ∧ inRun (K.cmpCfg + ch.val) K.cappCfg 8 = false ∧
    inRun (K.cmpCfg + ch.val) K.cmpCfg 16 = true := by
  revert ch
  decide

theorem cnt_key (n : Fin 8) : K.cnt + n.val < 2 ^ 24 ∧ ¬ engineKey (K.cnt + n.val) ∧
    (K.cnt + n.val ∉ [K.wakeEn, K.evtMask, K.ckoCfg, K.lbtExempt, K.retainMask, K.lockviol, K.qAttr, K.pollAttr]) ∧
    inRun (K.cnt + n.val) K.ckoCfg 4 = false ∧ inRun (K.cnt + n.val) K.cappCfg 8 = false ∧
    inRun (K.cnt + n.val) K.cmpCfg 16 = false ∧ inRun (K.cnt + n.val) K.cmpVal 16 = false ∧
    inRun (K.cnt + n.val) K.cmpPeriod 16 = false ∧ inRun (K.cnt + n.val) K.capsCfg 4 = false ∧
    inRun (K.cnt + n.val) K.cntCfg 8 = false ∧ inRun (K.cnt + n.val) K.cnt 8 = true := by
  unfold engineKey
  revert n
  decide

/-- A value without reserved bits is stored as it is, where no entry of its own says otherwise. -/
theorem stored_of_row {key : Nat} {row : Row} (b : Bytes) (hrow : rowOf (key / 256) (key % 256) = some row)
    (hkey : key ∉ [K.wakeEn, K.evtMask, K.ckoCfg, K.lbtExempt, K.retainMask, K.lockviol, K.qAttr, K.pollAttr])
    (hcko : inRun key K.ckoCfg 4 = false) (hcapp : inRun key K.cappCfg 8 = false) : stored key b = row.keep b := by
  simp only [List.mem_cons, List.not_mem_nil, or_false, not_or] at hkey
  obtain ⟨hwake, hmask, -, hlbt, hretain, -, -, -⟩ := hkey
  simp [stored, hrow, hwake, hmask, hcko, hcapp, hlbt, hretain]

theorem setEntry_cmpVal (ch : Fin 16) (b : Bytes) (s : State) : setEntry (K.cmpVal + ch.val) b s =
    setCmp ch.val { getCmp s ch.val with val := BitVec.ofNat 48 (leNat b) } s := by
  obtain ⟨-, -, hkey, hcko, hcapp, hcfg, hval⟩ := cmpVal_key ch
  have hst : stored (K.cmpVal + ch.val) b = b := stored_of_row b (timer_rows.2.1 ch) hkey hcko hcapp
  simp only [List.mem_cons, List.not_mem_nil, or_false, not_or] at hkey
  obtain ⟨-, -, -, -, -, hlock, hq, hpoll⟩ := hkey
  simp only [setEntry, hst, if_neg hlock, if_neg hq, if_neg hpoll, hcfg, hval, Bool.false_eq_true, if_false, if_true,
    Nat.add_sub_cancel_left]

theorem setEntry_cnt (n : Fin 8) (b : Bytes) (s : State) : setEntry (K.cnt + n.val) b s =
    setCnt n.val { getCnt s n.val with val := BitVec.ofNat 16 (leNat b) } s := by
  obtain ⟨-, -, hkey, hcko, hcapp, hcfg, hval, hper, hcaps, hcntCfg, hcnt⟩ := cnt_key n
  have hst : stored (K.cnt + n.val) b = b := stored_of_row b (timer_rows.2.2.1 n) hkey hcko hcapp
  simp only [List.mem_cons, List.not_mem_nil, or_false, not_or] at hkey
  obtain ⟨-, -, -, -, -, hlock, hq, hpoll⟩ := hkey
  simp only [setEntry, hst, if_neg hlock, if_neg hq, if_neg hpoll, hcfg, hval, hper, hcapp, hcaps, hcntCfg, hcnt,
    Bool.false_eq_true, if_false, if_true, Nat.add_sub_cancel_left]

theorem setEntry_cmpCfg (ch : Fin 16) (b : Bytes) (s : State) : setEntry (K.cmpCfg + ch.val) b s =
    setCmpCfg ch.val (leNat (leBytes b.length (leNat b &&& 0xFF0F3F))) s := by
  obtain ⟨hkey, hcko, hcapp, hcfg⟩ := cmpCfg_key ch
  have hst : stored (K.cmpCfg + ch.val) b = leBytes b.length (leNat b &&& 0xFF0F3F) :=
    stored_of_row b (timer_rows.1 ch) hkey hcko hcapp
  simp only [List.mem_cons, List.not_mem_nil, or_false, not_or] at hkey
  obtain ⟨-, -, -, -, -, hlock, hq, hpoll⟩ := hkey
  simp only [setEntry, hst, if_neg hlock, if_neg hq, if_neg hpoll, hcfg, if_true, Nat.add_sub_cancel_left]

-- VAL of a compare channel (R411)

theorem readEntry_cmpVal (ch : Fin 16) (s : State) :
    readEntry s (K.cmpVal + ch.val) = leBytes 6 (getCmp s ch.val).val.toNat := by
  fin_cases ch <;> rfl

/-- VAL takes any value. -/
theorem entryTakes_cmpVal (ch : Fin 16) (b : Bytes) (s : State) : entryTakes s (K.cmpVal + ch.val) b = true := by
  have hset : settingOk s (K.cmpVal + ch.val) b = true := by
    fin_cases ch <;> rfl
  rw [entryTakes, timer_rows.2.1 ch]
  exact hset

theorem setNth_nth {α : Type} (d : α) {l : List α} {i : Nat} (h : i < l.length) : setNth l i (nth d l i) = l := by
  simp [setNth, nth, h]

/-- A write of bits of VAL: the channel has them, and its other bits as before. -/
theorem writeField_cmpVal (ch : Fin 16) (lo width v : Nat) {s : State} (hl : s.timer.cmps.length = 16) :
    writeField (K.cmpVal + ch.val) lo width v s = setCmp ch.val { getCmp s ch.val with
      val := BitVec.ofNat 48 (withField (getCmp s ch.val).val.toNat lo width v) } s := by
  have hold : leNat (leBytes 6 (getCmp s ch.val).val.toNat) = (getCmp s ch.val).val.toNat :=
    leNat_leBytes_of_lt (getCmp s ch.val).val.isLt
  have hval : ∀ x, BitVec.ofNat 48 (leNat (leBytes 6 x)) = BitVec.ofNat 48 x := fun x => by
    rw [leNat_leBytes]
    exact BitVec.eq_of_toNat_eq (by simp)
  rw [writeField, readEntry_cmpVal, leBytes_length, hold]
  by_cases hnew : leBytes 6 (withField (getCmp s ch.val).val.toNat lo width v) = leBytes 6 (getCmp s ch.val).val.toNat
  · rw [if_pos hnew]
    have hkeep : BitVec.ofNat 48 (withField (getCmp s ch.val).val.toNat lo width v) = (getCmp s ch.val).val := by
      rw [← hval, hnew, hold, BitVec.ofNat_toNat, BitVec.setWidth_eq]
    rw [hkeep]
    show s = setCmp ch.val (getCmp s ch.val) s
    rw [setCmp, getCmp, setNth_nth _ (by omega)]
  · rw [if_neg hnew, if_pos (entryTakes_cmpVal ..), setEntry_cmpVal, hval]

/-- The registers of a channel and of a counter: they are served, and what their writes do. -/
theorem compareRegisters (ch : Fin 16) (v : Nat) (s : State) :
    (regValue s (0x6100 + 16 * ch.val)).isSome = true ∧ (regValue s (0x6104 + 16 * ch.val)).isSome = true ∧
    (regValue s (0x6108 + 16 * ch.val)).isSome = true ∧
    writeReg (0x6104 + 16 * ch.val) v [] s = writeField (K.cmpVal + ch.val) 0 32 v s ∧
    writeReg (0x6108 + 16 * ch.val) v [] s = writeField (K.cmpVal + ch.val) 32 16 v s := by
  fin_cases ch <;> exact ⟨rfl, rfl, rfl, rfl, rfl⟩

theorem setCmp_confined (n : Nat) (c : Compare) (s : State) : Confined [.timer] s (setCmp n c s) :=
  setCmp_frame n c s (frame_refl _ s) (hw := by decide)

theorem getCmp_setCmp_same {n : Nat} {s : State} (h : n < s.timer.cmps.length) (c : Compare) :
    getCmp (setCmp n c s) n = c := nth_setNth_self _ h _

theorem getCmp_setCmp_ne {n k : Nat} (h : k ≠ n) (c : Compare) (s : State) : getCmp (setCmp n c s) k = getCmp s k := by
  simp [getCmp, setCmp, nth, setNth, h.symm]

theorem getCmp_of_timer {s t : State} (h : t.timer = s.timer) (n : Nat) : getCmp t n = getCmp s n := by
  rw [getCmp, h, getCmp]

theorem valueWrite_low (x v : Nat) (hv : v < 2 ^ 32) : withField x 0 32 v = x / 2 ^ 32 * 2 ^ 32 + v := by
  simp only [withField]
  omega

theorem valueWrite_high (x v : Nat) (hv : v < 2 ^ 16) (hx : x < 2 ^ 48) :
    withField x 32 16 v = v * 2 ^ 32 + x % 2 ^ 32 := by
  simp only [withField]
  omega

/-- A register write of VAL. -/
theorem valueRegister {a lo width v : Nat} {ch : Fin 16} {s : State} (hfree : RegFree a s) (ha : 0x1000 ≤ a)
    (hval : (regValue (cleared s) a).isSome = true)
    (hw : writeReg a v [] (cleared s) = writeField (K.cmpVal + ch.val) lo width v (cleared s))
    (hl : s.timer.cmps.length = 16) :
    Confined [.spi, .timer] s (hostRegister a v [] s) ∧ (hostRegister a v [] s).spi.err = false ∧
      (getCmp (hostRegister a v [] s) ch.val).val =
        BitVec.ofNat 48 (withField (getCmp s ch.val).val.toNat lo width v) := by
  rw [writeField_cmpVal ch lo width v (s := cleared s) hl] at hw
  obtain ⟨⟨m, hm⟩, hconf, herr⟩ := registerEffect hfree ha hval hw (by decide) (setCmp_confined ..)
  refine ⟨hconf, herr, ?_⟩
  rw [hm]
  exact congrArg Compare.val (getCmp_setCmp_same (s := cleared s) (show ch.val < s.timer.cmps.length by omega) _)

-- CFG of a compare channel (R409, R416)

theorem cmpCfg_of_live {s t : State} (h : t.live = s.live) (n : Nat) : cmpCfg t n = cmpCfg s n := by
  unfold cmpCfg liveNat liveBytes
  rw [h]

theorem armCmp_live (n : Nat) (s : State) : (armCmp n s).live = s.live :=
  (armCmp_frame (w := [.timer]) n s (frame_refl _ s) (hw := by decide)).same .live (by decide)

theorem cmpCfg_armCmp (n k : Nat) (s : State) : cmpCfg (armCmp n s) k = cmpCfg s k := cmpCfg_of_live (armCmp_live n s) k

/-- A configuration that is set reads as the bytes written. -/
theorem cmpCfg_setLive_same (n v : Nat) {s : State} (h : s.live.Pairwise (fun p q => p.1 < q.1)) :
    cmpCfg (setLive s (K.cmpCfg + n) (leBytes 4 v)) n = v % 2 ^ 32 := by
  rw [cmpCfg, liveNat, liveBytes_setLive_eq _ _ _ h, leNat_leBytes]
  norm_num

theorem cmpCfg_setLive_ne {n k : Nat} (h : k ≠ n) (b : Bytes) (s : State) :
    cmpCfg (setLive s (K.cmpCfg + n) b) k = cmpCfg s k := by
  rw [cmpCfg, liveNat, liveBytes_setLive_ne _ _ (by omega)]
  rfl

theorem and_mask_lt (v : Nat) : v &&& 0xFF0F3F < 2 ^ 32 := Nat.lt_of_le_of_lt Nat.and_le_right (by decide)

theorem cmpCfg_setCmpCfg (n v : Nat) {s : State} (h : s.live.Pairwise (fun p q => p.1 < q.1)) :
    cmpCfg (setCmpCfg n v s) n = v &&& 0xFF0F3F := by
  have hset : cmpCfg (setLive s (K.cmpCfg + n) (leBytes 4 (v &&& 0x00FF0F3F))) n = v &&& 0xFF0F3F := by
    rw [cmpCfg_setLive_same n _ h, Nat.mod_eq_of_lt (and_mask_lt v)]
  unfold setCmpCfg
  dsimp only
  split
  · rw [cmpCfg_armCmp, hset]
  · exact hset

/-- A channel that is armed where its VAL is not ahead of its base is LATE (R411). -/
theorem armCmp_late {n : Nat} {s : State} (hn : n < s.timer.cmps.length)
    (h : ahead (getCmp s n).val (baseOf s n) = false) : (getCmp (armCmp n s) n).late = true := by
  rw [armCmp, if_neg (by rw [h]; decide), getCmp_setCmp_same hn]

/-- A channel that is enabled by its configuration, with a VAL not ahead of the base that it selects, is LATE. -/
theorem setCmpCfg_late {n v : Nat} {s : State} (h : s.live.Pairwise (fun p q => p.1 < q.1))
    (hn : n < s.timer.cmps.length) (hoff : cmpEn s n = false) (hon : bit v 0 = true)
    (hnot : ahead (getCmp s n).val (if bit (v &&& 0xFF0F3F) 1 then (ntime s).setWidth 48
      else s.timer.time.setWidth 48) = false) : (getCmp (setCmpCfg n v s) n).late = true := by
  have hguard : (!cmpEn s n && bit v 0) = true := by rw [hoff, hon]; rfl
  unfold setCmpCfg
  dsimp only
  rw [if_pos hguard]
  refine armCmp_late hn ?_
  have hbase : cmpBase (setLive s (K.cmpCfg + n) (leBytes 4 (v &&& 0x00FF0F3F))) n = bit (v &&& 0xFF0F3F) 1 := by
    rw [cmpBase, cmpCfg_setLive_same n _ h, Nat.mod_eq_of_lt (and_mask_lt v)]
  rw [baseOf, hbase]
  exact hnot

/-- A configuration with no field refused is merged as it is. -/
theorem cmpCfgMerge_of_ok {s : State} {n cfg : Nat} (h : cmpCfgOk s n (cfg &&& 0x00FF0F3F) = true) :
    cmpCfgMerge s n cfg = (cfg &&& 0x00FF0F3F, false) := by
  simp only [cmpCfgOk, Bool.and_eq_true, Bool.not_eq_true'] at h
  obtain ⟨⟨hpin, htrig⟩, hper⟩ := h
  simp [cmpCfgMerge, hpin, htrig, hper]

theorem setCmpCfg_confined (n v : Nat) (s : State) : Confined [.timer, .live] s (setCmpCfg n v s) :=
  setCmpCfg_frame n v s (frame_refl _ s) (hw := by decide)

theorem writeReg_cmpCfg (ch : Fin 16) (v : Nat) (s : State) : writeReg (0x6100 + 16 * ch.val) v [] s =
    (let x := cmpCfgMerge s ch.val v
     let s := if x.1 = cmpCfg s ch.val then s else setEntry (K.cmpCfg + ch.val) (leBytes 4 x.1) s
     if x.2 then spiError errField s else s) := by
  fin_cases ch <;> rfl

theorem bit_and_mask_of_low (v : Nat) {i : Nat} (h : i < 6) : bit (v &&& 0xFF0F3F) i = bit v i := by
  rw [bit_eq_testBit, bit_eq_testBit, Nat.testBit_and]
  have hmask : ∀ i < 6, Nat.testBit 0xFF0F3F i = true := by decide
  rw [hmask i h, Bool.and_true]

/-- A write of CFG by its register takes effect at once. -/
theorem configRegister {ch : Fin 16} {value : Word} {s : State} (hl : LiveOk s) (hcmps : s.timer.cmps.length = 16)
    (hfree : RegFree (0x6100 + 16 * ch.val) s) (hok : cmpCfgOk s ch.val (value.toNat &&& 0x00FF0F3F) = true) :
    (hostRegister (0x6100 + 16 * ch.val) value.toNat [] s).spi.err = false ∧
      cmpCfg (hostRegister (0x6100 + 16 * ch.val) value.toNat [] s) ch.val = value.toNat &&& 0x00FF0F3F ∧
      (cmpEn s ch.val = false → bit value.toNat 0 = true →
        ahead (getCmp s ch.val).val (if bit value.toNat 1 then (ntime s).setWidth 48 else s.timer.time.setWidth 48) =
          false → (getCmp (hostRegister (0x6100 + 16 * ch.val) value.toNat [] s) ch.val).late = true) := by
  have hmerge : cmpCfgMerge (cleared s) ch.val value.toNat = (value.toNat &&& 0x00FF0F3F, false) :=
      cmpCfgMerge_of_ok hok
  have hval := (compareRegisters ch value.toNat (cleared s)).1
  have hwrite := writeReg_cmpCfg ch value.toNat (cleared s)
  rw [hmerge] at hwrite
  dsimp only at hwrite
  rw [if_neg Bool.false_ne_true] at hwrite
  by_cases hsame : value.toNat &&& 0x00FF0F3F = cmpCfg (cleared s) ch.val
  · rw [if_pos hsame] at hwrite
    obtain ⟨⟨m, hm⟩, -, herr⟩ := registerEffect hfree (by omega) hval hwrite (w := []) (by decide) (frame_refl _ _)
    refine ⟨herr, ?_, fun hoff hon => ?_⟩
    · rw [hm]
      exact hsame.symm
    · rw [cmpEn, show cmpCfg s ch.val = _ from hsame.symm, bit_and_mask_of_low _ (by decide), hon] at hoff
      exact absurd hoff (by decide)
  · have hentry : setEntry (K.cmpCfg + ch.val) (leBytes 4 (value.toNat &&& 0x00FF0F3F)) (cleared s) =
        setCmpCfg ch.val (value.toNat &&& 0x00FF0F3F) (cleared s) := by
      have hlt : value.toNat &&& 0xFF0F3F < 256 ^ 4 := Nat.lt_of_lt_of_le (and_mask_lt _) (by norm_num)
      rw [setEntry_cmpCfg, leBytes_length, leNat_leBytes_of_lt hlt, Nat.and_assoc, Nat.and_self,
          leNat_leBytes_of_lt hlt]
    rw [if_neg hsame, hentry] at hwrite
    obtain ⟨⟨m, hm⟩, -, herr⟩ := registerEffect hfree (by omega) hval hwrite (by decide) (setCmpCfg_confined ..)
    have hcfg := cmpCfg_setCmpCfg ch.val (value.toNat &&& 0x00FF0F3F) (s := cleared s) hl.1
    rw [Nat.and_assoc, Nat.and_self] at hcfg
    refine ⟨herr, ?_, fun hoff hon hnot => ?_⟩
    · rw [hm]
      exact hcfg
    · have hlate := setCmpCfg_late (n := ch.val) (v := value.toNat &&& 0x00FF0F3F) (s := cleared s) hl.1
        (show ch.val < s.timer.cmps.length by omega) hoff ((bit_and_mask_of_low _ (by decide)).trans hon)
        (by rw [Nat.and_assoc, Nat.and_self, bit_and_mask_of_low _ (by decide)]; exact hnot)
      rw [hm]
      exact hlate

-- STAGGER (R414)

/-- One channel of STAGGER. -/
def stgStep (base : Time48) (spacing period : Nat) (t : State) (x : Nat × Nat) : State :=
  let c := getCmp t x.1
  let c := { c with
    val := base + BitVec.ofNat 48 (x.2 * spacing)
    period := if period = 0 then c.period else BitVec.ofNat 32 period }
  let t := setCmp x.1 c t
  let cfg := withField (cmpCfg t x.1) 0 1 1
  let cfg := if period = 0 then cfg else withField cfg 2 1 1
  armCmp x.1 (setLive t (K.cmpCfg + x.1) (leBytes 4 cfg))

/-- What the rules of a channel need of the state: the live values rise, and the channels are there. -/
structure Channels (s : State) : Prop where
  live : LiveOk s
  cmps : s.timer.cmps.length = 16

theorem armCmp_val (n k : Nat) {s : State} (hn : n < s.timer.cmps.length) :
    (getCmp (armCmp n s) k).val = (getCmp s k).val := by
  unfold armCmp
  dsimp only
  split
  · rfl
  · rcases eq_or_ne k n with rfl | hk
    · rw [getCmp_setCmp_same hn]
    · rw [getCmp_setCmp_ne hk]

theorem armCmp_length (n : Nat) (s : State) : (armCmp n s).timer.cmps.length = s.timer.cmps.length := by
  unfold armCmp
  dsimp only
  split
  · rfl
  · exact List.length_set ..

theorem stgStep_channels {base : Time48} {spacing period : Nat} {t : State} {x : Nat × Nat} (h : Channels t) :
    Channels (stgStep base spacing period t x) := by
  refine ⟨?_, ?_⟩
  · unfold LiveOk stgStep
    dsimp only
    rw [armCmp_live]
    exact setLive_liveOk (setCmp x.1 _ t) _ _ h.live
  · refine (armCmp_length ..).trans ((List.length_set ..).trans h.cmps)

/-- The enable bit of a configuration, after STAGGER has set EN, and PERIODIC with a PERIOD. -/
theorem stagger_en (cfg : Nat) (p : Prop) [Decidable p] :
    bit ((if p then withField cfg 0 1 1 else withField (withField cfg 0 1 1) 2 1 1) % 2 ^ 32) 0 = true := by
  split <;> simp only [bit, withField, beq_iff_eq] <;> omega

theorem stgStep_same {base : Time48} {spacing period : Nat} {t : State} {x : Nat × Nat} (h : Channels t)
    (hx : x.1 < 16) :
    cmpEn (stgStep base spacing period t x) x.1 = true ∧
      (getCmp (stgStep base spacing period t x) x.1).val = base + BitVec.ofNat 48 (x.2 * spacing) := by
  have hn : x.1 < t.timer.cmps.length := h.cmps ▸ hx
  refine ⟨?_, ?_⟩
  · rw [cmpEn, stgStep]
    rw [cmpCfg_armCmp, cmpCfg_setLive_same _ _ (show List.Pairwise _ (setCmp x.1 _ t).live from h.live.1)]
    exact stagger_en _ _
  · rw [stgStep]
    rw [armCmp_val _ _ (by simpa [setCmp, setNth] using hn)]
    exact congrArg Compare.val (getCmp_setCmp_same hn _)

theorem stgStep_ne {base : Time48} {spacing period k : Nat} {t : State} {x : Nat × Nat} (h : Channels t) (hx : x.1 < 16)
    (hk : k ≠ x.1) : cmpEn (stgStep base spacing period t x) k = cmpEn t k ∧
      (getCmp (stgStep base spacing period t x) k).val = (getCmp t k).val := by
  have hn : x.1 < t.timer.cmps.length := h.cmps ▸ hx
  refine ⟨?_, ?_⟩
  · rw [cmpEn, stgStep]
    rw [cmpCfg_armCmp, cmpCfg_setLive_ne hk]
    rfl
  · rw [stgStep]
    rw [armCmp_val _ _ (by simpa [setCmp, setNth] using hn)]
    exact congrArg Compare.val (getCmp_setCmp_ne hk _ _)

/-- A channel that STAGGER does not select is left as it is. -/
theorem stgFold_ne {base : Time48} {spacing period k : Nat} {l : List (Nat × Nat)} {t : State} (h : Channels t)
    (hl : ∀ x ∈ l, x.1 < 16) (hk : ∀ x ∈ l, x.1 ≠ k) :
    cmpEn (l.foldl (stgStep base spacing period) t) k = cmpEn t k ∧
      (getCmp (l.foldl (stgStep base spacing period) t) k).val = (getCmp t k).val := by
  induction l generalizing t with
  | nil => exact ⟨rfl, rfl⟩
  | cons x l ih =>
    obtain ⟨hen, hval⟩ := ih (stgStep_channels (x := x) (base := base) (spacing := spacing) (period := period) h)
      (fun y hy => hl y (List.mem_cons_of_mem _ hy)) (fun y hy => hk y (List.mem_cons_of_mem _ hy))
    obtain ⟨hen', hval'⟩ := stgStep_ne (base := base) (spacing := spacing) (period := period) h
      (hl x List.mem_cons_self) (hk x List.mem_cons_self).symm
    exact ⟨hen.trans hen', hval.trans hval'⟩

/-- Every channel that STAGGER names is enabled, with the VAL of its place. -/
theorem stgFold_mem {base : Time48} {spacing period : Nat} {l : List (Nat × Nat)} {t : State} (h : Channels t)
    (hl : ∀ x ∈ l, x.1 < 16) (hnd : (l.map fun x => x.1).Nodup) {x : Nat × Nat} (hx : x ∈ l) :
    cmpEn (l.foldl (stgStep base spacing period) t) x.1 = true ∧
      (getCmp (l.foldl (stgStep base spacing period) t) x.1).val = base + BitVec.ofNat 48 (x.2 * spacing) := by
  induction l generalizing t with
  | nil => cases hx
  | cons y l ih =>
    have hstep := stgStep_channels (x := y) (base := base) (spacing := spacing) (period := period) h
    have hl' : ∀ x ∈ l, x.1 < 16 := fun z hz => hl z (List.mem_cons_of_mem _ hz)
    rw [List.map_cons, List.nodup_cons] at hnd
    rcases List.mem_cons.mp hx with rfl | hx
    · obtain ⟨hen, hval⟩ := stgStep_same (base := base) (spacing := spacing) (period := period) h
        (hl x List.mem_cons_self)
      have hrest := stgFold_ne (base := base) (spacing := spacing) (period := period) hstep hl'
        (k := x.1) fun z hz he => hnd.1 (he ▸ List.mem_map_of_mem hz)
      exact ⟨hrest.1.trans hen, hrest.2.trans hval⟩
    · exact ih hstep hl' hnd.2 hx

theorem maskChans_nodup (mask : Nat) : (maskChans mask).Nodup := List.nodup_range.filter _

/-- STAGGER enables the channels of its mask, spaced from its base on. -/
theorem staggerGo_effect {mask : Nat} {base : Time48} {spacing period : Nat} {s : State} (h : Channels s) {n i : Nat}
    (hi : (maskChans mask)[i]? = some n) : cmpEn (staggerGo mask base spacing period s) n = true ∧
      (getCmp (staggerGo mask base spacing period s) n).val = base + BitVec.ofNat 48 (i * spacing) := by
  have hmem : (n, i) ∈ (maskChans mask).zipIdx := List.mk_mem_zipIdx_iff_getElem?.mpr hi
  have hlt : ∀ x ∈ (maskChans mask).zipIdx, x.1 < 16 := by
    intro x hx
    have := List.mem_filter.mp (List.fst_mem_of_mem_zipIdx hx)
    exact List.mem_range.mp this.1
  have hnd : ((maskChans mask).zipIdx.map fun x => x.1).Nodup := by
    rw [show ((maskChans mask).zipIdx.map fun x => x.1) = maskChans mask from List.zipIdx_map_fst ..]
    exact maskChans_nodup mask
  exact stgFold_mem (x := (n, i)) h hlt hnd hmem

theorem staggerGo_confined (mask : Nat) (base : Time48) (spacing period : Nat) (s : State) :
    Confined [.timer, .live] s (staggerGo mask base spacing period s) :=
  staggerGo_frame mask base spacing period s (frame_refl _ s) (hw := by decide)

theorem writeReg_stgGo (s : State) : writeReg 0x6064 1 [] s = staggerStaged s := rfl

-- The entries of these registers

/-- A write of an entry that is no command is the setting of the entry. -/
theorem writeEffect_entry {key : Nat} {port : Port} {tag : Byte} {value : Bytes} {u : State} (hlt : key < 2 ^ 24)
    (hkey : key ∉ [K.xoCfg, K.region, K.radioCmd, K.courseReq, K.qPurge, K.snapCmd, K.stagger, K.cmpStat, K.adcCmd,
      K.telemClear, K.airDreq]) (honce : onceKey key = false) (hload : isImageLoad key = false) :
    writeEffect (writeRequest port tag key value) [] u = setEntry key value u := by
  simp only [List.mem_cons, List.not_mem_nil, or_false, not_or] at hkey
  obtain ⟨hxo, hreg, hradio, hcourse, hpurge, hsnap, hstg, hstat, hadc, htelem, hdreq⟩ := hkey
  simp only [writeEffect, writeRequest_key port tag value hlt, if_neg hxo, if_neg hreg, if_neg hradio, if_neg hcourse,
    if_neg hpurge, if_neg hsnap, if_neg hstg, if_neg hstat, if_neg hadc, if_neg htelem, if_neg hdreq, honce, hload,
    Bool.false_eq_true, if_false]
  rfl

theorem writeEffect_cmpVal (ch : Fin 16) (port : Port) (tag : Byte) (value : Bytes) (u : State) :
    writeEffect (writeRequest port tag (K.cmpVal + ch.val) value) [] u =
      setCmp ch.val { getCmp u ch.val with val := BitVec.ofNat 48 (leNat value) } u := by
  have hkey : ∀ ch : Fin 16, K.cmpVal + ch.val ∉ [K.xoCfg, K.region, K.radioCmd, K.courseReq, K.qPurge, K.snapCmd,
      K.stagger, K.cmpStat, K.adcCmd, K.telemClear, K.airDreq] ∧ onceKey (K.cmpVal + ch.val) = false ∧
      isImageLoad (K.cmpVal + ch.val) = false := by decide
  obtain ⟨hne, honce, hload⟩ := hkey ch
  rw [writeEffect_entry (cmpVal_key ch).1 hne honce hload, setEntry_cmpVal]

theorem writeEffect_cnt (n : Fin 8) (port : Port) (tag : Byte) (value : Bytes) (u : State) :
    writeEffect (writeRequest port tag (K.cnt + n.val) value) [] u =
      setCnt n.val { getCnt u n.val with val := BitVec.ofNat 16 (leNat value) } u := by
  have hkey : ∀ n : Fin 8, K.cnt + n.val ∉ [K.xoCfg, K.region, K.radioCmd, K.courseReq, K.qPurge, K.snapCmd,
      K.stagger, K.cmpStat, K.adcCmd, K.telemClear, K.airDreq] ∧ onceKey (K.cnt + n.val) = false ∧
      isImageLoad (K.cnt + n.val) = false := by decide
  obtain ⟨hne, honce, hload⟩ := hkey n
  rw [writeEffect_entry (cnt_key n).1 hne honce hload, setEntry_cnt]

theorem writeEffect_stagger (port : Port) (tag : Byte) (value : Bytes) (u : State) :
    writeEffect (writeRequest port tag K.stagger value) [] u =
      staggerGo (stgMaskOf value) (stgBaseOf value) (stgSpaceOf value) (stgPerOf value) u := by
  simp only [writeEffect, writeRequest_key port tag value (show K.stagger < 2 ^ 24 by decide)]
  rfl

theorem setCnt_confined (n : Nat) (c : Counter) (s : State) : Confined [.timer] s (setCnt n c s) :=
  setCnt_frame n c s (frame_refl _ s) (hw := by decide)

theorem getCnt_setCnt_same {n : Nat} {s : State} (h : n < s.timer.cnts.length) (c : Counter) :
    getCnt (setCnt n c s) n = c := nth_setNth_self _ h _

/-- What the port adds to an answered write leaves the timers and the live values. -/
theorem sent_respond_timer_live (port : Port) (m : Bytes) (r : Request) (code : Half) (value : Bytes) (u : State) :
    (sent port m (respond r code value u)).timer = u.timer ∧ (sent port m (respond r code value u)).live = u.live := by
  rw [sent_eq, respond_eq]
  exact ⟨rfl, rfl⟩

/-- A write of VAL as a whole. -/
theorem valueEntry {ch : Fin 16} {port : Port} {tag : Byte} {value : Bytes} {s : State}
    (h : Passes port tag (K.cmpVal + ch.val) value s) (hl : s.timer.cmps.length = 16) :
    Confined (.timer :: portParts port) s (dictWrite port tag (K.cmpVal + ch.val) value s) ∧
      (getCmp (dictWrite port tag (K.cmpVal + ch.val) value s) ch.val).val = BitVec.ofNat 48 (leNat value) ∧
      Answered (writeRequest port tag (K.cmpVal + ch.val) value) abOk []
        (dictWrite port tag (K.cmpVal + ch.val) value s) := by
  obtain ⟨hlt, hcmd, -⟩ := cmpVal_key ch
  obtain ⟨m, hm, hconf, hans⟩ := dictWrite_effect (w := [.timer]) h hlt hcmd (timer_rows.2.2.2.1 ch) (by decide)
      fun u => by
    rw [writeEffect_cmpVal]
    exact setCmp_confined ..
  refine ⟨hconf, ?_, hans⟩
  rw [hm, getCmp_of_timer (sent_respond_timer_live ..).1, writeEffect_cmpVal]
  have hlen : ch.val < (atEngine port s).timer.cmps.length := by
    rw [atEngine_eq]
    exact ch.isLt.trans_eq hl.symm
  exact congrArg Compare.val (getCmp_setCmp_same hlen _)

/-- A write of a counter, by its register or by its entry. -/
theorem counterWrite {n : Fin 8} {via : Via} {value : Half} {s : State}
    (h : Takes via (0x6404 + 8 * n.val) (K.cnt + n.val) value.toNat (leBytes 2 value.toNat) s)
    (hl : s.timer.cnts.length = 8) :
    Confined (.timer :: viaParts via) s (cntWrite n.val via value s) ∧
      (getCnt (cntWrite n.val via value s) n.val).val = value ∧
      Told via (K.cnt + n.val) (leBytes 2 value.toNat) (cntWrite n.val via value s) := by
  have hval : BitVec.ofNat 16 (leNat (leBytes 2 value.toNat)) = value := by
    rw [leNat_leBytes_of_lt value.isLt, BitVec.ofNat_toNat, BitVec.setWidth_eq]
  cases via with
  | register =>
    obtain ⟨hfree, hstate, hbusy⟩ := h
    have hreg : ∀ (n : Fin 8) (s : State), (regValue s (0x6404 + 8 * n.val)).isSome = true ∧
        writeReg (0x6404 + 8 * n.val) value.toNat [] s = writeCntVal n.val (BitVec.ofNat 16 value.toNat) s := by
      intro n s
      fin_cases n <;> exact ⟨rfl, rfl⟩
    have hwrite : writeReg (0x6404 + 8 * n.val) value.toNat [] (cleared s) =
        setCnt n.val { getCnt s n.val with val := value } (cleared s) := by
      rw [(hreg n _).2, BitVec.ofNat_toNat, BitVec.setWidth_eq, writeCntVal, command, hstate]
      dsimp only
      rw [hbusy, setEntry_cnt, hval]
      rfl
    obtain ⟨⟨m, hm⟩, hconf, herr⟩ := registerEffect hfree (by omega) (hreg n _).1 hwrite (by decide)
        (setCnt_confined ..)
    refine ⟨confined_mono (by decide) hconf, ?_, herr⟩
    rw [show cntWrite n.val .register value s = _ from hm]
    exact congrArg Counter.val (getCnt_setCnt_same (s := cleared s) (show n.val < s.timer.cnts.length by omega) _)
  | dict port tag =>
    obtain ⟨hlt, hcmd, -⟩ := cnt_key n
    obtain ⟨m, hm, hconf, hans⟩ := dictWrite_effect (w := [.timer]) h hlt hcmd (timer_rows.2.2.2.2.1 n) (by decide)
      fun u => by
        rw [writeEffect_cnt]
        exact setCnt_confined ..
    refine ⟨hconf, ?_, hans⟩
    have hlen : n.val < (atEngine port s).timer.cnts.length := by
      rw [atEngine_eq]
      exact n.isLt.trans_eq hl.symm
    rw [show cntWrite n.val (.dict port tag) value s = _ from hm, getCnt, (sent_respond_timer_live ..).1,
        writeEffect_cnt]
    exact (congrArg Counter.val (getCnt_setCnt_same hlen _)).trans hval

/-- What a state shows of its channels depends on the timers and the live values alone. -/
theorem channel_of_timer_live {s t : State} (h : t.timer = s.timer ∧ t.live = s.live) (n : Nat) :
    cmpEn t n = cmpEn s n ∧ getCmp t n = getCmp s n := by
  refine ⟨?_, getCmp_of_timer h.1 n⟩
  rw [cmpEn, cmpCfg_of_live h.2, cmpEn]

/-- Settles O54: each write of a channel or of a counter is one setting of it. -/
theorem compareAndCounterWrites : Obligations.CompareAndCounterWrites := by
  intro s hinv hcmps hcnts
  refine ⟨fun ch value hfree hok => ⟨_, rfl, configRegister hinv.live hcmps hfree hok⟩,
    fun ch port tag value h => ?_, fun ch v hfree => ⟨_, rfl, ?_⟩, fun ch v hfree => ⟨_, rfl, ?_⟩,
    fun ch port tag value h => ⟨_, rfl, valueEntry h hcmps⟩, fun n via value h => ⟨_, rfl, counterWrite h hcnts⟩,
    fun hfree hgood => ⟨_, rfl, ?_⟩, fun port tag value h => ⟨_, rfl, ?_⟩⟩
  · have hsub : ∀ ch : Fin 16, entryKey 0x5000 (BitVec.ofNat 8 (0x10 + ch.val)) = K.cmpCfg + ch.val ∧
        (BitVec.ofNat 8 (0x10 + ch.val)).toNat = (K.cmpCfg + ch.val) % 256 ∧ (K.cmpCfg + ch.val) / 256 = 0x5000 ∧
        K.cmpCfg + ch.val ≠ K.pollAttr ∧ K.cmpCfg + ch.val ≠ K.qAttr := by decide
    obtain ⟨hkey, hlow, hhigh, hpoll, hattr⟩ := hsub ch
    have hrow := timer_rows.1 ch
    rw [← hlow, hhigh] at hrow
    obtain ⟨t, ht, hrest⟩ := (writesAwaitTheirSeal port tag s).1 0x5000 (BitVec.ofNat 8 (0x10 + ch.val))
      (leBytes 4 value.toNat) _ hrow rfl (hkey ▸ hpoll) (hkey ▸ hattr) (hkey ▸ h)
    rw [hkey] at hrest
    refine ⟨t, ?_, hrest⟩
    rw [← ht]
    exact congrArg (fun key => Host.Outcome.next (dictWrite port tag key (leBytes 4 value.toNat) s)) hkey.symm
  · obtain ⟨hconf, herr, hval⟩ := valueRegister hfree (by omega) (compareRegisters ch v.toNat _).2.1
      (compareRegisters ch v.toNat _).2.2.2.1 hcmps
    refine ⟨hconf, herr, hval.trans ?_⟩
    rw [valueWrite_low _ _ v.isLt]
  · obtain ⟨hconf, herr, hval⟩ := valueRegister hfree (by omega) (compareRegisters ch v.toNat _).2.2.1
      (compareRegisters ch v.toNat _).2.2.2.2 hcmps
    refine ⟨hconf, herr, hval.trans ?_⟩
    rw [valueWrite_high _ _ v.isLt (getCmp s ch.val).val.isLt]
  · have hgo : writeReg 0x6064 1 [] (cleared s) = staggerGo s.timer.stgMask.toNat s.timer.stgBase
        s.timer.stgSpace.toNat s.timer.stgPer.toNat (cleared s) := by
      rw [writeReg_stgGo, staggerStaged]
      exact if_neg fun h => Bool.false_ne_true (hgood.symm.trans h)
    obtain ⟨⟨m, hm⟩, hconf, herr⟩ := registerEffect hfree (by omega) rfl hgo (by decide) (staggerGo_confined ..)
    refine ⟨hconf, herr, fun n i hi => ?_⟩
    have hch : Channels (cleared s) := ⟨hinv.live, hcmps⟩
    obtain ⟨hen, hval⟩ := staggerGo_effect (base := s.timer.stgBase) (spacing := s.timer.stgSpace.toNat)
      (period := s.timer.stgPer.toNat) hch hi
    rw [show stagger .go s = _ from hm]
    exact ⟨hen, hval⟩
  · obtain ⟨m, hm, hconf, hans⟩ := dictWrite_effect (w := [.timer, .live]) h (by decide) (by simp [engineKey])
      timer_rows.2.2.2.2.2.1 (by decide) fun u => by
        rw [writeEffect_stagger]
        exact staggerGo_confined ..
    refine ⟨hconf, hans, fun n i hi => ?_⟩
    have hch : Channels (atEngine port s) := by
      rw [atEngine_eq]
      exact ⟨hinv.live, hcmps⟩
    obtain ⟨hen, hcmp⟩ := channel_of_timer_live (sent_respond_timer_live port m (writeRequest port tag K.stagger value)
      abOk [] (writeEffect (writeRequest port tag K.stagger value) [] (atEngine port s))) n
    rw [show stagger (.dict port tag value) s = _ from hm, hen, hcmp, writeEffect_stagger]
    exact staggerGo_effect hch hi

end Sys2Proof.Machine
end

section
/-! SUPPORT. O53: TIME_STEP and SNAP (R403 to R408). -/

namespace Sys2Proof.Machine

open Sys2Proof.Safety

/-- What the actions of a step leave: TIME and its offset, and the matches of every compare channel. -/
structure MatchesKept (r s : State) : Prop where
  time     : s.timer.time = r.timer.time
  frac     : s.timer.frac = r.timer.frac
  ntOffset : s.timer.ntOffset = r.timer.ntOffset
  matched  : ∀ n, (getCmp s n).matched = (getCmp r n).matched
  count    : ∀ n, (getCmp s n).matches_ = (getCmp r n).matches_

theorem MatchesKept.refl (s : State) : MatchesKept s s := ⟨rfl, rfl, rfl, fun _ => rfl, fun _ => rfl⟩

theorem MatchesKept.trans {r s t : State} (h : MatchesKept r s) (k : MatchesKept s t) : MatchesKept r t :=
  ⟨k.time.trans h.time, k.frac.trans h.frac, k.ntOffset.trans h.ntOffset, fun n => (k.matched n).trans (h.matched n),
    fun n => (k.count n).trans (h.count n)⟩

theorem MatchesKept.ite {r a b : State} {c : Prop} [Decidable c] (ha : MatchesKept r a) (hb : MatchesKept r b) :
    MatchesKept r (if c then a else b) := by
  split
  · exact ha
  · exact hb

theorem MatchesKept.of_timer {r s : State} (h : s.timer = r.timer) : MatchesKept r s := by
  refine ⟨?_, ?_, ?_, fun n => ?_, fun n => ?_⟩ <;> simp only [getCmp, h]

theorem MatchesKept.of_confined {w : List Part} {r s : State} (h : Confined w r s) (hw : Part.timer ∉ w) :
    MatchesKept r s :=
  .of_timer (h.same .timer hw)

theorem foldl_matchesKept {α : Type} {f : State → α → State} (h : ∀ t a, MatchesKept t (f t a)) (l : List α)
    (s : State) :
    MatchesKept s (l.foldl f s) :=
  List.foldlRecOn l f (.refl s) fun t ht a _ => ht.trans (h t a)

-- The actions of a step

theorem requestWake_matchesKept (b : Nat) (s : State) : MatchesKept s (requestWake b s) :=
  .of_confined (requestWake_frame (w := [.sup]) b s (frame_refl _ s) (hw := by decide)) (by decide)

theorem setCnt_matchesKept (n : Nat) (c : Counter) (s : State) : MatchesKept s (setCnt n c s) :=
  ⟨rfl, rfl, rfl, fun _ => rfl, fun _ => rfl⟩

theorem putPair_matchesKept (u : Nat) (c : CapPair) (s : State) : MatchesKept s (putPair u c s) :=
  ⟨rfl, rfl, rfl, fun _ => rfl, fun _ => rfl⟩

theorem putSingle_matchesKept (k : Nat) (c : CapSingle) (s : State) : MatchesKept s (putSingle k c s) :=
  ⟨rfl, rfl, rfl, fun _ => rfl, fun _ => rfl⟩

theorem flushEdges_matchesKept (s : State) : MatchesKept s (flushEdges s) :=
  .ite (.refl s) ((foldl_matchesKept (fun _ _ => putPair_matchesKept ..) _ s).trans
    (foldl_matchesKept (fun _ _ => putSingle_matchesKept ..) _ _))

theorem sampleCaptures_matchesKept (pins : BitVec 12) (s : State) : MatchesKept s (sampleCaptures pins s) := by
  have hset : ∀ t a b, MatchesKept t { t with timer := { t.timer with capFilters := a, edges := b } } := fun _ _ _ =>
    ⟨rfl, rfl, rfl, fun _ => rfl, fun _ => rfl⟩
  exact foldl_matchesKept (fun t u => .ite ((hset t _ _).trans (.ite (requestWake_matchesKept ..) (.refl _)))
      (.refl t)) _ s

theorem pair_ite_matchesKept {p : Prop} [Decidable p] {y z : State × List Nat} {r : State} (hy : MatchesKept r y.1)
    (hz : MatchesKept r z.1) : MatchesKept r (if p then y else z).1 := by
  split
  · exact hy
  · exact hz

theorem countOne_matchesKept (fuel n : Nat) (x : State × List Nat) : MatchesKept x.1 (countOne fuel n x).1 := by
  induction fuel generalizing n x with
  | zero => exact .refl _
  | succ fuel ih =>
    unfold countOne
    extract_lets c u v y z trig k
    have hu : MatchesKept x.1 u := setCnt_matchesKept ..
    have hv : MatchesKept x.1 v := hu.trans (.ite (requestWake_matchesKept ..) (.refl _))
    have hz : MatchesKept x.1 z.1 := pair_ite_matchesKept (hv.trans (ih (n + 1) y)) hv
    exact pair_ite_matchesKept (pair_ite_matchesKept (hz.trans (ih k z)) hz) hu

theorem sampleCounters_matchesKept (pins : BitVec 12) (s : State) : MatchesKept s (sampleCounters pins s).1 := by
  have hset : ∀ t a, MatchesKept t { t with timer := { t.timer with cntFilters := a } } := fun _ _ =>
    ⟨rfl, rfl, rfl, fun _ => rfl, fun _ => rfl⟩
  refine List.foldlRecOn (motive := fun x : State × List Nat => MatchesKept s x.1) _ _ (.refl s) fun x hx n _ => ?_
  refine pair_ite_matchesKept (hx.trans ?_) hx
  dsimp only
  split
  next rising _ _ =>
    have hwake : ∀ a, MatchesKept x.1 (if asleep { x.1 with timer := { x.1.timer with cntFilters := a } }
        then requestWake 3 { x.1 with timer := { x.1.timer with cntFilters := a } }
        else { x.1 with timer := { x.1.timer with cntFilters := a } }) := fun a =>
      .ite ((hset _ _).trans (requestWake_matchesKept ..)) (hset _ _)
    exact pair_ite_matchesKept ((hwake _).trans (countOne_matchesKept _ _ (_, x.2))) (hwake _)
  next => exact hset ..

theorem countTrigger_matchesKept (x : State × List Nat) (t : Nat) : MatchesKept x.1 (countTrigger x t).1 :=
  pair_ite_matchesKept (countOne_matchesKept ..) (.refl _)

theorem pinAction_matchesKept (act pin : Nat) (s : State) : MatchesKept s (pinAction act pin s) :=
  .of_confined (pinAction_frame (w := [.live]) act pin s (frame_refl _ s) (hw := by decide)) (by decide)

theorem armCmp_matchesKept (n : Nat) (s : State) : MatchesKept s (armCmp n s) := by
  unfold armCmp
  extract_lets c
  refine .ite (.refl s) ?_
  by_cases hn : n < s.timer.cmps.length
  · refine ⟨rfl, rfl, rfl, fun k => ?_, fun k => ?_⟩
    all_goals
      rcases eq_or_ne k n with rfl | hk
      · rw [getCmp_setCmp_same hn]
      · rw [getCmp_setCmp_ne hk]
  · have hsame : setCmp n { c with late := true } s = s := by
      rw [setCmp, setNth, List.set_eq_of_length_le (by omega)]
    rw [hsame]
    exact .refl s

theorem setCmpEn_matchesKept (n : Nat) (on : Bool) (s : State) : MatchesKept s (setCmpEn n on s) := by
  have hlive : ∀ k b, MatchesKept s (setLive s k b) := fun _ _ => .of_timer rfl
  exact .ite ((hlive _ _).trans (armCmp_matchesKept ..)) (hlive _ _)

theorem hodRecord_matchesKept (n : Nat) (r : Bytes) (s : State) : MatchesKept s (hodRecord n r s) :=
  .of_confined (hodRecord_frame (w := [.ring, .evtLost, .jrn, .qe, .hod]) n r s (frame_refl _ s) (hw := by decide))
    (by decide)

theorem hodRequest_matchesKept (n : Nat) (s : State) : MatchesKept s (hodRequest n s) := by
  have hckpt : ∀ k, MatchesKept s (stageCkpt k s) := fun k => .of_timer rfl
  unfold hodRequest
  extract_lets cfg sel src c flags s2 k c' s3
  refine .ite (.ite ((hodRecord_matchesKept ..).trans (putPair_matchesKept ..)) (hodRecord_matchesKept ..)) (.ite ?_ ?_)
  · exact .ite ((hodRecord_matchesKept ..).trans (putSingle_matchesKept ..)) (hodRecord_matchesKept ..)
  · exact .ite (hodRecord_matchesKept ..) (.ite (.ite (.of_timer rfl) (hckpt _)) (.refl s))

theorem deliver_matchesKept (n : Nat) (on : Bool) {act : State → State} (h : ∀ t, MatchesKept t (act t)) (s : State) :
    MatchesKept s (deliver n on act s) := by
  have hlose : ∀ n t, MatchesKept t (loseTriggers n t) := fun _ _ => ⟨rfl, rfl, rfl, fun _ => rfl, fun _ => rfl⟩
  exact .ite (.refl s) (.ite ((hlose ..).trans (h _)) (hlose ..))

theorem deliverTriggers_matchesKept (ts : List Nat) (s : State) : MatchesKept s (deliverTriggers ts s) := by
  have hadc : ∀ t : State, MatchesKept t { t with adc := { t.adc with trig := t.adc.trig + 1 } } :=
      fun _ => .of_timer rfl
  refine ((deliver_matchesKept _ _ hadc s).trans (foldl_matchesKept (fun t n => ?_) _ _)).trans
    (foldl_matchesKept (fun t n => ?_) _ _)
  · exact deliver_matchesKept _ _ (hodRequest_matchesKept n) t
  · exact .ite (setCmpEn_matchesKept ..) (.ite (setCmpEn_matchesKept ..) (.refl t))

theorem courseTrigger_matchesKept (l : List Nat) (s : State) : MatchesKept s (courseTrigger l s) :=
  .of_confined (courseTrigger_frame (w := [.ring, .evtLost, .courses]) l s (frame_refl _ s) (hw := by decide))
      (by decide)

theorem stepActions_matchesKept (l : List Nat) (x : State × List Nat) : MatchesKept x.1 (stepActions l x) := by
  have hcount : ∀ ts y, MatchesKept y.1 (List.foldl countTrigger y ts).1 := by
    intro ts y
    exact List.foldlRecOn (motive := fun z => MatchesKept y.1 z.1) ts _ (.refl _) fun z hz t _ =>
      hz.trans (countTrigger_matchesKept z t)
  exact (hcount _ _).trans ((foldl_matchesKept (fun _ _ => pinAction_matchesKept ..) _ _).trans
    ((foldl_matchesKept (fun _ _ => pinAction_matchesKept ..) _ _).trans
      ((deliverTriggers_matchesKept ..).trans (courseTrigger_matchesKept ..))))

-- The matches of a step

/-- What one match does: its own channel has matched once more, every other channel is as it was. -/
structure MatchedOne (n : Nat) (s t : State) : Prop where
  time     : t.timer.time = s.timer.time
  frac     : t.timer.frac = s.timer.frac
  ntOffset : t.timer.ntOffset = s.timer.ntOffset
  len      : t.timer.cmps.length = s.timer.cmps.length
  own      : n < s.timer.cmps.length →
    (getCmp t n).matched = true ∧ (getCmp t n).matches_ = (getCmp s n).matches_ + 1
  other    : ∀ k, k ≠ n → getCmp t k = getCmp s k

theorem MatchedOne.of_timer {n : Nat} {r s t : State} (h : MatchedOne n r s) (k : t.timer = s.timer) :
    MatchedOne n r t := by
  obtain ⟨htime, hfrac, hoff, hlen, hown, hother⟩ := h
  constructor <;> simp only [getCmp, k] <;> assumption

theorem matchCmp_matchedOne (y : Time48) (late : Bool) (n : Nat) (s : State) :
    MatchedOne n s (matchCmp y late n s) := by
  unfold matchCmp
  extract_lets c c' r s1 tm s2
  have h2 : MatchedOne n s s2 := by
    refine ⟨rfl, rfl, rfl, List.length_set, fun hn => ?_, fun k hk => getCmp_setCmp_ne hk _ s⟩
    rw [show getCmp s2 n = _ from getCmp_setCmp_same hn _]
    exact ⟨rfl, rfl⟩
  split
  · exact h2.of_timer ((requestWake_frame (w := [.sup]) 1 s2 (frame_refl _ s2) (hw := by decide)).same .timer
      (by decide))
  · exact h2

/-- What the matches of a step do, for the channels that have matched. -/
theorem foldl_matchCmp (f : State → Nat → Time48) (l : List Nat) (hl : l.Nodup) (s : State) :
    (l.foldl (fun t n => matchCmp (f t n) false n t) s).timer.time = s.timer.time ∧
    (l.foldl (fun t n => matchCmp (f t n) false n t) s).timer.frac = s.timer.frac ∧
    (l.foldl (fun t n => matchCmp (f t n) false n t) s).timer.ntOffset = s.timer.ntOffset ∧
    (∀ k ∉ l, getCmp (l.foldl (fun t n => matchCmp (f t n) false n t) s) k = getCmp s k) ∧
    ∀ n ∈ l, n < s.timer.cmps.length →
      (getCmp (l.foldl (fun t n => matchCmp (f t n) false n t) s) n).matched = true ∧
      (getCmp (l.foldl (fun t n => matchCmp (f t n) false n t) s) n).matches_ = (getCmp s n).matches_ + 1 := by
  induction l generalizing s with
  | nil => exact ⟨rfl, rfl, rfl, fun _ _ => rfl, fun _ h => absurd h List.not_mem_nil⟩
  | cons a l ih =>
    obtain ⟨ha, hl⟩ := List.nodup_cons.mp hl
    have h1 := matchCmp_matchedOne (f s a) false a s
    obtain ⟨htime, hfrac, hoff, hother, hown⟩ := ih hl (matchCmp (f s a) false a s)
    refine ⟨htime.trans h1.time, hfrac.trans h1.frac, hoff.trans h1.ntOffset, fun k hk => ?_, fun n hn hlen => ?_⟩
    · rw [List.mem_cons, not_or] at hk
      exact (hother k hk.2).trans (h1.other k hk.1)
    · rcases List.mem_cons.mp hn with rfl | hn
      · rw [List.foldl_cons, hother n ha]
        exact h1.own hlen
      · have hne : n ≠ a := fun h => ha (h ▸ hn)
        have := hown n hn (h1.len ▸ hlen)
        rwa [h1.other n hne] at this

theorem timeAdvance_congr {s t : State} (hclk : t.clk = s.clk) (hasleep : asleep t = asleep s)
    (hfrac : t.timer.frac = s.timer.frac) : timeAdvance t = timeAdvance s := by
  unfold timeAdvance tbRuns
  rw [hclk, hasleep, hfrac]

/-- The state in which a step of TIME takes its matches. -/
theorem flushed_facts (s : State) :
    timeAdvance (fallStep (flushEdges s)) = timeAdvance s ∧ MatchesKept s (fallStep (flushEdges s)) ∧
    (fallStep (flushEdges s)).timer.cmps = s.timer.cmps ∧ (fallStep (flushEdges s)).live = s.live := by
  have hflush : Confined [.timer] s (flushEdges s) := flushEdges_frame _ (frame_refl _ s) (hw := by decide)
  have hcmps : (flushEdges s).timer.cmps = s.timer.cmps := by
    refine (apply_ite (fun t : State => t.timer.cmps) _ _ _).trans (ite_eq_left_iff.mpr fun _ => ?_)
    refine (List.foldlRecOn (motive := fun t : State => t.timer.cmps = s.timer.cmps) _ _ ?_ fun t ht _ _ => ht)
    exact List.foldlRecOn (motive := fun t : State => t.timer.cmps = s.timer.cmps) _ _ rfl fun t ht _ _ => ht
  have hclk : (fallStep (flushEdges s)).clk = (flushEdges s).clk := by unfold fallStep; split <;> rfl
  have hasleep : asleep (fallStep (flushEdges s)) = asleep (flushEdges s) := by unfold fallStep; split <;> rfl
  have htimer : (fallStep (flushEdges s)).timer = (flushEdges s).timer := by unfold fallStep; split <;> rfl
  have hlive : (fallStep (flushEdges s)).live = (flushEdges s).live := by unfold fallStep; split <;> rfl
  have hkept : MatchesKept s (fallStep (flushEdges s)) := (flushEdges_matchesKept s).trans (.of_timer htimer)
  refine ⟨timeAdvance_congr (hclk.trans (hflush.same .clk (by decide))) (hasleep.trans ?_) hkept.frac, hkept,
    (congrArg Timer.cmps htimer).trans hcmps, hlive.trans (hflush.same .live (by decide))⟩
  exact congrArg (fun p : Supply => p.power == .shutdown || p.power == .dormant || p.power == .sniff)
    (hflush.same .sup (by decide))

/-- The channels that a step by `d` matches, from the state `u` whose captures are flushed. -/
def stepMatches (d : Nat) (u : State) : List Nat :=
  let y := u.timer.time + BitVec.ofNat 64 d
  let onTime := matchedBy u false (u.timer.time.setWidth 48) (y.setWidth 48)
  let onNtime := matchedBy u true ((u.timer.time + u.timer.ntOffset).setWidth 48) ((y + u.timer.ntOffset).setWidth 48)
  (List.range 16).filter fun n => onTime.contains n || onNtime.contains n

/-- The state of a step by `a` once its matches are made. -/
def stepMatched (pins : BitVec 12) (a : Nat × BitVec 24) (u : State) : State :=
  let y := u.timer.time + BitVec.ofNat 64 a.1
  let s := { u with timer := { u.timer with time := y, frac := a.2 }, pins := { u.pins with gpio := pins } }
  (stepMatches a.1 u).foldl (fun t n =>
    matchCmp (if cmpBase t n then (y + u.timer.ntOffset).setWidth 48 else y.setWidth 48) false n t) s

theorem timeStep_eq (pins : BitVec 12) {s : State} (hp : s.sup.power ≠ .off) :
    timeStep pins s = stepActions (stepMatches (timeAdvance (fallStep (flushEdges s))).1 (fallStep (flushEdges s)))
      (sampleCounters pins (sampleCaptures pins
        (stepMatched pins (timeAdvance (fallStep (flushEdges s))) (fallStep (flushEdges s))))) :=
  if_neg hp

theorem mem_stepMatches {d n : Nat} {u : State} (h16 : n < 16) (hen : cmpEn u n = true) (hbase : cmpBase u n = false)
    (hcross : crosses (getCmp u n).val (u.timer.time.setWidth 48)
      ((u.timer.time + BitVec.ofNat 64 d).setWidth 48) = true) : n ∈ stepMatches d u := by
  have hon : n ∈ matchedBy u false (u.timer.time.setWidth 48) ((u.timer.time + BitVec.ofNat 64 d).setWidth 48) :=
    List.mem_filter.mpr ⟨List.mem_range.mpr h16, by rw [hen, hbase, hcross]; rfl⟩
  exact List.mem_filter.mpr ⟨List.mem_range.mpr h16, by simp only [List.contains_iff_mem.mpr hon, Bool.true_or]⟩

/-- R403, R404: TIME_STEP moves TIME on and matches the channels whose VAL it crosses. -/
theorem timeStep_facts (pins : BitVec 12) (s : State) (hp : s.sup.power ≠ .off) :
    (timeStep pins s).timer.time = s.timer.time + BitVec.ofNat 64 (timeAdvance s).1 ∧
    (timeStep pins s).timer.frac = (timeAdvance s).2 ∧ (timeStep pins s).timer.ntOffset = s.timer.ntOffset ∧
    ∀ n < s.timer.cmps.length, n < 16 → cmpEn s n = true → cmpBase s n = false →
      crosses (getCmp s n).val (s.timer.time.setWidth 48)
        ((s.timer.time + BitVec.ofNat 64 (timeAdvance s).1).setWidth 48) = true →
      (getCmp (timeStep pins s) n).matched = true ∧
      (getCmp (timeStep pins s) n).matches_ = (getCmp s n).matches_ + 1 := by
  obtain ⟨hadv, hkept, hcmps, hlive⟩ := flushed_facts s
  rw [timeStep_eq pins hp, hadv]
  generalize fallStep (flushEdges s) = u at hkept hcmps hlive
  obtain ⟨htime, hfrac, hoff, -, hown⟩ := foldl_matchCmp
    (fun t n => if cmpBase t n then (u.timer.time + BitVec.ofNat 64 (timeAdvance s).1 + u.timer.ntOffset).setWidth 48
      else (u.timer.time + BitVec.ofNat 64 (timeAdvance s).1).setWidth 48)
    (stepMatches (timeAdvance s).1 u) (List.nodup_range.filter _)
    { u with
      timer := { u.timer with time := u.timer.time + BitVec.ofNat 64 (timeAdvance s).1, frac := (timeAdvance s).2 }
      pins := { u.pins with gpio := pins } }
  have hact := ((sampleCaptures_matchesKept pins (stepMatched pins (timeAdvance s) u)).trans
    (sampleCounters_matchesKept pins _)).trans (stepActions_matchesKept (stepMatches (timeAdvance s).1 u) _)
  refine ⟨?_, hact.frac.trans hfrac, hact.ntOffset.trans (hoff.trans hkept.ntOffset),
      fun n hn h16 hen hbase hcross => ?_⟩
  · exact hact.time.trans (htime.trans (congrArg (· + _) hkept.time))
  · have hcmp : getCmp u n = getCmp s n := congrArg (nth noCompare · n) hcmps
    have hcfg : cmpCfg u n = cmpCfg s n := cmpCfg_of_live hlive n
    have hmem : n ∈ stepMatches (timeAdvance s).1 u := by
      refine mem_stepMatches h16 ?_ ?_ ?_
      · rw [cmpEn, hcfg]; exact hen
      · rw [cmpBase, hcfg]; exact hbase
      · rw [hcmp, hkept.time]; exact hcross
    obtain ⟨hm, hc⟩ := hown n hmem (hcmps ▸ hn)
    exact ⟨(hact.matched n).trans hm, (hact.count n).trans (hc.trans (congrArg (· + 1) (hkept.count n)))⟩

-- SNAP

theorem snapshot_confined (s : State) : Confined [.timer] s (snapshot s) :=
  snapshot_frame s (frame_refl _ s) (hw := by decide)

theorem writeEffect_snapCmd (port : Port) (tag : Byte) (value : Bytes) (s : State) :
    writeEffect (writeRequest port tag K.snapCmd value) [] s = snapshot s := by
  unfold writeEffect
  rw [writeRequest_key port tag value (by decide)]
  rfl

/-- R406: the copies are those of the moment, and each command sets its own. -/
theorem snapshot_timer_congr {s u : State} (h : u.timer = s.timer) :
    (snapshot u).timer = { s.timer with
      snapTime := s.timer.time
      snapNtime := s.timer.time + s.timer.ntOffset
      snapCnt := s.timer.cnts.map fun c => c.val
      snapSeq := inc s.timer.snapSeq } := by
  unfold snapshot ntime
  rw [h]

/-- SNAP, by its register or by its entry. -/
theorem snapCommand {via : Via} {s : State} (h : Takes via 0x6004 K.snapCmd 1 [1] s) :
    Confined (.timer :: viaParts via) s (control via 0x6004 K.snapCmd 1 [1] s) ∧
      Told via K.snapCmd [1] (control via 0x6004 K.snapCmd 1 [1] s) ∧
      (control via 0x6004 K.snapCmd 1 [1] s).timer = { s.timer with
        snapTime := s.timer.time
        snapNtime := s.timer.time + s.timer.ntOffset
        snapCnt := s.timer.cnts.map fun c => c.val
        snapSeq := inc s.timer.snapSeq } := by
  cases via with
  | register =>
    obtain ⟨⟨m, hm⟩, hconf, herr⟩ := registerEffect (v := 1) (u := snapshot (cleared s)) h.1 (by omega) rfl rfl
      (by decide) (snapshot_confined _)
    refine ⟨confined_mono (by decide) hconf, herr, ?_⟩
    rw [show control .register 0x6004 K.snapCmd 1 [1] s = _ from hm]
    exact snapshot_timer_congr (u := cleared s) rfl
  | dict port tag =>
    obtain ⟨m, hm, hconf, hans⟩ := dictWrite_effect (w := [.timer]) h (by decide) (by simp [engineKey])
      timer_rows.2.2.2.2.2.2 (by decide) fun u => by
        rw [writeEffect_snapCmd]
        exact snapshot_confined u
    refine ⟨hconf, hans, ?_⟩
    rw [show control (.dict port tag) 0x6004 K.snapCmd 1 [1] s = _ from hm, (sent_respond_timer_live ..).1,
      writeEffect_snapCmd]
    exact snapshot_timer_congr ((congrArg State.timer (atEngine_eq port s)).trans rfl)

/-- Settles O53: a step of TIME matches what it crosses, and its actions match nothing. -/
theorem timeStepsAndSnaps : Obligations.TimeStepsAndSnaps :=
  fun s => ⟨fun pins hp => ⟨_, rfl, timeStep_facts pins s hp⟩, fun _ h => ⟨_, rfl, snapCommand h⟩⟩

end Sys2Proof.Machine
end

section
/-! SUPPORT. O60: whitening, interleaving and the length of a spread payload (R246, R249, R250). -/

namespace Sys2Proof.Machine

open Sys2Proof.Safety

-- Whitening (R246)

theorem lfsrBits_length (taps n x : Nat) : (lfsrBits taps n x).length = n := by
  induction n generalizing x with
  | zero => rfl
  | succ n ih => exact congrArg (· + 1) (ih _)

theorem bytesBits_length (l : Bytes) : (bytesBits l).length = 8 * l.length := by
  induction l with
  | nil => rfl
  | cons b l ih =>
    have hcons : bytesBits (b :: l) = byteBits b ++ bytesBits l := rfl
    have hbyte : (byteBits b).length = 8 := rfl
    rw [hcons, List.length_append, ih, hbyte, List.length_cons]
    omega

/-- A mask as long as the list, put on twice, is off again. -/
theorem zipWith_xor_twice {b w : List Bool} (h : w.length = b.length) : (b.zipWith xor w).zipWith xor w = b := by
  induction b generalizing w with
  | nil => rfl
  | cons x b ih =>
    cases w with
    | nil => cases h
    | cons y w =>
      have hxy : xor (xor x y) y = x := by rw [Bool.xor_assoc, Bool.xor_self, Bool.xor_false]
      rw [List.zipWith_cons_cons, List.zipWith_cons_cons, ih (Nat.succ.inj h), hxy]

theorem psduBits_length (psdu : Bytes) (crc : Word) :
    (bytesBits (psdu ++ leBytes 4 crc.toNat)).length = 8 * (psdu.length + 4) := by
  rw [bytesBits_length, List.length_append, leBytes_length]

theorem whitened_length (psdu : Bytes) (crc : Word) : (whitened psdu crc).length = 8 * (psdu.length + 4) := by
  unfold whitened
  rw [List.length_zipWith, whitening, lfsrBits_length, Nat.min_self, psduBits_length]

theorem whitened_twice (psdu : Bytes) (crc : Word) :
    (whitened psdu crc).zipWith xor (whitening (8 * (psdu.length + 4))) = bytesBits (psdu ++ leBytes 4 crc.toNat) := by
  rw [← psduBits_length psdu crc]
  exact zipWith_xor_twice (lfsrBits_length ..)

-- Interleaving (R250)

section
variable {α : Type} (d : α) (rows cols : Nat) (b : List α)

theorem interleaveBlock_length : (interleaveBlock d rows cols b).length = rows * cols := by
  rw [interleaveBlock, List.length_map, List.length_range]

theorem nth_map_range {f : Nat → α} {n k : Nat} (h : k < n) : nth d ((List.range n).map f) k = f k := by
  simp [nth, h]

variable {d rows cols b}

/-- The place in which element k of a block is sent lies in the block. -/
theorem sendPlace_lt {k : Nat} (h : k < rows * cols) : rows * (k % cols) + k / cols < rows * cols := by
  have hcols : 0 < cols := Nat.pos_of_ne_zero fun hc => by simp [hc] at h
  have hdiv : k / cols < rows := (Nat.div_lt_iff_lt_mul hcols).mpr h
  have hmod : k % cols + 1 ≤ cols := Nat.mod_lt k hcols
  have hmul : rows * (k % cols + 1) ≤ rows * cols := Nat.mul_le_mul_left rows hmod
  rw [Nat.mul_succ] at hmul
  omega

/-- The element that is sent there is element k. -/
theorem sendPlace_source {k : Nat} (h : k < rows * cols) :
    (rows * (k % cols) + k / cols) % rows * cols + (rows * (k % cols) + k / cols) / rows = k := by
  have hdiv : k / cols < rows := Nat.div_lt_of_lt_mul (Nat.mul_comm .. ▸ h)
  have hrows : 0 < rows := Nat.zero_lt_of_lt hdiv
  rw [Nat.mul_add_mod, Nat.mod_eq_of_lt hdiv, Nat.mul_add_div hrows, Nat.div_eq_of_lt hdiv, Nat.add_zero,
    Nat.mul_comm]
  exact Nat.div_add_mod k cols

theorem nth_interleaveBlock {k : Nat} (h : k < rows * cols) :
    nth d (interleaveBlock d rows cols b) (rows * (k % cols) + k / cols) = nth d b k := by
  rw [interleaveBlock, nth_map_range d (sendPlace_lt h), sendPlace_source h]

theorem deinterleave_interleave (hb : b.length = rows * cols) :
    deinterleaveBlock d rows cols (interleaveBlock d rows cols b) = b := by
  refine List.ext_getElem (by rw [deinterleaveBlock, List.length_map, List.length_range, hb]) fun k _ hk => ?_
  simp only [deinterleaveBlock, List.getElem_map, List.getElem_range]
  rw [nth_interleaveBlock (hb ▸ hk)]
  simp [nth, hk]

end

-- The length of a payload (R247 to R250)

theorem codedPairs_length (input : List Bool) : (codedPairs input).length = input.length := by
  have hfold : ∀ (l : List Bool) (x : Nat × List (Bool × Bool)),
      (l.foldl (fun x u => (shifted x.1 u, coded x.1 u :: x.2)) x).2.length = x.2.length + l.length := by
    intro l
    induction l with
    | nil => exact fun x => rfl
    | cons u l ih =>
      intro x
      rw [List.foldl_cons, ih, List.length_cons, List.length_cons]
      omega
  rw [codedPairs, List.length_reverse, hfold, List.length_nil, Nat.zero_add]

theorem flatten_length_of_forall {α : Type} {l : List (List α)} {n : Nat} (h : ∀ x ∈ l, x.length = n) :
    l.flatten.length = l.length * n := by
  rw [List.length_flatten, List.map_eq_replicate_iff.mpr h, List.sum_replicate, smul_eq_mul]

/-- At rate 1/2 every coded bit is sent (Table 10.2). -/
theorem puncture_half_length {α : Type} (pairs : List (α × α)) : (puncture .half pairs).length = 2 * pairs.length := by
  rw [puncture, flatten_length_of_forall (n := 2), List.length_map, List.length_zipIdx, Nat.mul_comm]
  intro x hx
  obtain ⟨y, -, rfl⟩ := List.mem_map.mp hx
  rfl

theorem Coding.input_length {c : Coding} {bits : List Bool} (h : bits.length ≤ c.inputs) :
    (c.input bits).length = c.inputs := by
  rw [Coding.input, List.length_append, List.length_replicate]
  omega

/-- The blocks of an interleaver carry as many bits as they take. -/
theorem blocks_length (d : Bool) (rows cols : Nat) (l : List Bool) :
    ((chunks (rows * cols) l).map (interleaveBlock d rows cols)).flatten.length =
      l.length / (rows * cols) * (rows * cols) := by
  rw [flatten_length_of_forall (n := rows * cols), List.length_map, chunks, List.length_map, List.length_range]
  intro x hx
  obtain ⟨y, -, rfl⟩ := List.mem_map.mp hx
  exact interleaveBlock_length ..

/-- R249: Np coded bits. -/
theorem payloadBits_length {x : OnAir} (hm : x.mosaic = false) (hp : x.psdu ≠ []) :
    x.payloadBits.length = codedBits x.psdu.length := by
  have hlen : x.psdu.length ≠ 0 := fun h => hp (List.length_eq_zero_iff.mp h)
  have hnp : codedBits x.psdu.length = 64 * ((16 * x.psdu.length + 76 + 63) / 64) := if_neg hlen
  have hcoding : payloadCoding x.mosaic x.mcs x.psdu.length = ⟨.half, 8, 8, codedBits x.psdu.length / 2⟩ := by
    rw [payloadCoding, hm]
    rfl
  have hfits : (whitened x.psdu (crc32 x.psdu)).length ≤ codedBits x.psdu.length / 2 := by
    rw [whitened_length, hnp]
    omega
  rw [OnAir.payloadBits, if_neg hp, hcoding, Coding.encode, blocks_length]
  dsimp only
  rw [puncture_half_length, codedPairs_length, Coding.input_length hfits]
  dsimp only
  rw [hnp]
  omega

/-- Settles O60. -/
theorem frameBitsComeBack : Obligations.FrameBitsComeBack :=
  ⟨whitened_twice, fun _ _ _ _ hb _ _ => ⟨deinterleave_interleave hb, fun _ hk => nth_interleaveBlock hk⟩,
    fun _ => payloadBits_length⟩

end Sys2Proof.Machine
end

section
/-! SUPPORT. O56: samples of a pulse channel, the sequences of the ADC and the flush of Hod (R432, R433, R443, R446). -/

namespace Sys2Proof.Machine

open Sys2Proof.Safety

-- Samples of a pulse channel (R432, R433)

theorem setPulse_setPulse (n : Nat) (c d : PulseCh) (s : State) : setPulse n d (setPulse n c s) = setPulse n d s := by
  simp only [setPulse, setNth, List.set_set]

theorem pulseCfg_setPulse (n k : Nat) (c : PulseCh) (s : State) : pulseCfg (setPulse n c s) k = pulseCfg s k := rfl

/-- With nothing matched and nothing wrapped a step of the timers acts on nothing. -/
theorem stepActions_nil (s : State) : stepActions [] (s, []) = s := by
  have hdeliver : ∀ (on : Bool) act (t : State), deliver 0 on act t = t := fun _ _ _ => if_pos rfl
  have hsorted : ((List.range 8).map fun n => List.replicate (countIn n []) n).flatten = [] := rfl
  have htrig : ∀ t, deliverTriggers [] t = t := by
    intro t
    have hfold : ∀ (f : State → Nat → State) (l : List Nat) (u : State), (∀ v n, f v n = v) → l.foldl f u = u :=
      fun f l u h => List.foldlRecOn (motive := fun v => v = u) l f rfl fun v hv n _ => (h v n).trans hv
    unfold deliverTriggers
    extract_lets u hod v
    rw [hfold _ _ v fun w n => by simp only [List.contains_nil, Bool.false_eq_true, if_false]]
    exact (hfold _ _ u fun w n => hdeliver ..).trans (hdeliver ..)
  have hcourse : courseTrigger [] s = s := by
    unfold courseTrigger
    simp
  unfold stepActions
  simp only [List.map_nil, List.foldl_nil, hsorted, htrig, List.append_nil, hcourse]

/-- A pulse that the counter of its channel counts without a wrap. -/
theorem countPulse_eq {n : Nat} {s : State} (hen : cntEn s n = true) (hsrc : cntSrc s n = 0)
    (hval : (getCnt s n).val ≠ 0xFFFF) :
    countPulse n s = setCnt n { getCnt s n with val := (getCnt s n).val + 1 } s := by
  have hone : countOne countFuel n (s, []) = (setCnt n { getCnt s n with val := (getCnt s n).val + 1 } s, []) := by
    have hmax : ((getCnt s n).val == 0xFFFF#16) = false := by simpa using hval
    rw [show countFuel = 63 + 1 from rfl, countOne]
    simp only [hmax, Bool.or_false, Bool.false_eq_true, if_false]
  rw [countPulse, if_pos (by simp [hen, hsrc]), hone, stepActions_nil]

/-- R432: a sample before the level follows the comparator, and one with which it does. -/
theorem samplePulse_eq {n ratio : Nat} {s : State} {c : PulseCh} {v : Bool} {run : Nat} (hc : c = getPulse s n)
    (hopen : c.line ≠ .open_) (hshort : c.line ≠ .short)
    (hv : v = comparator c.out (strobed s n ratio).1 (strobed s n ratio).2)
    (hrun : run = (if v = c.out then c.run + 1 else 1)) :
    samplePulse n ratio s =
      if field (pulseCfg s n) 4 4 ≤ run ∧ v ≠ c.level then
        if v then countPulse n (setPulse n { c with out := v, run := run, level := v } s)
        else setPulse n { c with out := v, run := run, level := v } s
      else setPulse n { c with out := v, run := run } s := by
  have hrun' : (if (v == c.out) = true then c.run + 1 else 1) = run := by
    rw [hrun]
    simp only [beq_iff_eq]
  rw [samplePulse]
  simp only [← hc, ← hv, hrun', or_iff_left hshort, hopen, if_false, setPulse_setPulse, pulseCfg_setPulse]

/-- R432: the conditions under which a channel samples. -/
theorem pulseSample_of_sampling {n ratio : Nat} {s : State} (hen : pulseEn s n = true) (hclk : blockOn s 4 = true)
    (hbank : s.pins.bankB = true) (hrev : s.pins.reversed = false) (hstop : s.pulse.stopped = false) (hw : Works s) :
    pulseSample n ratio s = samplePulse n ratio s := by
  have hpower : s.sup.power ≠ .shutdown ∧ s.sup.power ≠ .off := by
    constructor <;> intro h <;> simp [Works, absent, asleep, h] at hw
  refine if_pos ?_
  simp [hen, hclk, exciteOk, hbank, hrev, hstop, hpower]

-- The ADC (R443)

/-- What the sequence itself is. -/
structure AdcKept (r s : State) : Prop where
  running : s.adc.running = r.adc.running
  pend    : s.adc.pend = r.adc.pend
  trig    : s.adc.trig = r.adc.trig

theorem AdcKept.refl (s : State) : AdcKept s s := ⟨rfl, rfl, rfl⟩

theorem AdcKept.trans {r s t : State} (h : AdcKept r s) (k : AdcKept s t) : AdcKept r t :=
  ⟨k.running.trans h.running, k.pend.trans h.pend, k.trig.trans h.trig⟩

theorem AdcKept.of_confined {w : List Part} {r s : State} (h : Confined w r s) (hw : Part.adc ∉ w) : AdcKept r s := by
  have heq : s.adc = r.adc := h.same .adc hw
  exact ⟨congrArg Adc.running heq, congrArg Adc.pend heq, congrArg Adc.trig heq⟩

theorem takeCode_adcKept (codes : List AdcCode) (s : State) : AdcKept s (takeCode codes s).2.2 :=
  .of_confined (takeCode_frame (w := [.draws]) codes s (frame_refl _ s) (hw := by decide)) (by decide)

theorem supervise_adcKept (n : Nat) (c : AdcCode) (s : State) : AdcKept s (supervise n c s) :=
  .of_confined (supervise_frame (w := [.sup, .ring, .evtLost, .pulse]) n c s (frame_refl _ s) (hw := by decide))
    (by decide)

theorem routeResult_adcKept (k e r : Nat) (s : State) : AdcKept s (routeResult k e r s) :=
  .of_confined (routeResult_frame (w := [.ring, .evtLost, .jrn, .qe, .hod]) k e r s (frame_refl _ s) (hw := by decide))
    (by decide)

theorem runStarts_adcKept (l : List Nat) (codes : List AdcCode) (s : State) : AdcKept s (runStarts l codes s).2 :=
  .of_confined (runStarts_frame (w := [.sup, .ring, .evtLost, .pulse, .draws]) l codes s (frame_refl _ s)
    (hw := by decide)) (by decide)

/-- What entry k of the sequence converts: its result, the codes that are left, and the state. -/
def entryResult (k : Nat) (codes : List AdcCode) (s : State) : Nat × List AdcCode × State :=
  if field (adcEntry s k) 0 5 = 0x1F then
    match nextSup s with
    | none => (0, codes, s)
    | some n =>
      let x := takeCode codes s
      let t := supervise n x.1 x.2.2
      (x.1.forward.toNat, x.2.1, { t with adc := { t.adc with supNext := (n + 1) % 8 } })
  else
    let x := takeCode codes s
    (x.1.forward.toNat, x.2.1, x.2.2)

/-- The state with the result of entry k among the last ones. -/
def noteResult (k : Nat) (x : Nat × List AdcCode × State) : State :=
  { x.2.2 with adc := { x.2.2.adc with last := setNth x.2.2.adc.last k (BitVec.ofNat 16 x.1) } }

theorem runEntry_eq (k : Nat) (codes : List AdcCode) (s : State) : (runEntry k codes s).2 =
    routeResult k (adcEntry s k) (entryResult k codes s).1 (noteResult k (entryResult k codes s)) := rfl

theorem entryResult_adcKept (k : Nat) (codes : List AdcCode) (s : State) : AdcKept s (entryResult k codes s).2.2 := by
  have hset : ∀ t n, AdcKept t { t with adc := { t.adc with supNext := n } } := fun _ _ => ⟨rfl, rfl, rfl⟩
  unfold entryResult
  split
  · split
    · exact .refl s
    · exact ((takeCode_adcKept ..).trans (supervise_adcKept ..)).trans (hset ..)
  · exact takeCode_adcKept ..

theorem noteResult_adcKept (k : Nat) (x : Nat × List AdcCode × State) : AdcKept x.2.2 (noteResult k x) :=
    ⟨rfl, rfl, rfl⟩

theorem runEntry_adcKept (k : Nat) (codes : List AdcCode) (s : State) : AdcKept s (runEntry k codes s).2 := by
  rw [runEntry_eq]
  exact ((entryResult_adcKept ..).trans (noteResult_adcKept ..)).trans (routeResult_adcKept ..)

theorem runEntries_adcKept (n k : Nat) (codes : List AdcCode) (s : State) : AdcKept s (runEntries n k codes s) := by
  induction n generalizing k codes s with
  | zero => exact .refl s
  | succ n ih => exact (runEntry_adcKept k codes s).trans (ih ..)

/-- A sequence runs from its start on; what waits is as before. -/
theorem runSequence_adc (codes : List AdcCode) (s : State) : (runSequence codes s).adc.running = true ∧
    (runSequence codes s).adc.pend = s.adc.pend ∧ (runSequence codes s).adc.trig = s.adc.trig := by
  have hstart := runStarts_adcKept (List.range 8) codes s
  unfold runSequence
  generalize runStarts (List.range 8) codes s = x at hstart
  have hrun := runEntries_adcKept (liveNat x.2 K.adcSeqLen) 0 x.1 { x.2 with adc := { x.2.adc with running := true } }
  exact ⟨hrun.running, hrun.pend.trans hstart.pend, hrun.trig.trans hstart.trig⟩

theorem adcBegin_of_idle {codes : List AdcCode} {s : State} (h : s.adc.running = false) :
    adcBegin codes s = runSequence codes s :=
  if_neg (by simp [h])

theorem adcWorks_of_works {s : State} (h : Works s) : adcWorks s = true := by
  simp only [Works, absent, Bool.or_eq_false_iff, beq_eq_false_iff_ne] at h
  obtain ⟨⟨hsleep, hheld⟩, hoff⟩ := h
  simp [adcWorks, hsleep, hheld, hoff]

/-- R443: what a start delivered by a trigger does. -/
theorem adcStart_trigger {codes : List AdcCode} {s : State} (hw : Works s) (ht : s.adc.trig ≠ 0) :
    adcStart .trigger codes s = adcBegin codes { s with adc := { s.adc with trig := s.adc.trig - 1 } } := by
  have hadc : adcStart .trigger codes s = adcTriggered codes s := if_pos (adcWorks_of_works hw)
  rw [hadc]
  exact if_neg ht

theorem leBytes_leNat (b : Bytes) : leBytes b.length (leNat b) = b := by
  induction b with
  | nil => rfl
  | cons x b ih =>
    have hlow : BitVec.ofNat 8 (x.toNat + 256 * leNat b) = x := by
      apply BitVec.eq_of_toNat_eq
      rw [BitVec.toNat_ofNat, Nat.add_mul_mod_self_left, Nat.mod_eq_of_lt x.isLt]
    have hhigh : (x.toNat + 256 * leNat b) / 256 = leNat b := by
      have := x.isLt
      omega
    rw [List.length_cons, leNat, leBytes, hlow, hhigh, ih]

/-- A field that is written with what it holds leaves its entry as it is. -/
theorem writeField_same {key lo width v : Nat} {s : State}
    (h : withField (leNat (readEntry s key)) lo width v = leNat (readEntry s key)) :
        writeField key lo width v s = s := by
  refine if_pos ?_
  rw [h, leBytes_leNat]

/-- The register of ADC.CTRL starts a sequence of the length that stands in it. -/
theorem writeReg_adcGo {codes : List AdcCode} {s : State} (hlen : liveNat s K.adcSeqLen ≤ 16) :
    writeReg 0x6C40 (liveNat s K.adcSeqLen + 256) codes s = adcBegin codes s := by
  have hread : readEntry s K.adcSeqLen = liveBytes s K.adcSeqLen := rfl
  have hfield : withField (leNat (readEntry s K.adcSeqLen)) 0 5 (liveNat s K.adcSeqLen + 256) =
      leNat (readEntry s K.adcSeqLen) := by
    rw [hread, show leNat (liveBytes s K.adcSeqLen) = liveNat s K.adcSeqLen from rfl]
    simp only [withField]
    omega
  have hgo : bit (liveNat s K.adcSeqLen + 256) 8 = true := by
    simp only [bit, beq_iff_eq]
    omega
  have hwrite : writeReg 0x6C40 (liveNat s K.adcSeqLen + 256) codes s =
      if bit (liveNat s K.adcSeqLen + 256) 8 then
        adcBegin codes (writeField K.adcSeqLen 0 5 (liveNat s K.adcSeqLen + 256) s)
      else writeField K.adcSeqLen 0 5 (liveNat s K.adcSeqLen + 256) s := rfl
  rw [hwrite, if_pos hgo, writeField_same hfield]

theorem adcStart_go {codes : List AdcCode} {s : State} (hfree : RegFree 0x6C40 s) (hlen : liveNat s K.adcSeqLen ≤ 16)
    (hidle : s.adc.running = false) :
    (adcStart .go codes s).adc.running = true ∧ (adcStart .go codes s).spi.err = false := by
  have hreg : adcStart .go codes s = _ := hostRegister_of_free (codes := codes) hfree (by omega) rfl
  have hgo : writeReg 0x6C40 (liveNat s K.adcSeqLen + 256) codes (cleared s) = runSequence codes (cleared s) :=
    (writeReg_adcGo (s := cleared s) hlen).trans (adcBegin_of_idle hidle)
  rw [hreg, hgo]
  have hconf := runSequence_frame (w := [.sup, .ring, .evtLost, .jrn, .qe, .pulse, .adc, .hod, .draws]) codes
      (cleared s)
    (frame_refl _ _) (hw := by decide)
  exact ⟨(runSequence_adc codes (cleared s)).1, congrArg Spi.err (hconf.same .spi (by decide))⟩

theorem writeEffect_adcCmd (port : Port) (tag : Byte) (value : Bytes) (codes : List AdcCode) (s : State) :
    writeEffect (writeRequest port tag K.adcCmd value) codes s = adcBegin codes s := by
  unfold writeEffect
  rw [writeRequest_key port tag value (by decide)]
  rfl

theorem adcStart_cmd {port : Port} {tag : Byte} {value : Bytes} {codes : List AdcCode} {s : State}
    (h : Passes port tag K.adcCmd value s) (hidle : s.adc.running = false) :
    (adcStart (.cmd port tag value) codes s).adc.running = true ∧
      Answered (writeRequest port tag K.adcCmd value) abOk [] (adcStart (.cmd port tag value) codes s) := by
  obtain ⟨hfree, hok⟩ := h
  obtain ⟨m, hm⟩ := portRequest_of_portFree (r := writeRequest port tag K.adcCmd value) codes rfl hfree
  have hkey := writeRequest_key port tag value (show K.adcCmd < 2 ^ 24 by decide)
  rw [show (writeRequest port tag K.adcCmd value).port = port from rfl, serve_of_ok codes hok,
      perform_effect (writeRequest_write ..) (by rw [hkey]; simp [engineKey])
    (by rw [hkey]; exact not_persisted_of_command (by simp)), writeEffect_adcCmd] at hm
  have hidle' : (atEngine port s).adc.running = false := by rw [atEngine_eq]; exact hidle
  rw [show adcStart (.cmd port tag value) codes s = _ from hm, adcBegin_of_idle hidle']
  have hconf := runSequence_frame (w := [.sup, .ring, .evtLost, .jrn, .qe, .pulse, .adc, .hod, .draws]) codes
    (atEngine port s) (frame_refl _ _) (hw := by decide)
  refine ⟨?_, (work_then_answer abOk [] m rfl hfree hconf (by decide)).2⟩
  have hadc : (sent port m (respond (writeRequest port tag K.adcCmd value) abOk []
      (runSequence codes (atEngine port s)))).adc = (runSequence codes (atEngine port s)).adc := by
    rw [sent_eq, respond_eq]
  rw [hadc]
  exact (runSequence_adc codes _).1

/-- R443: the end of a sequence starts the one that waits. -/
theorem adcEnd_of_running {codes : List AdcCode} {s : State} (h : s.adc.running = true) :
    adcEnd codes s = if s.adc.pend then
        runSequence codes { s with adc := { s.adc with running := false, pend := false } }
      else { s with adc := { s.adc with running := false, pend := false } } :=
  if_neg (by simp [h])

-- The flush of Hod (R446)

theorem nth_setNth_nil {α : Type} (l : List (List α)) (n : Nat) : nth [] (setNth l n []) n = [] := by
  rw [nth, setNth, List.getD_eq_getElem?_getD, List.getElem?_set_self']
  cases l[n]? <;> rfl

/-- The notice of a push leaves every chain as it is (R337). -/
theorem postNotice_chains (q : Nat) (seq : Word) (s : State) :
    (postNotice q seq s).qe.accBase = s.qe.accBase ∧ (postNotice q seq s).qe.queues = s.qe.queues := by
  unfold postNotice
  split
  · have hqe : ∀ t, (post evPktNotice (BitVec.ofNat 16 q) seq t).qe = t.qe := fun t =>
      (post_frame (w := [.ring, .evtLost]) _ _ _ t (frame_refl _ t) (hw := by decide)).same .qe (by decide)
    rw [hqe]
    exact ⟨rfl, rfl⟩
  · exact ⟨rfl, rfl⟩

section
variable (s : State) (h : Hod)

theorem pickSegments_hod (mirror xspi : Bool) (used : List Nat) (n : Nat) (acc : List Nat) :
    pickSegments { s with hod := h } mirror xspi used n acc = pickSegments s mirror xspi used n acc := by
  have hpick : ∀ taken middle, pickSegment { s with hod := h } used taken mirror middle =
    pickSegment s used taken mirror middle := fun _ _ => rfl
  induction n generalizing acc with
  | zero => rfl
  | succ n ih => simp only [pickSegments, hpick, ih]

/-- Where a frame goes does not depend on Hod. -/
theorem allocate_hod (q len : Nat) : allocate { s with hod := h } q len = allocate s q len := by
  have hsegs : segmentsFor { s with hod := h } q len = segmentsFor s q len := pickSegments_hod ..
  simp only [allocate, hsegs]

theorem pushRefusal_hod (q : Nat) (inCh : Bool) (src : Byte) (payload : Bytes) :
    pushRefusal { s with hod := h } q inCh src payload = pushRefusal s q inCh src payload := by
  have hroom : noRoom { s with hod := h } q inCh src payload = noRoom s q inCh src payload := by
    unfold noRoom
    rw [allocate_hod]
    rfl
  have hreserve : reserveBad { s with hod := h } q payload.length = reserveBad s q payload.length := by
    unfold reserveBad singlesTaken
    rw [allocate_hod]
    rfl
  unfold pushRefusal
  rw [hroom, hreserve]

end

/-- A frame of Hod that its queue takes. -/
theorem hodAppend_of_accepted {n : Nat} {s : State} {payload : Bytes}
    (hpay : payload = (nth [] s.hod.frames n).flatten) (hne : payload ≠ []) (hready : s.sys.ready = true)
    (hlen : payload.length ≤ liveNat s K.qMaxlen) (hok : pushRefusal s (hodQueue s n) true 0x02 payload = none) :
    hodAppend n s = postNotice (hodQueue s n) (getQueue s (hodQueue s n)).accSeq
      (accept (hodQueue s n) true 0x02 payload
        { s with hod := { s.hod with frames := setNth s.hod.frames n [] } }) := by
  unfold hodAppend
  extract_lets q p hod u seq
  subst hpay
  have hnot : ¬ (!u.sys.ready || decide (liveNat u K.qMaxlen < p.length) ||
      (pushRefusal u q true 0x02 p).isSome) = true := by
    rw [show u.sys.ready = true from hready, (pushRefusal_hod ..).trans hok,
      decide_eq_false (show ¬ liveNat u K.qMaxlen < p.length from Nat.not_lt.mpr hlen)]
    decide
  exact (if_neg hne).trans (if_neg hnot)

theorem hodFlush_accepted {n : Nat} {s : State} {payload : Bytes}
    (hpay : payload = (nth [] s.hod.frames n).flatten) (hne : payload ≠ []) (hfl : field (hodCfg s n) 16 16 ≠ 0)
    (hclk : blockOn s 6 = true) (hready : s.sys.ready = true) (hlen : payload.length ≤ liveNat s K.qMaxlen)
    (hok : pushRefusal s (hodQueue s n) true 0x02 payload = none) :
    ∃ f : Frame, nth [] (hodFlush n s).hod.frames n = [] ∧ f.payload = payload ∧ f.src = 0x02 ∧
      (getQueue (hodFlush n s) (hodQueue s n)).inCh = (getQueue s (hodQueue s n)).inCh ++ [f] ∧
      (hodFlush n s).hod.drops = s.hod.drops := by
  have hframes : nth [] s.hod.frames n ≠ [] := fun h => hne (by rw [hpay, h]; rfl)
  have hflush : hodFlush n s = hodAppend n s := if_pos ⟨hframes, hfl, hclk⟩
  rw [hflush, hodAppend_of_accepted hpay hne hready hlen hok]
  have hget := getQueue_accept (hodQueue s n) true 0x02 payload
    { s with hod := { s.hod with frames := setNth s.hod.frames n [] } }
  have hhod : (accept (hodQueue s n) true 0x02 payload
      { s with hod := { s.hod with frames := setNth s.hod.frames n [] } }).hod =
        { s.hod with frames := setNth s.hod.frames n [] } :=
    (accept_frame (w := [.jrn, .qe]) (hodQueue s n) true 0x02 payload _ (frame_refl _ _) (hw := by decide)).same .hod
      (by decide)
  generalize accept (hodQueue s n) true 0x02 payload
    { s with hod := { s.hod with frames := setNth s.hod.frames n [] } } = u at hget hhod
  obtain ⟨hbase, hqueues⟩ := postNotice_chains (hodQueue s n) (getQueue s (hodQueue s n)).accSeq u
  have hpost : (postNotice (hodQueue s n) (getQueue s (hodQueue s n)).accSeq u).hod = u.hod :=
      (postNotice_frame (w := [.ring, .evtLost, .qe]) (hodQueue s n) (getQueue s (hodQueue s n)).accSeq u
    (frame_refl _ u) (hw := by decide)).same .hod (by decide)
  refine ⟨nextFrame s (hodQueue s n) 0x02 payload ((allocate s (hodQueue s n) payload.length).getD []), ?_, rfl, rfl,
    ?_, ?_⟩
  · rw [hpost, hhod]
    exact nth_setNth_nil ..
  · rw [getQueue, hbase, hqueues]
    rw [allocate_hod] at hget
    exact congrArg Queue.inCh hget
  · rw [hpost, hhod]

/-- Settles O56. -/
theorem pulsesSequencesAndFlushes : Obligations.PulsesSequencesAndFlushes := by
  refine ⟨fun n ratio s c v run _ hen hclk hbank hrev hstop hw hc hopen hshort hv hrun => ?_, fun codes s hw => ?_⟩
  · have hexec : exec (.pulseSample n ratio) s = .next (samplePulse n.val ratio s) :=
      congrArg Host.Outcome.next (pulseSample_of_sampling hen hclk hbank hrev hstop hw)
    rw [hexec, samplePulse_eq hc hopen hshort hv hrun]
    refine ⟨fun h => ?_, fun hdeb hlev => ⟨fun hv0 => ?_, fun hv1 hcen hsrc hval => ?_⟩⟩
    · rw [if_neg fun hc => ?_]
      exact h.elim (fun hlt => absurd hc.1 (Nat.not_le.mpr hlt)) hc.2
    · rw [if_pos ⟨hdeb, hlev⟩, hv0]
      rfl
    · rw [if_pos ⟨hdeb, hlev⟩, hv1, if_pos rfl]
      exact congrArg Host.Outcome.next (countPulse_eq (s := setPulse n.val _ s) hcen hsrc hval)
  · refine ⟨fun ht => ?_, fun hfree hlen hidle => ⟨_, rfl, adcStart_go hfree hlen hidle⟩,
      fun port tag value h hidle => ⟨_, rfl, adcStart_cmd h hidle⟩, fun hrunning => ?_,
      fun n payload hpay hne hfl hclk hready hlen hok => ?_⟩
    · have hexec : exec (.adcStart .trigger codes) s = .next _ := congrArg Host.Outcome.next (adcStart_trigger hw ht)
      rw [hexec]
      refine ⟨fun hidle => ⟨_, rfl, ?_⟩, fun hrun hpend => ?_, fun hrun hpend => ?_⟩
      · rw [adcBegin_of_idle (s := { s with adc := { s.adc with trig := s.adc.trig - 1 } }) hidle]
        obtain ⟨hr, -, htr⟩ := runSequence_adc codes { s with adc := { s.adc with trig := s.adc.trig - 1 } }
        exact ⟨hr, htr⟩
      · exact congrArg Host.Outcome.next ((if_pos hrun).trans (if_neg (by simp [hpend])))
      · exact congrArg Host.Outcome.next ((if_pos hrun).trans (if_pos hpend))
    · have hexec : exec (.adcSequenceEnd codes) s = .next (adcEnd codes s) :=
        congrArg Host.Outcome.next (if_pos (adcWorks_of_works hw))
      rw [hexec, adcEnd_of_running hrunning]
      refine ⟨fun hpend => ?_, fun hpend => ⟨_, rfl, ?_⟩⟩
      · rw [if_neg (by simp [hpend]), ← hpend]
      · rw [if_pos hpend]
        obtain ⟨hr, hp, -⟩ := runSequence_adc codes { s with adc := { s.adc with running := false, pend := false } }
        exact ⟨hr, hp⟩
    · have hexec : exec (.hodFlush n) s = .next (hodFlush n.val s) :=
        congrArg Host.Outcome.next (if_neg (by simp [show absent s = false from hw]))
      obtain ⟨f, hf⟩ := hodFlush_accepted hpay hne hfl hclk hready hlen hok
      exact ⟨_, f, hexec, hf⟩

end Sys2Proof.Machine
end

section
/-! SUPPORT. O50: the upkeep of the queue engine (R338 to R341, R349). -/

namespace Sys2Proof.Machine

open Sys2Proof.Safety

theorem present_of_works {f : State → State} {s : State} (h : Works s) : present f s = f s :=
  if_neg (by rw [show absent s = false from h]; decide)

/-- The least recently used stone without PIN and not at work is the one to evict (R340). -/
theorem victim_eq {s : State} {l₁ l₂ : List Stone} {v : Stone} (h : s.qe.stones = l₁ ++ v :: l₂)
    (hbusy : ∀ u ∈ l₁, pinned s u.queue = true ∨ inProgress s u.queue = true) (hpin : pinned s v.queue = false)
    (hwork : inProgress s v.queue = false) : victim s = some v := by
  have hfirst : (s.qe.stones.find? fun t => !pinned s t.queue && !inProgress s t.queue) = some v := by
    have hnone : (l₁.find? fun t => !pinned s t.queue && !inProgress s t.queue) = none := by
      refine List.find?_eq_none.mpr fun u hu => ?_
      rcases hbusy u hu with hb | hb <;> simp [hb]
    rw [h, List.find?_append, hnone, List.find?_cons_of_pos (by simp [hpin, hwork])]
    rfl
  rw [victim, hfirst]
  rfl

/-- An eviction copies the victim into the free entry (R340). -/
theorem stoneEviction_eq {s : State} {v : Stone} {i : Nat} (hvictim : victim s = some v)
    (hfull : (stonePlaces s).length ≤ s.qe.stones.length) (hfree : s.qe.evb.findIdx? (fun e => e.isNone) = some i) :
    stoneEviction s = { s with qe := { s.qe with
      evb := setNth s.qe.evb i (some ⟨v.queue, v.dirty⟩)
      stones := s.qe.stones.filter fun u => u.queue != v.queue
      evictions := inc s.qe.evictions } } := by
  rw [stoneEviction, if_neg (Nat.not_lt.mpr hfull), hvictim]
  simp only [evictStone, hfree]

theorem retireEntry_eq {s : State} {i : Nat} {e : EvEntry} (h : nth none s.qe.evb i = some e) :
    retireEntry i s = advanceGen (tailWrites e.dirty) { s with qe := { s.qe with evb := setNth s.qe.evb i none } } := by
  rw [retireEntry, h]

/-- The first refusals at an index are answered with the write again (R341). -/
theorem segmentRefused_eq {s : State} {i : Nat} (hi : i < 96256) (hn : tabGet 0 i s.qe.refusals < 3) :
    segmentRefused i s = { s with qe := { s.qe with
      reissues := inc s.qe.reissues
      segGen := s.qe.segGen + BitVec.ofNat 12 1
      refusals := tabSet 0 i (tabGet 0 i s.qe.refusals + 1) s.qe.refusals } } := by
  have hplace : ¬ (2 ^ 23 ≤ i ∨ ashlarPlaces ≤ i) := by
    rw [show ashlarPlaces = 96256 from rfl]
    omega
  have hcount : tabGet 0 i s.qe.refusals + 1 < 4 := by omega
  have hrefuse : (refuseSegment i s) = ({ s with qe := { s.qe with
      reissues := inc s.qe.reissues
      segGen := s.qe.segGen + BitVec.ofNat 12 1
      refusals := tabSet 0 i (tabGet 0 i s.qe.refusals + 1) s.qe.refusals } }, false) := if_pos hcount
  rw [segmentRefused, if_neg hplace, hrefuse]
  rfl

theorem sliceIdleOff_eq {s : State} {k : Nat} (h : ∀ u ∈ s.qe.stones, u.place / 64 ≠ k) :
    sliceIdleOff k s =
      { s with qe := { s.qe with slicesOn := s.qe.slicesOn &&& ~~~(BitVec.ofNat 8 (2 ^ k)) } } := by
  refine if_neg ?_
  rw [List.any_eq_true]
  rintro ⟨u, hu, hk⟩
  exact h u hu (eq_of_beq hk)

/-- The notice of a queue that is due is posted, and the queue is marked (R349). -/
theorem postQto_facts {s : State} {q : Half} (hdue : idleDue s q.toNat = true) (hmask : unmasked s evQto = true)
    (hplace : hasPlace s.ring evQto = true) :
    (getQueue (postQto q.toNat s) q.toNat).qto = true ∧ idleDue (postQto q.toNat s) q.toNat = false ∧
      (postQto q.toNat s).ring = s.ring ++ [⟨evQto, q, s.timer.time.setWidth 48,
        BitVec.ofNat 32 ((getQueue s q.toNat).inCh.length + 65536 * groupOf s q.toNat)⟩] := by
  have hpost : postQto q.toNat s = post evQto (BitVec.ofNat 16 q.toNat)
      (BitVec.ofNat 32 ((getQueue s q.toNat).inCh.length + 65536 * groupOf s q.toNat))
      (setQueue q.toNat { getQueue s q.toNat with qto := true } s) := if_pos hdue
  have hne : ({ getQueue s q.toNat with qto := true } : Queue) ≠ emptyQueue s.qe.accBase := fun h =>
    Bool.noConfusion (congrArg Queue.qto h)
  have hget : getQueue (postQto q.toNat s) q.toNat = { getQueue s q.toNat with qto := true } := by
    rw [hpost, getQueue, post_qe]
    exact getQueue_setQueue_eq s q.toNat hne
  have hqto : (getQueue (postQto q.toNat s) q.toNat).qto = true := congrArg Queue.qto hget
  refine ⟨hqto, ?_, ?_⟩
  · simp only [idleDue, hqto, Bool.not_true, Bool.and_false]
  · have hmask' : unmasked (setQueue q.toNat { getQueue s q.toNat with qto := true } s) evQto = true := hmask
    have hplace' : hasPlace (setQueue q.toNat { getQueue s q.toNat with qto := true } s).ring evQto = true := hplace
    rw [hpost, post, if_pos hmask', if_pos hplace', BitVec.ofNat_toNat, BitVec.setWidth_eq]
    rfl

/-- Settles O50. -/
theorem queueUpkeep : Obligations.QueueUpkeep := by
  intro s hw
  refine ⟨fun l₁ v l₂ i hl hbusy hpin hwork hfull hfree => ?_, fun i e he => ?_, fun i hi hn => ?_, fun k hk => ?_,
    fun q hdue hmask hplace => ?_⟩
  · rw [← stoneEviction_eq (victim_eq hl hbusy hpin hwork) hfull hfree, ← present_of_works (f := stoneEviction) hw]
    rfl
  · refine ⟨retireEntry i.val s, congrArg Host.Outcome.next (present_of_works hw),
      retireEntry_frame _ s (frame_refl _ s) (hw := by decide), ?_⟩
    rw [retireEntry_eq he]
    exact ⟨rfl, rfl, rfl⟩
  · refine ⟨segmentRefused i s, congrArg Host.Outcome.next (present_of_works hw), ?_⟩
    rw [segmentRefused_eq hi hn]
    exact ⟨confined_setQe .., rfl, rfl, tabGet_tabSet_eq i (Nat.succ_ne_zero _) _, rfl⟩
  · refine ⟨sliceIdleOff k.val s, congrArg Host.Outcome.next (present_of_works hw),
      sliceIdleOff_frame _ s (frame_refl _ s) (hw := by decide), ?_⟩
    rw [sliceIdleOff_eq hk]
    exact ⟨bit_and_not_twoPow _, fun n hn hne => bit_and_not_twoPow_ne _ hn hne⟩
  · exact ⟨_, congrArg Host.Outcome.next (present_of_works hw), postQto_facts hdue hmask hplace⟩

end Sys2Proof.Machine
end

section
/-! SUPPORT. O52: compaction, erase, margin scan and refresh of Mortar (R391 to R397). -/

namespace Sys2Proof.Machine

open Sys2Proof.Safety

-- What the log and the field map leave of the store: records that wait at source 4 join it

theorem postRepair_mortar (tag arg : Nat) (s : State) :
    ∃ l, (postRepair tag arg s).mortar = { s.mortar with waiting4 := l } :=
  ⟨_, post_mortar ..⟩

theorem stageMap_mortar (l : List MapEntry) (s : State) :
    ∃ w, (stageMap l s).mortar = { s.mortar with waiting4 := w } := by
  by_cases h : (mapRecs s.repair.mapGen s.repair.map).all s.mortar.waiting4.contains = true
  · rw [show stageMap l s = _ from if_pos h]
    exact ⟨_, rfl⟩
  · rw [show stageMap l s = _ from if_neg h]
    exact ⟨_, rfl⟩

theorem enterRepair_mortar (tag arg : Nat) (e : MapEntry) (drop : MapEntry → Bool) (s : State) :
    ∃ w, (enterRepair tag arg e drop s).mortar = { s.mortar with waiting4 := w } := by
  by_cases h : (s.repair.map.filter fun x => !drop x).length < 62
  · obtain ⟨l, hl⟩ := postRepair_mortar tag arg s
    obtain ⟨w, hw⟩ := stageMap_mortar ((s.repair.map.filter fun x => !drop x) ++ [e]) (postRepair tag arg s)
    rw [hl] at hw
    exact ⟨w, (congrArg State.mortar (if_pos h)).trans hw⟩
  · exact (postRepair_mortar ..).imp fun l hl => (congrArg State.mortar (if_neg h)).trans hl

-- What an append leaves of the store

/-- What no append touches. -/
structure StoreKept (m n : Mortar) : Prop where
  refreshes : n.refreshes = m.refreshes
  erasing   : n.erasing = m.erasing
  waiting2  : n.waiting2 = m.waiting2
  waiting4  : n.waiting4 = m.waiting4
  repairs   : n.repairs = m.repairs
  state     : n.state = m.state
  stalls    : n.writeStalls = m.writeStalls

theorem StoreKept.refl (m : Mortar) : StoreKept m m := ⟨rfl, rfl, rfl, rfl, rfl, rfl, rfl⟩

theorem StoreKept.trans {l m n : Mortar} (h : StoreKept l m) (k : StoreKept m n) : StoreKept l n :=
  ⟨k.refreshes.trans h.refreshes, k.erasing.trans h.erasing, k.waiting2.trans h.waiting2, k.waiting4.trans h.waiting4,
    k.repairs.trans h.repairs, k.state.trans h.state, k.stalls.trans h.stalls⟩

theorem openPair_storeKept {limit : Nat} {m n : Mortar} (h : openPair limit m = some n) : StoreKept m n := by
  unfold openPair at h
  split at h
  · split at h
    · obtain rfl := Option.some.inj h
      exact ⟨rfl, rfl, rfl, rfl, rfl, rfl, rfl⟩
    · cases h
  · cases h

theorem addRec_storeKept (isHot : Bool) (r : NewRec) (a b : Bool) (m : Mortar) : StoreKept m (addRec isHot r a b m) :=
  ⟨rfl, rfl, rfl, rfl, rfl, rfl, rfl⟩

theorem appendFrom_storeKept (limit : Nat) (isHot : Bool) (seals : Nat → Bool × Bool) (i : Nat) (rs : List NewRec)
    (m : Mortar) : StoreKept m (appendFrom limit isHot seals i rs m).1 := by
  induction rs generalizing i m with
  | nil => exact .refl m
  | cons r rs ih =>
    unfold appendFrom
    split
    · exact (addRec_storeKept ..).trans (ih ..)
    · split
      · next h => exact (openPair_storeKept h).trans ((addRec_storeKept ..).trans (ih ..))
      · exact .refl m

-- Compaction (R393)

/-- A pair that can be compacted leaves the log, and the erase of its sectors begins. -/
theorem compactPair_of_compactable {p : Pair} {s : State} (h : Compactable p s) :
    ∃ t, compactPair p s = some t ∧ t.mortar.erasing = some (p.secA, p.secB) ∧
      (∀ x ∈ t.mortar.pairs, x.sseq ≠ p.sseq) ∧ t.mortar.refreshes = s.mortar.refreshes := by
  obtain ⟨hidle, hhigher, hroom⟩ := h
  have hkept := appendFrom_storeKept 2 (hotWrite s) (fun _ => (true, true)) 0 (copiesOf s.mortar p)
    (if p.full then s.mortar else closePair s.mortar)
  have hclose : (if p.full then s.mortar else closePair s.mortar).refreshes = s.mortar.refreshes := by split <;> rfl
  refine ⟨_, if_pos ⟨hroom, hidle, hhigher⟩, rfl, fun x hx => ?_, hkept.refreshes.trans hclose⟩
  have := (List.mem_filter.mp hx).2
  simpa using this

/-- A refresh compacts the pair and counts (R396). -/
theorem refreshPair_of_compactable {p : Pair} {s : State} (reason : Nat) (h : Compactable p s) :
    ∃ t, refreshPair p reason s = some t ∧ t.mortar.erasing = some (p.secA, p.secB) ∧
      t.mortar.refreshes = inc s.mortar.refreshes := by
  obtain ⟨u, hu, herase, -, hcount⟩ := compactPair_of_compactable h
  unfold refreshPair
  rw [hu]
  refine ⟨_, rfl, ?_, ?_⟩ <;> rw [post_mortar]
  · exact herase
  · exact congrArg inc hcount

/-- COMPACTION with no refresh due and no sector worn takes the oldest pair (R393, R394). -/
theorem compact_oldest {p : Pair} {rest : List Pair} {s : State} (hb : backgroundFlash s = true)
    (hrefresh : (tidyFlash s).mortar.refresh = [])
    (hfew : prepared (tidyFlash s).mortar true ≤ 4 ∨ prepared (tidyFlash s).mortar false ≤ 4)
    (hwear : wearPair (tidyFlash s).mortar = none) (hpairs : (tidyFlash s).mortar.pairs = p :: rest) :
    compact s = (compactPair p (tidyFlash s)).getD (tidyFlash s) := by
  rw [compact, if_neg (by rw [hb]; decide)]
  generalize tidyFlash s = u at *
  simp only [hrefresh, if_pos hfew, hwear, hpairs]

-- The end of an erase (R393)

/-- What the repairs of sectors leave: an erase in progress, and what waits at source 2. -/
structure WriterKept (m n : Mortar) : Prop where
  erasing  : n.erasing = m.erasing
  waiting2 : n.waiting2 = m.waiting2

theorem WriterKept.trans {l m n : Mortar} (h : WriterKept l m) (k : WriterKept m n) : WriterKept l n :=
  ⟨k.erasing.trans h.erasing, k.waiting2.trans h.waiting2⟩

theorem StoreKept.writerKept {m n : Mortar} (h : StoreKept m n) : WriterKept m n := ⟨h.erasing, h.waiting2⟩

theorem retireSector_writerKept (i : Nat) (s : State) : WriterKept s.mortar (retireSector i s).mortar := by
  have hjudge : ∀ m, WriterKept m (judgeReadOnly m) := by
    intro m
    unfold judgeReadOnly
    split <;> exact ⟨rfl, rfl⟩
  unfold retireSector
  extract_lets m spare m' spareByte t
  obtain ⟨w, hw⟩ := enterRepair_mortar 0x06 (i + 256 * spareByte)
    ⟨0x06, BitVec.ofNat 8 i, BitVec.ofNat 8 spareByte, 0xFF⟩ (fun _ => false) t
  have hm' : WriterKept s.mortar m' := by
    show WriterKept s.mortar (match spare with | some j => prepareDirty j m | none => m)
    cases spare <;> exact ⟨rfl, rfl⟩
  have hfail : WriterKept m' { m' with failing := m'.failing.filter fun x => x != i } := ⟨rfl, rfl⟩
  have ht : WriterKept s.mortar t.mortar := hm'.trans (hfail.trans (hjudge _))
  rw [hw]
  exact ⟨ht.erasing, ht.waiting2⟩

theorem endErase_erasing (i : Nat) (ok : Bool) (s : State) : (endErase i ok s).mortar.erasing = s.mortar.erasing := by
  unfold endErase
  extract_lets sec e m t
  split
  · rfl
  · exact (retireSector_writerKept i t).erasing

/-- A sector whose erase passes is prepared, with ERASES one higher. -/
theorem endErase_ok {i : Nat} {s : State} (hfail : s.mortar.failing = []) (he : eraseCount s i < 20000) :
    endErase i true s = { s with mortar := { s.mortar with
      sectors := setNth s.mortar.sectors i ⟨.prepared, BitVec.ofNat 32 (eraseCount s i + 1)⟩ } } := by
  have hinc : inc (nth ⟨.unassigned, 0⟩ s.mortar.sectors i).erases = BitVec.ofNat 32 (eraseCount s i + 1) :=
    congrArg (BitVec.ofNat 32) (if_pos (show eraseCount s i + 1 < 2 ^ 32 by omega))
  unfold endErase
  extract_lets sec e m t
  have hok : (true && !s.mortar.failing.contains i && decide (sec.erases.toNat < 20000)) = true := by
    rw [hfail, decide_eq_true (show sec.erases.toNat < 20000 from he)]
    rfl
  rw [if_pos hok, ← hinc]

theorem nth_setNth_ne {α : Type} (d : α) (l : List α) {i j : Nat} (h : i ≠ j) (v : α) :
    nth d (setNth l i v) j = nth d l j := by
  rw [nth, nth, setNth, List.getD_eq_getElem?_getD, List.getElem?_set_ne h, List.getD_eq_getElem?_getD]

/-- Both sectors of a pair whose erase passes are prepared. -/
theorem endErase_both {a b : Nat} {s : State} (hab : a ≠ b) (hfail : s.mortar.failing = [])
    (ha : eraseCount s a < 20000) (hb : eraseCount s b < 20000) :
    endErase b true (endErase a true s) = { s with mortar := { s.mortar with
      sectors := setNth (setNth s.mortar.sectors a ⟨.prepared, BitVec.ofNat 32 (eraseCount s a + 1)⟩) b
        ⟨.prepared, BitVec.ofNat 32 (eraseCount s b + 1)⟩ } } := by
  rw [endErase_ok hfail ha]
  generalize ht : ({ s with mortar := { s.mortar with
    sectors := setNth s.mortar.sectors a ⟨.prepared, BitVec.ofNat 32 (eraseCount s a + 1)⟩ } } : State) = t
  have hother : eraseCount t b = eraseCount s b := by
    rw [← ht]
    exact congrArg (fun x : Sector => x.erases.toNat) (nth_setNth_ne _ _ hab _)
  rw [endErase_ok (show t.mortar.failing = [] by rw [← ht]; exact hfail) (hother ▸ hb), hother, ← ht]

theorem eraseEnd_eq {okA okB : Bool} {a b : Nat} {s : State} (hw : Works s) (he : s.mortar.erasing = some (a, b)) :
    eraseEnd okA okB s = endErase b okB (endErase a okA { s with mortar := { s.mortar with erasing := none } }) := by
  simp only [eraseEnd, he]
  exact if_neg (by rw [show absent s = false from hw]; decide)

-- The margin scan and the refresh of hot-written records (R391, R396, R397)

/-- A record with both copies damaged is known as such. -/
theorem damageRec_facts {p : Pair} {i : Nat} {s : State} {rec' : Rec} (h : p.recs[i]? = some rec') :
    (damageRec p i s).mortar.erasing = s.mortar.erasing ∧
      ∀ x ∈ (damageRec p i s).mortar.pairs, x.sseq = p.sseq →
        ∃ bad, x.recs[i]? = some bad ∧ bad.okA = false ∧ bad.okB = false := by
  unfold damageRec
  rw [h]
  dsimp only
  obtain ⟨l, hl⟩ := postRepair_mortar 0x08 (2 ^ 24 * rec'.type.toNat + rec'.key % 2 ^ 24)
    { s with mortar := { s.mortar with pairs := s.mortar.pairs.map fun q => if q.sseq = p.sseq then
      { p with recs := setNth p.recs i { rec' with okA := false, okB := false } } else q } }
  rw [hl]
  refine ⟨rfl, fun x hx hseq => ?_⟩
  obtain ⟨q, -, rfl⟩ := List.mem_map.mp hx
  by_cases hq : q.sseq = p.sseq
  · rw [if_pos hq]
    exact ⟨_, List.getElem?_set_self (List.getElem?_eq_some_iff.mp h).1, rfl, rfl⟩
  · rw [if_neg hq] at hseq
    exact absurd hseq hq

/-- Settles O52. -/
theorem mortarUpkeep : Obligations.MortarUpkeep := by
  intro s hb
  refine ⟨fun p rest u hu hrefresh hfew hwear hpairs hc => ?_, fun a b okA okB hw he => ?_,
    fun ssq found p hp => ?_, fun htherm => ?_⟩
  · subst hu
    obtain ⟨t, ht, herase, hgone, hcount⟩ := compactPair_of_compactable hc
    refine ⟨t, ?_, compactPair_frame p _ t (frame_refl _ _) ht (hw := by decide), herase, hgone, hcount⟩
    have hcomp := compact_oldest hb hrefresh hfew hwear hpairs
    rw [ht] at hcomp
    exact congrArg Host.Outcome.next hcomp
  · refine ⟨_, congrArg Host.Outcome.next (eraseEnd_eq hw he), ?_, fun hA hB hab hfail ha hb => ?_⟩
    · rw [endErase_erasing, endErase_erasing]
    · subst hA hB
      rw [endErase_both (s := { s with mortar := { s.mortar with erasing := none } }) hab hfail ha hb]
      exact ⟨confined_setMortar .., rfl⟩
  · have hstart : ∀ found t, marginScan ssq.toNat found s = t → exec (.marginScan ssq found) s = .next t :=
      fun _ _ h => congrArg Host.Outcome.next h
    have hscan : ∀ f, marginScan ssq.toNat f s = _ := fun f => if_neg (by rw [hb]; decide)
    simp only [hp] at hscan
    refine ⟨fun hf => hstart _ _ (hf ▸ hscan _), fun hf hc => ?_, fun i rec' hf hrec => ?_⟩
    · rcases hf with rfl | rfl
      · obtain ⟨t, ht, hrest⟩ := refreshPair_of_compactable 1 hc
        exact ⟨t, hstart _ _ ((hscan _).trans (by simp only [ht, Option.getD_some])), hrest⟩
      · obtain ⟨t, ht, hrest⟩ := refreshPair_of_compactable 3 hc
        exact ⟨t, hstart _ _ ((hscan _).trans (by simp only [ht, Option.getD_some])), hrest⟩
    · subst hf
      exact ⟨_, hstart _ _ (hscan _), damageRec_facts hrec⟩
  · have hrun : exec .hotRefresh s = .next _ :=
      congrArg Host.Outcome.next (if_pos (show (backgroundFlash s && s.sup.therm == 0) = true by simp [hb, htherm]))
    rw [hrun]
    refine ⟨fun hnone => by rw [hnone, List.foldl_nil], fun p hone hc => ?_⟩
    obtain ⟨t, ht, hrest⟩ := refreshPair_of_compactable 2 hc
    rw [hone, List.foldl_cons, List.foldl_nil, ht]
    exact ⟨t, rfl, hrest⟩

end Sys2Proof.Machine
end

section
/-! SUPPORT. What the operations of the engine leave of the request that it serves: its answer, the requests that wait,
and a sleep that is due. -/

namespace Sys2Proof.Machine

open Sys2Proof.Safety

/-- The answers that are given, the engine's requests and the sleep that is due are the same. -/
structure AnswerKept (r s : State) : Prop where
  job      : s.engine.job = r.engine.job
  waits    : s.engine.waits = r.engine.waits
  reply    : s.field.reply = r.field.reply
  mute     : s.field.mute = r.field.mute
  held     : s.net.held = r.net.held
  sleepDue : s.sup.sleepDue = r.sup.sleepDue

theorem AnswerKept.refl (s : State) : AnswerKept s s := ⟨rfl, rfl, rfl, rfl, rfl, rfl⟩

theorem AnswerKept.trans {r s t : State} (h : AnswerKept r s) (k : AnswerKept s t) : AnswerKept r t :=
  ⟨k.job.trans h.job, k.waits.trans h.waits, k.reply.trans h.reply, k.mute.trans h.mute, k.held.trans h.held,
    k.sleepDue.trans h.sleepDue⟩

theorem AnswerKept.ite {r a b : State} {c : Prop} [Decidable c] (ha : AnswerKept r a) (hb : AnswerKept r b) :
    AnswerKept r (if c then a else b) := by
  split
  · exact ha
  · exact hb

/-- What leaves the engine, the field port and the network alone, and of the supply sets the power state at most. -/
theorem AnswerKept.of_powerOnly {w : List Part} {r s : State} (h : Confined w r s) (he : Part.engine ∉ w)
    (hf : Part.field ∉ w) (hn : Part.net ∉ w) (hp : PowerOnly r s) : AnswerKept r s := by
  have hengine : s.engine = r.engine := h.same .engine he
  have hfield : s.field = r.field := h.same .field hf
  have hnet : s.net = r.net := h.same .net hn
  exact ⟨congrArg Engine.job hengine, congrArg Engine.waits hengine, congrArg FieldPort.reply hfield,
    congrArg FieldPort.mute hfield, congrArg Net.held hnet, hp.reading (fun x => x.sleepDue) fun _ => rfl⟩

theorem AnswerKept.of_confined {w : List Part} {r s : State} (h : Confined w r s) (he : Part.engine ∉ w)
    (hf : Part.field ∉ w) (hn : Part.net ∉ w) (hs : Part.sup ∉ w) : AnswerKept r s :=
  .of_powerOnly h he hf hn (.of_confined h hs)

theorem foldl_answerKept {α : Type} {f : State → α → State} (h : ∀ t a, AnswerKept t (f t a)) (l : List α) (s : State) :
    AnswerKept s (l.foldl f s) :=
  List.foldlRecOn l f (.refl s) fun t ht a _ => ht.trans (h t a)

theorem post_answerKept (code tag : Half) (arg : Word) (s : State) : AnswerKept s (post code tag arg s) :=
  .of_confined (post_frame (w := [.ring, .evtLost]) code tag arg s (frame_refl _ s) (hw := by decide))
    (by decide) (by decide) (by decide) (by decide)

theorem setLive_answerKept (s : State) (k : Nat) (v : Bytes) : AnswerKept s (setLive s k v) :=
    ⟨rfl, rfl, rfl, rfl, rfl, rfl⟩

-- The radio

theorem cancelDets_answerKept (n : Nat) (p : Det → Bool) (s : State) : AnswerKept s (cancelDets n p s) :=
  .of_confined (cancelDets_frame (w := [.ring, .evtLost, .scarab, .rx, .draws]) n p s (frame_refl _ s)
      (hw := by decide))
    (by decide) (by decide) (by decide) (by decide)

theorem goto_answerKept (x : RadioState) (s : State) : AnswerKept s (goto x s) :=
  .of_powerOnly (goto_frame (w := [.sup, .radio]) x s (frame_refl _ s) (hw := by decide)) (by decide) (by decide)
    (by decide) (goto_powerOnly x s)

theorem gotoIdle_answerKept (s : State) : AnswerKept s (gotoIdle s) :=
  .of_powerOnly (gotoIdle_frame (w := [.sup, .ring, .evtLost, .scarab, .rx, .radio, .draws]) s (frame_refl _ s)
    (hw := by decide)) (by decide) (by decide) (by decide) (gotoIdle_powerOnly s)

theorem autoReceive_answerKept (s : State) : AnswerKept s (autoReceive s) :=
  .of_powerOnly (autoReceive_frame (w := [.sup, .ring, .evtLost, .rx, .radio, .draws]) s (frame_refl _ s)
    (hw := by decide)) (by decide) (by decide) (by decide) (autoReceive_powerOnly s)

theorem goReturn_answerKept (s : State) : AnswerKept s (goReturn s) :=
  .of_powerOnly (goReturn_frame (w := [.sup, .ring, .evtLost, .scarab, .rx, .radio, .draws]) s (frame_refl _ s)
    (hw := by decide)) (by decide) (by decide) (by decide) (goReturn_powerOnly s)

theorem retuneRx_answerKept (s : State) : AnswerKept s (retuneRx s) :=
  .of_powerOnly (retuneRx_frame (w := [.sup, .ring, .evtLost, .scarab, .rx, .radio, .draws]) s (frame_refl _ s)
    (hw := by decide)) (by decide) (by decide) (by decide) (retuneRx_powerOnly s)

theorem suppressOther_answerKept (a : AckDue) (s : State) : AnswerKept s (suppressOther a s) :=
  .of_confined (suppressOther_frame (w := [.ring, .evtLost, .radio, .draws]) a s (frame_refl _ s) (hw := by decide))
    (by decide) (by decide) (by decide) (by decide)

theorem dropAttempt_answerKept (s : State) : AnswerKept s (dropAttempt s) := by
  have hset : ∀ t a b c, AnswerKept t { t with radio := a, net := { t.net with exch := b }, swarm := c } :=
    fun _ _ _ _ => ⟨rfl, rfl, rfl, rfl, rfl, rfl⟩
  unfold dropAttempt
  extract_lets jobs lost t
  have ht : AnswerKept s t := by
    show AnswerKept s (match upAck s with | some j => suppressOther (ackInHand j) s | none => s)
    cases upAck s
    · exact .refl s
    · exact suppressOther_answerKept ..
  exact ht.trans (hset ..)

theorem endAttempt_answerKept (s : State) : AnswerKept s (endAttempt s) :=
  (dropAttempt_answerKept s).trans (goReturn_answerKept _)

theorem judgeOff_answerKept (s : State) : AnswerKept s (judgeOff s) := by
  unfold judgeOff
  extract_lets works
  exact .ite (goto_answerKept ..) (.ite (goto_answerKept ..)
    (.ite ((dropAttempt_answerKept s).trans (gotoIdle_answerKept _)) (.refl s)))

theorem channelsChanged_answerKept {s t : State} (h : AnswerKept s t) (old : State) :
    AnswerKept s (channelsChanged old t) :=
  (h.trans (.of_confined (judgeFloors_frame (w := [.rx]) old t (frame_refl _ t) (hw := by decide)) (by decide)
    (by decide) (by decide) (by decide))).trans (retuneRx_answerKept _)

-- The effects of entries

theorem enableBlock_answerKept (s : State) (n : Nat) : AnswerKept s (enableBlock s n) := by
  have hset : ∀ (a : BitVec 206) b, AnswerKept s { s with sup := { s.sup with rising := a }, clk := b } := fun _ _ =>
    ⟨rfl, rfl, rfl, rfl, rfl, rfl⟩
  have hgate : AnswerKept s (gateBlock n s) := .ite (hset ..) (hset s.sup.rising _)
  exact .ite (.ite (.refl s) (.ite (hset _ s.clk) (hset s.sup.rising _))) (.ite (.refl s) hgate)

theorem applyEnables_answerKept (s : State) : AnswerKept s (applyEnables s) :=
  (foldl_answerKept enableBlock_answerKept _ s).trans ((judgeOff_answerKept _).trans (autoReceive_answerKept _))

theorem cancelChanged_answerKept (s : State) : AnswerKept s (cancelChanged s) :=
  .of_confined (cancelChanged_frame (w := [.ring, .evtLost, .scarab, .rx, .draws]) s (frame_refl _ s) (hw := by decide))
    (by decide) (by decide) (by decide) (by decide)

theorem entryEffect_answerKept (key : Nat) (old s : State) : AnswerKept s (entryEffect key old s) := by
  have htb : AnswerKept s (tbModeEffect s) :=
    .of_confined (tbModeEffect_frame (w := [.tb]) s (frame_refl _ s) (hw := by decide)) (by decide) (by decide)
      (by decide) (by decide)
  have hsw : AnswerKept s (swEnEffect s) :=
    .of_confined (swEnEffect_frame (w := [.swarm]) s (frame_refl _ s) (hw := by decide)) (by decide) (by decide)
      (by decide) (by decide)
  have hplumb : AnswerKept s (plumbEffect s) := .ite (.refl s) ⟨rfl, rfl, rfl, rfl, rfl, rfl⟩
  have hpol : AnswerKept s (polarityEffect s) := .ite (.refl s) ⟨rfl, rfl, rfl, rfl, rfl, rfl⟩
  have hchanged : AnswerKept s { s with scarab := { s.scarab with changed := true } } := ⟨rfl, rfl, rfl, rfl, rfl, rfl⟩
  exact .ite (applyEnables_answerKept s) (.ite htb (.ite (.ite ⟨rfl, rfl, rfl, rfl, rfl, rfl⟩ (.refl s)) (.ite hsw
    (.ite hplumb (.ite hpol (.ite (channelsChanged_answerKept (.refl s) old)
      (.ite (hchanged.trans (cancelChanged_answerKept _)) (.refl s))))))))

theorem requestWake_answerKept (b : Nat) (s : State) : AnswerKept s (requestWake b s) :=
  .ite ⟨rfl, rfl, rfl, rfl, rfl, rfl⟩ (.refl s)

theorem setPulse_answerKept (n : Nat) (c : PulseCh) (s : State) : AnswerKept s (setPulse n c s) :=
  ⟨rfl, rfl, rfl, rfl, rfl, rfl⟩

theorem setLine_answerKept (n : Nat) (l : LineState) (s : State) : AnswerKept s (setLine n l s) :=
  .ite (setPulse_answerKept ..) (.ite (setPulse_answerKept ..)
    ((setPulse_answerKept ..).trans ((post_answerKept ..).trans (requestWake_answerKept ..))))

theorem supervise_answerKept (n : Nat) (c : AdcCode) (s : State) : AnswerKept s (supervise n c s) := by
  have hset : ∀ t a, AnswerKept t { t with pulse := a } := fun _ _ => ⟨rfl, rfl, rfl, rfl, rfl, rfl⟩
  unfold supervise
  extract_lets old c' t
  have ht : AnswerKept s t := setPulse_answerKept ..
  split
  · exact (ht.trans (hset ..)).trans (.ite (setLine_answerKept ..) (setPulse_answerKept ..))
  · exact ht.trans (.ite (setLine_answerKept ..) (.ite (setPulse_answerKept ..)
      ((setPulse_answerKept ..).trans (.ite (setLine_answerKept ..) (.refl _)))))

theorem setPulseCfg_answerKept (n v : Nat) (s : State) : AnswerKept s (setPulseCfg n v s) := by
  have htake : ∀ codes t, AnswerKept t (takeCode codes t).2.2 := fun codes t =>
    .of_confined (takeCode_frame (w := [.draws]) codes t (frame_refl _ t) (hw := by decide)) (by decide) (by decide)
      (by decide) (by decide)
  have hstart : ∀ t, AnswerKept t (startChannel n t) := fun t =>
    ((setPulse_answerKept ..).trans (setLine_answerKept ..)).trans (.ite (.refl _) ((setPulse_answerKept ..).trans
      (.ite ((htake ..).trans (supervise_answerKept ..)) (.refl _))))
  exact (setLive_answerKept ..).trans (.ite (hstart _) (.ite (.refl _) (setPulse_answerKept ..)))

theorem setEntry_answerKept (key : Nat) (b : Bytes) (s : State) : AnswerKept s (setEntry key b s) := by
  have htimer : ∀ t, Confined [.live, .timer] s t → AnswerKept s t := fun t h =>
    .of_confined h (by decide) (by decide) (by decide) (by decide)
  have hset : ∀ a b c d, AnswerKept s { s with sys := a, qe := b, net := { s.net with polls := c }, timer := d } :=
    fun _ _ _ _ => ⟨rfl, rfl, rfl, rfl, rfl, rfl⟩
  have hhold : ∀ t, AnswerKept t (holdSetting key s t) := fun t => .ite ⟨rfl, rfl, rfl, rfl, rfl, rfl⟩ (.refl t)
  unfold setEntry
  exact .ite (hset _ s.qe s.net.polls s.timer) (.ite (hset s.sys _ s.net.polls s.timer)
      (.ite (hset s.sys s.qe _ s.timer)
    (.ite (htimer _ (setCmpCfg_frame _ _ s (frame_refl _ s) (hw := by decide)))
    (.ite (hset s.sys s.qe s.net.polls _) (.ite (hset s.sys s.qe s.net.polls _)
    (.ite (htimer _ (setCapCfg_frame _ _ s (frame_refl _ s) (hw := by decide)))
    (.ite (htimer _ (setCapCfg_frame _ _ s (frame_refl _ s) (hw := by decide)))
    (.ite (htimer _ (setCntCfg_frame _ _ s (frame_refl _ s) (hw := by decide)))
    (.ite (hset s.sys s.qe s.net.polls _) (.ite (setPulseCfg_answerKept ..)
    ((setLive_answerKept ..).trans ((hhold _).trans (entryEffect_answerKept ..)))))))))))))

theorem sealedEffect_answerKept (key : Nat) (value : Bytes) (s : State) : AnswerKept s (sealedEffect key value s) := by
  have hset : ∀ t a b c, AnswerKept t { t with courses := a, qe := b, sec := c } := fun _ _ _ _ =>
    ⟨rfl, rfl, rfl, rfl, rfl, rfl⟩
  have hclass : AnswerKept s (setEntry key value { s with qe := { s.qe with classChange := none } }) :=
    (hset s s.courses _ s.sec).trans (setEntry_answerKept ..)
  exact .ite (.refl s) (.ite (hset s _ s.qe s.sec) (.ite (hset s s.courses _ s.sec)
    (.ite ((hset s _ s.qe s.sec).trans (.ite (hset _ _ s.qe s.sec) (.refl _))) (.ite (hset s s.courses s.qe _)
      (.ite (setLive_answerKept ..) hclass)))))

-- What a boundary applies

theorem switchCourse_answerKept (target : Fin 16) (cause : Nat) (s : State) :
    AnswerKept s (switchCourse target cause s) := by
  have hset : ∀ t a b, AnswerKept t { t with courses := a, boot := b } := fun _ _ _ => ⟨rfl, rfl, rfl, rfl, rfl, rfl⟩
  have hrec : ∀ keys t, AnswerKept t (recompute keys t) := fun keys t =>
    foldl_answerKept (fun u k => setEntry_answerKept k _ u) keys t
  exact (((hset s _ s.boot).trans (hrec ..)).trans (.ite (hset _ _ _) (.refl _))).trans (post_answerKept ..)

theorem pendingSwitch_answerKept (s : State) : AnswerKept s (pendingSwitch s) := by
  unfold pendingSwitch
  split
  · exact switchCourse_answerKept ..
  · exact .refl s

theorem enterRun_answerKept (s : State) : AnswerKept s (enterRun s) :=
  (cancelDets_answerKept ..).trans ⟨rfl, rfl, rfl, rfl, rfl, rfl⟩

theorem enterState_answerKept (code : Nat) (s : State) : AnswerKept s (enterState code s) := by
  have hset : ∀ t a b c d, AnswerKept t { t with
      net := { t.net with reply := a, exch := b, again := c }, sys := { t.sys with dev := d } } := fun _ _ _ _ _ =>
    ⟨rfl, rfl, rfl, rfl, rfl, rfl⟩
  have hdev : ∀ t d, AnswerKept t { t with sys := { t.sys with dev := d } } := fun _ _ => ⟨rfl, rfl, rfl, rfl, rfl, rfl⟩
  have hstop : ∀ d t, AnswerKept t _ := fun d t => (cancelDets_answerKept 6 (fun _ => true) t).trans
    ((AnswerKept.ite (c := ((cancelDets 6 (fun _ => true) t).radio.cca.isSome ||
      (upFrame (cancelDets 6 (fun _ => true) t)).isSome || (upAck (cancelDets 6 (fun _ => true) t)).isSome) = true)
      (endAttempt_answerKept _) (.refl _)).trans (hset _ none none none d))
  exact (AnswerKept.ite (.refl s) (.ite (hstop .config s) (.ite (enterRun_answerKept s)
    (.ite ((cancelDets_answerKept ..).trans (hdev ..)) (hstop .safe s))))).trans (autoReceive_answerKept _)

theorem illegalState_answerKept (addr sub : Nat) (write dict : Bool) (source : Nat) (radio : Bool) (s : State) :
    AnswerKept s (illegalState addr sub write dict source radio s) := by
  have hset : ∀ a b, AnswerKept s { s with engine := { s.engine with illegalCount := a, lastIllegal := b } } :=
      fun _ _ =>
    ⟨rfl, rfl, rfl, rfl, rfl, rfl⟩
  exact (hset ..).trans (post_answerKept ..)

theorem transitionAt_answerKept (addr sub : Nat) (dict : Bool) (source code : Nat) (s : State) :
    AnswerKept s (transitionAt addr sub dict source code s).2 := by
  unfold transitionAt
  extract_lets t
  have ht : AnswerKept s t := pendingSwitch_answerKept s
  split
  · exact ht.trans (enterState_answerKept ..)
  · exact ht.trans (illegalState_answerKept ..)

theorem atBoundaryWork_answerKept (s : State) : AnswerKept s (atBoundaryWork s) := by
  have hset : ∀ t, AnswerKept t { t with engine := { t.engine with regTarget := none } } := fun _ =>
    ⟨rfl, rfl, rfl, rfl, rfl, rfl⟩
  unfold atBoundaryWork
  split
  · exact .refl s
  · have ht : AnswerKept s (pendingSwitch s) := pendingSwitch_answerKept s
    dsimp only
    split
    · exact ht.trans ((hset _).trans (transitionAt_answerKept ..))
    · exact ht

/-- At no boundary, or with nothing that waits for one, there is nothing to apply. -/
theorem atBoundaryWork_of_quiet {s : State}
    (h : atBoundary s = false ∨ (s.courses.pend = none ∧ s.engine.regTarget = none)) : atBoundaryWork s = s := by
  unfold atBoundaryWork
  rcases h with h | ⟨hpend, hreg⟩
  · simp [h]
  · have hswitch : pendingSwitch s = s := by simp [pendingSwitch, hpend]
    rw [hswitch]
    simp [hreg]

/-- The engine with no job and no request that waits serves nothing more. -/
theorem drain_of_idle {s : State} (hj : s.engine.job = none) (hw : s.engine.waits = []) (n : Nat) : drain n s = s := by
  cases n with
  | zero => rfl
  | succ n => simp [drain, hj, hw]

theorem finishSleep_of_none {s : State} (h : s.sup.sleepDue = none) : finishSleep s = s := by
  rw [finishSleep, h]

end Sys2Proof.Machine
end

section
/-! SUPPORT. O51 and O35: the turns of the writer, and what follows the seal of a write (R170, R365, R366, R383,
R387). -/

namespace Sys2Proof.Machine

open Sys2Proof.Safety

-- What is mended before an append (R378, R390)

theorem tidyFlash_confined (s : State) : Confined [.ring, .evtLost, .mortar, .repair] s (tidyFlash s) :=
  tidyFlash_frame s (frame_refl _ s) (hw := by decide)

theorem commitRecs_writerKept (rs : List NewRec) (s : State) : WriterKept s.mortar (commitRecs rs s).mortar :=
  have h := (appendFrom_storeKept 0 (hotWrite s) (fun _ => (true, true)) 0 (s.mortar.repairs ++ rs) s.mortar).writerKept
  ⟨h.erasing, h.waiting2⟩

theorem tidyFlash_writerKept (s : State) : WriterKept s.mortar (tidyFlash s).mortar := by
  have hprep : ∀ (t : State) i, WriterKept s.mortar t.mortar → WriterKept s.mortar
      (if t.mortar.failing.contains i then retireSector i t
        else { t with mortar := prepareDirty i t.mortar }).mortar := by
    intro t i ht
    split
    · exact ht.trans (retireSector_writerKept i t)
    · exact ⟨ht.erasing, ht.waiting2⟩
  unfold tidyFlash
  split
  · exact ⟨rfl, rfl⟩
  extract_lets t m
  have ht : WriterKept s.mortar t.mortar :=
    List.foldlRecOn (motive := fun t : State => WriterKept s.mortar t.mortar) _ _ ⟨rfl, rfl⟩
        fun t ht i _ => hprep t i ht
  split
  · exact ht
  · have hm : WriterKept t.mortar m := by
      show WriterKept t.mortar ((openPair 0 t.mortar).getD (closePair t.mortar))
      cases h : openPair 0 t.mortar
      · exact ⟨rfl, rfl⟩
      · exact (openPair_storeKept h).writerKept
    exact (ht.trans hm).trans (commitRecs_writerKept [] { t with mortar := m })

/-- The stalls of lower sources are counted, and nothing else of the store changes. -/
theorem stallLower_mortar (three four : Bool) (s : State) :
    ∃ a b n, stallLower three four s =
      { s with mortar := { s.mortar with stalled3 := a, stalled4 := b, writeStalls := n } } := by
  have h3 : ∃ a n, (if three && !(source3 s).isEmpty then stall3 s else s) =
      { s with mortar := { s.mortar with stalled3 := a, writeStalls := n } } := by
    unfold stall3
    split
    · split <;> exact ⟨_, _, rfl⟩
    · exact ⟨_, _, rfl⟩
  obtain ⟨a, n, h3⟩ := h3
  unfold stallLower stall4
  rw [h3]
  dsimp only
  split
  · split <;> exact ⟨_, _, _, rfl⟩
  · exact ⟨_, _, _, rfl⟩

-- O51

theorem stageWaiting_of_none {s : State} (h : s.jrn.relWait = []) : stageWaiting s = s := by
  unfold stageWaiting
  rw [h, List.foldl_nil, ← h]

/-- What stands before the writer once the store is mended and the lower sources have stalled. -/
structure AtTurn (s u : State) : Prop where
  parts    : Confined [.ring, .evtLost, .mortar, .repair] s u
  waiting2 : u.mortar.waiting2 = s.mortar.waiting2
  erasing  : u.mortar.erasing = s.mortar.erasing

theorem atTurn_stallLower (three four : Bool) (s : State) : AtTurn s (stallLower three four (tidyFlash s)) := by
  obtain ⟨a, b, n, h⟩ := stallLower_mortar three four (tidyFlash s)
  have htidy := tidyFlash_writerKept s
  rw [h]
  exact ⟨confined_trans (tidyFlash_confined s) (confined_mono (by decide) (confined_setMortar ..)), htidy.waiting2,
    htidy.erasing⟩

theorem hot_of_sup {s u : State} (h : u.sup = s.sup) : hot u = hot s := by unfold hot; rw [h]

theorem hotWrite_of_sup {s u : State} (h : u.sup = s.sup) : hotWrite u = hotWrite s := by unfold hotWrite; rw [h]

/-- R365, R383: the stage is sealed in its order. -/
theorem append3_stage {n : Nat} {u : State} (h1 : 1 ≤ n) (hn : n ≤ u.jrn.stage.length) (hhot : hot u = false)
    (herase : u.mortar.erasing = none) (hlimit : overLimit u (u.jrn.stage.take n) = false)
    (hroom : (appendBatch 3 (hotWrite u) .done (u.jrn.stage.take n) u.mortar).2 = []) :
    (u.jrn.relWait = [] → (append3 (max 1 n) .done u).jrn.stage = u.jrn.stage.drop n) ∧
      (append3 (max 1 n) .done u).mortar.pairs =
        (appendBatch 3 (hotWrite u) .done (u.jrn.stage.take n) u.mortar).1.pairs := by
  have htake : (source3 u).take (max 1 n) = u.jrn.stage.take n := by
    rw [Nat.max_eq_right h1]
    exact List.take_append_of_le_length hn
  have hmay : lowMayProgram u = true := by rw [lowMayProgram, hhot, herase]; rfl
  have hlen : (u.jrn.stage.take n).length = n := List.length_take_of_le hn
  have hgo : ¬ (!lowMayProgram u || overLimit u (u.jrn.stage.take n)) = true := by
    rw [hmay, hlimit]
    decide
  unfold append3
  extract_lets rs x v
  have hrs : rs = u.jrn.stage.take n := htake
  have hx : x.2.isEmpty = true := by
    rw [List.isEmpty_iff]
    show (appendBatch 3 (hotWrite u) .done rs u.mortar).2 = []
    rw [hrs, hroom]
  have hcount : rs.length - x.2.length = n := by
    rw [hrs, hlen, List.isEmpty_iff.mp hx]
    rfl
  have hwait : ∀ t : State, (stageWaiting t).mortar = t.mortar := fun t =>
    (stageWaiting_frame (w := [.jrn]) t (frame_refl _ t) (hw := by decide)).same .mortar (by decide)
  rw [if_neg (hrs ▸ hgo), if_neg (show ¬ isTorn .done = true by decide), if_pos hx]
  refine ⟨fun hrel => ?_, ?_⟩
  · have hv : v = { u with mortar := x.1, jrn := { u.jrn with stage := u.jrn.stage.drop n } } := by
      rw [show v = freeStage (rs.length - x.2.length) { u with mortar := x.1 } from rfl, hcount]
      exact stageWaiting_of_none hrel
    exact congrArg (fun t => t.jrn.stage) hv
  · have hx1 : x = appendBatch 3 (hotWrite u) .done (u.jrn.stage.take n) u.mortar :=
      congrArg (fun l => appendBatch 3 (hotWrite u) .done l u.mortar) hrs
    exact (congrArg Mortar.pairs (hwait _)).trans (congrArg (fun x => x.1.pairs) hx1)

/-- MORTAR_APPEND with the store mounted and no write before it (R383). -/
theorem mortarAppend_of_mounted {n : Nat} {ending : AppendEnd} {s : State} (hs : s.mortar.state = 1)
    (ht : (tidyFlash s).mortar.state = 1) (hw : Works s) : mortarAppend n ending s =
      match (tidyFlash s).mortar.waiting2 with
      | a :: _ => append2 a ending (stallLower true true (tidyFlash s))
      | [] =>
        if (tidyFlash s).sup.bodWarn then stallLower true true (tidyFlash s)
        else if !(source3 (tidyFlash s)).isEmpty then append3 (max 1 n) ending (stallLower false true (tidyFlash s))
        else if !(tidyFlash s).mortar.waiting4.isEmpty then append4 (max 1 n) ending (tidyFlash s)
        else tidyFlash s := by
  have hgo : ¬ ((s.mortar.state != 1 && s.mortar.state != 2) || absent s) = true := by
    rw [hs, show absent s = false from hw]
    decide
  have hmounted : ¬ ((tidyFlash s).mortar.state != 1) = true := by
    rw [ht]
    decide
  exact (if_neg hgo).trans (if_neg hmounted)

theorem stallLower_state (three four : Bool) (s : State) :
    (stallLower three four s).mortar.state = s.mortar.state ∧
      (stallLower three four s).mortar.waiting2 = s.mortar.waiting2 := by
  obtain ⟨a, b, n, h⟩ := stallLower_mortar three four s
  rw [h]
  exact ⟨rfl, rfl⟩

-- What follows the turn of source 2

theorem answered_of_kept {r : Request} {code : Half} {value : Bytes} {s t : State} (h : Answered r code value s)
    (hk : AnswerKept s t) (hspi : t.spi = s.spi) : Answered r code value t := by
  unfold Answered at *
  cases hp : r.port <;> simp only [hp] at h ⊢
  case spi => rwa [hspi]
  case field => rwa [hk.reply]
  case air => rwa [hk.held]

/-- The answer that ends a job of the engine. What waited for a boundary may follow it. -/
structure JobEnded (r : Request) (code : Half) (e t : State) : Prop where
  job      : t.engine.job = none
  sleepDue : t.sup.sleepDue = none
  answered : Answered r code [] t
  mortar   : t.mortar = e.mortar
  quiet    : (atBoundary e = false ∨ (e.courses.pend = none ∧ e.engine.regTarget = none)) → t = respond r code [] e

theorem answer_ends_job {r : Request} {code : Half} {e : State} (hj : e.engine.job = none) (hw : e.engine.waits = [])
    (hs : e.sup.sleepDue = none) (hmute : r.port = .field → e.field.mute = false) :
    JobEnded r code e (drain 3 (atBoundaryWork (respond r code [] e))) := by
  have hres := confined_respond r code [] e
  have hengine : (respond r code [] e).engine = e.engine := by rw [respond_eq]
  have hsup : (respond r code [] e).sup = e.sup := by rw [respond_eq]
  have hmor : (respond r code [] e).mortar = e.mortar := by rw [respond_eq]
  have hkept := atBoundaryWork_answerKept (respond r code [] e)
  have hconf := atBoundaryWork_frame (w := [.sys, .boot, .sup, .live, .ring, .evtLost, .field, .engine, .courses, .qe,
    .scarab, .rx, .radio, .swarm, .net, .tb, .timer, .pulse, .clk, .draws]) (respond r code [] e) (frame_refl _ _)
    (hw := by decide)
  have hjob : (atBoundaryWork (respond r code [] e)).engine.job = none := by rw [hkept.job, hengine, hj]
  have hwaits : (atBoundaryWork (respond r code [] e)).engine.waits = [] := by rw [hkept.waits, hengine, hw]
  rw [drain_of_idle hjob hwaits]
  refine ⟨hjob, by rw [hkept.sleepDue, hsup, hs], ?_, (hconf.same .mortar (by decide)).trans hmor, fun hq => ?_⟩
  · exact answered_of_kept (answered_respond _ _ hmute) hkept (hconf.same .spi (by decide))
  · refine atBoundaryWork_of_quiet ?_
    rw [respond_eq]
    exact hq

/-- R170, R387: the write of the engine's request cannot be sealed. -/
theorem sealFailed_ends {r : Request} {was : Bool} {s : State} (hj : s.engine.job = some (r, .seal was))
    (hw : s.engine.waits = []) (hmute : r.port = .field → s.field.mute = false) (hs : s.sup.sleepDue = none)
    (hquiet : atBoundary s = false ∨ (s.courses.pend = none ∧ s.engine.regTarget = none)) :
    (finishSleep (sealFailed s)).engine.job = none ∧ Answered r abPersist [] (finishSleep (sealFailed s)) ∧
      (finishSleep (sealFailed s)).sys = { s.sys with rolePending := was } ∧
      (finishSleep (sealFailed s)).live = s.live ∧ (finishSleep (sealFailed s)).mortar = s.mortar := by
  obtain ⟨q, hq⟩ : ∃ q, sealFailed s = drain 3 (atBoundaryWork (respond r abPersist []
      { s with engine := { s.engine with job := none }, sys := { s.sys with rolePending := was }, qe := q })) :=
    ⟨_, by rw [sealFailed, hj]⟩
  have hend : JobEnded r abPersist
      { s with engine := { s.engine with job := none }, sys := { s.sys with rolePending := was }, qe := q }
      (sealFailed s) := hq ▸ answer_ends_job rfl hw hs hmute
  rw [finishSleep_of_none hend.sleepDue]
  refine ⟨hend.job, hend.answered, ?_, ?_, hend.mortar⟩ <;> rw [hend.quiet hquiet, respond_eq]

/-- Settles O51. -/
theorem writerTurns : Obligations.WriterTurns := by
  intro s hw
  refine ⟨fun n u hu h1 hn hs1 hu1 hnone hbod hhot herase hlimit hroom => ?_,
    fun a rest r was hwait howner hstall hj hwaits hmute hsleep hquiet => ?_⟩
  · have hturn := atTurn_stallLower false true s
    have hstate := stallLower_state false true (tidyFlash s)
    rw [← hu] at hturn hstate
    have hsup : u.sup = s.sup := hturn.parts.same .sup (by decide)
    have hjrn : u.jrn = s.jrn := hturn.parts.same .jrn (by decide)
    have hjrn' : (tidyFlash s).jrn = s.jrn := (tidyFlash_confined s).same .jrn (by decide)
    have hstage : ¬ (source3 (tidyFlash s)).isEmpty = true := by
      rw [List.isEmpty_iff, source3, hjrn', List.append_eq_nil_iff]
      rintro ⟨h, -⟩
      rw [h, List.length_nil] at hn
      omega
    have hexec : mortarAppend n .done s = append3 (max 1 n) .done u := by
      rw [mortarAppend_of_mounted hs1 (hstate.1.symm.trans hu1) hw, (tidyFlash_writerKept s).waiting2, hnone]
      have hbod' : (tidyFlash s).sup.bodWarn = false := by
        rw [show (tidyFlash s).sup = s.sup from (tidyFlash_confined s).same .sup (by decide), hbod]
      simp only [hbod', hstage, Bool.false_eq_true, if_false, Bool.not_false, if_true, ← hu]
    rw [← hjrn] at hlimit hroom hn ⊢
    rw [← hotWrite_of_sup hsup] at hroom ⊢
    refine ⟨_, congrArg Host.Outcome.next hexec, append3_stage h1 hn ((hot_of_sup hsup).trans hhot)
      (hturn.erasing.trans herase) hlimit hroom⟩
  · have hstall2 : stall2 s = { s with mortar := { s.mortar with
        waiting2 := { a with stalled := true } :: rest, writeStalls := inc s.mortar.writeStalls } } := by
      simp only [stall2, hwait, hstall, Bool.false_eq_true, if_false]
    have hend : appendTimeout s = finishSleep (sealFailed { s with mortar := { s.mortar with
        waiting2 := rest, writeStalls := inc s.mortar.writeStalls } }) := by
      rw [appendTimeout, hstall2]
      simp only [end2, howner]
      rfl
    obtain ⟨hjob, hans, hsys, hlive, hmor⟩ := sealFailed_ends (s := { s with mortar := { s.mortar with
        waiting2 := rest, writeStalls := inc s.mortar.writeStalls } }) hj hwaits hmute hsleep hquiet
    rw [← hend] at hjob hans hsys hlive hmor
    refine ⟨appendTimeout s, congrArg Host.Outcome.next (present_of_works hw), hjob, hans, hsys, hlive, ?_⟩
    rw [hmor]
    exact ⟨rfl, rfl, rfl⟩

-- O35

/-- The state in which the effect of a sealed write is taken: the engine is free. -/
def sealBase (r : Request) (s : State) : State := ownConfig r { s with engine := { s.engine with job := none } }

theorem sealBase_eq (r : Request) (s : State) : sealBase r s =
    { s with engine := { s.engine with job := none }, field := (sealBase r s).field } := by
  unfold sealBase ownConfig
  split <;> rfl

theorem sealBase_answerKept (r : Request) (s : State) :
    AnswerKept { s with engine := { s.engine with job := none } } (sealBase r s) :=
  .ite ⟨rfl, rfl, rfl, rfl, rfl, rfl⟩ (.refl _)

/-- The parts that the effect of a sealed write may change. -/
abbrev sealParts : List Part := [.sys, .sup, .live, .ring, .evtLost, .field, .courses, .qe, .scarab, .rx,
  .radio, .swarm, .net, .tb, .sec, .timer, .pulse, .clk, .draws]

/-- R170: the write of the engine's request takes its effect, and is answered. -/
theorem sealDone_ends {r : Request} {was : Bool} {s : State} (hj : s.engine.job = some (r, .seal was))
    (hw : s.engine.waits = []) (hmute : r.port = .field → s.field.mute = false) (hs : s.sup.sleepDue = none) :
    JobEnded r abOk (sealedEffect r.key r.value (sealBase r s)) (finishSleep (sealDone s)) ∧
      (sealedEffect r.key r.value (sealBase r s)).mortar = s.mortar := by
  have hbase := sealBase_answerKept r s
  have hkept := sealedEffect_answerKept r.key r.value (sealBase r s)
  have hconf := sealedEffect_frame (w := sealParts) r.key r.value (sealBase r s) (frame_refl _ _) (hw := by decide)
  have hmor : (sealBase r s).mortar = s.mortar := by rw [sealBase_eq]
  have hdone : sealDone s = drain 3 (atBoundaryWork (respond r abOk []
      (sealedEffect r.key r.value (sealBase r s)))) := by
    rw [sealDone, hj]
    rfl
  have hend : JobEnded r abOk (sealedEffect r.key r.value (sealBase r s)) (sealDone s) :=
    hdone ▸ answer_ends_job (hkept.job.trans hbase.job) (hkept.waits.trans (hbase.waits.trans hw))
      (hkept.sleepDue.trans (hbase.sleepDue.trans hs)) fun hf => hkept.mute.trans (hbase.mute.trans (hmute hf))
  rw [finishSleep_of_none hend.sleepDue]
  exact ⟨hend, (hconf.same .mortar (by decide)).trans hmor⟩

-- The effects of the entries that R170 governs

theorem sealedEffect_role (v : Bytes) (s : State) : sealedEffect K.role v s = setLive s K.role v := rfl

theorem sealedEffect_ledgerClear (v : Bytes) (s : State) : sealedEffect K.ledgerClear v s =
    setQueue (selQueue s) { getQueue s (selQueue s) with valid := false, lastSeq := 0 } s := rfl

theorem sealedEffect_tbMode (v : Bytes) (s : State) : sealedEffect K.tbMode v s =
    tbModeEffect (setLive { s with qe := { s.qe with classChange := none } } K.tbMode (stored K.tbMode v)) := rfl

theorem stored_tbMode : stored K.tbMode [0] = [0] ∧ stored K.tbMode [1] = [1] := by decide +kernel

/-- R89: at a node or relay 0 in TB_MODE returns to FREE, and 1 starts ACQUIRE. -/
theorem tbModeEffect_of_free {s : State} (hrole : s.sys.role ≠ .coordinator) (hdeg : s.tb.state ≠ tbDegraded) :
    (liveNat s K.tbMode = 0 → (tbModeEffect s).tb.state = tbFree ∧
      (s.tb.state ≠ tbFree → (tbModeEffect s).tb.fcw = fcwOf (liveInt s 32 K.tbTrim))) ∧
    (liveNat s K.tbMode = 1 → s.tb.state = tbFree → (tbModeEffect s).tb.state = tbAcquire ∧
      (tbModeEffect s).tb.fcw = fcwOf 0) := by
  have hgo : ¬ (s.sys.role = .coordinator ∨ s.tb.state = tbDegraded) := not_or.mpr ⟨hrole, hdeg⟩
  unfold tbModeEffect
  rw [if_neg hgo]
  refine ⟨fun h0 => ?_, fun h1 hfree => ?_⟩
  · rw [if_pos h0]
    by_cases hfree : s.tb.state = tbFree
    · rw [if_pos hfree]
      exact ⟨hfree, fun h => absurd hfree h⟩
    · rw [if_neg hfree]
      exact ⟨rfl, fun _ => rfl⟩
  · rw [if_neg (by omega), if_pos hfree]
    exact ⟨rfl, rfl⟩

/-- R383: an append of source 2 whose records are sealed ends the write of its request. -/
theorem append2_sealed {a : Append2} {rest : List Append2} {u : State} (hwait : u.mortar.waiting2 = a :: rest)
    (howner : a.owner = .request) (hhot : hot u = false) (hlimit : overLimit u a.recs = false)
    (hroom : (appendBatch 3 (hotWrite u) .done a.recs u.mortar).2 = []) :
    append2 a .done u = finishSleep (sealDone { u with mortar := {
      (appendBatch 3 (hotWrite u) .done a.recs u.mortar).1 with waiting2 := rest } }) := by
  have hkept : (appendBatch 3 (hotWrite u) .done a.recs u.mortar).1.waiting2 = a :: rest :=
    (appendFrom_storeKept 3 (hotWrite u) (sealsOf .done a.recs.length) 0 a.recs u.mortar).waiting2.trans hwait
  have hend : append2 a .done u = end2 true { u with mortar :=
      (appendBatch 3 (hotWrite u) .done a.recs u.mortar).1 } := by
    unfold append2
    rw [hhot, hlimit]
    dsimp only
    rw [hroom]
    rfl
  rw [hend]
  unfold end2
  dsimp only
  rw [hkept]
  dsimp only
  rw [howner]
  rfl

/-- What a write that R170 governs may count on when its records are sealed. -/
structure AtSeal (s b : State) : Prop where
  parts : Confined [.ring, .evtLost, .mortar, .repair, .engine, .field] s b
  reg   : b.engine.regTarget = s.engine.regTarget

theorem sealBase_atSeal {s u : State} (h : AtTurn s u) (m : Mortar) (r : Request) :
    AtSeal s (sealBase r { u with mortar := m }) := by
  have hengine : u.engine = s.engine := h.parts.same .engine (by decide)
  rw [sealBase_eq]
  refine ⟨confined_trans (confined_mono (by decide) h.parts) ?_, (congrArg Engine.regTarget hengine :)⟩
  refine confined_trans (confined_mono (w := [.mortar]) (by decide) (confined_setMortar u m)) ?_
  have hset := confined_setEngine { u with mortar := m } { u.engine with job := none }
  exact confined_trans (confined_mono (w := [.engine]) (by decide) hset)
    (confined_mono (w := [.field]) (by decide) (confined_setField { u with
      mortar := m, engine := { u.engine with job := none } } (sealBase r { u with mortar := m }).field))

theorem AtSeal.quiet {s b e : State} (h : AtSeal s b)
    (hq : atBoundary s = false ∨ (s.courses.pend = none ∧ s.engine.regTarget = none)) (hradio : e.radio = b.radio)
    (hrx : e.rx = b.rx) (hpend : e.courses.pend = b.courses.pend ∨ e.courses.pend = none)
    (hreg : e.engine = b.engine) :
    atBoundary e = false ∨ (e.courses.pend = none ∧ e.engine.regTarget = none) := by
  have hr : e.radio = s.radio := hradio.trans (h.parts.same .radio (by decide))
  have hx : e.rx = s.rx := hrx.trans (h.parts.same .rx (by decide))
  have hc : b.courses = s.courses := h.parts.same .courses (by decide)
  rcases hq with hq | ⟨hp, hreg'⟩
  · left
    rw [← hq, atBoundary, atBoundary, confirmed, confirmed, hr, hx]
  · refine .inr ⟨hpend.elim (fun hp' => hp'.trans ?_) id, ?_⟩
    · rw [hc, hp]
    · rw [hreg, h.reg, hreg']

theorem liveBytes_of_live {s t : State} (h : t.live = s.live) (k : Nat) : liveBytes t k = liveBytes s k := by
  unfold liveBytes
  rw [h]

theorem selQueue_of_live {s t : State} (h : t.live = s.live) : selQueue t = selQueue s :=
  congrArg leNat (liveBytes_of_live h K.qSel)

theorem getQueue_of_qe {s t : State} (h : t.qe = s.qe) (q : Nat) : getQueue t q = getQueue s q := by
  unfold getQueue
  rw [h]

/-- Settles O35. -/
theorem sealsTakeEffect : Obligations.SealsTakeEffect := by
  intro n a rest r was s u hu hs1 hu1 hw hhot hwait howner hj hwaits hmute hsleep hquiet hlimit hroom
  have hturn := atTurn_stallLower true true s
  have hstate := stallLower_state true true (tidyFlash s)
  rw [← hu] at hturn hstate
  have hsup : u.sup = s.sup := hturn.parts.same .sup (by decide)
  have hengine : u.engine = s.engine := hturn.parts.same .engine (by decide)
  have hfield : u.field = s.field := hturn.parts.same .field (by decide)
  rw [← hotWrite_of_sup hsup] at hroom ⊢
  have hexec : mortarAppend n .done s = append2 a .done u := by
    rw [mortarAppend_of_mounted hs1 (hstate.1.symm.trans hu1) hw, ← hstate.2, hwait, ← hu]
  rw [append2_sealed hwait howner ((hot_of_sup hsup).trans hhot) hlimit hroom] at hexec
  have hseal := sealBase_atSeal hturn
    { (appendBatch 3 (hotWrite u) .done a.recs u.mortar).1 with waiting2 := rest } r
  obtain ⟨hend, hmor⟩ := sealDone_ends (r := r) (was := was) (s := { u with mortar := {
    (appendBatch 3 (hotWrite u) .done a.recs u.mortar).1 with waiting2 := rest } }) (by rw [hengine, hj])
    (by rw [hengine, hwaits]) (fun hf => by rw [hfield, hmute hf]) (by rw [hsup, hsleep])
  rw [← hexec] at hend
  generalize ht : mortarAppend n .done s = t at hexec hend
  generalize sealBase r { u with mortar := {
    (appendBatch 3 (hotWrite u) .done a.recs u.mortar).1 with waiting2 := rest } } = b at hseal hend hmor
  have hlive : b.live = s.live := hseal.parts.same .live (by decide)
  have hsys : b.sys = s.sys := hseal.parts.same .sys (by decide)
  have htb : b.tb = s.tb := hseal.parts.same .tb (by decide)
  have hqe : b.qe = s.qe := hseal.parts.same .qe (by decide)
  have hpairs := hend.mortar.trans hmor
  have hdone := fun hr hx hp hg => hend.quiet (hseal.quiet hquiet hr hx hp hg)
  refine ⟨t, congrArg Host.Outcome.next ht, hend.job, hend.answered, by rw [hpairs], by rw [hpairs],
    fun hk hinv => ?_, fun hk => ?_, fun hk => ?_, fun hk => ?_, fun hk hinv => ?_, fun hk hinv hrole hdeg => ?_⟩
  all_goals rw [hk] at hdone
  · rw [hdone rfl rfl (.inl rfl) rfl, respond_eq, sealedEffect_role]
    exact ⟨liveBytes_setLive_eq b K.role _ (hlive ▸ hinv.live.1), hsys⟩
  · rw [hdone rfl rfl (.inr rfl) rfl, respond_eq]
    exact ⟨rfl, rfl, hlive⟩
  · rw [hdone rfl rfl (.inl rfl) rfl, respond_eq]
    dsimp only
    rw [sealedEffect_ledgerClear, selQueue_of_live hlive, getQueue_of_qe hqe]
    exact ⟨congrArg (fun q : QueueEngine => tabSet (emptyQueue q.accBase) _ _ q.queues) hqe, hlive⟩
  · rw [hdone rfl rfl (.inl rfl) rfl, respond_eq]
    have hsec : b.sec = s.sec := hseal.parts.same .sec (by decide)
    exact ⟨congrArg (fun x : Security => inc x.decomCount) hsec, rfl⟩
  · rw [hdone rfl rfl (.inl rfl) rfl, respond_eq]
    exact liveBytes_setLive_eq { b with qe := { b.qe with classChange := none } } K.gpioout _ (hlive ▸ hinv.live.1)
  · rw [sealedEffect_tbMode] at hdone
    generalize hv : setLive { b with qe := { b.qe with classChange := none } } K.tbMode (stored K.tbMode r.value) = v
      at hdone
    have hconf : Confined [.tb] v (tbModeEffect v) := tbModeEffect_frame v (frame_refl _ v) (hw := by decide)
    have hvb : v.radio = b.radio ∧ v.rx = b.rx ∧ v.courses = b.courses ∧ v.engine = b.engine ∧ v.sys = b.sys ∧
        v.tb = b.tb := by
      rw [← hv]
      exact ⟨rfl, rfl, rfl, rfl, rfl, rfl⟩
    obtain ⟨hradio, hrx, hcourses, heng, hvsys, hvtb⟩ := hvb
    have hmode : liveNat v K.tbMode = leNat (stored K.tbMode r.value) := by
      rw [← hv]
      exact congrArg leNat (liveBytes_setLive_eq { b with qe := { b.qe with classChange := none } } K.tbMode _
        (hlive ▸ hinv.live.1))
    have htrim : liveInt v 32 K.tbTrim = liveInt s 32 K.tbTrim := by
      have hne := liveBytes_setLive_ne { b with qe := { b.qe with classChange := none } }
        (stored K.tbMode r.value) (show K.tbTrim ≠ K.tbMode by decide)
      rw [hv] at hne
      have hb : liveBytes b K.tbTrim = liveBytes s K.tbTrim := liveBytes_of_live hlive _
      exact congrArg (fun x => signed 32 (leNat x)) (hne.trans hb)
    rw [hdone ((hconf.same .radio (by decide)).trans hradio) ((hconf.same .rx (by decide)).trans hrx)
      (.inl (congrArg Courses.pend ((hconf.same .courses (by decide)).trans hcourses)))
      ((hconf.same .engine (by decide)).trans heng), respond_eq]
    have hvtb' : v.tb = s.tb := hvtb.trans htb
    obtain ⟨hzero, hone⟩ := tbModeEffect_of_free (s := v) (by rwa [hvsys, hsys]) (by rwa [hvtb'])
    rw [htrim, hvtb'] at hzero
    rw [hvtb'] at hone
    refine ⟨fun h0 => hzero ?_, fun h1 => hone ?_⟩
    · rw [hmode, h0, stored_tbMode.1]
      rfl
    · rw [hmode, h1, stored_tbMode.2]
      rfl

end Sys2Proof.Machine
end

section
/-! SUPPORT. O37: state commands and frame boundaries (R172, R173, R180, R189, R194). -/

namespace Sys2Proof.Machine

open Sys2Proof.Safety

-- What an accepted write has passed (Table 7.2)

/-- A write that is accepted is barred by no state and finds nothing busy. -/
theorem write_ok_passes {s : State} {r : Request} (hw : r.write = true) (h : judge s r = .ok) :
    stateRefusal s r.key r.num true = none ∧ busyRefusal s r.key r.num true = false := by
  unfold judge at h
  split at h
  next v he =>
    have hearly : earlyTests s r ≠ some .ok := by
      unfold earlyTests
      repeat' split
      all_goals simp
    exact absurd (h ▸ he) hearly
  split at h
  · cases h
  split at h
  · cases h
  next row _ =>
    unfold writeTests at h
    dsimp only at h
    cases hfits : row.ty.fits r.value.length with
    | false =>
      rw [hfits] at h
      split at h
      · cases h
      · split at h
        · cases h
        · cases h
    | true =>
      rw [hfits] at h
      cases hs : stateRefusal s r.key r.num true with
      | some radio => rw [hs] at h; cases h
      | none =>
        rw [hs] at h
        dsimp only at h
        cases hb : busyRefusal s r.key r.num true with
        | true => rw [hb] at h; cases h
        | false => exact ⟨rfl, rfl⟩

/-- A state command that no state bars names a legal transition (R172). -/
theorem legal_of_stateCmd {s : State} {v : Nat} (h3 : 3 ≤ v) (h6 : v ≤ 6)
    (h : stateRefusal s K.stateCmd v true = none) :
    transitionLegal s v = true := by
  unfold stateRefusal at h
  dsimp only at h
  split at h
  · cases h
  · rw [if_neg (by decide), if_neg (by decide), if_pos (by decide)] at h
    split at h
    · cases h
    next hn =>
      simp only [decide_eq_true h3, decide_eq_true h6, Bool.and_self, Bool.true_and, Bool.or_eq_true,
        Bool.not_eq_true', not_or, Bool.not_eq_false] at hn
      exact hn.2

theorem code_injective {a b : DevState} (h : a.code = b.code) : a = b := by
  cases a <;> cases b <;> simp [DevState.code] at h ⊢

-- What a frame's end lets happen, beside the answer (R303, R317)

theorem startUp_answerKept (u : UpFor) (s : State) : AnswerKept s (startUp u s) :=
  .of_powerOnly (startUp_frame (w := [.sup, .ring, .evtLost, .rx, .radio, .draws]) u s (frame_refl _ s)
    (hw := by decide)) (by decide) (by decide) (by decide) (startUp_powerOnly u s)

theorem busyListen_answerKept (rssi : Option Int) (s : State) : AnswerKept s (busyListen rssi s) := by
  have hset : ∀ t a b, AnswerKept t { t with radio := a, draws := b } := fun _ _ _ => ⟨rfl, rfl, rfl, rfl, rfl, rfl⟩
  unfold busyListen
  split
  · exact .refl s
  · extract_lets n last level src u v x w
    have hv : AnswerKept s v := (hset s _ s.draws).trans (post_answerKept ..)
    exact .ite (.refl s) (.ite (.ite (hv.trans (endAttempt_answerKept v)) (hv.trans (hset v _ v.draws)))
      (hv.trans (hset v _ _)))

theorem listenNow_answerKept (s : State) : AnswerKept s (listenNow s) := by
  unfold listenNow ccaBusy
  split
  · exact .refl s
  · exact .ite (busyListen_answerKept ..) (.refl s)

theorem nextListen_answerKept (a : Attempt) (s : State) : AnswerKept s (nextListen a s) := by
  have hset : ∀ t a, AnswerKept t { t with radio := a } := fun _ _ => ⟨rfl, rfl, rfl, rfl, rfl, rfl⟩
  have hdraw : AnswerKept s (drawListen s).2 := ⟨rfl, rfl, rfl, rfl, rfl, rfl⟩
  exact hdraw.trans (.ite (endAttempt_answerKept _)
    ((hset ..).trans (.ite (listenNow_answerKept _) (startUp_answerKept ..))))

theorem settle_answerKept (s : State) : AnswerKept s (settle s) := by
  have hresume : AnswerKept s (resumeAttempt s) := by
    unfold resumeAttempt
    split
    · exact .refl s
    · exact .ite (nextListen_answerKept ..) (.refl s)
  exact .ite (gotoIdle_answerKept s) hresume

theorem beginAccess_answerKept (j : TxJob) (s : State) : AnswerKept s (beginAccess j s) := by
  have hset : ∀ t a, AnswerKept t { t with radio := a } := fun _ _ => ⟨rfl, rfl, rfl, rfl, rfl, rfl⟩
  have hdraw : AnswerKept s (drawListen s).2 := ⟨rfl, rfl, rfl, rfl, rfl, rfl⟩
  unfold beginAccess
  split
  · exact .of_confined (postDutyBlock_frame (w := [.ring, .evtLost, .radio, .draws]) _ _ s (frame_refl _ s)
      (hw := by decide)) (by decide) (by decide) (by decide) (by decide)
  · exact .ite (startUp_answerKept ..) (.ite (hdraw.trans ((hset ..).trans (startUp_answerKept ..))) hdraw)

theorem sendFacks_answerKept (s : State) : AnswerKept s (sendFacks s) := by
  have hset : ∀ t a b, AnswerKept t { t with net := { t.net with facks := a }, swarm := b } := fun _ _ _ =>
    ⟨rfl, rfl, rfl, rfl, rfl, rfl⟩
  have hswarm : ∀ t a, AnswerKept t { t with swarm := a } := fun _ _ => ⟨rfl, rfl, rfl, rfl, rfl, rfl⟩
  unfold sendFacks
  split
  · exact .refl s
  · refine .ite (hset s _ s.swarm) (.ite ?_ (.refl s))
    exact .ite (((hset s _ s.swarm).trans (beginAccess_answerKept ..)).trans (hswarm ..))
      ((hset s _ s.swarm).trans (beginAccess_answerKept ..))

/-- What a frame's end lets happen once the boundary's own work is done. -/
def afterBoundary (s : State) : State :=
  sendFacks (settle (endSecond (cancelChanged (retuneRx (settingsInForce s)))))

theorem afterBoundary_confined (s : State) : Confined [.sup, .ring, .evtLost, .scarab, .rx, .radio, .swarm, .net,
    .draws] s (afterBoundary s) :=
  sendFacks_frame _ (settle_frame _ (endSecond_frame _ (cancelChanged_frame _ (retuneRx_frame _
    (settingsInForce_frame s (frame_refl _ s) (hw := by decide)) (hw := by decide)) (hw := by decide))
    (hw := by decide)) (hw := by decide)) (hw := by decide)

theorem afterBoundary_answerKept (s : State) : AnswerKept s (afterBoundary s) := by
  have hset : ∀ a, AnswerKept s { s with radio := a } := fun _ => ⟨rfl, rfl, rfl, rfl, rfl, rfl⟩
  have hforce : AnswerKept s (settingsInForce s) := .ite (channelsChanged_answerKept (hset _) s) (.refl s)
  have hsecond : ∀ t, AnswerKept t (endSecond t) := fun t =>
    .of_confined (endSecond_frame (w := [.ring, .evtLost, .scarab, .rx, .draws]) t (frame_refl _ t) (hw := by decide))
      (by decide) (by decide) (by decide) (by decide)
  exact ((((hforce.trans (retuneRx_answerKept _)).trans (cancelChanged_answerKept _)).trans (hsecond _)).trans
    (settle_answerKept _)).trans (sendFacks_answerKept _)

theorem answered_of_sameParts {r : Request} {code : Half} {value : Bytes} {s t : State}
    (h : Answered r code value s) (hk : AnswerKept s t) {w : List Part} (hc : Confined w s t) (hw : Part.spi ∉ w) :
    Answered r code value t :=
  answered_of_kept h hk (hc.same .spi hw)

-- The transition (R172)

/-- The state that a code names is entered. -/
theorem enterState_dev {s : State} {v : Nat} (h3 : 3 ≤ v) (h6 : v ≤ 6) : (enterState v s).sys.dev.code = v := by
  have hauto : ∀ t, (autoReceive t).sys = t.sys := fun t =>
    (autoReceive_frame (w := [.sup, .ring, .evtLost, .rx, .radio, .draws]) t (frame_refl _ t) (hw := by decide)).same
      .sys (by decide)
  unfold enterState
  dsimp only
  rw [hauto]
  split
  next h => exact h
  split
  next h => exact h.symm
  split
  next h => exact h.symm
  split
  next h => exact h.symm
  · have : v = 6 := by omega
    exact this.symm

/-- A transition changes the device state alone of what `sys` holds. -/
theorem enterState_sys {s : State} {v : Nat} {d : DevState} (h3 : 3 ≤ v) (h6 : v ≤ 6) (hd : d.code = v) :
    (enterState v s).sys = { s.sys with dev := d } := by
  have hcancel : ∀ t, (cancelDets 6 (fun _ => true) t).sys = t.sys := cancelDets_sys 6 _
  have hend : ∀ t, (endAttempt t).sys = t.sys := fun t =>
    (endAttempt_frame (w := [.sup, .ring, .evtLost, .scarab, .rx, .radio, .swarm, .net, .draws]) t (frame_refl _ t)
      (hw := by decide)).same .sys (by decide)
  have hauto : ∀ t, (autoReceive t).sys = t.sys := fun t =>
    (autoReceive_frame (w := [.sup, .ring, .evtLost, .rx, .radio, .draws]) t (frame_refl _ t) (hw := by decide)).same
      .sys (by decide)
  have hdev : (enterState v s).sys.dev = d := code_injective ((enterState_dev h3 h6).trans hd.symm)
  have hrest : (enterState v s).sys = { s.sys with dev := (enterState v s).sys.dev } := by
    unfold enterState
    dsimp only
    rw [hauto]
    split
    · rfl
    split
    · split <;> simp only [hend, hcancel]
    split
    · simp only [enterRun, hcancel]
    split
    · simp only [hcancel]
    · split <;> simp only [hend, hcancel]
  rw [hrest, hdev]

theorem transitionAt_legal {addr sub source v : Nat} {dict : Bool} {s : State} (hp : s.courses.pend = none)
    (hl : transitionLegal s v = true) : transitionAt addr sub dict source v s = (abOk, enterState v s) := by
  have hswitch : pendingSwitch s = s := by simp [pendingSwitch, hp]
  unfold transitionAt
  rw [hswitch]
  exact if_pos hl

theorem transitionAt_illegal {addr sub source v : Nat} {dict : Bool} {s : State} (hp : s.courses.pend = none)
    (hl : transitionLegal s v = false) :
    transitionAt addr sub dict source v s = (abState, illegalState addr sub true dict source false s) := by
  have hswitch : pendingSwitch s = s := by simp [pendingSwitch, hp]
  unfold transitionAt
  rw [hswitch]
  exact if_neg (by rw [hl]; decide)

-- State commands

/-- The parts that a transition may change. -/
abbrev stateParts : List Part := [.sys, .sup, .ring, .evtLost, .scarab, .rx, .radio, .swarm, .net, .draws]

theorem enterState_confined (v : Nat) (s : State) : Confined stateParts s (enterState v s) :=
  enterState_frame v s (frame_refl _ s) (hw := by decide)

/-- SYS.STATECMD with a command that passes its tests (R172, R173). -/
theorem writeStateCmd_eq {s : State} {v : Fin 8} (h3 : 3 ≤ v.val) (h6 : v.val ≤ 6) (hp : s.courses.pend = none)
    (hstate : stateRefusal s K.stateCmd v.val true = none) (hbusy : busyRefusal s K.stateCmd v.val true = false) :
    hostWrite 0x0004 v.val [] s = if rdy s then
      (if s.sys.dev.code = v.val then s else if atBoundary s then enterState v.val s
        else { s with engine := { s.engine with regTarget := some v } }) else spiError errNotReady s := by
  have hval : (regValue s 0x0004).isNone = false := rfl
  have hfield : field v.val 0 3 = v.val := by
    have := v.isLt
    simp only [field]
    omega
  have hfin : Fin.ofNat 8 v.val = v := Fin.ofNat_val_eq_self v
  have hwrite : writeReg 0x0004 v.val [] s = if s.sys.dev.code = v.val then s else if atBoundary s then
      enterState v.val s else { s with engine := { s.engine with regTarget := some v } } := by
    have hreg : writeReg 0x0004 v.val [] s = writeStateCmd (field v.val 0 3) s := rfl
    rw [hreg, hfield, writeStateCmd, command, decide_eq_true h3, decide_eq_true h6, hstate]
    dsimp only
    rw [hbusy, hp, hfin, transitionAt_legal hp (legal_of_stateCmd h3 h6 hstate)]
    simp
  rw [hostWrite, hval, hwrite]
  rfl

/-- The entry STATE_CMD with a command that passes its tests (R172, R173). -/
theorem perform_stateCmd {r : Request} {s : State} (hw : r.write = true) (hk : r.key = K.stateCmd)
    (hp : s.courses.pend = none) (h3 : 3 ≤ r.num) (h6 : r.num ≤ 6)
    (hstate : stateRefusal s K.stateCmd r.num true = none) :
    perform r [] s = if s.sys.dev.code = r.num then respond r abOk [] s
      else if atBoundary s then respond r abOk [] (enterState r.num s)
      else { s with engine := { s.engine with job := some (r, .boundary (Fin.ofNat 8 r.num)) } } := by
  unfold perform
  rw [hw, hk, transitionAt_legal hp (legal_of_stateCmd h3 h6 hstate)]
  rfl

/-- A state command by its register. -/
theorem stateCmd_register {s : State} {v : Fin 8} {d : DevState} (h3 : 3 ≤ v.val) (h6 : v.val ≤ 6)
    (hd : d.code = v.val) (hp : s.courses.pend = none)
    (h : Takes .register 0x0004 K.stateCmd v.val [BitVec.ofNat 8 v.val] s) :
    (s.sys.dev = d → Confined [.spi] s (hostRegister 0x0004 v.val [] s) ∧
        (hostRegister 0x0004 v.val [] s).spi.err = false) ∧
    (s.sys.dev ≠ d → atBoundary s = true → (hostRegister 0x0004 v.val [] s).sys = { s.sys with dev := d } ∧
      (hostRegister 0x0004 v.val [] s).spi.err = false) ∧
    (s.sys.dev ≠ d → atBoundary s = false → Confined [.engine, .spi] s (hostRegister 0x0004 v.val [] s) ∧
      (hostRegister 0x0004 v.val [] s).engine.regTarget = some v ∧ (hostRegister 0x0004 v.val [] s).spi.err =
          false) := by
  obtain ⟨⟨⟨hpres, hrdy⟩, -⟩, hstate, hbusy⟩ := h
  have hwrite := writeStateCmd_eq (s := cleared s) h3 h6 hp hstate hbusy
  rw [if_pos (show rdy (cleared s) = true from hrdy)] at hwrite
  rw [hostRegister_of_spiPresent hpres, hwrite]
  refine ⟨fun he => ?_, fun he hb => ?_, fun he hb => ?_⟩
  · rw [if_pos (show (cleared s).sys.dev.code = v.val by rw [← hd, ← he]; rfl)]
    exact ⟨confined_sent_cleared .., rfl⟩
  all_goals rw [if_neg (show ¬ (cleared s).sys.dev.code = v.val from fun hc => he (code_injective (hc.trans hd.symm)))]
  · rw [if_pos (show atBoundary (cleared s) = true from hb)]
    have hspi : (enterState v.val (cleared s)).spi = (cleared s).spi := (enterState_confined ..).same .spi (by decide)
    exact ⟨enterState_sys (s := cleared s) h3 h6 hd, congrArg Spi.err hspi⟩
  · rw [if_neg (show ¬ atBoundary (cleared s) = true from fun hc => Bool.false_ne_true (hb.symm.trans hc))]
    refine ⟨?_, rfl, rfl⟩
    have hset := confined_setEngine (sent .spi (statusByte s :: zeros (7 + c8Len (cleared s))) (cleared s))
      { s.engine with regTarget := some v }
    exact confined_trans (confined_mono (w := [.spi]) (by decide) (confined_sent_cleared ..))
      (confined_mono (w := [.engine]) (by decide) hset)

/-- A state command by its entry. -/
theorem stateCmd_entry {port : Port} {tag : Byte} {s : State} {v : Fin 8} {d : DevState} (h3 : 3 ≤ v.val)
    (h6 : v.val ≤ 6) (hd : d.code = v.val) (hp : s.courses.pend = none)
    (h : Passes port tag K.stateCmd [BitVec.ofNat 8 v.val] s) :
    (s.sys.dev = d → Confined (portParts port) s (dictWrite port tag K.stateCmd [BitVec.ofNat 8 v.val] s) ∧
      Answered (writeRequest port tag K.stateCmd [BitVec.ofNat 8 v.val]) abOk []
        (dictWrite port tag K.stateCmd [BitVec.ofNat 8 v.val] s)) ∧
    (s.sys.dev ≠ d → atBoundary s = true →
      (dictWrite port tag K.stateCmd [BitVec.ofNat 8 v.val] s).sys = { s.sys with dev := d } ∧
      Answered (writeRequest port tag K.stateCmd [BitVec.ofNat 8 v.val]) abOk []
        (dictWrite port tag K.stateCmd [BitVec.ofNat 8 v.val] s)) ∧
    (s.sys.dev ≠ d → atBoundary s = false →
      Confined (.engine :: portParts port) s (dictWrite port tag K.stateCmd [BitVec.ofNat 8 v.val] s) ∧
      (dictWrite port tag K.stateCmd [BitVec.ofNat 8 v.val] s).engine.job =
        some (writeRequest port tag K.stateCmd [BitVec.ofNat 8 v.val], .boundary v)) := by
  obtain ⟨m, hm⟩ := dictWrite_of_passes h
  obtain ⟨hfree, hok⟩ := h
  have hkey : (writeRequest port tag K.stateCmd [BitVec.ofNat 8 v.val]).key = K.stateCmd :=
    writeRequest_key port tag _ (by decide)
  have hnum : (writeRequest port tag K.stateCmd [BitVec.ofNat 8 v.val]).num = v.val := by
    have : ∀ v : Fin 8, leNat [BitVec.ofNat 8 v.val] = v.val := by decide
    exact this v
  have hstate := (write_ok_passes (writeRequest_write ..) hok).1
  generalize hr : writeRequest port tag K.stateCmd [BitVec.ofNat 8 v.val] = r at *
  have hport : r.port = port := by rw [← hr]; rfl
  have hwr : r.write = true := by rw [← hr]; rfl
  rw [hkey, hnum] at hstate
  have hsame : (atEngine port s).sys = s.sys ∧ (atEngine port s).courses = s.courses ∧
      atBoundary (atEngine port s) = atBoundary s := by
    rw [atEngine_eq]
    exact ⟨rfl, rfl, rfl⟩
  obtain ⟨hsys, hcourses, hbound⟩ := hsame
  rw [perform_stateCmd hwr hkey (by rw [hcourses, hp]) (hnum ▸ h3) (hnum ▸ h6) (by rw [hnum]; exact hstate), hnum]
    at hm
  rw [hm]
  refine ⟨fun he => ?_, fun he hb => ?_, fun he hb => ?_⟩
  · rw [if_pos (show (atEngine port s).sys.dev.code = v.val by rw [hsys, ← hd, ← he])]
    exact work_then_answer (w := []) abOk [] m hport hfree (frame_refl _ _) (by decide)
  all_goals rw [if_neg (show ¬ (atEngine port s).sys.dev.code =
      v.val from fun hc => he (code_injective (hsys ▸ hc.trans hd.symm)))]
  · rw [if_pos (hbound.trans hb)]
    refine ⟨?_, (work_then_answer abOk [] m hport hfree (enterState_confined v.val _) (by decide)).2⟩
    have hsent : ∀ t : State, (sent port m t).sys = t.sys := fun t => by rw [sent_eq]
    have hresp : ∀ t, (respond r abOk [] t).sys = t.sys := fun t => by rw [respond_eq]
    rw [hsent, hresp, enterState_sys h3 h6 hd, hsys]
  · rw [if_neg (fun hc => Bool.false_ne_true ((hbound.trans hb).symm.trans hc))]
    have hfin : Fin.ofNat 8 v.val = v := Fin.ofNat_val_eq_self v
    have hsent : ∀ t : State, (sent port m t).engine = t.engine := fun t => by rw [sent_eq]
    refine ⟨?_, by rw [hsent, hfin]⟩
    refine confined_trans (confined_mono (List.subset_cons_self ..) (confined_atEngine port s)) ?_
    have hset := confined_setEngine (atEngine port s)
      { (atEngine port s).engine with job := some (r, .boundary (Fin.ofNat 8 v.val)) }
    refine confined_trans (confined_mono (w := [.engine]) ?_ hset) ?_
    · exact List.cons_subset_cons _ (List.nil_subset _)
    · exact confined_mono (List.subset_cons_self ..) (confined_sent ..)

/-- A state command, from its register or its entry. -/
theorem transits_of_control {via : Via} {s : State} {v : Fin 8} {d : DevState} {c : Instr} (h3 : 3 ≤ v.val)
    (h6 : v.val ≤ 6) (hd : d.code = v.val) (hp : s.courses.pend = none)
    (hc : exec c s = .next (control via 0x0004 K.stateCmd v.val [BitVec.ofNat 8 v.val] s)) : Transits d v via c s := by
  intro h
  cases via with
  | register =>
    obtain ⟨hsame, hnow, hwait⟩ := stateCmd_register h3 h6 hd hp h
    exact ⟨fun he => ⟨_, hc, hsame he⟩, fun he hb => ⟨_, hc, hnow he hb⟩, fun he hb => ⟨_, hc, hwait he hb⟩⟩
  | dict port tag =>
    obtain ⟨hsame, hnow, hwait⟩ := stateCmd_entry h3 h6 hd hp h
    exact ⟨fun he => ⟨_, hc, hsame he⟩, fun he hb => ⟨_, hc, hnow he hb⟩, fun he hb => ⟨_, hc, hwait he hb⟩⟩

-- FRAME_BOUNDARY

/-- The transition that waits at a frame boundary is judged again, and answered (R173, R189). -/
def boundaryAnswer (s : State) : State :=
  match s.engine.job with
  | some (r, .boundary t) =>
    let x := transitionAt r.index.toNat r.sub.toNat true (portCode r.port) t.val
      { s with engine := { s.engine with job := none } }
    drain 3 (respond r x.1 [] x.2)
  | _ => s

theorem frameBoundary_eq {s : State} (hb : atBoundary s = true) (hw : Works s) :
    frameBoundary s = afterBoundary (boundaryAnswer (atBoundaryWork s)) := by
  have hworks : absent s = false := hw
  rw [frameBoundary, hb, hworks]
  exact if_neg (by decide)

theorem boundaryAnswer_of_idle {s : State} (hj : s.engine.job = none) : boundaryAnswer s = s := by
  rw [boundaryAnswer, hj]

/-- Where the engine is idle, the boundary makes the pending switch and the transition by register. -/
theorem atBoundaryWork_of_idle {s : State} (hb : atBoundary s = true) (hj : s.engine.job = none) :
    atBoundaryWork s = match (pendingSwitch s).engine.regTarget with
      | some t => (transitionAt 0x0004 0 false 0 t.val
          { pendingSwitch s with engine := { (pendingSwitch s).engine with regTarget := none } }).2
      | none => pendingSwitch s := by
  have hseal : sealing s = false := by rw [sealing, hj]
  unfold atBoundaryWork
  rw [hb, hseal]
  rfl

/-- A switch puts the program's image in force and ends the wait. -/
theorem switchCourse_courses (c : Fin 16) (cause : Nat) (s : State) :
    (switchCourse c cause s).courses = { s.courses with active := c, pend := none, image :=
      if c.val < 8 then (courseImage s.mortar c.val).getD [] else [] } := by
  have hrec : ∀ keys t, (recompute keys t).courses = t.courses := fun keys t =>
    (recompute_frame (w := [.sys, .sup, .live, .ring, .evtLost, .field, .qe, .scarab, .rx, .radio, .swarm, .net, .tb,
      .timer, .pulse, .clk, .draws]) keys t (frame_refl _ t) (hw := by decide)).same .courses (by decide)
  unfold switchCourse
  extract_lets old img before after keys c' t b u
  have hu : u.courses = t.courses := by
    show (if _ then _ else _ : State).courses = _
    split <;> rfl
  rw [post_courses, hu, hrec]

/-- A pending switch takes effect at the boundary (R189). -/
theorem frameBoundary_switch {s : State} {c : Fin 16} {cause : Fin 4} (hb : atBoundary s = true) (hw : Works s)
    (hp : s.courses.pend = some (c, cause)) (hc : s.courses.cleared = false) (hj : s.engine.job = none)
    (hr : s.engine.regTarget = none) :
    (frameBoundary s).courses = { s.courses with active := c, pend := none, image :=
      if c.val < 8 then (courseImage s.mortar c.val).getD [] else [] } := by
  have hswitch : pendingSwitch s = switchCourse c cause.val s := by
    rw [pendingSwitch, hp, hc]
    rfl
  have hengine : (switchCourse c cause.val s).engine = s.engine :=
    (switchCourse_frame (w := [.sys, .boot, .sup, .live, .ring, .evtLost, .field, .courses, .qe, .scarab, .rx, .radio,
      .swarm, .net, .tb, .timer, .pulse, .clk, .draws]) c cause.val s (frame_refl _ s) (hw := by decide)).same .engine
      (by decide)
  rw [frameBoundary_eq hb hw, atBoundaryWork_of_idle hb hj, hswitch, hengine, hr, boundaryAnswer_of_idle (hengine ▸ hj),
    (afterBoundary_confined _).same .courses (by decide), switchCourse_courses]

/-- A transition by register that waits is judged again at the boundary (R173). -/
theorem frameBoundary_register {s : State} {v : Fin 8} (hb : atBoundary s = true) (hw : Works s)
    (hp : s.courses.pend = none) (hj : s.engine.job = none) (hr : s.engine.regTarget = some v) :
    frameBoundary s = afterBoundary (transitionAt 0x0004 0 false 0 v.val
      { s with engine := { s.engine with regTarget := none } }).2 := by
  have hswitch : pendingSwitch s = s := by simp [pendingSwitch, hp]
  rw [frameBoundary_eq hb hw, atBoundaryWork_of_idle hb hj, hswitch, hr]
  refine congrArg afterBoundary (boundaryAnswer_of_idle ?_)
  exact (transitionAt_answerKept ..).job.trans hj

/-- A transition by entry that waits is judged again at the boundary, and answered (R173). -/
theorem frameBoundary_entry {s : State} {r : Request} {v : Fin 8} (hb : atBoundary s = true) (hw : Works s)
    (hp : s.courses.pend = none) (hr : s.engine.regTarget = none) (hj : s.engine.job = some (r, .boundary v))
    (hwaits : s.engine.waits = []) {x : Half × State}
    (hx : transitionAt r.index.toNat r.sub.toNat true (portCode r.port) v.val
      { s with engine := { s.engine with job := none } } = x) :
    frameBoundary s = afterBoundary (respond r x.1 [] x.2) := by
  have hkept := transitionAt_answerKept r.index.toNat r.sub.toNat true (portCode r.port) v.val
    { s with engine := { s.engine with job := none } }
  rw [hx] at hkept
  have hresp : (respond r x.1 [] x.2).engine = x.2.engine := by rw [respond_eq]
  rw [frameBoundary_eq hb hw, atBoundaryWork_of_quiet (.inr ⟨hp, hr⟩), boundaryAnswer, hj]
  dsimp only
  rw [hx, drain_of_idle (by rw [hresp]; exact hkept.job) (by rw [hresp]; exact hkept.waits.trans hwaits)]

/-- The device state and the engine stand through the rest of the boundary. -/
theorem afterBoundary_sys (s : State) : (afterBoundary s).sys = s.sys ∧ (afterBoundary s).engine = s.engine :=
  ⟨(afterBoundary_confined s).same .sys (by decide), (afterBoundary_confined s).same .engine (by decide)⟩

theorem answered_afterBoundary {r : Request} (code : Half) {t : State} (h : r.port = .field → t.field.mute = false) :
    Answered r code [] (afterBoundary (respond r code [] t)) :=
  answered_of_sameParts (answered_respond code [] h) (afterBoundary_answerKept _) (afterBoundary_confined _) (by decide)

/-- Settles O37. -/
theorem stateCommandsAndBoundaries : Obligations.StateCommandsAndBoundaries := by
  unfold Obligations.StateCommandsAndBoundaries
  refine ⟨fun via s hp => ⟨?_, ?_, ?_, ?_⟩, fun s hb hw => ⟨?_, ?_, ?_⟩⟩
  · exact transits_of_control (v := 3) (by decide) (by decide) rfl hp rfl
  · exact transits_of_control (v := 4) (by decide) (by decide) rfl hp rfl
  · exact transits_of_control (v := 5) (by decide) (by decide) rfl hp rfl
  · exact transits_of_control (v := 6) (by decide) (by decide) rfl hp rfl
  · intro c cause hp hc hj hr
    have hcourses := frameBoundary_switch hb hw hp hc hj hr
    exact ⟨_, rfl, congrArg Courses.active hcourses, congrArg Courses.pend hcourses, congrArg Courses.image hcourses⟩
  · intro v hp hj hr h3 h6
    refine ⟨_, rfl, ?_⟩
    rw [frameBoundary_register hb hw hp hj hr, (afterBoundary_sys _).1, (afterBoundary_sys _).2]
    cases hl : transitionLegal s v.val with
    | true =>
      rw [transitionAt_legal (s := { s with engine := { s.engine with regTarget := none } }) hp hl]
      exact ⟨congrArg Engine.regTarget ((enterState_confined ..).same .engine (by decide)),
          fun _ => enterState_dev h3 h6,
        nofun⟩
    | false =>
      rw [transitionAt_illegal (s := { s with engine := { s.engine with regTarget := none } }) hp hl]
      unfold illegalState
      refine ⟨?_, nofun, fun _ => ⟨?_, ?_⟩⟩
      · rw [post_engine]
      · rw [post_sys]
      · rw [post_engine]
  · intro r v hp hr hj hwaits h3 h6 hmute
    refine ⟨_, rfl, ?_⟩
    have hsys : ∀ code t, (respond r code [] t).sys = t.sys := fun code t => by rw [respond_eq]
    have hengine : ∀ code t, (respond r code [] t).engine = t.engine := fun code t => by rw [respond_eq]
    cases hl : transitionLegal s v.val with
    | true =>
      rw [frameBoundary_entry hb hw hp hr hj hwaits
        (transitionAt_legal (s := { s with engine := { s.engine with job := none } }) hp hl), (afterBoundary_sys _).1,
        (afterBoundary_sys _).2, hsys, hengine]
      have hsame := enterState_confined v.val { s with engine := { s.engine with job := none } }
      refine ⟨congrArg Engine.job (hsame.same .engine (by decide)),
        fun _ => ⟨enterState_dev h3 h6, answered_afterBoundary _ fun hf => ?_⟩, nofun⟩
      rw [hsame.same .field (by decide)]
      exact hmute hf
    | false =>
      rw [frameBoundary_entry hb hw hp hr hj hwaits
        (transitionAt_illegal (s := { s with engine := { s.engine with job := none } }) hp hl), (afterBoundary_sys _).1,
        (afterBoundary_sys _).2, hsys, hengine]
      unfold illegalState
      refine ⟨by rw [post_engine], nofun, fun _ => ⟨by rw [post_sys], answered_afterBoundary _ fun hf => ?_⟩⟩
      rw [post_field]
      exact hmute hf

end Sys2Proof.Machine
end

section
/-! SUPPORT. O38: the field port (R158 to R162, R17). -/

namespace Sys2Proof.Machine

open Sys2Proof.Safety

-- Field-port frames (Table 6.10)

section
variable {addr : Byte} {pdu : Bytes}

/-- The characters of a frame by their places. -/
theorem fieldBytes_eq (addr : Byte) (pdu : Bytes) : fieldBytes addr pdu = 0x7E :: addr :: BitVec.ofNat 8 pdu.length ::
    (pdu ++ leBytes 2 (crc16 (addr :: BitVec.ofNat 8 pdu.length :: pdu)).toNat) := rfl

theorem frameLen_fieldBytes (h : pdu.length ≤ 255) : frameLen (fieldBytes addr pdu) = pdu.length := by
  rw [fieldBytes_eq]
  exact Nat.mod_eq_of_lt (Nat.lt_succ_of_le h)

/-- The PDU of a frame is what was put into it. -/
theorem pdu_fieldBytes (h : pdu.length ≤ 255) :
    ((fieldBytes addr pdu).drop 3).take (frameLen (fieldBytes addr pdu)) = pdu := by
  rw [frameLen_fieldBytes h, fieldBytes_eq]
  exact List.take_left

/-- A frame as the port sends it is good (R158). -/
theorem fieldGood_fieldBytes (h5 : 5 ≤ pdu.length) (h : pdu.length ≤ 255) :
    fieldGood (fieldBytes addr pdu) = true := by
  have hlen : frameLen (fieldBytes addr pdu) = pdu.length := frameLen_fieldBytes h
  have hgood : lenGood (fieldBytes addr pdu) = true := by
    rw [lenGood, hlen, fieldBytes_eq]
    simp [h5, leBytes_length]
  have hcrc : (fieldBytes addr pdu).drop (pdu.length + 3) =
      leBytes 2 (crc16 (addr :: BitVec.ofNat 8 pdu.length :: pdu)).toNat := by
    rw [fieldBytes_eq]
    exact List.drop_left
  have hbody : ((fieldBytes addr pdu).drop 1).take (pdu.length + 2) = addr :: BitVec.ofNat 8 pdu.length :: pdu := by
    rw [fieldBytes_eq]
    simp
  rw [fieldGood, hgood, hlen, hcrc, hbody, leNat_leBytes_of_lt (BitVec.isLt _)]
  simp [fieldBytes_eq]

/-- A good frame for another device is discarded (R158). -/
theorem fieldRequest_of_other {s : State} (ha : addr ≠ s.field.addr) (h0 : addr ≠ 0) :
    fieldRequest (fieldBytes addr pdu) s = s := by
  have haddr : (fieldBytes addr pdu).getD 1 0 = addr := rfl
  unfold fieldRequest
  dsimp only
  rw [haddr]
  have hne : ¬ addr = 0#8 := h0
  exact if_pos (by simp [ha, hne])

/-- A good frame for this device is a request, where the port is free (R159). -/
theorem fieldRequest_of_own {s : State} (ha : s.field.addr ≠ 0) (hcmd : bit (pdu.getD 0 0).toNat 7 = false)
    (hbusy : s.field.busy = false) (h : pdu.length ≤ 255) :
    fieldRequest (fieldBytes s.field.addr pdu) s = submit (requestOf .field pdu) [] s := by
  have haddr : (fieldBytes s.field.addr pdu).getD 1 0 = s.field.addr := rfl
  unfold fieldRequest
  dsimp only
  rw [haddr, pdu_fieldBytes h, hcmd, hbusy, if_neg (by simp), if_neg ha]

end

/-- The PDU of a read names its entry (R159). -/
theorem requestOf_read (tag : Byte) (index : Half) (sub : Byte) :
    requestOf .field ([1, tag] ++ leBytes 2 index.toNat ++ [sub]) = readRequest .field tag (entryKey index sub) := by
  have hindex : leNat (leBytes 2 index.toNat) = index.toNat := leNat_leBytes_of_lt index.isLt
  have hdiv : entryKey index sub / 256 = index.toNat := by unfold entryKey; have := sub.isLt; omega
  have hmod : entryKey index sub % 256 = sub.toNat := by unfold entryKey; have := sub.isLt; omega
  have hreq : requestOf .field ([1, tag] ++ leBytes 2 index.toNat ++ [sub]) =
      ⟨.field, 1, tag, BitVec.ofNat 16 (leNat (leBytes 2 index.toNat)), sub, []⟩ := rfl
  rw [hreq, hindex, readRequest, hdiv, hmod]
  simp

-- FIELD_FRAME

section
variable {s : State} {f other : Bytes}

theorem endReply_of_quiet (h : s.field.sending = false) : endReply s = s := by simp [endReply, h]

theorem fieldFrame_of_good (hs : fieldServed s = true) (hw : Works s) (hq : s.field.sending = false)
    (hf : fieldGood f = true) :
    fieldFrame f other s = fieldRequest f { s with field := { s.field with idleLow := false } } := by
  have habs : absent s = false := hw
  unfold fieldFrame
  rw [hs, habs, endReply_of_quiet hq, hf]
  rfl

theorem fieldFrame_of_turned (hs : fieldServed s = true) (hw : Works s) (hq : s.field.sending = false)
    (hf : fieldGood f = false) (hp : liveNat s K.fpPolarity = 0) (ho : fieldGood other = true) :
    fieldFrame f other s = fieldRequest other { s with field := { s.field with
      rev := !s.field.rev, turns := inc8 s.field.turns, idleLow := false } } := by
  have habs : absent s = false := hw
  unfold fieldFrame
  dsimp only
  rw [hs, habs, endReply_of_quiet hq, hf, hp, ho]
  rfl

theorem fieldFrame_of_bad (hs : fieldServed s = true) (hw : Works s) (hq : s.field.sending = false)
    (hf : fieldGood f = false) (ho : fieldGood other = false) (hhead : f.head? = some 0x7E) :
    fieldFrame f other s = { s with field := { s.field with badFrames := inc16 s.field.badFrames } } := by
  have habs : absent s = false := hw
  unfold fieldFrame
  rw [hs, habs, endReply_of_quiet hq, hf, ho, hhead]
  simp

/-- A read that the field port takes is answered from the entry (R158, R159). -/
theorem fieldFrame_read {u : State} {tag : Byte} {index : Half} {sub : Byte} (hs : fieldServed s = true) (hw : Works s)
    (hq : s.field.sending = false) (ha : s.field.addr ≠ 0)
    (hu : u = { s with field := { s.field with idleLow := false } })
    (hreads : Reads .field tag (entryKey index sub) u) :
    ∃ t, exec (.fieldFrame (fieldBytes s.field.addr ([1, tag] ++ leBytes 2 index.toNat ++ [sub])) other) s = .next t ∧
      Confined [.field, .timer] s t ∧ t.field.busy = true ∧ Answered (readRequest .field tag (entryKey index sub)) abOk
        (readEntry (atEngine .field u) (entryKey index sub)) t := by
  obtain ⟨hfree, hok⟩ := hreads
  have hlen : ([1, tag] ++ leBytes 2 index.toNat ++ [sub] : Bytes).length = 5 := rfl
  have hcmd : bit (([1, tag] ++ leBytes 2 index.toNat ++ [sub] : Bytes).getD 0 0).toNat 7 = false := by
    rw [show ([1, tag] ++ leBytes 2 index.toNat ++ [sub] : Bytes).getD 0 0 = 1 from rfl]
    decide
  have hserved : fieldServed u = true := by rw [hu]; exact hs
  have hbusy : u.field.busy = false := hfree.2.2.2.1
  have hframe : fieldFrame (fieldBytes s.field.addr ([1, tag] ++ leBytes 2 index.toNat ++ [sub])) other s =
      portRequest (readRequest .field tag (entryKey index sub)) [] u := by
    have haddr : u.field.addr = s.field.addr := by rw [hu]
    rw [fieldFrame_of_good hs hw hq (fieldGood_fieldBytes hlen.ge (by rw [hlen]; decide)), ← hu, ← haddr,
      fieldRequest_of_own (haddr ▸ ha) hcmd hbusy (by rw [hlen]; decide), requestOf_read]
    exact (if_pos hserved).symm
  obtain ⟨m, hm⟩ := portRequest_of_portFree (r := readRequest .field tag (entryKey index sub)) (p := .field) []
      rfl hfree
  rw [serve_of_ok [] hok, perform_read (readRequest_write ..),
    readRequest_key .field tag (entryKey_lt index sub)] at hm
  have heffect := readEffect_frame (w := [.timer]) (entryKey index sub) (atEngine .field u) (frame_refl _ _)
    (hw := by decide)
  obtain ⟨hconf, hans⟩ := work_then_answer (r := readRequest .field tag (entryKey index sub)) abOk
    (readEntry (atEngine .field u) (entryKey index sub)) m rfl hfree heffect (by decide)
  refine ⟨_, congrArg Host.Outcome.next (hframe.trans hm), ?_, ?_, hans⟩
  · have hset : Confined [.field] s u := hu ▸ confined_setField s { s.field with idleLow := false }
    exact confined_trans (confined_mono (by decide) hset)
      (confined_mono (show [.timer] ++ portParts .field ⊆ [.field, .timer] by decide) hconf)
  · have hfield := heffect.same .field (by decide)
    have hmute : (readEffect (entryKey index sub) (atEngine .field u)).field.mute = false := by
      rw [hfield]
      exact hfree.2.2.2.2
    have hresp : (respond (readRequest .field tag (entryKey index sub)) abOk
        (readEntry (atEngine .field u) (entryKey index sub))
        (readEffect (entryKey index sub) (atEngine .field u))).field.busy =
        (readEffect (entryKey index sub) (atEngine .field u)).field.busy := by
      simp [respond, readRequest, hmute]
    exact hresp.trans (congrArg FieldPort.busy hfield)

-- The reply on the bus (R159, R162)

theorem fieldReply_of_ready {pdu : Bytes} (hs : fieldServed s = true) (hw : Works s) (hr : s.field.reply = some pdu)
    (hq : s.field.sending = false) (hwait : s.field.waitChars = 0) :
    fieldReply s = { s with field := { s.field with sending := true, sent := fieldBytes s.field.addr pdu } } := by
  have habs : absent s = false := hw
  simp [fieldReply, hr, hq, hwait, hs, habs]

/-- What an echo fault records, whatever becomes of the reply (R162). -/
def echoRecorded (noTransition : Bool) (s : State) : State :=
  { s with field := { s.field with
    sending := false
    short := s.field.short || noTransition
    contend := s.field.contend || !noTransition
    echoes := inc8 s.field.echoes } }

theorem echoFault_of_last {b : Bool} (hw : Works s) (hq : s.field.sending = true)
    (hl : liveNat s K.fpRetry ≤ s.field.retries) : echoFault b s = abandonReply (echoRecorded b s) := by
  have habs : absent s = false := hw
  unfold echoFault
  rw [hq, habs]
  exact if_pos hl

/-- After an echo fault that is not the last the reply waits 4 to 36 character times. -/
theorem echoFault_of_more {b : Bool} (hw : Works s) (hq : s.field.sending = true)
    (hl : s.field.retries < liveNat s K.fpRetry) : echoFault b s = { (echoRecorded b s) with
      field := { (echoRecorded b s).field with waitChars := 4 + Config.draw s.draws % 33 }, draws := s.draws + 1 } := by
  have habs : absent s = false := hw
  unfold echoFault
  rw [hq, habs]
  exact if_neg (Nat.not_le.mpr hl)

theorem replyRetry_of_waiting (hs : fieldServed s = true) (hw : Works s) (hwait : s.field.waitChars ≠ 0) :
    replyRetry s = if s.field.retries < liveNat s K.fpRetry then { s with field := { s.field with
      waitChars := 0, retries := s.field.retries + 1, sending := true } } else abandonReply s := by
  have habs : absent s = false := hw
  exact if_neg (by simp [hwait, hs, habs])

theorem fieldConfigApply_of_quiet (hs : fieldServed s = true) (hw : Works s) (hq : s.field.sending = false) :
    fieldConfigApply s = { s with field := { s.field with
      addr := if s.field.own = some K.fpAddr then s.field.addr else BitVec.ofNat 8 (liveNat s K.fpAddr)
      baud := if s.field.own = some K.fpBaud then s.field.baud else BitVec.ofNat 8 (liveNat s K.fpBaud) } } := by
  have habs : absent s = false := hw
  unfold fieldConfigApply
  rw [hs, habs, endReply_of_quiet hq]
  rfl

theorem idleLow_of_quiet (hs : fieldServed s = true) (hw : Works s) (hq : s.field.sending = false) :
    idleLow s = { s with field := { s.field with idleLow := true } } := by
  have habs : absent s = false := hw
  unfold idleLow
  rw [hs, habs, endReply_of_quiet hq]
  rfl

theorem interCharacterGap_of_quiet (hq : s.field.sending = false) : interCharacterGap s = s := by
  rw [interCharacterGap, endReply_of_quiet hq]
  exact ite_self _

end

-- The supply of the bank (R17)

theorem iovddReturn_bankA (s : State) : (iovddReturn .a s).pins.bankA = true := by
  have hwake : ∀ t, (requestWake 6 t).pins = t.pins := fun t =>
    (requestWake_frame (w := [.sup]) 6 t (frame_refl _ t) (hw := by decide)).same .pins (by decide)
  unfold iovddReturn
  dsimp only
  split
  next h => exact h
  · rw [hwake]

/-- Settles O38. -/
theorem fieldPortServes : Obligations.FieldPortServes := by
  unfold Obligations.FieldPortServes
  refine ⟨fun other s u hs hw hq ha hu => ⟨?_, ?_, ?_, ?_⟩, fun s hs hw => ⟨?_, ?_, ?_, ?_⟩, fun bank s => ⟨?_, ?_⟩⟩
  · exact fun tag index sub hreads => fieldFrame_read hs hw hq ha hu hreads
  · intro addr pdu h5 h255 hother h0
    refine congrArg Host.Outcome.next ((fieldFrame_of_good hs hw hq (fieldGood_fieldBytes h5 h255)).trans ?_)
    rw [fieldRequest_of_other (s := { s with field := { s.field with idleLow := false } }) hother h0, hu]
  · exact fun f hhead hf ho => congrArg Host.Outcome.next (fieldFrame_of_bad hs hw hq hf ho hhead)
  · rintro f addr pdu hf hp rfl h5 h255 hother h0
    exact congrArg Host.Outcome.next ((fieldFrame_of_turned hs hw hq hf hp (fieldGood_fieldBytes h5 h255)).trans
      (fieldRequest_of_other hother h0))
  · exact fun pdu hr hq hwait => congrArg Host.Outcome.next (fieldReply_of_ready hs hw hr hq hwait)
  · intro noTransition hq
    refine ⟨_, rfl, echoFault_frame noTransition s (frame_refl _ s) (hw := by decide), ?_⟩
    by_cases hl : liveNat s K.fpRetry ≤ s.field.retries
    · rw [echoFault_of_last hw hq hl]
      exact ⟨rfl, rfl, rfl, rfl, fun hm => absurd hl (Nat.not_le.mpr hm), fun _ => ⟨rfl, rfl, rfl⟩⟩
    · rw [echoFault_of_more hw hq (Nat.not_le.mp hl)]
      have hdraw := Nat.mod_lt (Config.draw s.draws) (show 0 < 33 by decide)
      exact ⟨rfl, rfl, rfl, rfl, fun _ => ⟨rfl, Nat.le_add_right .., by show 4 + _ ≤ 36; omega⟩, fun hm => absurd hm hl⟩
  · intro hwait
    refine ⟨fun hl => ?_, fun hl => ?_⟩
    · exact congrArg Host.Outcome.next ((replyRetry_of_waiting hs hw hwait).trans (if_pos hl))
    · exact congrArg Host.Outcome.next ((replyRetry_of_waiting hs hw hwait).trans (if_neg (Nat.not_lt.mpr hl)))
  · exact fun hq => ⟨congrArg Host.Outcome.next (fieldConfigApply_of_quiet hs hw hq),
      congrArg Host.Outcome.next (interCharacterGap_of_quiet hq),
      congrArg Host.Outcome.next (idleLow_of_quiet hs hw hq)⟩
  · refine ⟨_, rfl, ?_⟩
    rintro rfl
    exact ⟨rfl, by simp [fieldServed, iovddLoss], rfl, rfl⟩
  · refine ⟨_, rfl, ?_, ?_⟩
    · rintro rfl
      exact iovddReturn_bankA s
    · rintro rfl
      refine ⟨rfl, fun hready hblock hrev => ?_⟩
      show (s.sys.ready && blockOn s 0 && true && !s.pins.reversed) = true
      rw [hready, hblock, hrev]
      rfl

end Sys2Proof.Machine
end

section
/-! SUPPORT. O41 fails: a lock of the synthesizer that comes up for reception, where reception is no longer possible,
returns the radio to IDLE, whose synthesizer is off. -/

namespace Sys2Proof.Machine

open Sys2Proof.Safety

/-- A device in CONFIG, at OP3, whose synthesizer comes up for reception while the clocks of the receiver are gated. -/
def gatedReceiver : State :=
  { State.reset with
    sys := { State.reset.sys with ready := true, dev := .config }
    boot := { State.reset.boot with held := false }
    sup := { State.reset.sup with power := .idle, op := 3 }
    clk := { State.reset.clk with lock := true, run1 := 0 }
    radio := { State.reset.radio with state := .synthUp, up := .rx } }

/-- Every premise of the clause holds there, and the lock does not outlive the command. -/
theorem gatedReceiver_run : absent gatedReceiver = false ∧ opTarget gatedReceiver ≤ gatedReceiver.sup.op.val ∧
    (present synthLock gatedReceiver).radio.lock = false := by
  decide +kernel

/-- Refutes O41: SYNTH_LOCK with the synthesizer up for reception, where the receiver's clocks are gated, ends in a
radio whose synthesizer is not locked. -/
theorem not_synthesizerLocks : ¬ Obligations.SynthesizerLocks := by
  intro h
  obtain ⟨hworks, htarget, hlost⟩ := gatedReceiver_run
  obtain ⟨t, ht, hlock, -⟩ := (h gatedReceiver hworks).1 rfl rfl htarget
  obtain rfl := Host.Outcome.next.inj ht
  exact Bool.false_ne_true (hlost.symm.trans hlock)

end Sys2Proof.Machine
end

section
/-! SUPPORT. What the radio's own work leaves of the frames in reception and of what they have counted: a frame in
reception stays or is lost, and the counters of the receiver stand (R202, R237, R270). -/

namespace Sys2Proof.Machine

open Sys2Proof.Safety

/-- The counters and the latched results of the frames that end (R252, R254, R267, R270). -/
def rxCounts (x : Rx) : Word × Word × Word × Word × Half × Half × Bool × Bool :=
  (x.losses, x.pilotLosses, x.crcFails, x.hdrFails, x.corrected, x.length, x.hdrOk, x.crcOk)

/-- The frames in reception, the counters and the latched results are the same. -/
structure SameRx (r s : State) : Prop where
  recA   : s.rx.recA = r.rx.recA
  recB   : s.rx.recB = r.rx.recB
  counts : rxCounts s.rx = rxCounts r.rx

/-- A frame in reception is the same or is lost; the counters and the latched results are the same. -/
structure RxKept (r s : State) : Prop where
  recA   : s.rx.recA = r.rx.recA ∨ s.rx.recA = none
  recB   : s.rx.recB = r.rx.recB ∨ s.rx.recB = none
  counts : rxCounts s.rx = rxCounts r.rx

theorem SameRx.refl (s : State) : SameRx s s := ⟨rfl, rfl, rfl⟩

theorem SameRx.trans {r s t : State} (h : SameRx r s) (k : SameRx s t) : SameRx r t :=
  ⟨k.recA.trans h.recA, k.recB.trans h.recB, k.counts.trans h.counts⟩

theorem SameRx.ite {r a b : State} {c : Prop} [Decidable c] (ha : SameRx r a) (hb : SameRx r b) :
    SameRx r (if c then a else b) := by
  split
  · exact ha
  · exact hb

theorem SameRx.of_confined {w : List Part} {r s : State} (h : Confined w r s) (hw : Part.rx ∉ w) : SameRx r s := by
  have hrx : s.rx = r.rx := h.same .rx hw
  exact ⟨congrArg Rx.recA hrx, congrArg Rx.recB hrx, congrArg rxCounts hrx⟩

theorem SameRx.reception {r s : State} (h : SameRx r s) (c : Path) : reception s c = reception r c := by
  cases c
  · exact h.recA
  · exact h.recB

theorem SameRx.confirmed {r s : State} (h : SameRx r s) : confirmed s = confirmed r := by
  rw [Machine.confirmed, Machine.confirmed, h.recA, h.recB]

theorem foldl_sameRx {α : Type} {f : State → α → State} (h : ∀ t a, SameRx t (f t a)) (l : List α) (s : State) :
    SameRx s (l.foldl f s) :=
  List.foldlRecOn l f (.refl s) fun t ht a _ => ht.trans (h t a)

theorem SameRx.kept {r s : State} (h : SameRx r s) : RxKept r s := ⟨.inl h.recA, .inl h.recB, h.counts⟩

theorem RxKept.refl (s : State) : RxKept s s := (SameRx.refl s).kept

theorem RxKept.trans {r s t : State} (h : RxKept r s) (k : RxKept s t) : RxKept r t := by
  refine ⟨?_, ?_, k.counts.trans h.counts⟩
  · rcases k.recA with hk | hk
    · rw [hk]
      exact h.recA
    · exact .inr hk
  · rcases k.recB with hk | hk
    · rw [hk]
      exact h.recB
    · exact .inr hk

theorem RxKept.ite {r a b : State} {c : Prop} [Decidable c] (ha : RxKept r a) (hb : RxKept r b) :
    RxKept r (if c then a else b) := by
  split
  · exact ha
  · exact hb

theorem RxKept.of_confined {w : List Part} {r s : State} (h : Confined w r s) (hw : Part.rx ∉ w) : RxKept r s :=
  (SameRx.of_confined h hw).kept

theorem RxKept.reception_none {r s : State} (h : RxKept r s) {c : Path} (hc : reception r c = none) :
    reception s c = none := by
  cases c
  · exact h.recA.elim (fun hk => hk.trans hc) id
  · exact h.recB.elim (fun hk => hk.trans hc) id

theorem foldl_rxKept {α : Type} {f : State → α → State} (h : ∀ t a, RxKept t (f t a)) (l : List α) (s : State) :
    RxKept s (l.foldl f s) :=
  List.foldlRecOn l f (.refl s) fun t ht a _ => ht.trans (h t a)

-- Detections and the radio state

theorem post_sameRx (code tag : Half) (arg : Word) (s : State) : SameRx s (post code tag arg s) :=
  .of_confined (post_frame (w := [.ring, .evtLost]) code tag arg s (frame_refl _ s) (hw := by decide)) (by decide)

theorem discardProv_sameRx (d : Det) (s : State) : SameRx s (discardProv d s) := by
  have hset : ∀ t a b c, SameRx t { t with rx := { t.rx with provA := a, provB := b }, draws := c } := fun _ _ _ _ =>
    ⟨rfl, rfl, rfl⟩
  unfold discardProv
  extract_lets e left held src x src' src'' t
  have ht : SameRx s t := by
    refine .ite (.refl s) ?_
    split
    · exact hset s _ s.rx.provB s.draws
    · exact .ite (.refl s) (hset s _ s.rx.provB _)
  refine .ite ht ?_
  split
  · exact ht.trans (hset t t.rx.provA _ t.draws)
  · exact .ite ht (ht.trans (hset t t.rx.provA _ _))

theorem releaseGain_sameRx (s : State) : SameRx s (releaseGain s) := ⟨rfl, rfl, rfl⟩

theorem cancelDet_sameRx (n : Nat) (d : Det) (s : State) : SameRx s (cancelDet n d s) := by
  have hset : ∀ a, SameRx s { s with scarab := a } := fun _ => ⟨rfl, rfl, rfl⟩
  exact (((hset _).trans (post_sameRx ..)).trans (discardProv_sameRx ..)).trans (releaseGain_sameRx _)

theorem cancelDets_sameRx (n : Nat) (p : Det → Bool) (s : State) : SameRx s (cancelDets n p s) :=
  foldl_sameRx (fun t d => cancelDet_sameRx n d t) _ s

theorem goto_sameRx (x : RadioState) (s : State) : SameRx s (goto x s) := ⟨rfl, rfl, rfl⟩

theorem gotoIdle_sameRx (s : State) : SameRx s (gotoIdle s) := by
  have hset : ∀ t a b, SameRx t { t with rx := { t.rx with mosaic := a }, radio := b } := fun _ _ _ => ⟨rfl, rfl, rfl⟩
  exact ((cancelDets_sameRx ..).trans (hset _ 0 _)).trans (.ite (goto_sameRx ..) (goto_sameRx ..))

theorem endSecond_sameRx (s : State) : SameRx s (endSecond s) := by
  have hset : ∀ t a, SameRx t { t with rx := { t.rx with second := a } } := fun _ _ => ⟨rfl, rfl, rfl⟩
  exact .ite ((cancelDets_sameRx ..).trans (hset ..)) (.refl s)

theorem setMosaic_sameRx (m : BitVec 2) (s : State) : SameRx s (setMosaic m s) := by
  have hset : SameRx s { s with rx := { s.rx with mosaic := m } } := ⟨rfl, rfl, rfl⟩
  exact hset.trans (endSecond_sameRx _)

theorem resumeRx_sameRx (s : State) : SameRx s (resumeRx s) := by
  have hlock : ∀ t, SameRx t (calibrateOnLock t) := fun t =>
    .of_confined (calibrateOnLock_frame (w := [.radio, .draws]) t (frame_refl _ t) (hw := by decide)) (by decide)
  have htune : ∀ lo, SameRx s (tune lo s) := fun _ => ⟨rfl, rfl, rfl⟩
  exact .ite (((htune _).trans (hlock _)).trans (goto_sameRx ..)) (gotoIdle_sameRx s)

theorem goReturn_sameRx (s : State) : SameRx s (goReturn s) := by
  have hset : ∀ a, SameRx s { s with radio := a } := fun _ => ⟨rfl, rfl, rfl⟩
  unfold goReturn
  extract_lets m src t
  have ht : SameRx s t := (hset _).trans (setMosaic_sameRx ..)
  exact .ite (ht.trans (resumeRx_sameRx t)) (ht.trans (gotoIdle_sameRx t))

theorem dropAttempt_sameRx (s : State) : SameRx s (dropAttempt s) :=
  .of_confined (dropAttempt_frame (w := [.ring, .evtLost, .radio, .swarm, .net, .draws]) s (frame_refl _ s)
    (hw := by decide)) (by decide)

theorem endAttempt_sameRx (s : State) : SameRx s (endAttempt s) := (dropAttempt_sameRx s).trans (goReturn_sameRx _)

theorem busyListen_sameRx (rssi : Option Int) (s : State) : SameRx s (busyListen rssi s) := by
  have hset : ∀ t a b, SameRx t { t with radio := a, draws := b } := fun _ _ _ => ⟨rfl, rfl, rfl⟩
  unfold busyListen
  split
  · exact .refl s
  · extract_lets n last level src u v x w
    have hv : SameRx s v := (hset s _ s.draws).trans (post_sameRx ..)
    exact .ite (.refl s) (.ite (.ite (hv.trans (endAttempt_sameRx v)) (hv.trans (hset v _ v.draws)))
      (hv.trans (hset v _ _)))

theorem listenNow_sameRx (s : State) : SameRx s (listenNow s) := by
  unfold listenNow ccaBusy
  split
  · exact .refl s
  · exact .ite (busyListen_sameRx ..) (.refl s)

/-- A start that does not send leaves the frames in reception alone (R273). -/
theorem startUp_sameRx {u : UpFor} (h : u = .rx ∨ u = .cca) (s : State) : SameRx s (startUp u s) := by
  rcases h with rfl | rfl <;> exact ⟨rfl, rfl, rfl⟩

theorem nextListen_sameRx (a : Attempt) (s : State) : SameRx s (nextListen a s) := by
  have hset : ∀ t a, SameRx t { t with radio := a } := fun _ _ => ⟨rfl, rfl, rfl⟩
  have hdraw : SameRx s (drawListen s).2 := ⟨rfl, rfl, rfl⟩
  exact hdraw.trans (.ite (endAttempt_sameRx _)
    ((hset ..).trans (.ite (listenNow_sameRx _) (startUp_sameRx (.inr rfl) _))))

theorem settle_sameRx (s : State) : SameRx s (settle s) := by
  have hresume : SameRx s (resumeAttempt s) := by
    unfold resumeAttempt
    split
    · exact .refl s
    · exact .ite (nextListen_sameRx ..) (.refl s)
  exact .ite (gotoIdle_sameRx s) hresume

-- What may lose the frame in reception

theorem loseReception_rxKept (n : Nat) (c : Path) (s : State) : RxKept s (loseReception n c s) := by
  have hset : ∀ t, RxKept t (setReception c none t) := fun t => by
    cases c
    · exact ⟨.inr rfl, .inl rfl, rfl⟩
    · exact ⟨.inl rfl, .inr rfl, rfl⟩
  have hpost : ∀ a b x y z t, RxKept t (postRxDone a b x y z t) := fun _ _ _ _ _ t => (post_sameRx ..).kept
  have hdraw : RxKept s (freeBits 16 (freeBits 4 s).2).2 := ⟨.inl rfl, .inl rfl, rfl⟩
  unfold loseReception
  split
  · exact .refl s
  · exact ((RxKept.ite (hpost ..) (hdraw.trans (hpost ..))).trans (hset _)).trans (releaseGain_sameRx _).kept

theorem stopReceiving_rxKept (s : State) : RxKept s (stopReceiving s) := by
  have hset : ∀ t a, RxKept t { t with rx := { t.rx with preempt := a } } := fun _ _ => ⟨.inl rfl, .inl rfl, rfl⟩
  have hlose := (loseReception_rxKept 7 .a s).trans (loseReception_rxKept 7 .b _)
  exact .ite (hlose.trans (hset ..)) hlose

theorem startUp_rxKept (u : UpFor) (s : State) : RxKept s (startUp u s) := by
  have hup : ∀ t lo, RxKept t (goto .synthUp (tune lo { t with radio := { t.radio with up := u, lock := false } })) :=
    fun _ _ => ⟨.inl rfl, .inl rfl, rfl⟩
  cases u
  case rx => exact (startUp_sameRx (.inl rfl) s).kept
  case cca => exact (startUp_sameRx (.inr rfl) s).kept
  case tx => exact (stopReceiving_rxKept s).trans (hup ..)
  case ack => exact (stopReceiving_rxKept s).trans (hup ..)

theorem beginAccess_rxKept (j : TxJob) (s : State) : RxKept s (beginAccess j s) := by
  have hset : ∀ t a, RxKept t { t with radio := a } := fun _ _ => ⟨.inl rfl, .inl rfl, rfl⟩
  have hdraw : RxKept s (drawListen s).2 := ⟨.inl rfl, .inl rfl, rfl⟩
  unfold beginAccess
  split
  · exact .of_confined (postDutyBlock_frame (w := [.ring, .evtLost, .radio, .draws]) _ _ s (frame_refl _ s)
      (hw := by decide)) (by decide)
  · exact .ite (startUp_rxKept ..) (.ite (hdraw.trans ((hset ..).trans (startUp_rxKept ..))) hdraw)

theorem sendFacks_rxKept (s : State) : RxKept s (sendFacks s) := by
  have hset : ∀ t a b, RxKept t { t with net := { t.net with facks := a }, swarm := b } := fun _ _ _ =>
    ⟨.inl rfl, .inl rfl, rfl⟩
  have hswarm : ∀ t a, RxKept t { t with swarm := a } := fun _ _ => ⟨.inl rfl, .inl rfl, rfl⟩
  unfold sendFacks
  split
  · exact .refl s
  · refine .ite (hset s _ s.swarm) (.ite ?_ (.refl s))
    exact .ite (((hset s _ s.swarm).trans (beginAccess_rxKept ..)).trans (hswarm ..))
      ((hset s _ s.swarm).trans (beginAccess_rxKept ..))

/-- A frame that is over leaves no frame in reception on its channel, and counts nothing itself. -/
theorem frameOver_rxKept (c : Path) (s : State) : RxKept (setReception c none s) (frameOver c s) :=
  ((((releaseGain_sameRx _).trans (endSecond_sameRx _)).trans (settle_sameRx _)).kept).trans (sendFacks_rxKept _)

theorem reception_setReception_self (c : Path) (r : Option Reception) (s : State) :
    reception (setReception c r s) c = r := by
  cases c <;> rfl

theorem reception_frameOver (c : Path) (s : State) : reception (frameOver c s) c = none :=
  (frameOver_rxKept c s).reception_none (reception_setReception_self c none s)

theorem counts_setReception (c : Path) (r : Option Reception) (s : State) :
    rxCounts (setReception c r s).rx = rxCounts s.rx := by
  cases c <;> rfl

theorem counts_frameOver (c : Path) (s : State) : rxCounts (frameOver c s).rx = rxCounts s.rx :=
  (frameOver_rxKept c s).counts.trans (counts_setReception c none s)

theorem loseReceptions_rxKept (s : State) : RxKept s (loseReceptions s) :=
  (loseReception_rxKept 7 .a s).trans (loseReception_rxKept 7 .b _)

theorem halt_rxKept (n : Nat) (s : State) : RxKept s (halt n s) := by
  have hoff : RxKept s (paOff s) :=
    .of_confined (paOff_frame (w := [.ring, .evtLost, .radio]) s (frame_refl _ s) (hw := by decide)) (by decide)
  have habandon : ∀ t, RxKept t (abandonAcks t) := fun t =>
    .of_confined (abandonAcks_frame (w := [.ring, .evtLost, .radio]) t (frame_refl _ t) (hw := by decide)) (by decide)
  have hset : ∀ t a b, RxKept t { t with radio := a, net := { t.net with reply := none, exch := b } } := fun _ _ _ =>
    ⟨.inl rfl, .inl rfl, rfl⟩
  have hclose : ∀ t, RxKept t (closeWindow t) := fun _ => ⟨.inl rfl, .inl rfl, rfl⟩
  unfold halt
  extract_lets t src src' u
  have ht : RxKept s t := ((hoff.trans (habandon _)).trans (loseReceptions_rxKept _)).trans (cancelDets_sameRx ..).kept
  have hu : RxKept s u := ht.trans (hset t _ none)
  exact .ite hu (.ite (hu.trans (hclose u)) (hu.trans (gotoIdle_sameRx u).kept))

end Sys2Proof.Machine
end

section
/-! SUPPORT. O39: the radio commands RX, STOP, TX and ABORT (R274, R275). -/

namespace Sys2Proof.Machine

open Sys2Proof.Safety

-- What the MAC's view of a queue does not read (R344)

/-- The state with other ports, another receiver and another radio: what the MAC's view of a queue does not read. -/
def beside (a : Spi) (b : FieldPort) (x : Rx) (m : Radio) (s : State) : State :=
  { s with spi := a, field := b, rx := x, radio := m }

section
variable {a : Spi} {b : FieldPort} {x : Rx} {m : Radio} {s : State}

theorem post_beside (code tag : Half) (arg : Word) :
    post code tag arg (beside a b x m s) = beside a b x m (post code tag arg s) := by
  unfold post
  rw [show unmasked (beside a b x m s) code = unmasked s code from rfl, show (beside a b x m s).ring = s.ring from rfl]
  split
  · split <;> rfl
  · rfl

theorem retireEntry_beside (i : Nat) : retireEntry i (beside a b x m s) = beside a b x m (retireEntry i s) := by
  unfold retireEntry
  rw [show (beside a b x m s).qe = s.qe from rfl]
  split <;> rfl

theorem evictStone_beside (t : Stone) : evictStone t (beside a b x m s) = beside a b x m (evictStone t s) := by
  unfold evictStone
  rw [show (beside a b x m s).qe = s.qe from rfl]
  split <;> rfl

theorem freeStone_beside (h : m.commits = s.radio.commits) :
    freeStone (beside a b x m s) = beside a b x m (freeStone s) := by
  have hprogress : inProgress (beside a b x m s) = inProgress s := by
    funext q
    show (m.commits.any fun c => c.queue == q) = _
    rw [h]
    rfl
  have hvictim : victim (beside a b x m s) = victim s := by
    unfold victim
    rw [hprogress]
    rfl
  unfold freeStone
  rw [hvictim]
  split
  · rfl
  · rw [show (beside a b x m s).qe = s.qe from rfl, ← evictStone_beside]
    split
    · rfl
    · rw [retireEntry_beside]

/-- A stone for a queue is put into a free place. -/
def placeStone (q : Nat) (d : Parts) (s : State) : State :=
  match (stonePlaces s).find? fun p => s.qe.stones.all fun t => t.place != p with
  | none => s
  | some p => { s with qe := { s.qe with
      stones := s.qe.stones ++ [⟨q, p, d⟩], slicesOn := s.qe.slicesOn ||| BitVec.ofNat 8 (2 ^ (p / 64)) } }

/-- A stone comes back from the eviction buffer. -/
def countHit (hit : Bool) (s : State) : State :=
  if hit then { s with qe := { s.qe with evbHits := inc s.qe.evbHits } } else s

/-- A queue whose stone is not in place gets one. -/
def fetchStone (q : Nat) (s : State) : State :=
  let entry := s.qe.evb.find? fun e => e.any fun x => x.queue == q
  placeStone q (((entry.bind id).map fun x => x.dirty).getD .clean) (countHit entry.isSome s)

theorem touch_eq (q : Nat) (s : State) : touch q s = match s.qe.stones.find? fun t => t.queue == q with
    | some t => { s with qe := { s.qe with stones := (s.qe.stones.filter fun u => u.queue != q) ++ [t] } }
    | none => fetchStone q (if (stonePlaces s).length ≤ s.qe.stones.length then freeStone s else s) := by
  unfold touch fetchStone placeStone countHit
  generalize stonePlaces = places
  rfl

theorem placeStone_beside (q : Nat) (d : Parts) :
    placeStone q d (beside a b x m s) = beside a b x m (placeStone q d s) := by
  unfold placeStone
  rw [show (beside a b x m s).qe = s.qe from rfl, show stonePlaces (beside a b x m s) = stonePlaces s from rfl]
  split <;> rfl

theorem countHit_beside (hit : Bool) : countHit hit (beside a b x m s) = beside a b x m (countHit hit s) := by
  cases hit <;> rfl

theorem fetchStone_beside (q : Nat) : fetchStone q (beside a b x m s) = beside a b x m (fetchStone q s) := by
  unfold fetchStone
  rw [show (beside a b x m s).qe = s.qe from rfl]
  dsimp only
  rw [countHit_beside, placeStone_beside]

theorem touch_beside (h : m.commits = s.radio.commits) (q : Nat) :
    touch q (beside a b x m s) = beside a b x m (touch q s) := by
  rw [touch_eq, touch_eq, show (beside a b x m s).qe = s.qe from rfl]
  split
  · rfl
  · rw [← fetchStone_beside, freeStone_beside h]
    exact congrArg (fetchStone q) (apply_ite ..).symm

theorem stageRel_beside (q : Nat) (inCh : Bool) (seq : Word) :
    stageRel q inCh seq (beside a b x m s) = beside a b x m (stageRel q inCh seq s) := by
  unfold stageRel
  rw [show (beside a b x m s).jrn = s.jrn from rfl]
  split <;> rfl

/-- The loss of a frame of the output chain waits for its release. -/
def noteLost (q : Nat) (seq : Word) (s : State) : State :=
  { s with jrn := { s.jrn with lost := s.jrn.lost ++ [(q, false, seq)] } }

theorem releaseLost_eq (q : Nat) (seq : Word) (s : State) : releaseLost q false seq s =
    if (getQueue s q).outCh.isEmpty then stageRelease q false seq (noteLost q seq s) else noteLost q seq s := rfl

theorem releaseLost_beside (q : Nat) (seq : Word) :
    releaseLost q false seq (beside a b x m s) = beside a b x m (releaseLost q false seq s) := by
  have hrelease : ∀ t, stageRelease q false seq (beside a b x m t) = beside a b x m (stageRelease q false seq t) :=
    fun t => stageRel_beside (s := { t with jrn := _ }) ..
  have hnote : noteLost q seq (beside a b x m s) = beside a b x m (noteLost q seq s) := rfl
  rw [releaseLost_eq, releaseLost_eq, hnote, hrelease, show getQueue (beside a b x m s) q = getQueue s q from rfl]
  split <;> rfl

theorem postRepair_beside (tag arg : Nat) :
    postRepair tag arg (beside a b x m s) = beside a b x m (postRepair tag arg s) :=
  post_beside (s := logEvent evRepair (BitVec.ofNat 16 tag) (BitVec.ofNat 32 arg)
    { s with repair := { s.repair with repairCount := inc s.repair.repairCount } }) ..

theorem markParts_beside (q : Nat) (f : Parts → Parts) :
    markParts q f (beside a b x m s) = beside a b x m (markParts q f s) := by
  unfold markParts
  rw [show guarded (beside a b x m s) q = guarded s q from rfl]
  split <;> rfl

theorem loseFrames_beside (q keep : Nat) :
    loseFrames q false keep true (beside a b x m s) = beside a b x m (loseFrames q false keep true s) := by
  have hcount : ∀ n t, countLost q n (beside a b x m t) = beside a b x m (countLost q n t) := fun n t =>
    postRepair_beside (s := { t with qe := _ }) ..
  have hset : ∀ v, setQueue q v (beside a b x m s) = beside a b x m (setQueue q v s) := fun _ => rfl
  unfold loseFrames
  rw [show getQueue (beside a b x m s) q = getQueue s q from rfl,
    show durable (beside a b x m s) q = durable s q from rfl]
  simp only [Bool.false_eq_true, if_false, Bool.and_true]
  split
  · rfl
  · rw [hset, markParts_beside, ← hcount]
    refine congrArg (countLost q _) ?_
    split
    · split
      · exact releaseLost_beside ..
      · rfl
    · rfl

/-- What the MAC reads of a queue does not turn on the ports, the receiver or the radio's work, its commits apart
(R344). -/
theorem macRead_beside (h : m.commits = s.radio.commits) (q : Nat) :
    macRead q (beside a b x m s) = beside a b x m (macRead q s) := by
  have hdrop : ∀ t, dropUnreadable q false 0 (beside a b x m t) = beside a b x m (dropUnreadable q false 0 t) := by
    intro t
    unfold dropUnreadable
    rw [show getQueue (beside a b x m t) q = getQueue t q from rfl,
      show segmentLost (beside a b x m t) = segmentLost t from rfl]
    simp only [Bool.false_eq_true, if_false]
    split
    · split
      · exact loseFrames_beside ..
      · rfl
    · rfl
  unfold macRead
  rw [show isLocal (beside a b x m s) q = isLocal s q from rfl,
    show getQueue (beside a b x m s) q = getQueue s q from rfl]
  split
  · rfl
  · rw [touch_beside h, hdrop]

end
-- A radio command reaches the sequencer

theorem writeEffect_radioCmd (port : Port) (tag : Byte) (value : Bytes) (s : State) :
    writeEffect (writeRequest port tag K.radioCmd value) [] s = radioCommand (leNat value) s := by
  simp only [writeEffect, writeRequest_key port tag value (show K.radioCmd < 2 ^ 24 by decide)]
  rfl

/-- MAC.CMD with a command that passes its tests (R274). -/
theorem hostWrite_radioCmd {s : State} {c : Nat} (hc : c ∈ [1, 2, 3, 15]) (hready : s.sys.ready = true)
    (hgate : regGated s 0x4004 = false) (hstate : stateRefusal s K.radioCmd c true = none)
    (hbusy : busyRefusal s K.radioCmd c true = false) : hostWrite 0x4004 c [] s = radioCommand c s := by
  have hval : (regValue s 0x4004).isNone = false := rfl
  have hearly : earlyBlock 0x4004 = false := rfl
  have hfield : field c 0 4 = c ∧ (c == 1 || c == 2 || c == 3 || c == 15) = true := by
    simp only [List.mem_cons, List.not_mem_nil, or_false] at hc
    rcases hc with rfl | rfl | rfl | rfl <;> decide
  have hwrite : writeReg 0x4004 c [] s = radioCommand c s := by
    have hreg : writeReg 0x4004 c [] s = command 0x4004 K.radioCmd (field c 0 4)
        (field c 0 4 == 1 || field c 0 4 == 2 || field c 0 4 == 3 || field c 0 4 == 15)
            (radioCommand (field c 0 4)) s := rfl
    rw [hreg, hfield.1, hfield.2, command, hstate]
    dsimp only
    rw [hbusy]
    rfl
  rw [hostWrite, hval, hearly, hready, hgate, hwrite]
  rfl

theorem radioCommand_confined (c : Nat) (s : State) : Confined [.sup, .ring, .evtLost, .mortar, .jrn, .qe, .repair,
    .scarab, .rx, .radio, .swarm, .net, .clk, .draws] s (radioCommand c s) :=
  radioCommand_frame c s (frame_refl _ s) (hw := by decide)

/-- The state in which a control is carried out: the error of the transaction before is cleared, or the port has handed
the request over. -/
def startOf (via : Via) (s : State) : State := match via with
  | .register => cleared s
  | .dict port _ => atEngine port s

theorem startOf_beside (via : Via) (s : State) : ∃ a b, startOf via s = beside a b s.rx s.radio s := by
  cases via with
  | register => exact ⟨_, _, rfl⟩
  | dict port tag => cases port <;> exact ⟨_, _, rfl⟩

theorem confined_startOf (via : Via) (s : State) : Confined (viaParts via) s (startOf via s) := by
  cases via with
  | register => exact confined_setSpi ..
  | dict port tag => exact confined_atEngine port s

/-- A radio command has been carried out and acknowledged: `u` is what it left, `t` what stands after the answer. -/
structure Acknowledged (via : Via) (value : Bytes) (u t : State) : Prop where
  traffic : Confined (viaParts via) u t
  exch    : t.net.exch = u.net.exch
  told    : Told via K.radioCmd value t

/-- A radio command that passes its tests is carried out at once, from its register and from its entry (R274). -/
theorem control_radioCmd {via : Via} {c : Nat} {value : Bytes} {s : State} (hc : c ∈ [1, 2, 3, 15])
    (hvalue : leNat value = c) (h : Takes via 0x4004 K.radioCmd c value s) :
    Acknowledged via value (radioCommand c (startOf via s)) (control via 0x4004 K.radioCmd c value s) := by
  have hparts := radioCommand_confined c (startOf via s)
  cases via with
  | register =>
    obtain ⟨⟨⟨hpres, hrdy⟩, hgate⟩, hstate, hbusy⟩ := h
    have hwrite := hostWrite_radioCmd (s := cleared s) hc (rdy_ready (s := s) hrdy) hgate hstate hbusy
    have hrun : control .register 0x4004 K.radioCmd c value s =
        sent .spi (statusByte s :: zeros (7 + c8Len (cleared s)))
        (radioCommand c (cleared s)) := (hostRegister_of_spiPresent hpres ..).trans (congrArg _ hwrite)
    rw [hrun]
    exact ⟨confined_sent .spi _ _, rfl, congrArg Spi.err (hparts.same .spi (by decide))⟩
  | dict port tag =>
    obtain ⟨m, hm, -, hans⟩ := dictWrite_effect (w := [.sup, .ring, .evtLost, .mortar, .jrn, .qe, .repair, .scarab, .rx,
      .radio, .swarm, .net, .clk, .draws]) h (by decide) (by simp [engineKey]) (not_persisted_of_command (by simp))
      (by decide) fun u => by
        rw [writeEffect_radioCmd]
        exact radioCommand_confined ..
    have hrun : control (.dict port tag) 0x4004 K.radioCmd c value s = _ := hm
    have htold : Told (.dict port tag) K.radioCmd value (control (.dict port tag) 0x4004 K.radioCmd c value s) := hans
    rw [writeEffect_radioCmd, hvalue] at hrun
    refine ⟨?_, ?_, htold⟩
    · rw [hrun]
      exact confined_trans (confined_respond (writeRequest port tag K.radioCmd value) ..) (confined_sent port ..)
    · rw [hrun, sent_eq]
      unfold respond
      cases port <;> rfl

/-- Where a radio command changes nothing, the traffic of its port is all there is. -/
theorem confined_of_acknowledged {via : Via} {value : Bytes} {s t : State}
    (h : Acknowledged via value (startOf via s) t) :
    Confined (viaParts via) s t :=
  confined_trans (confined_startOf via s) h.traffic

theorem Acknowledged.radio {via : Via} {value : Bytes} {u t : State} (h : Acknowledged via value u t) :
    t.radio = u.radio ∧ t.rx = u.rx := by
  have hparts : ∀ p ∈ [Part.radio, .rx], p ∉ viaParts via := by
    cases via with
    | register => decide
    | dict port tag => cases port <;> simp [viaParts, portParts]
  exact ⟨h.traffic.same .radio (hparts _ (by simp)), h.traffic.same .rx (hparts _ (by simp))⟩

-- TX

/-- A state of the listen that fits whatever is drawn. -/
theorem listenFits_of_latest_none {j : TxJob} (h : j.latest = none) (s : State) (us : Nat) :
    listenFits s j us = true := by
  simp [listenFits, h]

/-- Channel access of a frame that the accountant lets pass: at once where it is exempt, behind a listen else (R277,
R280, R281). -/
theorem beginAccess_ready {j : TxJob} {s : State} (hd : dutyRefusal s j = none)
    (hl : ∀ k ≤ liveNat s K.lbtRand, listenFits s j (liveNat s K.lbtListen + k * 500) = true) :
    (beginAccess j s).radio.state = .synthUp ∧
      (exempt s j = true → (beginAccess j s).radio.up = .tx j) ∧
      (exempt s j = false → (beginAccess j s).radio.up = .cca ∧
        ∃ us, (beginAccess j s).radio.cca = some ⟨j, 0, true, false, us⟩) := by
  have hk : Config.draw s.draws % (liveNat s K.lbtRand + 1) ≤ liveNat s K.lbtRand :=
    Nat.le_of_lt_succ (Nat.mod_lt _ (Nat.succ_pos _))
  have hfits : listenFits s j (drawListen s).1 = true := hl _ hk
  unfold beginAccess
  rw [hd]
  cases he : exempt s j with
  | true =>
    dsimp only
    rw [if_pos rfl, startUp_radio]
    exact ⟨rfl, fun _ => rfl, nofun⟩
  | false =>
    dsimp only
    rw [if_neg Bool.false_ne_true, if_pos hfits, startUp_radio]
    exact ⟨rfl, nofun, fun _ => ⟨rfl, _, rfl⟩⟩

/-- TX of a node or relay with a frame that may start (R274, R344). -/
theorem radioTx_of_ready {f : Frame} {j : TxJob} {s : State} (hrole : s.sys.role ≠ .coordinator)
    (hf : outHead (macRead (liveNat s K.txQueue) s) (liveNat s K.txQueue) = some f)
    (hj : j = dataJob (macRead (liveNat s K.txQueue) s) (liveNat s K.txQueue) f)
    (hfits : j.fits (macRead (liveNat s K.txQueue) s) = true)
        (hcan : canStart (macRead (liveNat s K.txQueue) s) j = true) :
    radioTx s = beginAccess j (macRead (liveNat s K.txQueue) s) := by
  have hsys : (macRead (liveNat s K.txQueue) s).sys = s.sys :=
    (macRead_frame (w := [.ring, .evtLost, .mortar, .jrn, .qe, .repair]) _ s (frame_refl _ s) (hw := by decide)).same
      .sys (by decide)
  subst hj
  unfold radioTx
  dsimp only
  rw [hf]
  dsimp only
  rw [if_neg (by rw [hsys]; exact hrole), if_pos hfits, if_pos hcan]

/-- TX as it is carried out behind a port (R274). -/
theorem radioTx_startOf {via : Via} {f : Frame} {j : TxJob} {s u : State} (hrole : s.sys.role ≠ .coordinator)
    (hu : u = macRead (liveNat s K.txQueue) s) (hf : outHead u (liveNat s K.txQueue) = some f)
    (hj : j = dataJob u (liveNat s K.txQueue) f) (hfits : j.fits u = true) (hcan : canStart u j = true)
    (hd : dutyRefusal u j = none) :
    (radioTx (startOf via s)).radio.state = .synthUp ∧
      (exempt u j = true → (radioTx (startOf via s)).radio.up = .tx j) ∧
      (exempt u j = false → (radioTx (startOf via s)).radio.up = .cca ∧
        ∃ us, (radioTx (startOf via s)).radio.cca = some ⟨j, 0, true, false, us⟩) := by
  obtain ⟨a, b, hstart⟩ := startOf_beside via s
  have hframe := macRead_frame (w := [.ring, .evtLost, .mortar, .jrn, .qe, .repair]) (liveNat s K.txQueue) s
    (frame_refl _ s) (hw := by decide)
  have hrx : s.rx = u.rx := (hu ▸ hframe.same .rx (by decide)).symm
  have hradio : s.radio = u.radio := (hu ▸ hframe.same .radio (by decide)).symm
  have hread : macRead (liveNat (startOf via s) K.txQueue) (startOf via s) = beside a b u.rx u.radio u := by
    rw [hstart, show liveNat (beside a b s.rx s.radio s) K.txQueue = liveNat s K.txQueue from rfl, macRead_beside rfl,
      ← hu, hrx, hradio]
  have hqueue : liveNat (startOf via s) K.txQueue = liveNat s K.txQueue := by rw [hstart]; rfl
  have hsys : (startOf via s).sys = s.sys := by rw [hstart]; rfl
  have hlatest : j.latest = none := by rw [hj]; rfl
  have htx : radioTx (startOf via s) = beginAccess j (beside a b u.rx u.radio u) := by
    rw [← hread]
    refine radioTx_of_ready (f := f) (hsys ▸ hrole) ?_ ?_ ?_ ?_ <;> rw [hread]
    · rw [hqueue]
      exact hf
    · rw [hqueue]
      exact hj
    · exact hfits
    · exact hcan
  rw [htx]
  exact beginAccess_ready (s := beside a b u.rx u.radio u) hd fun k _ => listenFits_of_latest_none hlatest _ _

-- STOP and ABORT

theorem dropAttempt_radio (s : State) : (dropAttempt s).radio.cca = none ∧ (dropAttempt s).radio.up = .rx :=
  ⟨rfl, rfl⟩

/-- STOP ends reception at once where no frame is confirmed (R275). -/
theorem radioStop_of_rx {s : State} (h : s.radio.state = .rx) :
    (confirmed s = true → (radioStop s).radio = { s.radio with stopping := true }) ∧
    (confirmed s = false → (radioStop s).radio.rxOn = false ∧ (radioStop s).radio.cca = none ∧
      ((radioStop s).radio.state = .idle ∨ (radioStop s).radio.state = .off)) := by
  have hrun : radioStop s = if confirmed s then { s with radio := { s.radio with stopping := true } }
      else gotoIdle (cancelDets 6 (fun _ => true) (dropAttempt s)) := by
    unfold radioStop
    rw [h]
    rfl
  rw [hrun]
  refine ⟨fun hc => by rw [if_pos hc], fun hc => ?_⟩
  rw [if_neg (by rw [hc]; decide), gotoIdle_radio, cancelDets_radio]
  refine ⟨rfl, (dropAttempt_radio s).1, ?_⟩
  dsimp only
  split
  · exact .inl rfl
  · exact .inr rfl

theorem suppressAck_acks (n : Nat) (a : AckDue) (s : State) : (suppressAck n a s).radio.acks = s.radio.acks := by
  rw [suppressAck, post_radio]

theorem abandonAcks_acks (s : State) : (abandonAcks s).radio.acks = [] :=
  List.foldlRecOn (motive := fun t : State => t.radio.acks = []) _ _ rfl fun t ht a
      _ => (suppressAck_acks 4 a t).trans ht

theorem loseReception_none (n : Nat) (c : Path) (s : State) : reception (loseReception n c s) c = none := by
  unfold loseReception
  split
  next h => exact h
  · exact ((releaseGain_sameRx _).reception c).trans (reception_setReception_self ..)

theorem loseReceptions_none (s : State) : (loseReceptions s).rx.recA = none ∧ (loseReceptions s).rx.recB = none :=
  ⟨(loseReception_rxKept 7 .b _).reception_none (c := .a) (loseReception_none 7 .a s), loseReception_none 7 .b _⟩

/-- A halt leaves nothing to send or to acknowledge, no exchange and no frame in reception. -/
theorem halt_ends (n : Nat) (s : State) : (halt n s).radio.tx = none ∧ (halt n s).radio.acks = [] ∧
    (halt n s).net.exch = none ∧ (halt n s).rx.recA = none ∧ (halt n s).rx.recB = none := by
  have hradio : ∀ t, (loseReceptions t).radio = t.radio := fun t =>
    (loseReceptions_frame (w := [.ring, .evtLost, .rx, .draws]) t (frame_refl _ t) (hw := by decide)).same .radio
      (by decide)
  have hacks : (halted n s).radio.acks = [] := by
    show (cancelDets n (fun _ => true) (loseReceptions (abandonAcks (paOff s)))).radio.acks = []
    rw [cancelDets_radio, hradio, abandonAcks_acks]
  have hsame := cancelDets_sameRx n (fun _ => true) (loseReceptions (abandonAcks (paOff s)))
  obtain ⟨hA, hB⟩ := loseReceptions_none (abandonAcks (paOff s))
  have hrecA : (halted n s).rx.recA = none := hsame.recA.trans hA
  have hrecB : (halted n s).rx.recB = none := hsame.recB.trans hB
  rw [halt_eq]
  split
  · exact ⟨rfl, hacks, rfl, hrecA, hrecB⟩
  split
  · exact ⟨rfl, hacks, rfl, hrecA, hrecB⟩
  · have hnet : (gotoIdle (halted n s)).net = (halted n s).net :=
      (gotoIdle_frame (w := [.sup, .ring, .evtLost, .scarab, .rx, .radio, .draws]) _ (frame_refl _ _)
        (hw := by decide)).same .net (by decide)
    have hidle := gotoIdle_sameRx (halted n s)
    rw [hnet, gotoIdle_radio]
    exact ⟨rfl, hacks, rfl, hidle.recA.trans hrecA, hidle.recB.trans hrecB⟩

theorem radioAbort_of_active {s : State} (hi : s.radio.state ≠ .idle) (ho : s.radio.state ≠ .off)
    (hs : s.radio.state ≠ .sleep) : radioAbort s = halt 6 s :=
  if_neg (by simp [hi, ho, hs])

theorem radioAbort_of_quiet {s : State} (h : s.radio.state = .idle ∨ s.radio.state = .off ∨ s.radio.state = .sleep) :
    radioAbort s = s :=
  if_pos (by rcases h with h | h | h <;> simp [h])

/-- Settles O39. -/
theorem radioCommandsAct : Obligations.RadioCommandsAct := by
  intro via s
  obtain ⟨a, b, hstart⟩ := startOf_beside via s
  have hradio : (startOf via s).radio = s.radio := by rw [hstart]; rfl
  refine ⟨fun h hst => ?_, fun h hst => ?_, fun h hst => ?_, fun f j u h hrole hu hf hj hfits hcan hd => ?_, fun h =>
    ⟨fun hi ho hs => ?_, fun hst => ?_⟩⟩
  · have hack := control_radioCmd (by decide) (by decide) h
    have hrun : radioCommand 1 (startOf via s) = startRx (startOf via s) :=
      (if_pos rfl).trans (if_pos (by rw [hradio, hst]; rfl))
    rw [hrun] at hack
    refine ⟨_, rfl, ?_⟩
    rw [hack.radio.1, startRx_radio]
    refine ⟨rfl, rfl, ?_, hack.told⟩
    rw [hstart]
    rfl
  · have hack := control_radioCmd (by decide) (by decide) h
    have hrun : radioCommand 1 (startOf via s) = startOf via s :=
      (if_pos rfl).trans (if_neg (by rw [hradio]; rcases hst with h | h <;> rw [h] <;> decide))
    rw [hrun] at hack
    exact ⟨_, rfl, confined_of_acknowledged hack, hack.told⟩
  · have hack := control_radioCmd (by decide) (by decide) h
    have hconf : confirmed (startOf via s) = confirmed s := by rw [hstart]; rfl
    obtain ⟨hlater, hnow⟩ := radioStop_of_rx (s := startOf via s) (by rw [hradio, hst])
    have hrun : radioCommand 2 (startOf via s) = radioStop (startOf via s) := rfl
    rw [hrun] at hack
    rw [hconf] at hlater hnow
    refine ⟨_, rfl, hack.told, fun hc => ?_, fun hc => ?_⟩
    · rw [hack.radio.1, hlater hc, hradio]
    · rw [hack.radio.1]
      exact hnow hc
  · have hack := control_radioCmd (by decide) (by decide) h
    have hrun : radioCommand 3 (startOf via s) = radioTx (startOf via s) := rfl
    rw [hrun] at hack
    obtain ⟨hup, hex, hlisten⟩ := radioTx_startOf (via := via) hrole hu hf hj hfits hcan hd
    refine ⟨_, rfl, ?_⟩
    rw [hack.radio.1]
    exact ⟨hup, hack.told, hex, hlisten⟩
  · have hack := control_radioCmd (by decide) (by decide) h
    have hrun : radioCommand 15 (startOf via s) = halt 6 (startOf via s) :=
      radioAbort_of_active (by rwa [hradio]) (by rwa [hradio]) (by rwa [hradio])
    rw [hrun] at hack
    obtain ⟨hrxOn, hcca, hstate⟩ := halt_radio 6 (startOf via s)
    obtain ⟨htx, hacks, hexch, hA, hB⟩ := halt_ends 6 (startOf via s)
    refine ⟨_, rfl, hack.told, ?_⟩
    rw [hack.radio.1, hack.radio.2, hack.exch]
    refine ⟨htx, hcca, hacks, hrxOn, hexch, hA, hB, ?_⟩
    rcases hstate with h | h | h
    · exact .inr (.inl h)
    · exact .inr (.inr h)
    · exact .inl h
  · have hack := control_radioCmd (by decide) (by decide) h
    have hrun : radioCommand 15 (startOf via s) = startOf via s := radioAbort_of_quiet (by rwa [hradio])
    rw [hrun] at hack
    exact ⟨_, rfl, confined_of_acknowledged hack, hack.told⟩

end Sys2Proof.Machine
end

section
/-! SUPPORT. O40: channel access (R277 to R279), over what the radio's moves between its states leave of its other
work. -/

namespace Sys2Proof.Machine

open Sys2Proof.Safety

/-- A state of the sequencer in which it neither sends nor awaits an ACK. -/
def betweenFrames (x : RadioState) : Bool := x != .tx && x != .ackTx && x != .ackWait

/-- The radio has moved between its states at most: a transmission stays or ends, a listen goes on or ends, and its
other work stands. -/
structure RadioMoves (r s : State) : Prop where
  radio : s.radio = { r.radio with
    state := s.radio.state, rxOn := s.radio.rxOn, temp := s.radio.temp, stopping := s.radio.stopping, up := s.radio.up
    cca := s.radio.cca, tx := s.radio.tx, lo := s.radio.lo, lock := s.radio.lock, vco := s.radio.vco
    vcoAt := s.radio.vcoAt, ackSupp := s.radio.ackSupp, ccaBusy := s.radio.ccaBusy, ccaLast := s.radio.ccaLast
    dutyBlocks := s.radio.dutyBlocks }
  tx    : s.radio.tx = r.radio.tx ∨ s.radio.tx = none
  state : s.radio.state = r.radio.state ∨ betweenFrames s.radio.state = true

theorem RadioMoves.of_radio {r s : State} (h : s.radio = r.radio) : RadioMoves r s :=
  ⟨by rw [h], .inl (by rw [h]), .inl (by rw [h])⟩

theorem RadioMoves.refl (s : State) : RadioMoves s s := .of_radio rfl

theorem RadioMoves.of_confined {w : List Part} {r s : State} (h : Confined w r s) (hw : Part.radio ∉ w) :
    RadioMoves r s :=
  .of_radio (h.same .radio hw)

theorem RadioMoves.trans {r s t : State} (h : RadioMoves r s) (k : RadioMoves s t) : RadioMoves r t := by
  refine ⟨by rw [k.radio, h.radio], ?_, ?_⟩
  · rcases k.tx with hk | hk
    · rw [hk]
      exact h.tx
    · exact .inr hk
  · rcases k.state with hk | hk
    · rw [hk]
      exact h.state
    · exact .inr hk

theorem RadioMoves.ite {r a b : State} {c : Prop} [Decidable c] (ha : RadioMoves r a) (hb : RadioMoves r b) :
    RadioMoves r (if c then a else b) := by
  split
  · exact ha
  · exact hb

section
variable {r s : State} (h : RadioMoves r s)
include h

theorem RadioMoves.acks : s.radio.acks = r.radio.acks := by rw [h.radio]

theorem RadioMoves.commits : s.radio.commits = r.radio.commits := by rw [h.radio]

theorem RadioMoves.endedAt : s.radio.endedAt = r.radio.endedAt := by rw [h.radio]

theorem RadioMoves.onAir : s.radio.onAir = r.radio.onAir := by rw [h.radio]

theorem RadioMoves.vpa : s.radio.vpa = r.radio.vpa := by rw [h.radio]

theorem RadioMoves.ackSent : s.radio.ackSent = r.radio.ackSent := by rw [h.radio]

theorem RadioMoves.ackMiss : s.radio.ackMiss = r.radio.ackMiss := by rw [h.radio]

theorem RadioMoves.tx_none (hr : r.radio.tx = none) : s.radio.tx = none := h.tx.elim (·.trans hr) id

theorem RadioMoves.between (hr : betweenFrames r.radio.state = true) : betweenFrames s.radio.state = true :=
  h.state.elim (fun hs => hs ▸ hr) id

end

theorem post_radioMoves (code tag : Half) (arg : Word) (s : State) : RadioMoves s (post code tag arg s) :=
  .of_radio (post_radio ..)

theorem goto_radioMoves {x : RadioState} (hx : betweenFrames x = true) (s : State) : RadioMoves s (goto x s) :=
  ⟨rfl, .inl rfl, .inr hx⟩

theorem gotoIdle_radioMoves (s : State) : RadioMoves s (gotoIdle s) := by
  have hstate : betweenFrames (if radioPermitted s then RadioState.idle else .off) = true := by split <;> rfl
  refine ⟨?_, ?_, .inr ?_⟩ <;> rw [gotoIdle_radio]
  · exact .inl rfl
  · exact hstate

theorem startUp_radioMoves (u : UpFor) (s : State) : RadioMoves s (startUp u s) := by
  refine ⟨?_, ?_, .inr ?_⟩ <;> rw [startUp_radio]
  · exact .inl rfl
  · rfl

/-- A calibration sets the VCO's bands alone (R203). -/
theorem calibrateOnLock_radio (s : State) :
    ∃ v va, (calibrateOnLock s).radio = { s.radio with vco := v, vcoAt := va } := by
  unfold calibrateOnLock
  split
  · exact ⟨_, _, rfl⟩
  · exact ⟨_, _, rfl⟩

theorem calibrateOnLock_radioMoves (s : State) : RadioMoves s (calibrateOnLock s) :=
  .ite (.refl s) ⟨rfl, .inl rfl, .inl rfl⟩

theorem setMosaic_radio (m : BitVec 2) (s : State) : (setMosaic m s).radio = s.radio :=
  (setMosaic_frame (w := [.ring, .evtLost, .scarab, .rx, .draws]) m s (frame_refl _ s) (hw := by decide)).same .radio
    (by decide)

/-- The return to reception or to IDLE ends the transmission; the sequencer is between frames. -/
theorem goReturn_moves (s : State) : RadioMoves s (goReturn s) ∧ (goReturn s).radio.tx = none ∧
    betweenFrames (goReturn s).radio.state = true ∧ (goReturn s).radio.cca = s.radio.cca ∧
    (goReturn s).radio.ackSupp = s.radio.ackSupp ∧ (goReturn s).radio.ccaBusy = s.radio.ccaBusy ∧
    (goReturn s).radio.ccaLast = s.radio.ccaLast := by
  have hset : ∀ m, (setMosaic m { s with radio := { s.radio with tx := none, up := .rx } }).radio =
      { s.radio with tx := none, up := .rx } := fun m => setMosaic_radio ..
  unfold goReturn
  extract_lets m src t
  have ht : t.radio = { s.radio with tx := none, up := .rx } := hset m
  have hst : RadioMoves s t := by
    refine ⟨?_, ?_, ?_⟩ <;> rw [ht]
    · exact .inr rfl
    · exact .inl rfl
  have hresume : ∀ u : State, u = resumeRx t ∨ u = gotoIdle t → RadioMoves s u ∧ u.radio.tx = none ∧
      betweenFrames u.radio.state = true ∧ u.radio.cca = s.radio.cca ∧ u.radio.ackSupp = s.radio.ackSupp ∧
      u.radio.ccaBusy = s.radio.ccaBusy ∧ u.radio.ccaLast = s.radio.ccaLast := by
    have hidle : RadioMoves s (gotoIdle t) ∧ (gotoIdle t).radio.tx = none ∧
        betweenFrames (gotoIdle t).radio.state = true ∧ (gotoIdle t).radio.cca = s.radio.cca ∧
        (gotoIdle t).radio.ackSupp = s.radio.ackSupp ∧ (gotoIdle t).radio.ccaBusy = s.radio.ccaBusy ∧
        (gotoIdle t).radio.ccaLast = s.radio.ccaLast := by
      refine ⟨hst.trans (gotoIdle_radioMoves t), ?_⟩
      rw [gotoIdle_radio, ht]
      exact ⟨rfl, by dsimp only; split <;> rfl, rfl, rfl, rfl, rfl⟩
    rintro u (rfl | rfl)
    · unfold resumeRx
      split
      · refine ⟨hst.trans ?_, ?_⟩
        · exact (RadioMoves.trans (s := tune (rxLo t) t) ⟨rfl, .inl rfl, .inl rfl⟩
            (calibrateOnLock_radioMoves _)).trans (goto_radioMoves rfl _)
        · obtain ⟨v, va, hlock⟩ := calibrateOnLock_radio (tune (rxLo t) t)
          have htune : (tune (rxLo t) t).radio = { t.radio with lo := rxLo t } := rfl
          have hgoto : ∀ u : State, (goto .rx u).radio =
            { u.radio with state := .rx, lock := (goto .rx u).radio.lock } := fun _ => rfl
          rw [hgoto, hlock, htune, ht]
          exact ⟨rfl, rfl, rfl, rfl, rfl, rfl⟩
      · exact hidle
    · exact hidle
  split
  · exact hresume _ (.inl rfl)
  · exact hresume _ (.inr rfl)

theorem goReturn_radioMoves (s : State) : RadioMoves s (goReturn s) := (goReturn_moves s).1

theorem suppressOther_radioMoves (a : AckDue) (s : State) : RadioMoves s (suppressOther a s) := by
  refine RadioMoves.trans (s := { (freeBits 8 s).2 with radio := { (freeBits 8 s).2.radio with
    ackSupp := inc (freeBits 8 s).2.radio.ackSupp } }) ⟨rfl, .inl rfl, .inl rfl⟩ (post_radioMoves ..)

theorem dropAttempt_radioMoves (s : State) : RadioMoves s (dropAttempt s) := by
  have hset : ∀ t b c, RadioMoves t { t with radio := { t.radio with cca := none, up := .rx }, net := b, swarm := c } :=
    fun _ _ _ => ⟨rfl, .inl rfl, .inl rfl⟩
  unfold dropAttempt
  extract_lets jobs lost t
  have ht : RadioMoves s t := by
    show RadioMoves s (match upAck s with | some j => suppressOther (ackInHand j) s | none => s)
    cases upAck s
    · exact .refl s
    · exact suppressOther_radioMoves ..
  exact ht.trans (hset ..)

theorem endAttempt_radioMoves (s : State) : RadioMoves s (endAttempt s) :=
  (dropAttempt_radioMoves s).trans (goReturn_radioMoves _)

/-- The end of an attempt leaves no listen and no transmission. -/
theorem endAttempt_ends (s : State) : (endAttempt s).radio.cca = none ∧ (endAttempt s).radio.tx = none := by
  obtain ⟨-, htx, -, hcca, -⟩ := goReturn_moves (dropAttempt s)
  exact ⟨hcca.trans (dropAttempt_radio s).1, htx⟩

theorem busyListen_radioMoves (rssi : Option Int) (s : State) : RadioMoves s (busyListen rssi s) := by
  have hset : ∀ t : State, ∀ a b c d, RadioMoves t { t with
      radio := { t.radio with ccaBusy := a, ccaLast := b, cca := c }, draws := d } :=
    fun _ _ _ _ _ => ⟨rfl, .inl rfl, .inl rfl⟩
  unfold busyListen
  split
  · exact .refl s
  · extract_lets n last level src u v x w
    have hv : RadioMoves s v := (hset s _ _ _ s.draws).trans (post_radioMoves ..)
    exact .ite (.refl s) (.ite (.ite (hv.trans (endAttempt_radioMoves v)) (hv.trans (hset v _ _ none v.draws)))
      (hv.trans (hset v v.radio.ccaBusy v.radio.ccaLast _ _)))

theorem listenNow_radioMoves (s : State) : RadioMoves s (listenNow s) := by
  unfold listenNow ccaBusy
  split
  · exact .refl s
  · exact .ite (busyListen_radioMoves ..) (.refl s)

theorem nextListen_radioMoves (a : Attempt) (s : State) : RadioMoves s (nextListen a s) := by
  have hset : ∀ (t : State) b, RadioMoves t { t with radio := { t.radio with cca := b } } := fun _ _ =>
    ⟨rfl, .inl rfl, .inl rfl⟩
  have hdraw : RadioMoves s (drawListen s).2 := .of_radio rfl
  exact hdraw.trans (.ite (endAttempt_radioMoves _)
    ((hset ..).trans (.ite (listenNow_radioMoves _) (startUp_radioMoves ..))))

theorem settle_radioMoves (s : State) : RadioMoves s (settle s) := by
  have hresume : RadioMoves s (resumeAttempt s) := by
    unfold resumeAttempt
    split
    · exact .refl s
    · exact .ite (nextListen_radioMoves ..) (.refl s)
  exact .ite (gotoIdle_radioMoves s) hresume

/-- Where no listen goes on, what the radio has to do leaves even the counters of the listens and of the ACKs. -/
theorem settle_of_idle {s : State} (h : s.radio.cca = none) : settle s = s ∨ settle s = gotoIdle s := by
  have hresume : resumeAttempt s = s := by rw [resumeAttempt, h]
  unfold settle
  rw [hresume]
  split
  · exact .inr rfl
  · exact .inl rfl

-- The listens (R277 to R279)

section
variable {a : Attempt} {s : State}

theorem listenEnd_eq (hcca : s.radio.cca = some a) (hst : s.radio.state = .cca) (hl : a.listen = true)
    (hd : detected s (jobChan s a.job) = false) :
    listenEnd s = if maySend s a.job then (match dutyRefusal s a.job with
      | some why => endAttempt (postDutyBlock a.job why s)
      | none => startUp (.tx a.job) { s with radio := { s.radio with cca := none } }) else endAttempt s := by
  unfold listenEnd
  rw [hcca]
  dsimp only
  rw [hl, hst, hd]
  cases maySend s a.job <;> rfl

/-- What a busy listen counts and tells, before the attempt goes on or ends (R278). -/
def noteBusy (rssi : Option Int) (a : Attempt) (s : State) : State :=
  let level : Half := match rssi with
    | some x => clipRssi x
    | none => 0x8000
  post evCcaBusy 0 (BitVec.ofNat 32 ((a.busy + 1) % 256 + 256 * b2n (decide (liveNat s K.lbtTries ≤ a.busy + 1)) +
    65536 * level.toNat)) { s with radio := { s.radio with
      ccaBusy := inc s.radio.ccaBusy, ccaLast := if rssi.isSome then level else s.radio.ccaLast } }

theorem busyListen_eq {rssi : Option Int} (hcca : s.radio.cca = some a) (hl : a.listen = true) : busyListen rssi s =
    let v := noteBusy rssi a s
    if liveNat s K.lbtTries ≤ a.busy + 1 then
      (if v.radio.state == .cca then endAttempt v else { v with radio := { v.radio with cca := none } })
    else
      let x := draw (liveNat v K.lbtBoSlots - 1) v
      { x.2 with radio := { x.2.radio with cca := some { a with
        busy := a.busy + 1, listen := false, ready := false, us := (1 + x.1) * liveNat v K.lbtBoSlot } } } := by
  unfold busyListen
  rw [hcca]
  dsimp only
  rw [hl]
  simp only [Bool.not_true, Bool.false_eq_true, if_false, decide_eq_true_eq]
  rfl

theorem noteBusy_radio (rssi : Option Int) : (noteBusy rssi a s).radio = { s.radio with
    ccaBusy := inc s.radio.ccaBusy
    ccaLast := if rssi.isSome then (match rssi with
      | some x => clipRssi x
      | none => 0x8000) else s.radio.ccaLast } := by
  unfold noteBusy
  rw [post_radio]

/-- A listen that is busy below the last try counts and backs off (R278). -/
theorem busyListen_more {rssi : Option Int} (hcca : s.radio.cca = some a) (hl : a.listen = true)
    (hn : a.busy + 1 < liveNat s K.lbtTries) :
    ∃ k, 1 ≤ k ∧ (busyListen rssi s).radio = { (noteBusy rssi a s).radio with cca := some { a with
      busy := a.busy + 1, listen := false, ready := false, us := k * liveNat s K.lbtBoSlot } } := by
  have hlive : (noteBusy rssi a s).live = s.live := post_live ..
  have hslot : liveNat (noteBusy rssi a s) K.lbtBoSlot = liveNat s K.lbtBoSlot := by
    simp only [liveNat, liveBytes, hlive]
  rw [busyListen_eq hcca hl]
  dsimp only
  rw [if_neg (Nat.not_le.mpr hn), hslot]
  exact ⟨_, Nat.le_add_right .., rfl⟩

/-- The last try ends the attempt (R278). -/
theorem busyListen_last {rssi : Option Int} (hcca : s.radio.cca = some a) (hl : a.listen = true)
    (hst : s.radio.state = .cca) (hn : liveNat s K.lbtTries ≤ a.busy + 1) :
    busyListen rssi s = endAttempt (noteBusy rssi a s) := by
  have hstate : (noteBusy rssi a s).radio.state = .cca := by
    rw [noteBusy_radio]
    exact hst
  rw [busyListen_eq hcca hl]
  dsimp only
  rw [if_pos hn, hstate]
  rfl

theorem endAttempt_listens {s : State} (h : s.radio.state ≠ .synthUp) :
    (endAttempt s).radio.ccaBusy = s.radio.ccaBusy ∧ (endAttempt s).radio.ccaLast = s.radio.ccaLast := by
  obtain ⟨-, -, -, -, -, hbusy, hlast⟩ := goReturn_moves (dropAttempt s)
  have hack : upAck s = none := by
    unfold upAck
    split
    next hs _ => exact absurd hs h
    next => rfl
  have hdrop : (dropAttempt s).radio = { s.radio with cca := none, up := .rx } := by
    unfold dropAttempt
    rw [hack]
  exact ⟨hbusy.trans (by rw [hdrop]), hlast.trans (by rw [hdrop])⟩

/-- A busy channel counts, whatever becomes of the attempt (R278). -/
theorem ccaBusy_counts {x : Int} (hcca : s.radio.cca = some a) (hst : s.radio.state = .cca)
    (hbusy : (listenPaths s a.job).any (fun p => decide (ccaThr s (p == .b) ≤ x)) = true) :
    ccaBusy (some x) s = busyListen (some x) s := by
  unfold ccaBusy
  rw [hcca]
  refine if_pos ((Bool.and_eq_true ..).mpr ⟨hbusy, ?_⟩)
  rw [hst]
  rfl

theorem listenNow_of_clear (hcca : s.radio.cca = some a) (hd : detected s (jobChan s a.job) = false) :
    listenNow s = s := by
  unfold listenNow ccaBusy
  rw [hcca]
  dsimp only
  rw [hd]
  rfl

theorem resumeAttempt_of_ready (hcca : s.radio.cca = some a) (hr : a.ready = true) (hst : s.radio.state = .cca)
    (hconf : confirmed s = false) (hacks : s.radio.acks = []) (hcommits : s.radio.commits = []) :
    resumeAttempt s = nextListen a s := by
  unfold resumeAttempt
  rw [hcca]
  dsimp only
  rw [hr, hst, hconf, hacks, hcommits]
  rfl

/-- The next listen of an attempt that may send, on a channel where nothing is detected (R278). -/
theorem nextListen_clear (hst : s.radio.state = .cca) (hsend : maySend s a.job = true)
    (hd : detected s (jobChan s a.job) = false)
    (hfit : ∀ k ≤ liveNat s K.lbtRand, listenFits s a.job (liveNat s K.lbtListen + k * 500) = true) :
    ∃ k ≤ liveNat s K.lbtRand, (nextListen a s).radio = { s.radio with cca := some { a with
      listen := true, ready := false, us := liveNat s K.lbtListen + k * 500 } } := by
  have hk : Config.draw s.draws % (liveNat s K.lbtRand + 1) ≤ liveNat s K.lbtRand :=
    Nat.le_of_lt_succ (Nat.mod_lt _ (Nat.succ_pos _))
  refine ⟨_, hk, ?_⟩
  have hfits : listenFits s a.job (drawListen s).1 = true := hfit _ hk
  unfold nextListen
  dsimp only
  rw [hsend, hfits]
  simp only [Bool.not_true, Bool.or_self, Bool.false_eq_true, if_false]
  have hstate : ((drawListen s).2.radio.state == .cca) = true := beq_iff_eq.mpr hst
  rw [if_pos hstate]
  exact congrArg State.radio (listenNow_of_clear (s := { (drawListen s).2 with radio := { s.radio with
    cca := some { a with listen := true, ready := false, us := (drawListen s).1 } } }) rfl hd)

end

/-- Settles O40. -/
theorem channelAccessProceeds : Obligations.ChannelAccessProceeds := by
  intro a s hw hcca
  refine ⟨fun hst hl => ⟨fun hd => ⟨fun hsend hduty => ?_, fun hsend => ?_⟩, fun x hbusy => ?_⟩,
    fun hl hst hconf hacks hcommits hd hsend hfit => ?_⟩
  · refine ⟨_, congrArg Host.Outcome.next (present_of_works hw), ?_⟩
    rw [listenEnd_eq hcca hst hl hd, if_pos hsend, hduty]
    dsimp only
    rw [startUp_radio]
    exact ⟨rfl, rfl, rfl, rfl⟩
  · refine ⟨_, congrArg Host.Outcome.next (present_of_works hw), ?_⟩
    rw [listenEnd_eq hcca hst hl hd, if_neg (by rw [hsend]; decide)]
    exact endAttempt_ends s
  · refine ⟨_, congrArg Host.Outcome.next (present_of_works hw), ?_⟩
    rw [ccaBusy_counts hcca hst hbusy]
    by_cases hn : liveNat s K.lbtTries ≤ a.busy + 1
    · have hnoted := noteBusy_radio (a := a) (s := s) (some x)
      have hstate : (noteBusy (some x) a s).radio.state ≠ .synthUp := by
        rw [hnoted]
        simp [hst]
      obtain ⟨hcount, hlast⟩ := endAttempt_listens hstate
      rw [busyListen_last hcca hl hst hn]
      refine ⟨hcount.trans (by rw [hnoted]), hlast.trans (by rw [hnoted]; rfl), fun hm => absurd hn (Nat.not_le.mpr hm),
        fun _ => (endAttempt_ends _).1⟩
    · obtain ⟨k, hk, hradio⟩ := busyListen_more (rssi := some x) hcca hl (Nat.not_le.mp hn)
      rw [hradio, noteBusy_radio]
      exact ⟨rfl, rfl, fun _ => ⟨k, hst, hk, rfl⟩, fun hm => absurd hm hn⟩
  · have hresume : backoffEnd s = nextListen { a with ready := true }
        { s with radio := { s.radio with cca := some { a with ready := true } } } := by
      unfold backoffEnd
      rw [hcca]
      dsimp only
      rw [if_neg (by rw [hl]; decide)]
      exact resumeAttempt_of_ready (s := { s with radio := { s.radio with cca := some { a with ready := true } } }) rfl
        rfl hst hconf hacks hcommits
    obtain ⟨k, hk, hradio⟩ := nextListen_clear (a := { a with ready := true })
      (s := { s with radio := { s.radio with cca := some { a with ready := true } } }) hst hsend hd hfit
    refine ⟨_, k, congrArg Host.Outcome.next (present_of_works hw), ?_⟩
    rw [hresume, hradio]
    exact ⟨hst, hk, rfl⟩

end Sys2Proof.Machine
end

section
/-! SUPPORT. O42: the ends of transmissions, the antenna's verdict and the ACK that is due (R38, R207, R208, R284 to
R286). -/

namespace Sys2Proof.Machine

open Sys2Proof.Safety

-- What the choice of mode and channels reads (R212, R263)

/-- What the mode and the channels of reception are chosen from is the same. -/
structure SameBand (r s : State) : Prop where
  live    : s.live = r.live
  role    : s.sys.role = r.sys.role
  inForce : s.radio.inForce = r.radio.inForce
  id      : s.id = r.id
  pathsOk : s.rx.pathsOk = r.rx.pathsOk
  second  : s.rx.second = r.rx.second
  mosaic  : s.rx.mosaic = r.rx.mosaic

section
variable {r s : State} (h : SameBand r s)
include h

theorem SameBand.liveNat : Machine.liveNat s = Machine.liveNat r := by
  funext key
  rw [Machine.liveNat, Machine.liveNat, liveBytes, liveBytes, h.live]

theorem SameBand.liveBool : Machine.liveBool s = Machine.liveBool r := by
  funext key
  rw [Machine.liveBool, Machine.liveBool, h.liveNat]

theorem SameBand.phyNat : Machine.phyNat s = Machine.phyNat r := by
  funext key
  rw [Machine.phyNat, Machine.phyNat, h.inForce, h.liveNat]

theorem SameBand.pathUsable : Machine.pathUsable s = Machine.pathUsable r := by
  funext p
  cases p <;> simp only [Machine.pathUsable, h.pathsOk, h.liveBool]

theorem SameBand.modeEff : Machine.modeEff s = Machine.modeEff r := by
  rw [Machine.modeEff, Machine.modeEff, h.phyNat, h.liveBool, h.pathUsable]

theorem SameBand.pathsOf : Machine.pathsOf s = Machine.pathsOf r := by
  funext p
  cases p <;> rw [Machine.pathsOf, Machine.pathsOf, h.modeEff]
  · rw [h.pathUsable]
  · rw [h.second]

theorem SameBand.chanHz : Machine.chanHz s = Machine.chanHz r := by
  funext b
  rw [Machine.chanHz, Machine.chanHz, h.phyNat]

theorem SameBand.modeOk : modeOk s = modeOk r := by
  have hlegal : modeLegal s = modeLegal r := by
    rw [modeLegal, modeLegal, h.phyNat, h.chanHz, h.liveBool, h.role]
  rw [Machine.modeOk, Machine.modeOk, hlegal, h.pathsOf]

theorem SameBand.rxChannelsOk : rxChannelsOk s = rxChannelsOk r := by
  have hchannel : channelOk s = channelOk r := by
    funext f mosaic
    rw [channelOk, channelOk, h.phyNat, allowedBands, allowedBands, regionCode, regionCode, h.id]
  have hpath : pathMosaic s = pathMosaic r := by
    funext b
    rw [pathMosaic, pathMosaic, h.mosaic, h.modeEff]
  rw [Machine.rxChannelsOk, Machine.rxChannelsOk, hchannel, h.chanHz, hpath, h.modeEff]

end

/-- Of the receiver the provisional readings and the frozen gains differ at most. -/
def SameGear (r s : State) : Prop :=
  s.rx = { r.rx with provA := s.rx.provA, provB := s.rx.provB, gainA := s.rx.gainA, gainB := s.rx.gainB }

theorem SameGear.trans {r s t : State} (h : SameGear r s) (k : SameGear s t) : SameGear r t := by
  unfold SameGear at *
  rw [k, h]

theorem SameGear.ite {r a b : State} {c : Prop} [Decidable c] (ha : SameGear r a) (hb : SameGear r b) :
    SameGear r (if c then a else b) := by
  split
  · exact ha
  · exact hb

theorem discardProv_sameGear (d : Det) (s : State) : SameGear s (discardProv d s) := by
  have hset : ∀ t a b c, SameGear t { t with rx := { t.rx with provA := a, provB := b }, draws := c } :=
      fun _ _ _ _ => rfl
  unfold discardProv
  extract_lets e left held src x src' src'' t
  have ht : SameGear s t := by
    refine .ite rfl ?_
    split
    · exact hset s _ s.rx.provB s.draws
    · exact .ite rfl (hset s _ s.rx.provB _)
  refine .ite ht ?_
  split
  · exact ht.trans (hset t t.rx.provA _ t.draws)
  · exact .ite ht (ht.trans (hset t t.rx.provA _ _))

theorem cancelDets_sameGear (n : Nat) (p : Det → Bool) (s : State) : SameGear s (cancelDets n p s) := by
  have hone : ∀ d t, SameGear t (cancelDet n d t) := by
    intro d t
    have hrel : ∀ u, SameGear u (releaseGain u) := fun _ => rfl
    have hpost : ∀ c a b (u : State), SameGear u (post c a b u) := fun c a b u => by
      unfold SameGear
      rw [post_rx]
    have hset : ∀ a, SameGear t { t with scarab := a } := fun _ => rfl
    exact (((hset _).trans (hpost ..)).trans (discardProv_sameGear ..)).trans (hrel _)
  exact List.foldlRecOn _ _ rfl fun t ht d _ => SameGear.trans ht (hone d t)

/-- What the choice of the Mosaic channels leaves of the receiver: under HOT it ends the second channel (R67). -/
theorem setMosaic_rx (m : BitVec 2) (s : State) : (setMosaic m s).rx.pathsOk = s.rx.pathsOk ∧
    (setMosaic m s).rx.mosaic = m ∧
    (setMosaic m s).rx.second = (s.rx.second || (hot s && modeEff s == 3 && m != 0 && s.rx.recB.isNone)) := by
  have hcancel : ∀ t, SameGear t (cancelDets 7 (fun d => d.seen.chan == .b) t) := cancelDets_sameGear 7 _
  have hrun : setMosaic m s = if hot s && modeEff s == 3 && m != 0 && s.rx.recB.isNone && !s.rx.second then
      { cancelDets 7 (fun d => d.seen.chan == .b) { s with rx := { s.rx with mosaic := m } } with
        rx := { (cancelDets 7 (fun d => d.seen.chan == .b) { s with rx := { s.rx with mosaic := m } }).rx with
            second := true } }
      else { s with rx := { s.rx with mosaic := m } } := rfl
  have hrx := hcancel { s with rx := { s.rx with mosaic := m } }
  unfold SameGear at hrx
  rw [hrun]
  cases hc : hot s && modeEff s == 3 && m != 0 && s.rx.recB.isNone with
  | false =>
    rw [Bool.false_and, Bool.or_false]
    exact ⟨rfl, rfl, rfl⟩
  | true =>
    cases hs : s.rx.second with
    | true => exact ⟨rfl, rfl, hs⟩
    | false =>
      rw [if_pos (show (true && !false) = true from rfl)]
      dsimp only
      rw [hrx]
      exact ⟨rfl, rfl, rfl⟩

/-- The choice of the Mosaic channels reads no more than the mode's own settings, the paths, the temperature and the
frame in reception. -/
theorem setMosaic_sameBand {r s : State} (h : SameBand r s) (hsup : s.sup = r.sup) (hrec : s.rx.recB = r.rx.recB)
    (m : BitVec 2) : SameBand (setMosaic m r) (setMosaic m s) := by
  have hframe := fun t => setMosaic_frame (w := [.ring, .evtLost, .scarab, .rx, .draws]) m t (frame_refl _ t)
    (hw := by decide)
  obtain ⟨hpr, hmr, hsr⟩ := setMosaic_rx m r
  obtain ⟨hps, hms, hss⟩ := setMosaic_rx m s
  have hlive : ∀ t, (setMosaic m t).live = t.live := fun t => (hframe t).same .live (by decide)
  have hsys : ∀ t, (setMosaic m t).sys = t.sys := fun t => (hframe t).same .sys (by decide)
  have hid : ∀ t, (setMosaic m t).id = t.id := fun t => (hframe t).same .id (by decide)
  refine ⟨?_, ?_, ?_, ?_, ?_, ?_, hms.trans hmr.symm⟩
  · rw [hlive, hlive, h.live]
  · rw [hsys, hsys, h.role]
  · rw [setMosaic_radio, setMosaic_radio, h.inForce]
  · rw [hid, hid, h.id]
  · rw [hps, hpr, h.pathsOk]
  · rw [hss, hsr, h.second, h.modeEff, hrec, hot, hot, hsup]

-- The PA goes off (R38)

/-- The PA's end clears the air, VPA and the antenna's report at most (R38, R207). -/
theorem paOff_radio (s : State) : ∃ p b, (paOff s).radio = { s.radio with
    onAir := none, vpa := 0, antPost := p, antBad := b } := by
  unfold paOff postAntFault
  split
  · exact ⟨_, _, rfl⟩
  · rw [post_radio]
    exact ⟨_, _, rfl⟩

section
variable {j : TxJob} {s : State}

/-- An ACK that has been sent counts, and the radio goes on (R284). -/
theorem txEnd_ack (htx : s.radio.tx = some j) (hst : s.radio.state = .ackTx) :
    txEnd s = settle (goReturn (paOff { s with radio := { s.radio with
      endedAt := s.timer.time.toNat, ackSent := inc s.radio.ackSent } })) := by
  unfold txEnd
  rw [htx]
  exact if_pos (by rw [hst]; rfl)

/-- What is sent but no ACK ends at once, or leads to the wait for its ACK or its reply (R286, R303). -/
theorem txEnd_of_tx (htx : s.radio.tx = some j) (hst : s.radio.state = .tx) :
    txEnd s =
      let u := paOff { s with radio := { s.radio with endedAt := s.timer.time.toNat } }
      if j.frame.ar then awaitAck j u
      else if j.kind = .data then goReturn (awaitReply u)
      else if j.kind = .poll then goReturn (awaitReply (postTxDonePlain j u))
      else settle (goReturn (postTxDonePlain j u)) := by
  unfold txEnd
  rw [htx]
  exact (if_neg (by rw [hst]; decide)).trans (if_neg (by rw [hst]; decide))

/-- The wait for an ACK: the receiver is powered, and the frame stays in hand (R286). -/
theorem awaitAck_facts (j : TxJob) {s : State} (ha : asleep s = false) (hp : s.sup.power ≠ .off) :
    (awaitAck j s).radio.state = .ackWait ∧ (awaitAck j s).sup.power = .rx ∧ (awaitAck j s).radio.tx = s.radio.tx ∧
      (awaitAck j s).radio.onAir = s.radio.onAir ∧ (awaitAck j s).radio.vpa = s.radio.vpa ∧
      (awaitAck j s).radio.endedAt = s.radio.endedAt := by
  unfold awaitAck
  extract_lets u
  have hu : u.radio = s.radio ∧ u.sup = s.sup := by
    show (if _ then _ else _ : State).radio = _ ∧ (if _ then _ else _ : State).sup = _
    split
    · exact ⟨setMosaic_radio .., (setMosaic_frame (w := [.ring, .evtLost, .scarab, .rx, .draws]) _ s (frame_refl _ s)
        (hw := by decide)).same .sup (by decide)⟩
    · exact ⟨rfl, rfl⟩
  obtain ⟨v, va, hlock⟩ := calibrateOnLock_radio (tune (listenLo u j) u)
  have hsup : (calibrateOnLock (tune (listenLo u j) u)).sup = s.sup :=
    ((calibrateOnLock_frame (w := [.radio, .draws]) _ (frame_refl _ _) (hw := by decide)).same .sup (by decide)).trans
        hu.2
  have htune : (tune (listenLo u j) u).radio = { s.radio with lo := listenLo u j } := by rw [← hu.1]; rfl
  have hpower : (goto .ackWait (calibrateOnLock (tune (listenLo u j) u))).sup.power = .rx := by
    have hwake : (asleep (calibrateOnLock (tune (listenLo u j) u)) ||
        (calibrateOnLock (tune (listenLo u j) u)).sup.power == .off) = false := by
      rw [asleep, hsup, Bool.or_eq_false_iff]
      exact ⟨ha, beq_false_of_ne hp⟩
    exact if_neg (by rw [hwake]; decide)
  refine ⟨rfl, hpower, ?_⟩
  have hgoto : (goto .ackWait (calibrateOnLock (tune (listenLo u j) u))).radio =
      { (calibrateOnLock (tune (listenLo u j) u)).radio with state := .ackWait, lock :=
        (goto .ackWait (calibrateOnLock (tune (listenLo u j) u))).radio.lock } := rfl
  rw [hgoto, hlock, htune]
  exact ⟨rfl, rfl, rfl, rfl⟩

/-- A device in work is neither asleep nor off. -/
theorem awake_of_works (h : Works s) : asleep s = false ∧ s.sup.power ≠ .off := by
  have habs : absent s = false := h
  simp only [absent, Bool.or_eq_false_iff, beq_eq_false_iff_ne] at habs
  exact ⟨habs.1.1, habs.2⟩

/-- Reception goes on after a transmission where it was on and the mode allows it. -/
theorem goReturn_receives (hon : s.radio.rxOn = true) (hstop : s.radio.stopping = false)
    (hmode : ∀ m, modeOk (setMosaic m s) = true ∧ rxChannelsOk (setMosaic m s) = true) :
    (goReturn s).radio.state = .rx ∧ (goReturn s).radio.rxOn = true ∧ (goReturn s).radio.tx = none := by
  unfold goReturn
  extract_lets m src t
  have ht : t.radio = { s.radio with tx := none, up := .rx } := setMosaic_radio ..
  have hband : SameBand (setMosaic m s) t :=
    setMosaic_sameBand (r := s) (s := { s with radio := { s.radio with tx := none, up := .rx } })
      ⟨rfl, rfl, rfl, rfl, rfl, rfl, rfl⟩ rfl rfl m
  have hcond : ((t.radio.rxOn && !t.radio.stopping) || confirmed t || t.radio.cca.isSome) = true := by
    rw [ht]
    simp [hon, hstop]
  rw [if_pos hcond]
  unfold resumeRx
  rw [if_pos (by rw [hband.modeOk, hband.rxChannelsOk, (hmode m).1, (hmode m).2]; rfl)]
  obtain ⟨v, va, hlock⟩ := calibrateOnLock_radio (tune (rxLo t) t)
  have hgoto : ∀ u : State, (goto .rx u).radio = { u.radio with state := .rx, lock := (goto .rx u).radio.lock } :=
      fun _ => rfl
  rw [hgoto, hlock, show (tune (rxLo t) t).radio = { t.radio with lo := rxLo t } from rfl, ht]
  exact ⟨rfl, hon, rfl⟩

/-- A POLL leaves the receiver on for its reply (R303). -/
theorem txEnd_poll (htx : s.radio.tx = some j) (hst : s.radio.state = .tx) (har : j.frame.ar = false)
    (hkind : j.kind = .poll) (hstop : s.radio.stopping = false)
    (hmode : ∀ m, modeOk (setMosaic m s) = true ∧ rxChannelsOk (setMosaic m s) = true) :
    (txEnd s).radio.state = .rx ∧ (txEnd s).radio.rxOn = true ∧ (txEnd s).radio.tx = none := by
  have hframe : ∀ t, Confined [.ring, .evtLost, .radio] t (awaitReply (postTxDonePlain j (paOff t))) := fun t =>
    awaitReply_frame _ (postTxDonePlain_frame _ _ (paOff_frame t (frame_refl _ t) (hw := by decide)) (hw := by decide))
      (hw := by decide)
  obtain ⟨p, b, hoff⟩ := paOff_radio { s with radio := { s.radio with endedAt := s.timer.time.toNat } }
  rw [txEnd_of_tx htx hst]
  dsimp only
  rw [if_neg (by rw [har]; decide), if_neg (by rw [hkind]; decide), if_pos hkind]
  have hparts := hframe { s with radio := { s.radio with endedAt := s.timer.time.toNat } }
  generalize hu : awaitReply (postTxDonePlain j (paOff _)) = u at hparts
  have hradio : u.radio = { (paOff { s with radio := { s.radio with endedAt := s.timer.time.toNat } }).radio with
      rxOn := true, temp := u.radio.temp } := by
    rw [← hu]
    have hplain : ∀ t, (postTxDonePlain j t).radio = t.radio := fun t => by rw [postTxDonePlain, post_radio]
    have hreply : ∀ t : State, (awaitReply t).radio =
        { t.radio with rxOn := true, temp := (awaitReply t).radio.temp } := fun _ => rfl
    rw [hreply, hplain]
  rw [hoff] at hradio
  have hrx : u.rx = s.rx := hparts.same .rx (by decide)
  refine goReturn_receives ?_ ?_ fun m => ?_
  · rw [hradio]
  · rw [hradio]
    exact hstop
  · have hlive : u.live = s.live := hparts.same .live (by decide)
    have hsys : u.sys = s.sys := hparts.same .sys (by decide)
    have hid : u.id = s.id := hparts.same .id (by decide)
    have hband : SameBand s u := by
      refine ⟨hlive, by rw [hsys], ?_, hid, ?_, ?_, ?_⟩
      · rw [hradio]
      all_goals rw [hrx]
    have hmosaic := setMosaic_sameBand hband (hparts.same .sup (by decide)) (by rw [hrx]) m
    rw [hmosaic.modeOk, hmosaic.rxChannelsOk]
    exact hmode m

/-- A wait that expires is a missed ACK, and the radio goes on (R286). -/
theorem ackWaitExpiry_facts (hst : s.radio.state = .ackWait) (htx : s.radio.tx = some j) :
    (ackWaitExpiry s).radio.ackMiss = inc s.radio.ackMiss ∧ (ackWaitExpiry s).radio.tx = none ∧
      (ackWaitExpiry s).radio.state ≠ .ackWait := by
  obtain ⟨u, hu, hmiss⟩ : ∃ u, ackWaitExpiry s = settle (goReturn u) ∧ u.radio.ackMiss = inc s.radio.ackMiss := by
    unfold ackWaitExpiry
    rw [if_neg (by rw [hst]; decide)]
    dsimp only
    rw [htx]
    refine ⟨_, rfl, ?_⟩
    dsimp only
    split <;> rw [post_radio]
    rfl
  obtain ⟨hmove, hnone, hbetween, -⟩ := goReturn_moves u
  have hsettle := settle_radioMoves (goReturn u)
  rw [hu]
  refine ⟨hsettle.ackMiss.trans (hmove.ackMiss.trans hmiss), hsettle.tx_none hnone, fun h => ?_⟩
  have hend := hsettle.between hbetween
  rw [h] at hend
  exact absurd hend (by decide)

/-- The antenna's first verdict of a frame (R207, R208). -/
theorem antVerdict_facts {rl : Byte} {phase : Int} (hst : s.radio.state = .tx ∨ s.radio.state = .ackTx)
    (hu : s.radio.untested = true) : Confined [.radio] s (antVerdict rl phase s) ∧
      (antVerdict rl phase s).radio.antLoss = rl ∧ (antVerdict rl phase s).radio.untested = false ∧
      (12 ≤ rl.toNat → (antVerdict rl phase s).radio.antClass = 0 ∧
        (antVerdict rl phase s).radio.effective = s.radio.effective) ∧
      (rl.toNat < 12 → (antVerdict rl phase s).radio.antClass ≠ 0 ∧ (antVerdict rl phase s).radio.effective = 0 ∧
        (antVerdict rl phase s).radio.antFaults = inc s.radio.antFaults) := by
  have hsends : (s.radio.state != .tx && s.radio.state != .ackTx) = false := by
    rcases hst with h | h <;> rw [h] <;> rfl
  unfold antVerdict
  rw [hsends, hu]
  dsimp only
  rw [if_neg Bool.false_ne_true]
  by_cases hrl : 12 ≤ rl.toNat
  · rw [if_pos hrl]
    exact ⟨confined_setRadio .., rfl, rfl, fun _ => ⟨rfl, rfl⟩, fun h => absurd hrl (Nat.not_le.mpr h)⟩
  · rw [if_neg hrl]
    have hclass : ∀ p : Int, (if p ≤ 60 ∨ 300 ≤ p then (1 : Fin 4) else if 120 ≤ p ∧ p ≤ 240 then 2 else 3) ≠ 0 := by
      intro p
      split
      · decide
      · split <;> decide
    rw [if_neg (hclass _)]
    exact ⟨confined_setRadio .., rfl, rfl, fun h => absurd h hrl, fun _ => ⟨hclass _, rfl, rfl⟩⟩

end

-- The ACK that is due (R284, R285)

section
variable {a : AckDue} {rest : List AckDue} {s : State}

/-- An ACK whose commit has completed goes out (R284). -/
theorem ackTx_armed (hacks : s.radio.acks = a :: rest) (hst : s.radio.state = .rx) (hcca : s.radio.cca = none)
    (harm : a.armed = true) (hack : acknowledges s = true) (hd : dutyRefusal s a.job = none)
    (hsend : maySend s a.job = true) :
    ackTx s = startUp (.ack { a.job with item := some (a.queue.toNat, 0) })
      { s with radio := { s.radio with acks := rest } } := by
  have hup : upAck { s with radio := { s.radio with acks := rest } } = none := by
    unfold upAck
    dsimp only
    rw [hst]
  unfold ackTx
  rw [hacks]
  dsimp only
  rw [harm, show acknowledges { s with radio := { s.radio with acks := rest } } = true from hack, hup,
    show dutyRefusal { s with radio := { s.radio with acks := rest } } a.job = none from hd,
    show maySend { s with radio := { s.radio with acks := rest } } a.job = true from hsend,
    show receiving { s with radio := { s.radio with acks := rest } } =
        true by rw [receiving]; dsimp only; rw [hst]; rfl]
  rw [hst, hcca]
  rfl

end

/-- Settles O42. -/
theorem transmissionsEnd : Obligations.TransmissionsEnd := by
  refine ⟨fun j s hw htx => ⟨fun hst => ?_, fun hst har => ?_, fun hst har hkind hstop hmode => ?_, fun hst => ?_,
    fun rl phase hst hu => ?_⟩, fun a rest s hw hacks hst hcca => ⟨fun harm hack hd hsend => ?_, fun harm => ?_⟩⟩
  · refine ⟨_, congrArg Host.Outcome.next (present_of_works hw), ?_⟩
    obtain ⟨p, b, hoff⟩ := paOff_radio { s with radio := { s.radio with
      endedAt := s.timer.time.toNat, ackSent := inc s.radio.ackSent } }
    rw [txEnd_ack htx hst]
    obtain ⟨hmove, hnone, hbetween, -⟩ := goReturn_moves (paOff { s with radio := { s.radio with
      endedAt := s.timer.time.toNat, ackSent := inc s.radio.ackSent } })
    have hall := hmove.trans (settle_radioMoves _)
    have hend := (settle_radioMoves _).between hbetween
    refine ⟨hall.ackSent.trans (by rw [hoff]), hall.endedAt.trans (by rw [hoff]), (settle_radioMoves _).tx_none hnone,
      hall.onAir.trans (by rw [hoff]), hall.vpa.trans (by rw [hoff]), fun h => ?_⟩
    rw [h] at hend
    exact absurd hend (by decide)
  · refine ⟨_, congrArg Host.Outcome.next (present_of_works hw), ?_⟩
    obtain ⟨p, b, hoff⟩ := paOff_radio { s with radio := { s.radio with endedAt := s.timer.time.toNat } }
    have hsup := (paOff_frame (w := [.ring, .evtLost, .radio]) { s with radio := { s.radio with
      endedAt := s.timer.time.toNat } } (frame_refl _ _) (hw := by decide)).same .sup (by decide)
    obtain ⟨hasleep, hpower⟩ := awake_of_works hw
    rw [txEnd_of_tx htx hst]
    dsimp only
    rw [if_pos har]
    obtain ⟨hstate, hrx, hj, hair, hvpa, hended⟩ := awaitAck_facts j
      (s := paOff { s with radio := { s.radio with endedAt := s.timer.time.toNat } })
      (by rw [asleep, hsup]; exact hasleep) (by rw [hsup]; exact hpower)
    rw [hoff] at hj hair hvpa hended
    exact ⟨hstate, hrx, hended, hj.trans htx, hair, hvpa⟩
  · exact ⟨_, congrArg Host.Outcome.next (present_of_works hw), txEnd_poll htx hst har hkind hstop hmode⟩
  · exact ⟨_, congrArg Host.Outcome.next (present_of_works hw), ackWaitExpiry_facts hst htx⟩
  · exact ⟨_, congrArg Host.Outcome.next (present_of_works hw), antVerdict_facts hst hu⟩
  · refine ⟨_, congrArg Host.Outcome.next (present_of_works hw), ?_⟩
    rw [ackTx_armed hacks hst hcca harm hack hd hsend, startUp_radio]
    exact ⟨rfl, rfl, rfl, rfl, rfl⟩
  · refine ⟨_, congrArg Host.Outcome.next (present_of_works hw), ?_⟩
    have hrun : ackTx s = settle (suppressAck 2 a { s with radio := { s.radio with acks := rest } }) := by
      unfold ackTx
      rw [hacks]
      dsimp only
      rw [harm]
      rfl
    have hsupp : (suppressAck 2 a { s with radio := { s.radio with acks := rest } }).radio =
        { s.radio with acks := rest, ackSupp := inc s.radio.ackSupp } := by rw [suppressAck, post_radio]
    rw [hrun]
    rcases settle_of_idle (s := suppressAck 2 a { s with radio := { s.radio with acks := rest } })
      (by rw [hsupp]; exact hcca) with h | h
    · rw [h, hsupp]
      exact ⟨rfl, rfl, rfl⟩
    · rw [h, gotoIdle_radio, hsupp]
      exact ⟨rfl, rfl, rfl⟩

end Sys2Proof.Machine
end

section
/-! SUPPORT. O43: a detection is kept, becomes the frame in reception, or is cancelled (R225, R234 to R238, R268). -/

namespace Sys2Proof.Machine

open Sys2Proof.Safety

-- A new detection (R234, R236)

/-- The gain that is frozen changes nothing else of the receiver (R218). -/
theorem freezeGain_rx (c : Path) (s : State) :
    ∃ a b, (freezeGain c s).rx = { s.rx with gainA := a, gainB := b } := by
  unfold freezeGain
  split
  · exact ⟨_, _, rfl⟩
  · refine List.foldlRecOn (motive := fun t : State => ∃ a b, t.rx = { s.rx with gainA := a, gainB := b }) _ _
      ⟨_, _, rfl⟩ ?_
    rintro t ⟨a, b, ht⟩ p -
    cases p
    · dsimp only
      split
      · exact ⟨a, b, ht⟩
      · exact ⟨_, b, by rw [ht]⟩
    · dsimp only
      split
      · exact ⟨a, b, ht⟩
      · exact ⟨a, _, by rw [ht]⟩

section
variable (e : Early) (s : State)

theorem raiseDet_confined : Confined [.ring, .evtLost, .scarab, .rx, .draws] s (raiseDet e s) :=
  raiseDet_frame e s (frame_refl _ s) (hw := by decide)

theorem raiseDet_scarab : (raiseDet e s).scarab = { s.scarab with
    nextTag := nextTag s.scarab.nextTag
    lastTag := s.scarab.nextTag
    dets := s.scarab.dets ++ [⟨s.scarab.nextTag, e, (reception s e.chan).isSome⟩]
    earlyCount := inc s.scarab.earlyCount } := by
  have hgain : ∀ t, (freezeGain e.chan t).scarab = t.scarab := fun t =>
    (freezeGain_frame (w := [.rx, .draws]) _ t (frame_refl _ t) (hw := by decide)).same .scarab (by decide)
  unfold raiseDet
  rw [post_scarab, hgain]

theorem raiseDet_rx : ∃ a b, (raiseDet e s).rx = { s.rx with
    provA := if e.pathA then clipRssi e.rssiA else s.rx.provA
    provB := if e.pathB then clipRssi e.rssiB else s.rx.provB
    gainA := a
    gainB := b } := by
  unfold raiseDet
  dsimp only
  rw [post_rx]
  exact freezeGain_rx ..

theorem raiseDet_sameBand : SameBand s (raiseDet e s) := by
  have hframe := raiseDet_confined e s
  obtain ⟨a, b, hrx⟩ := raiseDet_rx e s
  refine ⟨hframe.same .live (by decide), ?_, ?_, hframe.same .id (by decide), ?_, ?_, ?_⟩
  · rw [hframe.same .sys (by decide)]
  · rw [hframe.same .radio (by decide)]
  all_goals rw [hrx]

/-- The new detection is pending on its channel. -/
theorem detected_raiseDet : detected (raiseDet e s) e.chan = true := by
  have hmem : (⟨s.scarab.nextTag, e, (reception s e.chan).isSome⟩ : Det) ∈ detsOn (raiseDet e s) e.chan := by
    rw [detsOn, raiseDet_scarab]
    exact List.mem_filter.mpr ⟨by simp, beq_self_eq_true _⟩
  rw [detected, Bool.or_eq_true, Bool.not_eq_true', List.isEmpty_eq_false_iff]
  exact .inl (List.ne_nil_of_mem hmem)

end

section
variable {e : Early} {s : State}

theorem earlySync_of_new (hcan : canDetect s e = true) (hnew : ∀ d ∈ s.scarab.dets, sameDet d.seen e = false)
    (hfew : (detsOn s e.chan).length < 4) : earlySync [e] s = raiseDet e s := by
  have hfind : (s.scarab.dets.find? fun d => sameDet d.seen e) = none :=
    List.find?_eq_none.mpr fun d hd => by rw [hnew d hd]; decide
  have hone : earlySync [e] s = oneEarly e s := by
    rw [earlySync, List.filter_cons_of_pos hcan]
    rfl
  rw [hone, oneEarly, hfind]
  exact if_pos hfew

/-- Below the last try a busy listen goes on: nothing but the radio and its events changes (R278). -/
theorem listenNow_confined (h : ∀ a, s.radio.cca = some a → a.busy + 1 < liveNat s K.lbtTries) :
    Confined [.ring, .evtLost, .radio, .draws] s (listenNow s) := by
  have hbusy : Confined [.ring, .evtLost, .radio, .draws] s (busyListen none s) := by
    unfold busyListen
    split
    · exact frame_refl _ s
    next a ha =>
      extract_lets n last level src u v x w
      have hlast : last = false := decide_eq_false (Nat.not_le.mpr (h a ha))
      have hv : Confined [.ring, .evtLost, .radio, .draws] s v :=
        post_frame _ _ _ u (confined_mono (by decide) (confined_setRadio s _)) (hw := by decide)
      rw [hlast]
      split
      · exact frame_refl _ s
      · exact confined_trans (draw_frame _ v hv (hw := by decide)) (confined_mono (by decide) (confined_setRadio ..))
  unfold listenNow ccaBusy
  split
  · exact frame_refl _ s
  · exact frame_ite hbusy (frame_refl _ s)

end

/-- A new detection is kept, and a listen on its channel is busy with it (R236, R277). -/
theorem earlyHeard_of_new {e : Early} {s : State} (hcan : canDetect s e = true)
    (hnew : ∀ d ∈ s.scarab.dets, sameDet d.seen e = false) (hfew : (detsOn s e.chan).length < 4)
    (htry : ∀ a, s.radio.cca = some a → a.busy + 1 < liveNat s K.lbtTries) :
    (earlyHeard [e] s).scarab = (raiseDet e s).scarab ∧ (earlyHeard [e] s).rx = (raiseDet e s).rx ∧
      ∀ a, s.radio.cca = some a → a.listen = true → s.radio.state = .cca → jobChan s a.job = e.chan →
        (earlyHeard [e] s).radio.ccaBusy = inc s.radio.ccaBusy := by
  have hband := raiseDet_sameBand e s
  have hradio : (raiseDet e s).radio = s.radio := (raiseDet_confined e s).same .radio (by decide)
  have htry' : ∀ a, (raiseDet e s).radio.cca = some a → a.busy + 1 < liveNat (raiseDet e s) K.lbtTries := by
    rw [hradio, hband.liveNat]
    exact htry
  rw [earlyHeard, earlySync_of_new hcan hnew hfew]
  have hframe := listenNow_confined htry'
  refine ⟨hframe.same .scarab (by decide), hframe.same .rx (by decide), fun a ha hl hst hch => ?_⟩
  have hcca : (raiseDet e s).radio.cca = some a := by rw [hradio, ha]
  have hchan : detected (raiseDet e s) (jobChan (raiseDet e s) a.job) = true := by
    have hjob : jobChan (raiseDet e s) a.job = jobChan s a.job := by rw [jobChan, jobChan, hband.modeEff]
    rw [hjob, hch]
    exact detected_raiseDet e s
  have hrun : listenNow (raiseDet e s) = busyListen none (raiseDet e s) := by
    unfold listenNow ccaBusy
    rw [hcca]
    dsimp only
    rw [hchan, hradio, hst]
    rfl
  obtain ⟨k, -, hmore⟩ := busyListen_more (rssi := none) hcca hl (htry' a hcca)
  rw [hrun, hmore, noteBusy_radio, hradio]

-- A detection that ends (R225, R252, R268)

theorem cancelDet_cancelCount (n : Nat) (d : Det) (s : State) :
    (cancelDet n d s).scarab.cancelCount = inc s.scarab.cancelCount := by
  have hrelease : ∀ t, (releaseGain t).scarab = t.scarab := fun _ => rfl
  have hprov : ∀ t, (discardProv d t).scarab = t.scarab := fun t =>
    (discardProv_frame (w := [.rx, .draws]) d t (frame_refl _ t) (hw := by decide)).same .scarab (by decide)
  rw [cancelDet, hrelease, hprov, post_scarab]

theorem syncTimeout_of_pending {mosaic : Bool} {tag : Half} {d : Det} {s : State}
    (hd : s.scarab.dets.find? (fun d => d.tag == tag) = some d) (hsf : (d.seen.sf == 7) = mosaic) :
    (syncTimeout mosaic tag s).scarab.cancelCount = inc s.scarab.cancelCount ∧
      (syncTimeout mosaic tag s).scarab.dets = s.scarab.dets.filter fun x => x.tag != d.tag := by
  unfold syncTimeout
  rw [hd]
  dsimp only
  rw [if_pos (by rw [hsf, beq_self_eq_true])]
  exact ⟨cancelDet_cancelCount .., cancelDet_dets ..⟩

theorem cancelDets_of_noneMatching {n : Nat} {p : Det → Bool} {s : State} (h : ∀ d, p d = false) :
    cancelDets n p s = s := by
  rw [cancelDets, List.filter_eq_nil_iff.mpr fun d _ => by rw [h d]; decide]
  rfl

/-- No detection of a channel is left when all of them are cancelled. -/
theorem detsOn_cancelDets {n : Nat} {p : Det → Bool} {s : State} {c : Path}
    (h : ∀ d, d.seen.chan = c → p d = true) : detsOn (cancelDets n p s) c = [] := by
  rw [detsOn, cancelDets_dets, List.filter_filter, List.filter_eq_nil_iff]
  intro x hx hboth
  rw [Bool.and_eq_true, List.all_eq_true, beq_iff_eq] at hboth
  obtain ⟨hchan, hall⟩ := hboth
  have hself := hall x (List.mem_filter.mpr ⟨hx, h x hchan⟩)
  exact absurd rfl (bne_iff_ne.mp hself)

-- A detection that is confirmed (R225, R237)

/-- The frame in reception that a confirmation makes of its detection. -/
def confirmedFrame (d : Det) (c : Confirm) (s : State) : Reception :=
  ⟨d.tag, d.seen, c, timeSyncOf s c, d.seen.chan == .b ||
    (s.radio.state != .rx && modeEff s != 3 &&
      ((s.radio.cca.map fun a => a.job).toList ++ s.radio.tx.toList).any fun j => j.chanB)⟩

/-- What a confirmation latches, before the frame is in reception. -/
def latched (d : Det) (c : Confirm) (s : State) : State :=
  latchSync d c { s with scarab := { s.scarab with dets := s.scarab.dets.filter fun x => x.tag != d.tag } }

section
variable (d : Det) (c : Confirm) (s : State)

theorem confirmDet_sameRx :
    SameRx (setReception d.seen.chan (some (confirmedFrame d c s)) (latched d c s)) (confirmDet d c s) := by
  unfold confirmDet
  extract_lets arg other r src t u
  have hpost : SameRx (setReception d.seen.chan (some (confirmedFrame d c s)) (latched d c s)) u := post_sameRx ..
  refine .ite ?_ hpost
  exact .ite ((hpost.trans (busyListen_sameRx ..)).trans (goto_sameRx ..)) (hpost.trans (busyListen_sameRx ..))

theorem latched_rx : (latched d c s).rx.hdrOk = true ∧
    (latched d c s).rx.length = BitVec.ofNat 16 (headerLength (d.seen.sf == 7) c.header) := ⟨rfl, rfl⟩

theorem reception_confirmDet : reception (confirmDet d c s) d.seen.chan = some (confirmedFrame d c s) :=
  ((confirmDet_sameRx d c s).reception _).trans (reception_setReception_self ..)

theorem confirmDet_header : (confirmDet d c s).rx.hdrOk = true ∧
    (confirmDet d c s).rx.length = BitVec.ofNat 16 (headerLength (d.seen.sf == 7) c.header) := by
  have hcounts := (confirmDet_sameRx d c s).counts.trans (counts_setReception ..)
  simp only [rxCounts, Prod.mk.injEq] at hcounts
  obtain ⟨-, -, -, -, -, hlen, hok, -⟩ := hcounts
  exact ⟨hok.trans (latched_rx d c s).1, hlen.trans (latched_rx d c s).2⟩

/-- The one confirmation of its channel is applied there alone. -/
theorem confirmOn_both {s : State} (hr : reception s d.seen.chan = none) :
    confirmOn .b [(d, c)] (confirmOn .a [(d, c)] s) = confirmDet d c s := by
  cases hchan : d.seen.chan <;> rw [hchan] at hr
  · have ha : confirmOn .a [(d, c)] s = confirmDet d c s := by simp [confirmOn, bestOf, hchan, hr]
    rw [ha]
    simp [confirmOn, bestOf, hchan]
  · have ha : confirmOn .a [(d, c)] s = s := by simp [confirmOn, bestOf, hchan]
    rw [ha]
    simp [confirmOn, bestOf, hchan, hr]

end

section
variable {d : Det} {c : Confirm} {s : State} (hrx : receiving s = true) (hfound : foundDet s c = some d)
include hrx hfound

/-- A confirmation whose header passes ends every other detection of its channel (R237). -/
theorem syncFound_of_good (hr : reception s d.seen.chan = none)
    (hok : headerOk (d.seen.sf == 7) c.header = true) :
    ∃ p : Det → Bool, (∀ x, x.seen.chan = d.seen.chan → p x = true) ∧
      syncFound [c] [] s = cancelDets 3 p (confirmDet d c s) := by
  refine ⟨fun x => [d.tag].contains x.tag || ((reception s x.seen.chan).isNone && (d.seen.chan == x.seen.chan)),
    fun x hx => ?_, ?_⟩
  · dsimp only
    rw [hx, hr, beq_self_eq_true]
    exact Bool.or_true _
  · unfold syncFound
    rw [hrx]
    simp only [List.filterMap_cons, hfound, Option.map_some, List.filterMap_nil, List.filter_cons, hok, List.filter_nil,
      Bool.not_true, Bool.false_eq_true, if_false, if_true, List.foldl_nil, confirmOn_both d c hr, List.map_cons,
      List.map_nil, List.any_cons, List.any_nil, Bool.or_false]

/-- A confirmation whose header fails ends its detection (R252). -/
theorem syncFound_of_bad (hok : headerOk (d.seen.sf == 7) c.header = false) :
    syncFound [c] [] s = headerFails d s := by
  unfold syncFound
  rw [hrx]
  simp only [List.filterMap_cons, hfound, Option.map_some, List.filterMap_nil, List.filter_cons, hok, List.filter_nil,
    Bool.not_true, Bool.not_false, Bool.false_eq_true, if_false, if_true, List.foldl_cons, List.foldl_nil]
  exact cancelDets_of_noneMatching fun x => by simp

end

theorem headerFails_facts (d : Det) (s : State) : SameRx { s with rx := { s.rx with
      hdrFails := inc s.rx.hdrFails, hdrOk := false } } (headerFails d s) ∧
    (headerFails d s).scarab.cancelCount = inc s.scarab.cancelCount ∧
    (headerFails d s).scarab.dets = s.scarab.dets.filter fun x => x.tag != d.tag :=
  ⟨cancelDet_sameRx .., cancelDet_cancelCount .., cancelDet_dets ..⟩

/-- Settles O43. -/
theorem detectionsRun : Obligations.DetectionsRun := by
  intro s hw
  refine ⟨fun e hcan hnew hfew htry => ?_, fun d c hrx hfound hr => ⟨fun hok => ?_, fun hok => ?_⟩,
    fun d tag hd => ⟨fun hsf => ?_, fun hsf => ?_⟩⟩
  · obtain ⟨hscarab, hgear, hbusy⟩ := earlyHeard_of_new hcan hnew hfew htry
    obtain ⟨a, b, hrx⟩ := raiseDet_rx e s
    refine ⟨_, congrArg Host.Outcome.next (present_of_works hw), ?_⟩
    rw [hscarab, raiseDet_scarab, hgear, hrx]
    exact ⟨rfl, hbusy, rfl, rfl, rfl, fun h => if_pos h⟩
  · obtain ⟨p, hp, hrun⟩ := syncFound_of_good hrx hfound hr hok
    have hsame := cancelDets_sameRx 3 p (confirmDet d c s)
    have hcounts := hsame.counts
    simp only [rxCounts, Prod.mk.injEq] at hcounts
    obtain ⟨-, -, -, -, -, hlen, hhdr, -⟩ := hcounts
    obtain ⟨hok', hlen'⟩ := confirmDet_header d c s
    refine ⟨_, congrArg Host.Outcome.next (present_of_works hw), ?_⟩
    rw [hrun]
    refine ⟨⟨_, (hsame.reception _).trans (reception_confirmDet d c s), fun h => ?_, fun h => ?_⟩,
      detsOn_cancelDets hp, hhdr.trans hok', hlen.trans hlen'⟩
    · rw [h]
      rfl
    · rw [h]
      exact Bool.or_false _
  · obtain ⟨hsame, hcount, hdets⟩ := headerFails_facts d s
    have hcounts := hsame.counts
    simp only [rxCounts, Prod.mk.injEq] at hcounts
    obtain ⟨-, -, -, hfails, -⟩ := hcounts
    refine ⟨_, congrArg Host.Outcome.next (present_of_works hw), ?_⟩
    rw [syncFound_of_bad hrx hfound hok]
    refine ⟨(hsame.reception _).trans ?_, hfails, hcount, hdets⟩
    rw [← hr]
    cases d.seen.chan <;> rfl
  · exact ⟨_, congrArg Host.Outcome.next (present_of_works hw),
      syncTimeout_of_pending hd (beq_false_of_ne hsf)⟩
  · exact ⟨_, congrArg Host.Outcome.next (present_of_works hw), syncTimeout_of_pending hd (beq_iff_eq.mpr hsf)⟩

end Sys2Proof.Machine
end

section
/-! SUPPORT. O44: frames that are lost, the noise floor, and frames whose CRC-32 fails (R217, R251, R254, R267,
R270). -/

namespace Sys2Proof.Machine

open Sys2Proof.Safety

-- The end of a frame leaves the radio's other work

theorem postDutyBlock_radioMoves (j : TxJob) (why : Option Nat × Nat) (s : State) :
    RadioMoves s (postDutyBlock j why s) := by
  have hcount : RadioMoves s { s with radio := { s.radio with dutyBlocks := inc s.radio.dutyBlocks } } :=
    ⟨rfl, .inl rfl, .inl rfl⟩
  have hdraw : ∀ n (t : State), RadioMoves t (freeBits n t).2 := fun _ _ => .of_radio rfl
  unfold postDutyBlock
  split
  · dsimp only
    split
    · exact hcount.trans (post_radioMoves ..)
    · exact (hcount.trans (hdraw 24 _)).trans (post_radioMoves ..)
  · exact (hcount.trans (hdraw 4 _)).trans (post_radioMoves ..)

theorem beginAccess_radioMoves (j : TxJob) (s : State) : RadioMoves s (beginAccess j s) := by
  have hset : ∀ (t : State) a, RadioMoves t { t with radio := { t.radio with cca := a } } := fun _ _ =>
    ⟨rfl, .inl rfl, .inl rfl⟩
  have hdraw : RadioMoves s (drawListen s).2 := .of_radio rfl
  unfold beginAccess
  split
  · exact postDutyBlock_radioMoves ..
  · exact .ite (startUp_radioMoves ..) (.ite (hdraw.trans ((hset ..).trans (startUp_radioMoves ..))) hdraw)

theorem sendFacks_radioMoves (s : State) : RadioMoves s (sendFacks s) := by
  have hnet : ∀ (t : State) a, RadioMoves t { t with net := a } := fun _ _ => .of_radio rfl
  have hswarm : ∀ (t : State) a, RadioMoves t { t with swarm := a } := fun _ _ => .of_radio rfl
  unfold sendFacks
  split
  · exact .refl s
  · refine .ite (hnet ..) (.ite ?_ (.refl s))
    exact .ite (((hnet ..).trans (beginAccess_radioMoves ..)).trans (hswarm ..))
      ((hnet ..).trans (beginAccess_radioMoves ..))

theorem endSecond_radioMoves (s : State) : RadioMoves s (endSecond s) :=
  .of_confined (endSecond_frame (w := [.ring, .evtLost, .scarab, .rx, .draws]) s (frame_refl _ s) (hw := by decide))
    (by decide)

theorem frameOver_radioMoves (c : Path) (s : State) : RadioMoves s (frameOver c s) := by
  have hset : RadioMoves s (setReception c none s) := by
    cases c <;> exact .of_radio rfl
  have hrelease : ∀ t, RadioMoves t (releaseGain t) := fun _ => .of_radio rfl
  exact (((hset.trans (hrelease _)).trans (endSecond_radioMoves _)).trans (settle_radioMoves _)).trans
    (sendFacks_radioMoves _)

-- Frames that are lost (R254, R267)

section
variable {c : Path} {r : Reception} {s : State}

/-- A frame that is lost is counted by whoever loses it alone. -/
theorem frameOver_loseReception (n : Nat) (c : Path) (s : State) :
    reception (frameOver c (loseReception n c s)) c = none ∧
      rxCounts (frameOver c (loseReception n c s)).rx = rxCounts s.rx :=
  ⟨reception_frameOver .., (counts_frameOver ..).trans (loseReception_rxKept n c s).counts⟩

theorem signalLoss_lost {q : List Int} {received : Nat} (hr : reception s c = some r) (hsf : r.seen.sf ≠ 7)
    (hl : lost 8 ((phyNat s K.earlyThr : Int) - 12) q received r = true) :
    reception (signalLoss c q received s) c = none ∧ (signalLoss c q received s).rx.losses = inc s.rx.losses ∧
      (signalLoss c q received s).rx.pilotLosses = s.rx.pilotLosses := by
  unfold signalLoss
  rw [hr]
  dsimp only
  rw [hl, if_pos (by rw [bne_iff_ne.mpr hsf]; rfl)]
  obtain ⟨hnone, hcounts⟩ := frameOver_loseReception 4 c { s with rx := { s.rx with losses := inc s.rx.losses } }
  simp only [rxCounts, Prod.mk.injEq] at hcounts
  obtain ⟨hloss, hpilot, -⟩ := hcounts
  exact ⟨hnone, hloss, hpilot⟩

theorem signalLoss_of_heard {q : List Int} {received : Nat} (hr : reception s c = some r)
    (hl : lost 8 ((phyNat s K.earlyThr : Int) - 12) q received r = false) : signalLoss c q received s = s := by
  unfold signalLoss
  rw [hr]
  dsimp only
  rw [hl, Bool.and_false]
  rfl

theorem pilotLoss_lost {snr : List Int} {received : Nat} {ta tb : List ToneRow} (hr : reception s c = some r)
    (hsf : r.seen.sf = 7) (hl : lost 4 0 snr received r = true) :
    reception (pilotLoss ⟨c, snr, received, ta, tb⟩ s) c = none ∧
      (pilotLoss ⟨c, snr, received, ta, tb⟩ s).rx.losses = inc s.rx.losses ∧
      (pilotLoss ⟨c, snr, received, ta, tb⟩ s).rx.pilotLosses = inc s.rx.pilotLosses := by
  unfold pilotLoss
  dsimp only
  rw [hr]
  dsimp only
  rw [hl, if_pos (by rw [beq_iff_eq.mpr hsf]; rfl)]
  obtain ⟨hnone, hcounts⟩ := frameOver_loseReception 4 c
    { trackPaths r received ta tb s with rx := { (trackPaths r received ta tb s).rx with
      losses := inc (trackPaths r received ta tb s).rx.losses
      pilotLosses := inc (trackPaths r received ta tb s).rx.pilotLosses } }
  simp only [rxCounts, Prod.mk.injEq] at hcounts
  obtain ⟨hloss, hpilot, -⟩ := hcounts
  exact ⟨hnone, hloss, hpilot⟩

theorem pilotLoss_of_heard {snr : List Int} {received : Nat} {ta tb : List ToneRow} (hr : reception s c = some r)
    (hl : lost 4 0 snr received r = false) : pilotLoss ⟨c, snr, received, ta, tb⟩ s = s := by
  unfold pilotLoss
  dsimp only
  rw [hr]
  dsimp only
  rw [hl, Bool.and_false]
  rfl

end

-- The noise floor (R217)

/-- A mean that is not half-way between two units is the nearest one. -/
theorem meanOf48_of_ne {sum : Int} (h : sum % 48 ≠ 24) (s : State) : meanOf48 sum s = ((sum + 24) / 48, s) := by
  unfold meanOf48
  dsimp only
  by_cases hlt : sum % 48 < 24
  · rw [if_pos hlt]
    exact congrArg (·, s) (by omega)
  · rw [if_neg hlt, if_pos (by omega)]
    exact congrArg (·, s) (by omega)

/-- The noise floor that a window gives its path. -/
theorem noiseWindow_facts {p : Path} {samples : List Int} {s : State} (hrx : receiving s = true)
    (hlen : samples.length = 64) (hp : (pathsOf s .a ++ pathsOf s .b).contains p = true)
    (hd : detected s (chanOfPath s p) = false) (hsum : (((sortInts samples).drop 8).take 48).sum % 48 ≠ 24) :
    Confined [.rx] s (noiseWindow p samples s) ∧
      bit (noiseWindow p samples s).rx.nfValid.toNat (pathIndex p) = true ∧
      (match (generalizing := false) p with
       | .a => (noiseWindow p samples s).rx.nfA
       | .b => (noiseWindow p samples s).rx.nfB) =
        clipRssi (((((sortInts samples).drop 8).take 48).sum + 24) / 48) := by
  have hvalid : ∀ v : BitVec 2, bit (v ||| 1#2).toNat 0 = true ∧ bit (v ||| 2#2).toNat 1 = true := by decide
  unfold noiseWindow
  rw [hrx, hlen, hp, hd, if_pos (by rfl), meanOf48_of_ne hsum]
  cases p
  · exact ⟨confined_setRx .., (hvalid _).1, rfl⟩
  · exact ⟨confined_setRx .., (hvalid _).2, rfl⟩

-- A frame whose CRC-32 fails (R251, R270)

/-- The state with such a frame counted and told, before its end. -/
def badFrame (f : RxFrame) (r : Reception) (s : State) : State :=
  let x := typeSrcOf f.psdu (latchFrame r f s)
  postRxDone r.tag 3 x.1 false x.2.1 { x.2.2 with rx := { x.2.2.rx with crcFails := inc x.2.2.rx.crcFails } }

section
variable {f : RxFrame} {r : Reception} {s : State}

/-- It is processed no further, whichever its type. -/
theorem receiveFrame_of_badCrc (type : Nat) (process : Reception → MacFrame → State → State)
    (hr : reception s f.chan = some r) (hrx : receiving s = true) (hheard : heard s r f = true)
    (hcrc : crc32 f.psdu ≠ f.crc) :
    receiveFrame type f process s = frameOver f.chan (badFrame f r s) := by
  unfold receiveFrame
  rw [hr]
  dsimp only
  rw [hrx, hheard, beq_false_of_ne hcrc]
  rfl

theorem typeSrcOf_confined (p : Bytes) (s : State) : Confined [.draws] s (typeSrcOf p s).2.2 :=
  typeSrcOf_frame p s (frame_refl _ s) (hw := by decide)

/-- What its end latches and counts (R270). -/
theorem badFrame_rx : (badFrame f r s).rx = { (latchFrame r f s).rx with crcFails := inc s.rx.crcFails } := by
  have hrx : (typeSrcOf f.psdu (latchFrame r f s)).2.2.rx = (latchFrame r f s).rx :=
    (typeSrcOf_confined ..).same .rx (by decide)
  unfold badFrame postRxDone
  dsimp only
  rw [post_rx, hrx]
  rfl

theorem badFrame_confined : Confined [.ring, .evtLost, .rx, .draws] s (badFrame f r s) := by
  have hlatch : Confined [.ring, .evtLost, .rx, .draws] s (latchFrame r f s) :=
    latchFrame_frame r f s (frame_refl _ s) (hw := by decide)
  have htype := confined_trans hlatch
    (confined_mono (by decide) (typeSrcOf_confined f.psdu (latchFrame r f s)))
  exact postRxDone_frame _ _ _ _ _ _ (confined_trans htype (confined_mono (by decide) (confined_setRx _ _)))
    (hw := by decide)

/-- The soft values do not depend on the equalisers. -/
theorem latchFrame_corrected (hcrc : crc32 f.psdu ≠ f.crc) : (latchFrame r f s).rx.crcOk = false ∧
    (latchFrame r f s).rx.corrected =
      BitVec.ofNat 16 ((frameCoding r).differing (whitened f.psdu f.crc) (softOf s r f)) :=
  ⟨beq_false_of_ne hcrc, rfl⟩

theorem badCrc_facts (type : Nat) (process : Reception → MacFrame → State → State)
    (hr : reception s f.chan = some r) (hrx : receiving s = true) (hheard : heard s r f = true)
    (hcrc : crc32 f.psdu ≠ f.crc) (t : State) (ht : t = receiveFrame type f process s) :
    t.rx.crcFails = inc s.rx.crcFails ∧ t.rx.crcOk = false ∧
      t.rx.corrected = BitVec.ofNat 16 ((frameCoding r).differing (whitened f.psdu f.crc) (softOf s r f)) ∧
      reception t f.chan = none ∧ t.qe.queues = s.qe.queues ∧ t.live = s.live ∧
      t.radio.acks = s.radio.acks ∧ t.radio.commits = s.radio.commits := by
  subst ht
  rw [receiveFrame_of_badCrc type process hr hrx hheard hcrc]
  have hcounts := counts_frameOver f.chan (badFrame f r s)
  rw [badFrame_rx] at hcounts
  simp only [rxCounts, Prod.mk.injEq] at hcounts
  obtain ⟨-, -, hfails, -, hcorr, -, -, hok⟩ := hcounts
  obtain ⟨hlok, hlcorr⟩ := latchFrame_corrected (r := r) (s := s) hcrc
  have hbad := badFrame_confined (f := f) (r := r) (s := s)
  have hover : Confined [.sup, .ring, .evtLost, .scarab, .rx, .radio, .swarm, .net, .draws] (badFrame f r s)
      (frameOver f.chan (badFrame f r s)) := frameOver_frame _ _ (frame_refl _ _) (hw := by decide)
  have hqe : (frameOver f.chan (badFrame f r s)).qe = s.qe :=
      (hover.same .qe (by decide)).trans (hbad.same .qe (by decide))
  have hradio : (badFrame f r s).radio = s.radio := hbad.same .radio (by decide)
  have hmove := frameOver_radioMoves f.chan (badFrame f r s)
  exact ⟨hfails, hok.trans hlok, hcorr.trans hlcorr, reception_frameOver .., by rw [hqe],
    (hover.same .live (by decide)).trans (hbad.same .live (by decide)),
    hmove.acks.trans (by rw [hradio]), hmove.commits.trans (by rw [hradio])⟩

end

/-- Settles O44. -/
theorem badFramesAndFloors : Obligations.BadFramesAndFloors := by
  refine ⟨fun s hw => ⟨fun c r q received ta tb hr hsf => ⟨fun hl => ?_, fun hl => ?_⟩,
    fun c r snr received ta tb hr hsf => ⟨fun hl => ?_, fun hl => ?_⟩, fun p samples hrx hlen hp hd hsum => ?_⟩,
    fun f r s hw hr hrx hheard hcrc => ?_⟩
  · exact ⟨_, congrArg Host.Outcome.next (present_of_works hw), signalLoss_lost hr hsf hl⟩
  · exact congrArg Host.Outcome.next ((present_of_works hw).trans (signalLoss_of_heard hr hl))
  · exact ⟨_, congrArg Host.Outcome.next (present_of_works hw), pilotLoss_lost hr hsf hl⟩
  · exact congrArg Host.Outcome.next ((present_of_works hw).trans (pilotLoss_of_heard hr hl))
  · exact ⟨_, congrArg Host.Outcome.next (present_of_works hw), noiseWindow_facts hrx hlen hp hd hsum⟩
  · have hall := fun type process t ht => badCrc_facts type process hr hrx hheard hcrc t ht
    simp only [List.forall_mem_cons]
    exact ⟨⟨_, congrArg Host.Outcome.next (present_of_works hw), hall _ _ _ rfl⟩,
      ⟨_, congrArg Host.Outcome.next (present_of_works hw), hall _ _ _ rfl⟩,
      ⟨_, congrArg Host.Outcome.next (present_of_works hw), hall _ _ _ rfl⟩,
      ⟨_, congrArg Host.Outcome.next (present_of_works hw), hall _ _ _ rfl⟩,
      ⟨_, congrArg Host.Outcome.next (present_of_works hw), hall _ _ _ rfl⟩,
      ⟨_, congrArg Host.Outcome.next (present_of_works hw), hall _ _ _ rfl⟩,
      fun _ h => absurd h List.not_mem_nil⟩

end Sys2Proof.Machine
end

section
/-! SUPPORT. What the operations of the dictionary leave of the frames in reception: a frame in reception stays or is
lost, and what the receiver has counted stands (R202, R270). -/

namespace Sys2Proof.Machine

open Sys2Proof.Safety

-- The radio

theorem autoReceive_rxKept (s : State) : RxKept s (autoReceive s) :=
  .ite (startUp_sameRx (.inl rfl) s).kept (.refl s)

theorem judgeOff_rxKept (s : State) : RxKept s (judgeOff s) := by
  unfold judgeOff
  extract_lets works
  exact .ite (goto_sameRx ..).kept (.ite (goto_sameRx ..).kept
    (.ite ((dropAttempt_sameRx s).trans (gotoIdle_sameRx _)).kept (.refl s)))

theorem retuneRx_rxKept (s : State) : RxKept s (retuneRx s) := by
  unfold retuneRx
  extract_lets listen toRx toCca
  exact .ite (.ite (gotoIdle_sameRx s).kept (.ite (startUp_rxKept ..) (.refl s))) (.ite (startUp_rxKept ..) (.refl s))

theorem judgeFloors_rxKept (s t : State) : RxKept t (judgeFloors s t) := by
  have hset : ∀ u a b c, RxKept u { u with rx := { u.rx with nfA := a, nfB := b, nfValid := c } } := fun _ _ _ _ =>
    ⟨.inl rfl, .inl rfl, rfl⟩
  unfold judgeFloors
  extract_lets src u
  have hu : RxKept t u := .ite (.refl t) (hset t _ t.rx.nfB _)
  exact .ite hu (hu.trans (hset u u.rx.nfA _ _))

theorem radioStop_rxKept (s : State) : RxKept s (radioStop s) := by
  have hset : RxKept s { s with radio := { s.radio with stopping := true } } := ⟨.inl rfl, .inl rfl, rfl⟩
  have hend : RxKept s (gotoIdle (cancelDets 6 (fun _ => true) (dropAttempt s))) :=
    (((dropAttempt_sameRx s).trans (cancelDets_sameRx ..)).trans (gotoIdle_sameRx _)).kept
  exact .ite hend (.ite (endAttempt_sameRx s).kept (.ite (.ite hset hend) (.refl s)))

theorem startPoll_rxKept (x : TxJob × Exchange) (n : Nat) (s : State) : RxKept s (startPoll x n s) := by
  have hset : ∀ t a b, RxKept t { t with net := a, swarm := b } := fun _ _ _ => ⟨.inl rfl, .inl rfl, rfl⟩
  exact .ite ((beginAccess_rxKept ..).trans (hset ..)) (beginAccess_rxKept ..)

theorem radioTx_rxKept (s : State) : RxKept s (radioTx s) := by
  have hset : ∀ t a b, RxKept t { t with net := a, qe := b } := fun _ _ _ => ⟨.inl rfl, .inl rfl, rfl⟩
  unfold radioTx
  extract_lets q t
  have ht : RxKept s t := .of_confined (macRead_frame (w := [.ring, .evtLost, .mortar, .jrn, .qe, .repair]) q s
    (frame_refl _ s) (hw := by decide)) (by decide)
  split
  · exact ht
  · exact .ite (.ite ((ht.trans (hset t _ t.qe)).trans (startPoll_rxKept ..)) (ht.trans (hset t _ t.qe)))
      (.ite (.ite (ht.trans (beginAccess_rxKept ..)) ht) (ht.trans (hset t t.net _)))

theorem radioCommand_rxKept (code : Nat) (s : State) : RxKept s (radioCommand code s) :=
  .ite (.ite (startUp_rxKept ..) (.refl s)) (.ite (radioStop_rxKept s) (.ite (radioTx_rxKept s)
    (.ite (.refl s) (halt_rxKept 6 s))))

-- The entries

theorem applyEnables_rxKept (s : State) : RxKept s (applyEnables s) :=
  (foldl_rxKept (fun t n => .of_confined (enableBlock_frame (w := [.sup, .clk]) t n (frame_refl _ t) (hw := by decide))
    (by decide)) _ s).trans ((judgeOff_rxKept _).trans (autoReceive_rxKept _))

theorem cancelChanged_rxKept (s : State) : RxKept s (cancelChanged s) := by
  have hset : ∀ a, RxKept s { s with scarab := a } := fun _ => ⟨.inl rfl, .inl rfl, rfl⟩
  exact .ite ((hset _).trans (cancelDets_sameRx ..).kept) (.refl s)

theorem entryEffect_rxKept (key : Nat) (old s : State) : RxKept s (entryEffect key old s) := by
  have htb : RxKept s (tbModeEffect s) :=
    .of_confined (tbModeEffect_frame (w := [.tb]) s (frame_refl _ s) (hw := by decide)) (by decide)
  have hfcw : RxKept s (refreshFcw s) :=
    .of_confined (refreshFcw_frame (w := [.tb]) s (frame_refl _ s) (hw := by decide)) (by decide)
  have hsw : RxKept s (swEnEffect s) :=
    .of_confined (swEnEffect_frame (w := [.swarm]) s (frame_refl _ s) (hw := by decide)) (by decide)
  have hplumb : RxKept s (plumbEffect s) :=
    .of_confined (plumbEffect_frame (w := [.sup]) s (frame_refl _ s) (hw := by decide)) (by decide)
  have hpol : RxKept s (polarityEffect s) :=
    .of_confined (polarityEffect_frame (w := [.field]) s (frame_refl _ s) (hw := by decide)) (by decide)
  have hset : RxKept s { s with scarab := { s.scarab with changed := true } } := ⟨.inl rfl, .inl rfl, rfl⟩
  exact .ite (applyEnables_rxKept s) (.ite htb (.ite (.ite hfcw (.refl s)) (.ite hsw (.ite hplumb (.ite hpol
    (.ite ((judgeFloors_rxKept old s).trans (retuneRx_rxKept _))
    (.ite (hset.trans (cancelChanged_rxKept _)) (.refl s))))))))

theorem setEntry_rxKept (key : Nat) (b : Bytes) (s : State) : RxKept s (setEntry key b s) := by
  have hset : ∀ t a b c d e f, RxKept t { t with sys := a, qe := b, net := c, timer := d, live := e, radio := f } :=
    fun _ _ _ _ _ _ _ => ⟨.inl rfl, .inl rfl, rfl⟩
  have hof : ∀ t, Confined [.sup, .live, .ring, .evtLost, .timer, .pulse, .draws] s t → RxKept s t := fun t h =>
    .of_confined h (by decide)
  have hhold : ∀ t, RxKept t (holdSetting key s t) := fun t =>
    .ite (hset t t.sys t.qe t.net t.timer t.live _) (.refl t)
  unfold setEntry
  exact .ite (hset s _ s.qe s.net s.timer s.live s.radio) (.ite (hset s s.sys _ s.net s.timer s.live s.radio)
    (.ite (hset s s.sys s.qe _ s.timer s.live s.radio)
    (.ite (hof _ (setCmpCfg_frame _ _ s (frame_refl _ s) (hw := by decide)))
    (.ite (hset s s.sys s.qe s.net _ s.live s.radio) (.ite (hset s s.sys s.qe s.net _ s.live s.radio)
    (.ite (hof _ (setCapCfg_frame _ _ s (frame_refl _ s) (hw := by decide)))
    (.ite (hof _ (setCapCfg_frame _ _ s (frame_refl _ s) (hw := by decide)))
    (.ite (hof _ (setCntCfg_frame _ _ s (frame_refl _ s) (hw := by decide)))
    (.ite (hset s s.sys s.qe s.net _ s.live s.radio)
    (.ite (hof _ (setPulseCfg_frame _ _ s (frame_refl _ s) (hw := by decide)))
    ((hset s s.sys s.qe s.net s.timer _ s.radio).trans ((hhold _).trans (entryEffect_rxKept ..)))))))))))))

-- What a boundary applies

theorem switchCourse_rxKept (target : Fin 16) (cause : Nat) (s : State) : RxKept s (switchCourse target cause s) := by
  have hset : ∀ t a b, RxKept t { t with courses := a, boot := b } := fun _ _ _ => ⟨.inl rfl, .inl rfl, rfl⟩
  have hrec : ∀ keys t, RxKept t (recompute keys t) := fun keys t => foldl_rxKept
      (fun u k => setEntry_rxKept k _ u) keys t
  exact (((hset s _ s.boot).trans (hrec ..)).trans (.ite (hset _ _ _) (.refl _))).trans (post_sameRx ..).kept

theorem pendingSwitch_rxKept (s : State) : RxKept s (pendingSwitch s) := by
  unfold pendingSwitch
  split
  · exact switchCourse_rxKept ..
  · exact .refl s

theorem enterState_rxKept (code : Nat) (s : State) : RxKept s (enterState code s) := by
  have hset : ∀ t a b c d, RxKept t { t with
      net := { t.net with reply := a, exch := b, again := c }, sys := { t.sys with dev := d } } := fun _ _ _ _ _ =>
    ⟨.inl rfl, .inl rfl, rfl⟩
  have hrun : RxKept s (enterRun s) := (cancelDets_sameRx ..).kept.trans ⟨.inl rfl, .inl rfl, rfl⟩
  have hdev : ∀ t d, RxKept t { t with sys := { t.sys with dev := d } } := fun _ _ => ⟨.inl rfl, .inl rfl, rfl⟩
  have hcancel : ∀ t, RxKept t (cancelDets 6 (fun _ => true) t) := fun t => (cancelDets_sameRx ..).kept
  have hstop : ∀ d t, RxKept t _ := fun d t => ((hcancel t).trans
    (RxKept.ite (c := ((cancelDets 6 (fun _ => true) t).radio.cca.isSome ||
      (upFrame (cancelDets 6 (fun _ => true) t)).isSome || (upAck (cancelDets 6 (fun _ => true) t)).isSome) = true)
      (endAttempt_sameRx _).kept (.refl _))).trans (hset _ none none none d)
  exact (RxKept.ite (.refl s) (.ite (hstop .config s) (.ite hrun
    (.ite ((hcancel s).trans (hdev ..)) (hstop .safe s))))).trans (autoReceive_rxKept _)

theorem illegalState_rxKept (addr sub : Nat) (write dict : Bool) (source : Nat) (radio : Bool) (s : State) :
    RxKept s (illegalState addr sub write dict source radio s) :=
  .of_confined (illegalState_frame (w := [.ring, .evtLost, .engine]) _ _ _ _ _ _ s (frame_refl _ s) (hw := by decide))
    (by decide)

theorem transitionAt_rxKept (addr sub : Nat) (dict : Bool) (source code : Nat) (s : State) :
    RxKept s (transitionAt addr sub dict source code s).2 := by
  unfold transitionAt
  extract_lets t
  have ht : RxKept s t := pendingSwitch_rxKept s
  split
  · exact ht.trans (enterState_rxKept ..)
  · exact ht.trans (illegalState_rxKept ..)

-- A sleep (R40 to R42)

theorem stopClocks_rxKept (power : PowerState) (s : State) : RxKept s (stopClocks power s) := ⟨.inl rfl, .inl rfl, rfl⟩

theorem enterShutdown_rxKept (s : State) : RxKept s (enterShutdown s) := by
  have hset : ∀ t a b, RxKept t { t with sys := a, sup := b } := fun _ _ _ => ⟨.inl rfl, .inl rfl, rfl⟩
  have hseal : RxKept s (sealWaiting false s) := .of_confined
    (sealWaiting_frame (w := [.mortar, .jrn, .pulse, .hod]) false s (frame_refl _ s) (hw := by decide)) (by decide)
  have hmortar : ∀ t a, RxKept t { t with mortar := a } := fun _ _ => ⟨.inl rfl, .inl rfl, rfl⟩
  have hcommit : ∀ t, RxKept t (fullCommit [] t) := fun t => .of_confined
    (fullCommit_frame (w := [.mortar, .jrn, .pulse, .hod]) [] t (frame_refl _ t) (hw := by decide)) (by decide)
  exact (((hseal.trans (hmortar ..)).trans (hcommit _)).trans (stopClocks_rxKept ..)).trans (hset ..)

theorem enterDormant_rxKept (power : PowerState) (s : State) : RxKept s (enterDormant power s) := by
  have hset : ∀ t a, RxKept t { t with qe := a } := fun _ _ => ⟨.inl rfl, .inl rfl, rfl⟩
  have hseal : RxKept s (sealWaiting true s) := .of_confined
    (sealWaiting_frame (w := [.mortar, .jrn, .pulse, .hod]) true s (frame_refl _ s) (hw := by decide)) (by decide)
  have hretire : ∀ t i, RxKept t (retireEntry i t) := fun t i => .of_confined
    (retireEntry_frame (w := [.qe, .jrn]) i t (frame_refl _ t) (hw := by decide)) (by decide)
  have hwrite : ∀ t x, RxKept t (advanceGen x t) := fun t x => .of_confined
    (advanceGen_frame (w := [.qe]) x t (frame_refl _ t) (hw := by decide)) (by decide)
  exact (((hseal.trans (foldl_rxKept (fun t i => hretire t i) _ _)).trans
    (foldl_rxKept (fun t x => hwrite t _) _ _)).trans (hset ..)).trans (stopClocks_rxKept ..)

theorem requestSleep_rxKept (code : Fin 8) (s : State) : RxKept s (requestSleep code s) := by
  have hset : ∀ t a, RxKept t { t with sup := a } := fun _ _ => ⟨.inl rfl, .inl rfl, rfl⟩
  have hmigrate : ∀ t, RxKept t (t.repair.migrating.foldl (fun u _ => migrationEnd u) t) := fun t =>
    .of_confined (migrations_frame _ t) (by decide)
  have hsleep : ∀ n t, RxKept t (enterSleep n t) := fun n t =>
    (hmigrate t).trans (.ite (enterShutdown_rxKept _) (enterDormant_rxKept ..))
  unfold requestSleep finishSleep
  exact (hset s _).trans (.ite ((hset ..).trans (hsleep ..)) (.refl _))

-- The engine (R168 to R170)

theorem respond_rxKept (r : Request) (code : Half) (value : Bytes) (s : State) : RxKept s (respond r code value s) :=
  .of_confined (respond_frame (w := [.spi, .field, .net]) r code value s (frame_refl _ s) (hw := by decide)) (by decide)

theorem refuse_rxKept (r : Request) (v : Verdict) (s : State) : RxKept s (refuse r v s) :=
  .of_confined (refuse_frame (w := [.sys, .ring, .evtLost, .spi, .field, .engine, .courses, .mortar, .repair,
    .net, .sec, .clk]) r v s (frame_refl _ s) (hw := by decide)) (by decide)

theorem writeEffect_rxKept (r : Request) (codes : List AdcCode) (s : State) : RxKept s (writeEffect r codes s) := by
  have hset : ∀ a b c d, RxKept s { s with id := a, courses := b, repair := c, net := d } := fun _ _ _ _ =>
    ⟨.inl rfl, .inl rfl, rfl⟩
  have hof : ∀ t, Confined [.sup, .live, .ring, .evtLost, .jrn, .qe, .timer, .pulse, .adc, .hod, .draws] s t →
      RxKept s t := fun t h => .of_confined h (by decide)
  unfold writeEffect
  exact .ite (.ite (.refl s) (hset _ s.courses s.repair s.net)) (.ite (.ite (.refl s) (hset _ s.courses s.repair s.net))
    (.ite (.refl s) (.ite (radioCommand_rxKept ..) (.ite (hset s.id _ s.repair s.net)
    (.ite (hset s.id _ s.repair s.net)
    (.ite (hof _ (purge_frame _ s (frame_refl _ s) (hw := by decide)))
    (.ite (hof _ (snapshot_frame s (frame_refl _ s) (hw := by decide)))
    (.ite (hof _ (staggerGo_frame _ _ _ _ s (frame_refl _ s) (hw := by decide)))
    (.ite (hof _ (clearCmpStat_frame _ s (frame_refl _ s) (hw := by decide)))
    (.ite (hof _ (adcBegin_frame _ s (frame_refl _ s) (hw := by decide)))
    (.ite (hset s.id s.courses _ s.net) (.ite (hset s.id s.courses s.repair _) (setEntry_rxKept ..)))))))))))))

theorem perform_rxKept (r : Request) (codes : List AdcCode) (s : State) : RxKept s (perform r codes s) := by
  have hset : ∀ t a b c d e, RxKept t { t with engine := a, boot := b, mortar := c, sys := d, qe := e } :=
    fun _ _ _ _ _ _ => ⟨.inl rfl, .inl rfl, rfl⟩
  have hread : RxKept s (readEffect r.key s) :=
    .of_confined (readEffect_frame (w := [.timer]) _ s (frame_refl _ s) (hw := by decide)) (by decide)
  have hseal : RxKept s (askSeal r (recordsOf s r.key r.value) s) := hset s _ s.boot _ _ _
  unfold perform
  exact .ite (hread.trans (respond_rxKept ..)) (.ite (.ite (respond_rxKept ..)
    (.ite ((transitionAt_rxKept ..).trans (respond_rxKept ..)) (hset s _ s.boot s.mortar s.sys s.qe)))
    (.ite ((respond_rxKept ..).trans (requestSleep_rxKept ..))
    (.ite ((respond_rxKept ..).trans (hset _ _ _ _ _ _)) (.ite (.ite (respond_rxKept ..) hseal)
    ((writeEffect_rxKept ..).trans (respond_rxKept ..))))))

theorem serve_rxKept (r : Request) (codes : List AdcCode) (s : State) : RxKept s (serve r codes s) := by
  unfold serve
  split
  · exact perform_rxKept ..
  · exact refuse_rxKept ..

theorem submit_rxKept (r : Request) (codes : List AdcCode) (s : State) : RxKept s (submit r codes s) := by
  have hset : ∀ t a b c, RxKept t { t with engine := a, spi := b, field := c } :=
      fun _ _ _ _ => ⟨.inl rfl, .inl rfl, rfl⟩
  have hreach : ∀ t, RxKept t (reach r codes t) := fun t => .ite (hset t _ t.spi t.field) (serve_rxKept ..)
  have hbusy : RxKept s (spiError errBusy s) :=
    .of_confined (spiError_frame (w := [.spi]) _ s (frame_refl _ s) (hw := by decide)) (by decide)
  unfold submit
  split
  · exact .refl s
  · split
    · exact .ite hbusy ((hset s s.engine _ s.field).trans (hreach _))
    · exact .ite (.refl s) ((hset s s.engine s.spi _).trans (hreach _))
    · exact .ite (.refl s) (hreach s)

end Sys2Proof.Machine
end

section
/-! SUPPORT. O45: the effect of each type of frame that is received whole (R286, R299, R303 to R310, R317, R354). -/

namespace Sys2Proof.Machine

open Sys2Proof.Safety

-- What the radio's moves leave of the network's state

/-- An exchange may have ended and a FACK been taken to be sent; the rest of the network's state is the same. -/
structure NetMoves (r s : State) : Prop where
  net  : s.net = { r.net with exch := s.net.exch, facks := s.net.facks }
  exch : s.net.exch = r.net.exch ∨ s.net.exch = none

theorem NetMoves.of_net {r s : State} (h : s.net = r.net) : NetMoves r s := ⟨by rw [h], .inl (by rw [h])⟩

theorem NetMoves.refl (s : State) : NetMoves s s := .of_net rfl

theorem NetMoves.of_confined {w : List Part} {r s : State} (h : Confined w r s) (hw : Part.net ∉ w) : NetMoves r s :=
  .of_net (h.same .net hw)

theorem NetMoves.trans {r s t : State} (h : NetMoves r s) (k : NetMoves s t) : NetMoves r t := by
  refine ⟨by rw [k.net, h.net], ?_⟩
  rcases k.exch with hk | hk
  · rw [hk]
    exact h.exch
  · exact .inr hk

theorem NetMoves.ite {r a b : State} {c : Prop} [Decidable c] (ha : NetMoves r a) (hb : NetMoves r b) :
    NetMoves r (if c then a else b) := by
  split
  · exact ha
  · exact hb

theorem NetMoves.exch_none {r s : State} (h : NetMoves r s) (hr : r.net.exch = none) : s.net.exch = none :=
  h.exch.elim (·.trans hr) id

theorem dropAttempt_netMoves (s : State) : NetMoves s (dropAttempt s) := by
  have hfilter : ∀ o : Option Exchange, (o.filter fun e => e.sent) = o ∨ (o.filter fun e => e.sent) = none :=
      fun o => by
    cases o with
    | none => exact .inl rfl
    | some e =>
      by_cases he : e.sent = true
      · exact .inl (Option.filter_some_pos he)
      · exact .inr (Option.filter_some_neg (Bool.eq_false_iff.mpr he))
  have hset : ∀ (t : State) a b, NetMoves t { t with
      radio := a, net := { t.net with exch := t.net.exch.filter fun e => e.sent }, swarm := b } := fun _ _ _ =>
    ⟨rfl, hfilter _⟩
  unfold dropAttempt
  extract_lets jobs lost t
  have ht : NetMoves s t := by
    show NetMoves s (match upAck s with | some j => suppressOther (ackInHand j) s | none => s)
    cases upAck s
    · exact .refl s
    · exact .of_confined (suppressOther_frame (w := [.ring, .evtLost, .radio, .draws]) _ s (frame_refl _ s)
        (hw := by decide)) (by decide)
  exact ht.trans (hset ..)

theorem endAttempt_netMoves (s : State) : NetMoves s (endAttempt s) :=
  (dropAttempt_netMoves s).trans (.of_confined (goReturn_frame
      (w := [.sup, .ring, .evtLost, .scarab, .rx, .radio, .draws])
    _ (frame_refl _ _) (hw := by decide)) (by decide))

theorem busyListen_netMoves (rssi : Option Int) (s : State) : NetMoves s (busyListen rssi s) := by
  have hset : ∀ (t : State) a b, NetMoves t { t with radio := a, draws := b } := fun _ _ _ => .of_net rfl
  have hpost : ∀ c a b (t : State), NetMoves t (post c a b t) := fun _ _ _ t => .of_net (post_net ..)
  unfold busyListen
  split
  · exact .refl s
  · extract_lets n last level src u v x w
    have hv : NetMoves s v := (hset s _ s.draws).trans (hpost ..)
    exact .ite (.refl s) (.ite (.ite (hv.trans (endAttempt_netMoves v)) (hv.trans (hset v _ v.draws)))
      (hv.trans (hset v _ _)))

theorem nextListen_netMoves (a : Attempt) (s : State) : NetMoves s (nextListen a s) := by
  have hset : ∀ (t : State) a, NetMoves t { t with radio := a } := fun _ _ => .of_net rfl
  have hdraw : NetMoves s (drawListen s).2 := .of_net rfl
  have hlisten : ∀ t, NetMoves t (listenNow t) := fun t => by
    unfold listenNow ccaBusy
    split
    · exact .refl t
    · exact .ite (busyListen_netMoves ..) (.refl t)
  have hstart : ∀ u t, NetMoves t (startUp u t) := fun u t => .of_confined
    (startUp_frame (w := [.sup, .ring, .evtLost, .rx, .radio, .draws]) u t (frame_refl _ t) (hw := by decide))
        (by decide)
  exact hdraw.trans (.ite (endAttempt_netMoves _) ((hset ..).trans (.ite (hlisten _) (hstart ..))))

theorem settle_netMoves (s : State) : NetMoves s (settle s) := by
  have hresume : NetMoves s (resumeAttempt s) := by
    unfold resumeAttempt
    split
    · exact .refl s
    · exact .ite (nextListen_netMoves ..) (.refl s)
  have hidle : NetMoves s (gotoIdle s) := .of_confined
    (gotoIdle_frame (w := [.sup, .ring, .evtLost, .scarab, .rx, .radio, .draws]) s (frame_refl _ s) (hw := by decide))
    (by decide)
  exact .ite hidle hresume

theorem sendFacks_netMoves (s : State) : NetMoves s (sendFacks s) := by
  have hset : ∀ (t : State) a, NetMoves t { t with net := { t.net with facks := a } } := fun _ _ => ⟨rfl, .inl rfl⟩
  have hswarm : ∀ (t : State) a, NetMoves t { t with swarm := a } := fun _ _ => .of_net rfl
  have hbegin : ∀ j t, NetMoves t (beginAccess j t) := fun j t => .of_confined
    (beginAccess_frame (w := [.sup, .ring, .evtLost, .rx, .radio, .draws]) j t (frame_refl _ t) (hw := by decide))
    (by decide)
  unfold sendFacks
  split
  · exact .refl s
  · exact .ite (hset ..) (.ite (.ite (((hset ..).trans (hbegin ..)).trans (hswarm ..)) ((hset ..).trans (hbegin ..)))
      (.refl s))

theorem frameOver_netMoves (c : Path) (s : State) : NetMoves s (frameOver c s) := by
  have hset : NetMoves s (setReception c none s) := by
    cases c <;> exact .of_net rfl
  have hrelease : ∀ t, NetMoves t (releaseGain t) := fun _ => .of_net rfl
  have hsecond : ∀ t, NetMoves t (endSecond t) := fun t => .of_confined
    (endSecond_frame (w := [.ring, .evtLost, .scarab, .rx, .draws]) t (frame_refl _ t) (hw := by decide)) (by decide)
  exact (((hset.trans (hrelease _)).trans (hsecond _)).trans (settle_netMoves _)).trans (sendFacks_netMoves _)

-- A frame of a chain that retires (R286, R317)

/-- What retires is the head of the output chain. -/
theorem retireItem_queues {q : Nat} {seq : Word} {s : State} (h : (outHead s q).any (fun f => f.seq == seq) = true) :
    (retireItem q seq s).qe.queues =
      (setQueue q { getQueue s q with outCh := (getQueue s q).outCh.tail } s).qe.queues := by
  have hpost : ∀ c a b (t : State), (post c a b t).qe = t.qe := fun c a b t =>
    (post_frame (w := [.ring, .evtLost]) c a b t (frame_refl _ t) (hw := by decide)).same .qe (by decide)
  have htouch := touch_sameChains q s
  unfold retireItem
  rw [if_pos h, hpost]
  unfold retireHead
  cases hout : (getQueue s q).outCh with
  | nil =>
    have hnone : outHead s q = none := by
      rw [outHead, hout]
      split <;> rfl
    rw [hnone] at h
    exact absurd h Bool.false_ne_true
  | cons f rest =>
    dsimp only
    rw [htouch.getQueue]
    split
    · exact ((stageRelease_sameChains ..).queues.trans (markParts_sameChains ..).queues).trans (htouch.setQueue ..)
    · exact (markParts_sameChains ..).queues.trans (htouch.setQueue ..)

-- A frame received whole

theorem parseMac_type {p : Bytes} {m : MacFrame} (h : parseMac p = some m) : m.type = leNat (p.take 1) % 16 := by
  simp only [parseMac, Option.ite_none_left_eq_some, Option.some.injEq] at h
  obtain ⟨-, rfl⟩ := h
  rfl

/-- The state in which such a frame is processed: its results are latched, and a Firefly wake has had its frame. -/
def taken (f : RxFrame) (r : Reception) (s : State) : State :=
  { latchFrame r f s with radio := { s.radio with ffStay := false } }

section
variable {f : RxFrame} {r : Reception} {m : MacFrame} {s : State}

/-- A whole frame of a command's type is processed, and then is over. -/
theorem receiveFrame_of_whole (h : Whole f r m s) (process : Reception → MacFrame → State → State) :
    receiveFrame m.type f process s = frameOver f.chan (process r m (taken f r s)) := by
  obtain ⟨hr, hrx, hheard, hcrc, hparse, hok, hflood, haux, hrequire, hme⟩ := h
  have hcopy : ∀ t, scheduleCopy m r t = t := fun t => by rw [scheduleCopy, hflood]
  have hsec : securityCheck m (taken f r s) = (some m, taken f r s) := by
    unfold securityCheck
    rw [haux]
    exact if_neg (by rw [show liveBool (taken f r s) K.rxRequire = false from hrequire]; decide)
  have htake : takeFrame r m (process r) (latchFrame r f s) = process r m (taken f r s) := by
    unfold takeFrame
    rw [show forMe (latchFrame r f s) m = true from hme]
    simp only [hcopy, Bool.not_true, Bool.false_and, Bool.false_eq_true, if_false, if_true, ite_self]
    unfold secured
    have htaken : { latchFrame r f s with radio := { (latchFrame r f s).radio with ffStay := false } } =
      taken f r s := rfl
    rw [htaken, hsec]
  unfold receiveFrame
  rw [hr]
  dsimp only
  rw [hrx, hheard, hcrc, ← parseMac_type hparse, hparse]
  dsimp only
  rw [hok, judgeFlood, hflood]
  dsimp only
  rw [htake]
  simp

end

-- What each type leaves of the results of the receiver

section
variable (c : Path) (r : Reception) (m : MacFrame) (s : State)

theorem finish_rxKept (outcome : Nat) (dr : Bool) : RxKept s (finish r m outcome dr s) := (post_sameRx ..).kept

theorem macDiscard_rxKept (type : Nat) (src : Half) : RxKept s (macDiscard r type src s) := by
  have hset : ∀ a, RxKept s { s with net := a } := fun _ => ⟨.inl rfl, .inl rfl, rfl⟩
  exact (hset _).trans (post_sameRx ..).kept

theorem processBeacon_rxKept (mPpb : Int) : RxKept s (processBeacon r mPpb m s) :=
  .of_confined (processBeacon_frame (w := [.sup, .live, .ring, .evtLost, .courses, .mortar, .jrn, .qe, .net,
    .tb, .timer, .pulse, .adc, .hod]) r mPpb m s (frame_refl _ s) (hw := by decide)) (by decide)

theorem receiveDq_rxKept (valid : Bool) (pdu : Bytes) : RxKept s (receiveDq m valid pdu s) := by
  unfold receiveDq
  exact .ite (.refl s) (submit_rxKept ..)

theorem processPoll_rxKept (valid : Bool) : RxKept s (processPoll c r valid m s) := by
  have hread : RxKept s (macRead 0 s) := .of_confined (macRead_frame
      (w := [.ring, .evtLost, .mortar, .jrn, .qe, .repair])
    0 s (frame_refl _ s) (hw := by decide)) (by decide)
  have hset : ∀ t a, RxKept t { t with net := a } := fun _ _ => ⟨.inl rfl, .inl rfl, rfl⟩
  have hdl : ∀ seq payload t, RxKept t (receiveDl c r m seq payload t) := fun seq payload t => .of_confined
    (receiveDl_frame (w := [.ring, .evtLost, .jrn, .radio, .net]) c r m seq payload t (frame_refl _ t)
        (hw := by decide))
    (by decide)
  have hkeep : ∀ t, RxKept t (keepReply t) := fun t => .ite (hset ..) (.refl t)
  have hdlOpt : ∀ (dl : Option (Word × Bytes)) t, RxKept t (match dl with
      | some (seq, payload) => receiveDl c r m seq payload t
      | none => finish r m 2 false t) := fun dl t => by
    cases dl
    · exact finish_rxKept ..
    · exact hdl ..
  have hdqOpt : ∀ (dq : Option Bytes) t, RxKept t (match dq with
      | some pdu => receiveDq m valid pdu t
      | none => t) := fun dq t => by
    cases dq
    · exact .refl t
    · exact receiveDq_rxKept ..
  unfold processPoll
  split
  · exact finish_rxKept ..
  · split
    · exact macDiscard_rxKept ..
    next flags dq dl _ =>
      exact (((((RxKept.ite hread (.refl s)).trans (hset ..)).trans (hdlOpt dl _)).trans (hdqOpt dq _)).trans
        (hset ..)).trans (hkeep _)

theorem takeReply_rxKept (a : Half) (dl : Option Word) (dr : Option Bytes) (pend : Bool) :
    RxKept s (takeReply a dl dr pend s) := by
  have hset : ∀ t a b, RxKept t { t with net := a, rx := { t.rx with mosaic := b } } := fun _ _ _ =>
    ⟨.inl rfl, .inl rfl, rfl⟩
  have hretire : ∀ w, RxKept s (retireItem a.toNat w s) := fun w => .of_confined
    (retireItem_frame (w := [.ring, .evtLost, .jrn, .qe]) _ w s (frame_refl _ s) (hw := by decide)) (by decide)
  have hend : ∀ t, RxKept t (endExchange pend t) := fun t => by
    unfold endExchange
    split
    · exact .refl t
    · exact hset t _ 0
  unfold takeReply
  cases dl <;> cases dr
  · exact hend s
  · exact (hset s _ s.rx.mosaic).trans (hend _)
  · exact (hretire _).trans (hend _)
  · exact ((hretire _).trans (hset _ _ _)).trans (hend _)

theorem processData_rxKept : RxKept s (processData c r m s) := by
  have hcommit : ∀ dr seq payload t, RxKept t (commitData c r m dr seq payload t) :=
      fun dr seq payload t => .of_confined
    (commitData_frame (w := [.ring, .evtLost, .jrn, .radio, .net]) c r m dr seq payload t (frame_refl _ t)
      (hw := by decide)) (by decide)
  unfold processData
  split
  · exact finish_rxKept ..
  · split
    · exact macDiscard_rxKept ..
    · split
      · exact (RxKept.ite (takeReply_rxKept ..) (.refl s)).trans (hcommit ..)
      · exact macDiscard_rxKept ..

theorem processNull_rxKept : RxKept s (processNull r m s) := by
  unfold processNull
  split
  · exact macDiscard_rxKept ..
  · exact .ite ((takeReply_rxKept ..).trans (finish_rxKept ..)) (finish_rxKept ..)

theorem processJoin_rxKept : RxKept s (processJoin r m s) :=
  .of_confined (processJoin_frame (w := [.ring, .evtLost, .mortar, .radio, .net]) r m s (frame_refl _ s)
    (hw := by decide)) (by decide)

theorem processFack_rxKept : RxKept s (processFack r m s) :=
  .of_confined (processFack_frame (w := [.ring, .evtLost, .jrn, .qe, .net]) r m s (frame_refl _ s) (hw := by decide))
    (by decide)

end

/-- A frame that is over stands with its CRC_OK, whatever its type has done. -/
theorem frameOver_taken {f : RxFrame} {r : Reception} {m : MacFrame} {s u : State} (h : Whole f r m s)
    (hu : RxKept (taken f r s) u) : reception (frameOver f.chan u) f.chan = none ∧
      (frameOver f.chan u).rx.crcOk = true ∧ (frameOver f.chan u).rx.crcFails = s.rx.crcFails := by
  obtain ⟨-, -, -, hcrc, -⟩ := h
  have hcounts := (counts_frameOver f.chan u).trans hu.counts
  simp only [rxCounts, Prod.mk.injEq] at hcounts
  obtain ⟨-, -, hfails, -, -, -, -, hok⟩ := hcounts
  exact ⟨reception_frameOver .., hok.trans (beq_iff_eq.mpr hcrc), hfails⟩

-- The effects

/-- A notice in the ring changes nothing else. -/
theorem finish_eq (r : Reception) (m : MacFrame) (outcome : Nat) (dr : Bool) (s : State) :
    ∃ a b, finish r m outcome dr s = { s with ring := a, evtLost := b } := by
  unfold finish postRxDone post
  split
  · split
    · exact ⟨_, s.evtLost, rfl⟩
    · exact ⟨s.ring, _, rfl⟩
  · exact ⟨s.ring, s.evtLost, rfl⟩

section
variable {f : RxFrame} {r : Reception} {m : MacFrame} {s : State}

/-- A beacon gives its cycle (R299). -/
theorem beacon_effect (c : Path) (mPpb : Int) (s : State) :
    (frameOver c (finish r m 2 false (processBeacon r mPpb m s))).net.cycle =
        BitVec.ofNat 32 (leNat ((m.body.drop 6).take 4)) ∧
      (frameOver c (finish r m 2 false (processBeacon r mPpb m s))).net.lastHash =
        BitVec.ofNat 32 (leNat ((m.body.drop 18).take 4)) := by
  obtain ⟨a, b, hfin⟩ := finish_eq r m 2 false (processBeacon r mPpb m s)
  have htime : ∀ t, (timeFromBeacon m r mPpb t).net = t.net := fun t => (timeFromBeacon_frame (w := [.sup, .live, .ring,
    .evtLost, .courses, .mortar, .jrn, .qe, .tb, .timer, .pulse, .adc, .hod]) m r mPpb t (frame_refl _ t)
    (hw := by decide)).same .net (by decide)
  rw [(frameOver_netMoves c _).net, hfin]
  refine ⟨?_, ?_⟩
  · show (processBeacon r mPpb m s).net.cycle = _
    rw [processBeacon, htime]
  · show (processBeacon r mPpb m s).net.lastHash = _
    rw [processBeacon, htime]

/-- The state with another receiver, after a Firefly wake has had its frame. -/
def received (x : Rx) (s : State) : State := { s with rx := x, radio := { s.radio with ffStay := false } }

theorem taken_eq (f : RxFrame) (r : Reception) (s : State) : ∃ x, taken f r s = received x s := ⟨_, rfl⟩

/-- The reply that a POLL leaves at a station in work (R303). -/
theorem processPoll_reply {flags : Nat} (hflood : m.flood = none) (hrole : s.sys.role ≠ .coordinator)
    (haddr : myAddr s ≠ 0) (hrun : running s = true) (hbody : pollBody m.body = some (flags, none, none)) (c : Path)
    (valid : Bool) : (processPoll c r valid m s).net.reply =
      some { replyTo (macRead 0 s) r flags false with dr := s.net.held } := by
  have hframe := macRead_frame (w := [.ring, .evtLost, .mortar, .jrn, .qe, .repair]) 0 s (frame_refl _ s)
    (hw := by decide)
  have hnet : (macRead 0 s).net = s.net := hframe.same .net (by decide)
  have hsys : (macRead 0 s).sys = s.sys := hframe.same .sys (by decide)
  have hconfig : s.sys.dev ≠ .config := by
    rintro hdev
    rw [running, hdev] at hrun
    exact absurd hrun (by decide)
  unfold processPoll
  rw [if_neg (not_or.mpr ⟨hrole, haddr⟩), hbody]
  dsimp only
  rw [hrun, hflood]
  simp only [Bool.true_or, if_true, Option.isSome_none]
  generalize hu : macRead 0 s = u at hnet hsys
  obtain ⟨a, b, hfin⟩ := finish_eq r m 2 false { u with
    net := { u.net with reply := some (replyTo u r flags false) } }
  rw [hfin]
  unfold keepReply
  rw [if_neg (by show u.sys.dev ≠ .config; rw [hsys]; exact hconfig), ← hnet]
  rfl

/-- The reply is taken from the state at the POLL's end, whatever the frame has left in the receiver. -/
theorem poll_effect {flags : Nat} (hflood : m.flood = none) (hrole : s.sys.role ≠ .coordinator) (haddr : myAddr s ≠ 0)
    (hrun : running s = true) (hbody : pollBody m.body = some (flags, none, none)) (c : Path) (valid : Bool) :
    (frameOver c (processPoll c r valid m (taken f r s))).net.reply =
      some { replyTo (macRead 0 s) r flags false with dr := s.net.held } := by
  obtain ⟨x, htaken⟩ := taken_eq f r s
  have hreply := processPoll_reply (r := r) (s := received x s) hflood hrole haddr hrun hbody c valid
  have hbeside : received x s = beside s.spi s.field x { s.radio with ffStay := false } s := rfl
  have hread : macRead 0 (received x s) =
      beside s.spi s.field x { s.radio with ffStay := false } (macRead 0 s) := by
    rw [hbeside]
    exact macRead_beside (m := { s.radio with ffStay := false }) rfl 0
  rw [hread] at hreply
  rw [(frameOver_netMoves c _).net, htaken]
  exact hreply

theorem origin_of_plain (h : m.flood = none) : m.origin = m.src := by
  rw [MacFrame.origin, h]

/-- A new frame waits for its commit, with its ACK (R354). -/
theorem processData_new {seq : Word} {payload rest : Bytes} (hflood : m.flood = none)
    (hrole : s.sys.role = .coordinator) (hair : takesAir s m.src.toNat = true)
    (hbody : replyFields m.body = some (none, none, rest)) (hseq : takeSeq true rest = some (some seq, payload))
    (hreply : isReply s r m = false) (hnew : judgedDuplicate s m.src.toNat seq = false) (c : Path) :
    processData c r m s = { s with radio := { s.radio with
      commits := s.radio.commits ++ [⟨c, m.src.toNat, seq, 1, payload, (r.tag, m.type, false, m.src), none, false⟩]
      acks := s.radio.acks ++ [⟨ackJob s r, m.src, false, r.tag⟩] } } := by
  unfold processData
  rw [if_neg (not_not.mpr hrole), hbody]
  dsimp only
  rw [hseq]
  dsimp only
  rw [hreply, if_neg Bool.false_ne_true]
  unfold commitData
  rw [origin_of_plain hflood]
  dsimp only
  rw [hair, hnew, hflood]
  rfl

/-- A NULL that answers the exchange ends it (R305). -/
theorem processNull_reply {e : Exchange} (hrole : s.sys.role = .coordinator) (hexch : s.net.exch = some e)
    (hreply : isReply s r m = true) (hbody : replyFields m.body = some (none, none, [])) :
    (processNull r m s).net.exch = none := by
  have hend : (endExchange m.pend s).net.exch = none := by rw [endExchange, hexch]
  obtain ⟨a, b, hfin⟩ := finish_eq r m 2 (none : Option Bytes).isSome (endExchange m.pend s)
  unfold processNull
  rw [hbody]
  dsimp only
  rw [if_pos ⟨hrole, hreply⟩]
  show (finish r m 2 _ (endExchange m.pend s)).net.exch = none
  rw [hfin]
  exact hend

/-- The station of a JOIN as the coordinator records it (R310). -/
def joining (m : MacFrame) (s : State) : Station :=
  ⟨BitVec.ofNat 64 (leNat (m.body.take 8)), (m.body[8]?).getD 0, (m.body[9]?).getD 0, (ntime s).setWidth 48⟩

/-- A JOIN of a station without a record is recorded and acknowledged at once (R310). -/
theorem processJoin_new (hrole : s.sys.role = .coordinator) (hlen : 10 ≤ m.body.length)
    (hnone : tabGet none m.src.toNat s.net.stations = none) :
    (processJoin r m s).net.joinCount = inc s.net.joinCount ∧
      (processJoin r m s).net.stations = tabSet none m.src.toNat (some (joining m s)) s.net.stations ∧
      (mayCommit s = true → (processJoin r m s).radio.acks = s.radio.acks ++ [⟨ackJob s r, m.src, true, r.tag⟩]) := by
  obtain ⟨a, b, hfin⟩ := finish_eq r m 2 false s
  unfold processJoin
  rw [if_neg (not_not.mpr hrole), if_neg (Nat.not_lt.mpr hlen), hfin]
  dsimp only
  rw [hnone]
  dsimp only [Option.any_none]
  rw [show mayCommit { s with ring := a, evtLost := b } = mayCommit s from rfl, if_neg Bool.false_ne_true]
  cases mayCommit s
  · exact ⟨rfl, rfl, fun h => absurd h Bool.false_ne_true⟩
  · exact ⟨rfl, rfl, fun _ => rfl⟩

/-- A FACK retires the frame that it names (R317). -/
theorem processFack_queues {q : Frame} (hrole : s.sys.role ≠ .coordinator) (hlen : 4 ≤ m.body.length)
    (hhead : outHead s 0 = some q) (hseq : q.seq = BitVec.ofNat 32 (leNat (m.body.take 4))) :
    (processFack r m s).qe.queues =
      (setQueue 0 { getQueue s 0 with outCh := (getQueue s 0).outCh.tail } s).qe.queues := by
  obtain ⟨a, b, hfin⟩ := finish_eq r m 2 false s
  have hnamed : (outHead s 0).any (fun f => f.seq == BitVec.ofNat 32 (leNat (m.body.take 4))) = true := by
    rw [hhead]
    exact beq_iff_eq.mpr hseq
  unfold processFack
  rw [if_neg (Nat.not_lt.mpr hlen), hfin]
  dsimp only
  rw [if_pos ⟨hrole, hnamed⟩]
  exact retireItem_queues (s := { s with ring := a, evtLost := b, net := { s.net with
    fackWait := s.net.fackWait.filter fun x => x.2 != BitVec.ofNat 32 (leNat (m.body.take 4)) } }) hnamed

end

/-- Settles O45. -/
theorem framesAreTaken : Obligations.FramesAreTaken := by
  intro f r m s hw h
  have hdone : ∀ (process : Reception → MacFrame → State → State), RxKept (taken f r s) (process r m (taken f r s)) →
      ∀ ty, m.type = ty → ∀ t, t = receiveFrame ty f process s → reception t f.chan = none ∧ t.rx.crcOk = true ∧
        t.rx.crcFails = s.rx.crcFails := by
    rintro process hp ty rfl t rfl
    rw [receiveFrame_of_whole h]
    exact frameOver_taken h hp
  obtain ⟨-, -, -, -, -, -, hflood, -⟩ := id h
  refine ⟨fun c ty hmem hty => ?_, fun hty hlen => ?_, fun flags hty hrole haddr hrun hbody => ?_,
    fun seq payload rest hty hrole hair hbody hseq hreply hnew => ?_, fun e hty hrole hexch hreply hbody => ?_,
    fun hty hrole hlen hnone => ?_, fun q hty hrole hlen hhead hseq => ?_⟩
  · have hbeacon : ∀ t, RxKept t (if m.body.length < 22 then macDiscard r m.type m.src t
        else finish r m 2 false (processBeacon r f.mPpb m t)) := fun t =>
      .ite (macDiscard_rxKept ..) ((processBeacon_rxKept ..).trans (finish_rxKept ..))
    simp only [List.mem_cons, Prod.mk.injEq, List.not_mem_nil, or_false] at hmem
    rcases hmem with ⟨rfl, rfl⟩ | ⟨rfl, rfl⟩ | ⟨rfl, rfl⟩ | ⟨rfl, rfl⟩ | ⟨rfl, rfl⟩ | ⟨rfl, rfl⟩
    · exact ⟨_, congrArg Host.Outcome.next (present_of_works hw), hdone _ (hbeacon _) _ hty _ rfl⟩
    · exact ⟨_, congrArg Host.Outcome.next (present_of_works hw), hdone _ (processPoll_rxKept ..) _ hty _ rfl⟩
    · exact ⟨_, congrArg Host.Outcome.next (present_of_works hw), hdone _ (processData_rxKept ..) _ hty _ rfl⟩
    · exact ⟨_, congrArg Host.Outcome.next (present_of_works hw), hdone _ (processNull_rxKept ..) _ hty _ rfl⟩
    · exact ⟨_, congrArg Host.Outcome.next (present_of_works hw), hdone _ (processJoin_rxKept ..) _ hty _ rfl⟩
    · exact ⟨_, congrArg Host.Outcome.next (present_of_works hw), hdone _ (processFack_rxKept ..) _ hty _ rfl⟩
  · refine ⟨_, congrArg Host.Outcome.next (present_of_works hw), ?_⟩
    rw [beaconReceived, ← hty, receiveFrame_of_whole h, if_neg (Nat.not_lt.mpr hlen)]
    exact ⟨reception_frameOver .., beacon_effect ..⟩
  · refine ⟨_, congrArg Host.Outcome.next (present_of_works hw), ?_⟩
    rw [pollReceived, ← hty, receiveFrame_of_whole h]
    exact ⟨reception_frameOver .., poll_effect hflood hrole haddr hrun hbody ..⟩
  · refine ⟨_, congrArg Host.Outcome.next (present_of_works hw), ?_⟩
    obtain ⟨x, htaken⟩ := taken_eq f r s
    have hrun := processData_new (s := received x s) hflood hrole hair hbody hseq hreply hnew f.chan
    have hmove := frameOver_radioMoves f.chan (processData f.chan r m (received x s))
    rw [dataReceived, ← hty, receiveFrame_of_whole h, htaken]
    rw [hrun] at hmove ⊢
    exact ⟨reception_frameOver .., ⟨_, hmove.commits, rfl, rfl, rfl, rfl⟩, hmove.acks⟩
  · refine ⟨_, congrArg Host.Outcome.next (present_of_works hw), ?_⟩
    obtain ⟨x, htaken⟩ := taken_eq f r s
    rw [nullReceived, ← hty, receiveFrame_of_whole h, htaken]
    exact ⟨reception_frameOver .., (frameOver_netMoves ..).exch_none
      (processNull_reply (s := received x s) hrole hexch hreply hbody)⟩
  · refine ⟨_, congrArg Host.Outcome.next (present_of_works hw), ?_⟩
    obtain ⟨x, htaken⟩ := taken_eq f r s
    obtain ⟨hcount, hstations, hack⟩ := processJoin_new (r := r) (s := received x s) hrole hlen hnone
    have hnet := (frameOver_netMoves f.chan (processJoin r m (received x s))).net
    rw [joinReceived, ← hty, receiveFrame_of_whole h, htaken]
    refine ⟨reception_frameOver .., by rw [hnet]; exact hcount, ⟨joining m s, ?_, rfl⟩,
      fun hmay => (frameOver_radioMoves ..).acks.trans (hack hmay)⟩
    rw [hnet]
    show tabGet none m.src.toNat (processJoin r m (received x s)).net.stations = _
    rw [hstations]
    exact tabGet_tabSet_eq _ (by simp) _
  · refine ⟨_, congrArg Host.Outcome.next (present_of_works hw), ?_⟩
    obtain ⟨x, htaken⟩ := taken_eq f r s
    have hqe := (frameOver_frame (w := [.sup, .ring, .evtLost, .scarab, .rx, .radio, .swarm, .net, .draws]) f.chan
      (processFack r m (received x s)) (frame_refl _ _) (hw := by decide)).same .qe (by decide)
    rw [fackReceived, ← hty, receiveFrame_of_whole h, htaken]
    refine ⟨reception_frameOver .., (congrArg QueueEngine.queues hqe).trans ?_⟩
    exact processFack_queues (s := received x s) hrole hlen hhead hseq

end Sys2Proof.Machine
end

section
/-! SUPPORT. O46: an ACK retires the frame in flight, and a commit puts its frame into the queue (R286, R354). -/

namespace Sys2Proof.Machine

open Sys2Proof.Safety

-- ACKs (R286)

section
variable {c : Path} {r : Reception} {j : TxJob} {q : Nat} {seq : Word} {s : State}

/-- The state in which an ACK that has been received is judged: its reception is over. -/
def ackHeard (c : Path) (r : Reception) (s : State) : State :=
  setReception c none (postRxDone r.tag 2 0 false 0 s)

theorem ackHeard_confined (c : Path) (r : Reception) (s : State) :
    Confined [.ring, .evtLost, .rx] s (ackHeard c r s) := by
  have hpost : Confined [.ring, .evtLost, .rx] s (postRxDone r.tag 2 0 false 0 s) :=
    postRxDone_frame _ _ _ _ _ s (frame_refl _ s) (hw := by decide)
  cases c <;> exact confined_trans hpost (confined_mono (by decide) (confined_setRx ..))

theorem ackReceived_of_match (hr : reception s c = some r) (hlen : headerLength (r.seen.sf == 7) r.conf.header = 0)
    (hours : ackMatches s c r = true) (htx : s.radio.tx = some j) (hitem : j.item = some (q, seq)) :
    ackReceived c s = frameOver c (goReturn (retireItem q seq (ackHeard c r s))) := by
  have hradio : (ackHeard c r s).radio = s.radio := (ackHeard_confined c r s).same .radio (by decide)
  have haccept : acceptAck (ackHeard c r s) = goReturn (retireItem q seq (ackHeard c r s)) := by
    unfold acceptAck
    rw [hradio, htx]
    dsimp only
    rw [hitem]
  unfold ackReceived
  rw [hr]
  dsimp only
  rw [if_pos hlen, if_pos hours]
  exact congrArg (frameOver c) haccept

theorem outHead_of_kept {s t : State} (hqe : t.qe = s.qe) (hlive : t.live = s.live) (hsys : t.sys = s.sys) :
    outHead t q = outHead s q := by
  rw [outHead, outHead, isLocal, isLocal, (SameChains.of_qe hqe).attrOf hlive, getQueue_of_qe hqe, hsys]

/-- The ACK retires the frame in flight, and the radio goes on (R286). -/
theorem ackReceived_facts (hr : reception s c = some r) (hlen : headerLength (r.seen.sf == 7) r.conf.header = 0)
    (hours : ackMatches s c r = true) (htx : s.radio.tx = some j) (hitem : j.item = some (q, seq))
    (hhead : (outHead s q).any (fun f => f.seq == seq) = true) :
    reception (ackReceived c s) c = none ∧ (ackReceived c s).radio.tx = none ∧
      (ackReceived c s).radio.state ≠ .ackWait ∧ (ackReceived c s).qe.queues =
        (setQueue q { getQueue s q with outCh := (getQueue s q).outCh.tail } s).qe.queues := by
  have hheard := ackHeard_confined c r s
  have hqe : (ackHeard c r s).qe = s.qe := hheard.same .qe (by decide)
  have hhead' : (outHead (ackHeard c r s) q).any (fun f => f.seq == seq) = true := by
    rw [outHead_of_kept hqe (hheard.same .live (by decide)) (hheard.same .sys (by decide))]
    exact hhead
  obtain ⟨-, hnone, hbetween, -⟩ := goReturn_moves (retireItem q seq (ackHeard c r s))
  have hover := frameOver_radioMoves c (goReturn (retireItem q seq (ackHeard c r s)))
  have hframe := frameOver_frame (w := [.sup, .ring, .evtLost, .scarab, .rx, .radio, .swarm, .net, .draws]) c _
    (goReturn_frame (retireItem q seq (ackHeard c r s)) (frame_refl _ _) (hw := by decide)) (hw := by decide)
  have hqueues : (frameOver c (goReturn (retireItem q seq (ackHeard c r s)))).qe = _ := hframe.same .qe (by decide)
  rw [ackReceived_of_match hr hlen hours htx hitem]
  refine ⟨reception_frameOver .., hover.tx_none hnone, fun h => ?_, ?_⟩
  · have hend := hover.between hbetween
    rw [h] at hend
    exact absurd hend (by decide)
  · rw [hqueues, retireItem_queues hhead', getQueue_of_qe hqe]
    exact (SameChains.of_qe hqe).setQueue ..

end

-- The air commit (R354)

section
variable {chan : Path} {c : CommitDue} {s : State}

/-- The state in which a commit takes effect: it is no longer under way. -/
def uncommitted (c : CommitDue) (s : State) : State :=
  { s with radio := { s.radio with commits := s.radio.commits.erase c } }

theorem uncommitted_pickSegments (mirror xspi : Bool) (used : List Nat) (n : Nat) (acc : List Nat) :
    pickSegments (uncommitted c s) mirror xspi used n acc = pickSegments s mirror xspi used n acc := by
  have hpick : ∀ taken middle, pickSegment (uncommitted c s) used taken mirror middle =
    pickSegment s used taken mirror middle := fun _ _ => rfl
  induction n generalizing acc with
  | zero => rfl
  | succ n ih => simp only [pickSegments, hpick, ih]

/-- Where a frame goes does not depend on the commits under way. -/
theorem uncommitted_noRoom (q : Nat) (inCh : Bool) (src : Byte) (payload : Bytes) :
    noRoom (uncommitted c s) q inCh src payload = noRoom s q inCh src payload := by
  have hsegs : ∀ len, segmentsFor (uncommitted c s) q len = segmentsFor s q len := fun _ =>
    uncommitted_pickSegments ..
  have hallocate : ∀ len, allocate (uncommitted c s) q len = allocate s q len := fun len => by
    simp only [allocate, hsegs]
  unfold noRoom
  rw [hallocate]
  rfl

theorem airCommit_of_room (hnext : nextCommit s chan = some c) (hair : takesAir s c.queue = true)
    (hnew : isDuplicate (getQueue s c.queue) c.seq = false) (hledger : ledgerFullFor s c.queue = false)
    (hroom : noRoom s c.queue true c.src c.payload = none) :
    airCommit chan s = finishSleep (sendFacks (settle (commitFrame c (uncommitted c s)))) := by
  unfold airCommit
  rw [hnext]
  dsimp only
  rw [← uncommitted, show takesAir (uncommitted c s) c.queue = true from hair,
    show isDuplicate (getQueue (uncommitted c s) c.queue) c.seq = false from hnew,
    show ledgerFullFor (uncommitted c s) c.queue = false from hledger, uncommitted_noRoom, hroom]
  rfl

/-- The frame is in its queue, its sequence in the ledger window, and its answer is armed. -/
theorem commitFrame_facts (c : CommitDue) (s : State) :
    (commitFrame c s).radio.commits = s.radio.commits ∧
      getQueue (commitFrame c s) c.queue = { accepted s true (nextFrame s c.queue c.src c.payload
        ((allocate s c.queue c.payload.length).getD [])) (getQueue s c.queue) with lastSeq := c.seq, valid := true } ∧
      (c.dl = false → c.fack = none → ∀ a ∈ (commitFrame c s).radio.acks, a.tag = c.done.1 → a.armed = true) := by
  have haccept : Confined [.jrn, .qe] s (accept c.queue true c.src c.payload s) :=
    accept_frame _ _ _ _ s (frame_refl _ s) (hw := by decide)
  have hqueue := getQueue_accept c.queue true c.src c.payload s
  unfold commitFrame
  generalize accepted s true _ (getQueue s c.queue) = q at hqueue
  generalize accept c.queue true c.src c.payload s = t at haccept hqueue
  dsimp only
  rw [hqueue]
  obtain ⟨hbase, hqueues⟩ := postNotice_chains c.queue (getQueue s c.queue).accSeq
    (setQueue c.queue { q with lastSeq := c.seq, valid := true } t)
  have hnotice := postNotice_frame (w := [.ring, .evtLost, .qe]) c.queue (getQueue s c.queue).accSeq
    (setQueue c.queue { q with lastSeq := c.seq, valid := true } t) (frame_refl _ _) (hw := by decide)
  have hradio : (postNotice c.queue (getQueue s c.queue).accSeq
      (setQueue c.queue { q with lastSeq := c.seq, valid := true } t)).radio = s.radio :=
    (hnotice.same .radio (by decide)).trans (haccept.same .radio (by decide))
  generalize postNotice c.queue (getQueue s c.queue).accSeq _ = u at hbase hqueues hradio
  have hdone : (postRxDone c.done.1 0 c.done.2.1 c.done.2.2.1 c.done.2.2.2 u).qe = u.qe ∧
      (postRxDone c.done.1 0 c.done.2.1 c.done.2.2.1 c.done.2.2.2 u).radio = u.radio :=
    ⟨post_qe .., post_radio ..⟩
  generalize postRxDone _ 0 _ _ _ u = v at hdone
  obtain ⟨hvqe, hvradio⟩ := hdone
  have hget : getQueue v c.queue = { q with lastSeq := c.seq, valid := true } := by
    rw [getQueue_of_qe hvqe, getQueue, hbase, hqueues]
    exact getQueue_setQueue_eq t c.queue fun h => absurd (congrArg Queue.valid h) Bool.noConfusion
  unfold armAnswer
  cases hdl : c.dl
  · rw [if_neg Bool.false_ne_true]
    cases hfack : c.fack with
    | none =>
      refine ⟨?_, hget, fun _ _ a ha htag => ?_⟩
      · show v.radio.commits = _
        rw [hvradio, hradio]
      · obtain ⟨x, -, rfl⟩ := List.mem_map.mp ha
        by_cases hx : x.tag = c.done.1
        · rw [if_pos hx]
        · rw [if_neg hx] at htag
          exact absurd htag hx
    | some k => exact ⟨by show v.radio.commits = _; rw [hvradio, hradio], hget, fun _ h => by simp at h⟩
  · rw [if_pos rfl]
    exact ⟨by show v.radio.commits = _; rw [hvradio, hradio], hget, fun h => by simp at h⟩

end

/-- Settles O46. -/
theorem acksAndCommitsComplete : Obligations.AcksAndCommitsComplete := by
  intro s hw
  refine ⟨fun c r j q seq hr hlen hours htx hitem hhead => ?_, fun chan c hnext hsleep hair hnew hledger hroom => ?_⟩
  · exact ⟨_, congrArg Host.Outcome.next (present_of_works hw), ackReceived_facts hr hlen hours htx hitem hhead⟩
  · obtain ⟨hcommits, hqueue, harmed⟩ := commitFrame_facts c (uncommitted c s)
    have hcommit := commitFrame_frame (w := [.ring, .evtLost, .jrn, .qe, .radio, .net]) c (uncommitted c s)
      (frame_refl _ _) (hw := by decide)
    generalize hu : commitFrame c (uncommitted c s) = u at hcommits hqueue harmed hcommit
    have hkept := (settle_answerKept u).trans (sendFacks_answerKept _)
    have hmove := (settle_radioMoves u).trans (sendFacks_radioMoves _)
    have hqe : (sendFacks (settle u)).qe = u.qe := (sendFacks_frame _ (settle_frame
      (w := [.sup, .ring, .evtLost, .scarab, .rx, .radio, .swarm, .net, .draws]) u (frame_refl _ u) (hw := by decide))
      (hw := by decide)).same .qe (by decide)
    have hsup : u.sup = s.sup := hcommit.same .sup (by decide)
    have hend : finishSleep (sendFacks (settle u)) = sendFacks (settle u) :=
      finishSleep_of_none (hkept.sleepDue.trans (by rw [hsup]; exact hsleep))
    refine ⟨_, nextFrame (uncommitted c s) c.queue c.src c.payload ((allocate (uncommitted c s) c.queue
      c.payload.length).getD []), congrArg Host.Outcome.next (present_of_works hw), ?_⟩
    rw [airCommit_of_room hnext hair hnew hledger hroom, hu, hend, getQueue_of_qe hqe, hqueue]
    refine ⟨hmove.commits.trans hcommits, rfl, rfl, rfl, rfl, rfl, rfl, fun hdl hfack => ?_⟩
    rw [hmove.acks]
    exact harmed hdl hfack

end Sys2Proof.Machine
end

section
/-! SUPPORT. O47: the windows of Firefly, the wake word and the stay after a wake (R288 to R290). -/

namespace Sys2Proof.Machine

open Sys2Proof.Safety

section
variable {x : WakeSeen} {s : State}

-- The window (R288)

/-- The state of a window, before the calibration that R203 asks for. -/
def windowOpen (s : State) : State := { s with
  clk := { s.clk with xoOk := true, lock := true }
  radio := { s.radio with state := .sniff, lock := true, lo := chanHz s false - 250000 } }

theorem sniffWindow_opens (hp : s.sup.power = .sniff) (hst : s.radio.state = .sleep) (hb : windowBlocks s = true)
    (hbod : s.sup.bodWarn = false) (hxo : s.clk.xoFailed = false) (hstop : s.clk.stopped = false)
    (hch : channelOk s (chanHz s false) false = true) : sniffWindow s = calibrateOnLock (windowOpen s) := by
  unfold sniffWindow
  rw [hp, hst, hb, hbod, hxo, hstop, hch]
  rfl

/-- A window starts XO, the root PLL and the synthesizer on the Firefly channel (R288). -/
theorem windowOpen_calibrated (s : State) :
    (calibrateOnLock (windowOpen s)).clk = { s.clk with xoOk := true, lock := true } ∧
    (calibrateOnLock (windowOpen s)).radio.state = .sniff ∧ (calibrateOnLock (windowOpen s)).radio.lock = true ∧
    (calibrateOnLock (windowOpen s)).radio.lo = chanHz s false - 250000 := by
  have hframe := calibrateOnLock_frame (w := [.radio, .draws]) (windowOpen s) (frame_refl _ _) (hw := by decide)
  obtain ⟨v, va, hradio⟩ := calibrateOnLock_radio (windowOpen s)
  refine ⟨hframe.same .clk (by decide), ?_⟩
  rw [hradio]
  exact ⟨rfl, rfl, rfl⟩

theorem sniffWindowEnd_of_sniff (hst : s.radio.state = .sniff) : sniffWindowEnd s = { s with
    clk := { s.clk with xoOk := false, lock := false }
    radio := { s.radio with state := .sleep, lock := false, window := false } } := by
  unfold sniffWindowEnd
  dsimp only
  rw [hst]
  rfl

theorem sniffWindowEnd_of_ne (hst : s.radio.state ≠ .sniff) :
    sniffWindowEnd s = { s with radio := { s.radio with window := false } } := by
  unfold sniffWindowEnd
  dsimp only
  rw [beq_false_of_ne hst]
  rfl

-- The wake word (R289, R290)

theorem wakeWord_unheard (h : fireflyHears s x = false) : wakeWord x s = s := by
  unfold wakeWord
  rw [h, Bool.not_false, Bool.or_true]
  rfl

theorem wakeWord_other (hst : s.radio.state = .sniff) (hh : fireflyHears s x = true)
    (hm : wakeMatches s x.word = false) : wakeWord x s =
      closeWindow { s with radio := { s.radio with ffFalse := inc s.radio.ffFalse, window := false } } := by
  unfold wakeWord
  rw [hh, hm, hst]
  dsimp only
  rw [hst]
  rfl

/-- The sources of a wake by Firefly (R43). -/
def fireflySources (s : State) : BitVec 7 :=
  wakeSources 0 { s with sup := { s.sup with wakeReq := s.sup.wakeReq ||| 32#7 } } ||| 32#7

/-- The node whose own word has been heard, as the wake finds it. -/
def called (s : State) : State := { s with radio := { s.radio with ffWakes := inc s.radio.ffWakes } }

/-- The node that has woken on its word. -/
def fireflyWoken (s : State) : State := wakeIdle (fireflySources (called s)) (called s)

/-- The node that has woken receives where the radio is idle and can, and closes the window where it does not. -/
theorem wakeWord_match (hst : s.radio.state = .sniff) (hh : fireflyHears s x = true)
    (hm : wakeMatches s x.word = true) : wakeWord x s =
      (if (fireflyWoken s).radio.state == .idle && radioPermitted (fireflyWoken s) && rxReady (fireflyWoken s) then
        { startRx (fireflyWoken s) with radio := { (startRx (fireflyWoken s)).radio with
          rxOn := true, temp := true, ffStay := true } }
      else { fireflyWoken s with radio := { (fireflyWoken s).radio with window := false } }) := by
  have hwake : fireflyWake (called s) = fireflyWoken s := by
    unfold fireflyWake
    rw [show (called s).radio.state = .sniff from hst]
    rfl
  unfold wakeWord
  rw [hh, hm, hst]
  simp only [Bool.not_true, beq_self_eq_true, Bool.true_or, Bool.or_self, Bool.false_eq_true, if_false, if_true]
  rw [← called, hwake]

theorem fireflySources_bit (s : State) : bit ((fireflySources s).setWidth 16).toNat 5 = true := by
  have hall : ∀ v : BitVec 7, bit ((v ||| 32#7).setWidth 16).toNat 5 = true := by decide
  exact hall _

/-- The node that is up, before IDLE is reached. -/
def fireflyUp (s : State) : State := ckptStaged (waking (fireflySources (called s)) (called s))

theorem fireflyWoken_eq (s : State) : fireflyWoken s = reachIdle (fireflyUp s) := wakeIdle_eq ..

/-- A wake leaves the settings, the state and the receiver as they are (R43). -/
theorem fireflyUp_kept (s : State) : (fireflyUp s).live = s.live ∧ (fireflyUp s).sys = s.sys ∧
    (fireflyUp s).id = s.id ∧ (fireflyUp s).rx = s.rx := by
  have hframe := ckptStaged_frame (waking (fireflySources (called s)) (called s))
  have hwaking : ∀ p, p ≠ Part.sup → p.same _ (waking (fireflySources (called s)) (called s)) := fun p hp =>
    (fallTo_frameSup 0 _).same p (by simp [hp])
  exact ⟨(hframe.same .live (by decide)).trans (hwaking .live (by decide)),
    (hframe.same .sys (by decide)).trans (hwaking .sys (by decide)),
    (hframe.same .id (by decide)).trans (hwaking .id (by decide)),
    (hframe.same .rx (by decide)).trans (hwaking .rx (by decide))⟩

/-- The blocks of the node that wakes run as they are enabled; its radio sleeps (R43, R84). -/
theorem fireflyUp_clocks (s : State) : (fireflyUp s).clk = { s.clk with
      run0 := BitVec.ofNat 9 (liveNat s K.cken0), run1 := BitVec.ofNat 8 (liveNat s K.cken1) } ∧
    (fireflyUp s).radio = { s.radio with
      ffWakes := inc s.radio.ffWakes, state := .sleep, window := s.radio.state == .sniff } := by
  have hframe := ckptStaged_frame (waking (fireflySources (called s)) (called s))
  have hwaking : ∀ p, p ≠ Part.sup → p.same _ (waking (fireflySources (called s)) (called s)) := fun p hp =>
    (fallTo_frameSup 0 _).same p (by simp [hp])
  exact ⟨(hframe.same .clk (by decide)).trans (hwaking .clk (by decide)),
    (hframe.same .radio (by decide)).trans (hwaking .radio (by decide))⟩

theorem fireflyUp_woken (s : State) : Woken (fireflySources (called s)) (called s) (fireflyUp s) :=
  ckptStaged_woken (waking_woken ..)

/-- The word counts, whether IDLE is reached or not. -/
theorem fireflyWoken_ffWakes (s : State) : (fireflyWoken s).radio.ffWakes = inc s.radio.ffWakes := by
  obtain ⟨-, hradio⟩ := fireflyUp_clocks s
  have hcount : (fireflyUp s).radio.ffWakes = inc s.radio.ffWakes := by rw [hradio]
  have hmove : ∀ t, (autoReceive (gotoIdle t)).radio.ffWakes = t.radio.ffWakes := fun t => by
    rcases autoReceive_cases (gotoIdle t) with h | ⟨-, h⟩
    · rw [h, gotoIdle_radio]
    · rw [h, startRx_radio, gotoIdle_radio]
  rw [fireflyWoken_eq]
  unfold reachIdle
  split
  · exact (hmove _).trans hcount
  · exact hcount

theorem bit_ofNat {w n : Nat} (h : n < w) (x : Nat) : bit (BitVec.ofNat w x).toNat n = bit x n := by
  rw [bit_eq_testBit, bit_eq_testBit, BitVec.toNat_ofNat, Nat.testBit_mod_two_pow, decide_eq_true h, Bool.true_and]

/-- IDLE, as the node that has woken reaches it with lock. -/
def fireflyIdle (s : State) : State := gotoIdle { fireflyUp s with
  sup := { (fireflyUp s).sup with waking := false }, radio := { (fireflyUp s).radio with state := .idle } }

theorem fireflyIdle_parts (s : State) : (fireflyIdle s).live = s.live ∧ (fireflyIdle s).sys = s.sys ∧
    (fireflyIdle s).id = s.id ∧ (fireflyIdle s).clk = (fireflyUp s).clk := by
  obtain ⟨hlive, hsys, hid, -⟩ := fireflyUp_kept s
  have hframe := gotoIdle_frame (w := [.sup, .ring, .evtLost, .scarab, .rx, .radio, .draws]) { fireflyUp s with
    sup := { (fireflyUp s).sup with waking := false }, radio := { (fireflyUp s).radio with state := .idle } }
    (frame_refl _ _) (hw := by decide)
  exact ⟨(hframe.same .live (by decide)).trans hlive, (hframe.same .sys (by decide)).trans hsys,
    (hframe.same .id (by decide)).trans hid, hframe.same .clk (by decide)⟩

/-- The blocks of the node that has woken run where they are enabled. -/
theorem fireflyIdle_blocks (s : State) {n : Nat} (hn : n < 9 ∨ n = 32) :
    blockOn (fireflyIdle s) n = enableBit s n := by
  obtain ⟨-, -, -, hclk⟩ := fireflyIdle_parts s
  obtain ⟨hup, -⟩ := fireflyUp_clocks s
  rw [blockOn, enableBit, hclk, hup]
  rcases hn with hn | rfl
  · rw [if_pos (by omega), if_pos (by omega)]
    exact bit_ofNat hn _
  · exact bit_ofNat (by decide) _

theorem gotoIdle_rx (s : State) : ∃ a b c d, (gotoIdle s).rx = { s.rx with
    provA := a, provB := b, gainA := c, gainB := d, mosaic := 0 } := by
  have hgear := cancelDets_sameGear 7 (fun _ => true) s
  unfold SameGear at hgear
  have hgoto : (gotoIdle s).rx = { (cancelDets 7 (fun _ => true) s).rx with mosaic := 0 } := by
    unfold gotoIdle
    dsimp only
    split <;> rfl
  exact ⟨_, _, _, _, by rw [hgoto, hgear]⟩

theorem fireflyIdle_sameBand {s : State} (hmosaic : s.rx.mosaic = 0) : SameBand s (fireflyIdle s) := by
  obtain ⟨hlive, hsys, hid, -⟩ := fireflyIdle_parts s
  obtain ⟨-, hradio⟩ := fireflyUp_clocks s
  obtain ⟨-, -, -, hrx⟩ := fireflyUp_kept s
  obtain ⟨a, b, c, d, hgear⟩ := gotoIdle_rx { fireflyUp s with
    sup := { (fireflyUp s).sup with waking := false }, radio := { (fireflyUp s).radio with state := .idle } }
  have hidle : (fireflyIdle s).rx = { s.rx with provA := a, provB := b, gainA := c, gainB := d, mosaic := 0 } := by
    rw [← hrx]
    exact hgear
  refine ⟨hlive, by rw [hsys], ?_, hid, by rw [hidle], by rw [hidle], by rw [hidle, hmosaic]⟩
  rw [fireflyIdle, gotoIdle_radio]
  show (fireflyUp s).radio.inForce = _
  rw [hradio]

/-- A node in RUN that has lock is idle after its wake, and could receive (R44, R290). -/
theorem fireflyWoken_ready {s : State} (hlock : s.clk.lock = true) (hrole : s.sys.role = .node)
    (hdev : s.sys.dev = .run) (hready : s.sys.ready = true) (hskip : s.sys.skipped = false)
    (hxo : s.clk.xoFailed = false) (hen : ∀ n ∈ [1, 7, 32, 33, 34, 35, 36, 37, 39], enableBit s n = true)
    (hmosaic : s.rx.mosaic = 0) (hmode : modeOk s = true) (hchan : rxChannelsOk s = true) :
    (fireflyWoken s).radio.state = .idle ∧ radioPermitted (fireflyWoken s) = true ∧
      rxReady (fireflyWoken s) = true := by
  obtain ⟨hlive, hsys, -, hclk⟩ := fireflyIdle_parts s
  obtain ⟨hup, -⟩ := fireflyUp_clocks s
  obtain ⟨-, hsysUp, -⟩ := fireflyUp_kept s
  have hwoken := fireflyUp_woken s
  have hreach : fireflyWoken s = fireflyIdle s := by
    have hauto : autoReceive (fireflyIdle s) = fireflyIdle s := by
      unfold autoReceive
      rw [hsys, hdev, hrole]
      rfl
    have hcond : ((fireflyUp s).sup.waking && ((fireflyUp s).clk.lock || (fireflyUp s).clk.stopped)) = true := by
      rw [hwoken.waking, hwoken.lock, show (called s).clk.lock = true from hlock]
      rfl
    rw [fireflyWoken_eq, reachIdle, if_pos hcond]
    exact hauto
  have hblocks : ∀ n ∈ [1, 7, 32, 33, 34, 35, 36, 37, 39], blockOpen (fireflyIdle s) n = true := by
    have henable : ∀ n, enableBit (fireflyIdle s) n = enableBit s n := fun n => by
      simp only [enableBit, liveNat, liveBytes, hlive]
    intro n hn
    rw [blockOpen, ← hen n hn]
    split
    · exact fireflyIdle_blocks s (.inl (by simp at hn; omega))
    · exact henable n
  have hpermit : radioPermitted (fireflyIdle s) = true := by
    rw [radioPermitted, hsys, hready, hdev, hskip, hclk, hup, fireflyIdle_blocks s (.inr rfl), hen 32 (by decide)]
    dsimp only
    rw [hxo]
    rfl
  have hband := fireflyIdle_sameBand hmosaic
  rw [hreach]
  refine ⟨?_, hpermit, ?_⟩
  · have hsame : radioPermitted { fireflyUp s with
        sup := { (fireflyUp s).sup with waking := false }
        radio := { (fireflyUp s).radio with state := .idle } } = true := by
      rw [← hpermit]
      exact radioPermitted_of_eq (by rw [hsys]; exact hsysUp) (by rw [hclk])
    rw [fireflyIdle, gotoIdle_radio, hsame]
    rfl
  · rw [rxReady, hband.modeOk, hband.rxChannelsOk, hmode, hchan, rxBlocks, frameBlocks]
    have hframe : [1, 7, 32, 33, 34, 35, 36, 39].all (blockOpen (fireflyIdle s)) = true :=
      List.all_eq_true.mpr fun n hn => hblocks n (by simp at hn ⊢; omega)
    rw [hframe, hblocks 37 (by decide)]
    rfl

end

/-- The node's own word wakes it into reception, where the radio can (R290). -/
theorem wakeWord_wakes {x : WakeSeen} {s : State} (hst : s.radio.state = .sniff) (hh : fireflyHears s x = true)
    (hm : wakeMatches s x.word = true) : (wakeWord x s).radio.ffWakes = inc s.radio.ffWakes ∧
      asleep (wakeWord x s) = false ∧ bit (wakeWord x s).sup.wakeSrc.toNat 5 = true ∧
      ((fireflyWoken s).radio.state = .idle ∧ radioPermitted (fireflyWoken s) = true ∧ rxReady (fireflyWoken s) = true →
        (wakeWord x s).radio.state = .synthUp ∧ (wakeWord x s).radio.up = .rx ∧ (wakeWord x s).radio.temp = true ∧
          (wakeWord x s).radio.ffStay = true) := by
  have hcount := fireflyWoken_ffWakes s
  have hawake : asleep (fireflyWoken s) = false := asleep_of_awake (awake_wakeIdle ..)
  obtain ⟨hsrc, -⟩ := wakeIdle_effect (fireflySources (called s)) (called s)
  have hbit : bit (fireflyWoken s).sup.wakeSrc.toNat 5 = true :=
    (congrArg (fun y => bit y.toNat 5) hsrc).trans (fireflySources_bit _)
  have hstart := startRx_powerOnly (fireflyWoken s)
  rw [wakeWord_match hst hh hm]
  split
  · refine ⟨?_, hstart.asleep.trans hawake, ?_, fun _ => ?_⟩
    · show (startRx (fireflyWoken s)).radio.ffWakes = _
      rw [startRx_radio]
      exact hcount
    · show bit (startRx (fireflyWoken s)).sup.wakeSrc.toNat 5 = _
      rw [hstart.reading (fun y => y.wakeSrc) fun _ => rfl]
      exact hbit
    · rw [startRx_radio]
      exact ⟨rfl, rfl, rfl, rfl⟩
  next hcond =>
    refine ⟨hcount, hawake, hbit, ?_⟩
    rintro ⟨hidle, hpermit, hready⟩
    rw [hidle, hpermit, hready] at hcond
    exact absurd rfl hcond

-- The stay (R290)

/-- With nothing else in hand the stay ends in IDLE. -/
theorem ffStayExpiry_ends {s : State} (hstay : s.radio.ffStay = true) (hst : s.radio.state = .rx)
    (htemp : s.radio.temp = true) (hconf : confirmed s = false) (hacks : s.radio.acks = [])
    (hcommits : s.radio.commits = []) (hcca : s.radio.cca = none) (hreply : s.net.reply = none)
    (hexch : s.net.exch = none) (hfack : s.net.fackWait = none) :
    ffStayExpiry s = gotoIdle { s with radio := { s.radio with ffStay := false } } := by
  have hidle : exchanging { s with radio := { s.radio with ffStay := false } } = false := by
    rw [exchanging]
    dsimp only
    rw [hreply, hexch, hfack]
    rfl
  rw [ffStayExpiry, if_pos hstay, settle, hidle,
    show confirmed { s with radio := { s.radio with ffStay := false } } = false from hconf]
  dsimp only
  rw [hst, htemp, hacks, hcommits, hcca]
  exact if_pos (by simp)

/-- Settles O47. -/
theorem fireflyListensAndWakes : Obligations.FireflyListensAndWakes := by
  intro s
  refine ⟨fun hp hst hb hbod hxo hstop hch => ?_, fun hst => congrArg Host.Outcome.next (sniffWindowEnd_of_sniff hst),
    fun hst => congrArg Host.Outcome.next (sniffWindowEnd_of_ne hst),
    fun x hx => congrArg Host.Outcome.next (wakeWord_unheard hx), fun x hst hh hm => ?_, fun x hst hh hm => ?_,
    fun hw hstay hst htemp hconf hacks hcommits hcca hreply hexch hfack => ?_⟩
  · refine ⟨_, rfl, sniffWindow_frame s (frame_refl _ s) (hw := by decide), ?_⟩
    rw [sniffWindow_opens hp hst hb hbod hxo hstop hch]
    exact windowOpen_calibrated s
  · refine ⟨_, congrArg Host.Outcome.next (wakeWord_other hst hh hm), ?_⟩
    exact ⟨closeWindow_frame _ (confined_mono (by decide) (confined_setRadio s _)) (hw := by decide), rfl, rfl, rfl⟩
  · obtain ⟨hcount, hawake, hbit, hrx⟩ := wakeWord_wakes hst hh hm
    exact ⟨_, rfl, hcount, hawake, hbit, fun hlock hrole hdev hready hskip hxo hen hmosaic hmode hchan =>
      hrx (fireflyWoken_ready hlock hrole hdev hready hskip hxo hen hmosaic hmode hchan)⟩
  · refine ⟨_, congrArg Host.Outcome.next (present_of_works hw), ?_⟩
    rw [ffStayExpiry_ends hstay hst htemp hconf hacks hcommits hcca hreply hexch hfack, gotoIdle_radio]
    refine ⟨rfl, rfl, ?_⟩
    dsimp only
    split
    · exact .inl rfl
    · exact .inr rfl

end Sys2Proof.Machine
end

section
/-! SUPPORT. O48: the coordinator's timers (R298, R301, R305). -/

namespace Sys2Proof.Machine

open Sys2Proof.Safety

section
variable {s : State}

-- The beacon (R298)

/-- The cycle's beacon begins channel access. -/
theorem beaconCycle_of_ready {j : TxJob} (hrole : s.sys.role = .coordinator) (hrun : running s = true)
    (hj : j = beaconJob s (cycleNow s) s.net.beaconOf.isSome) (hnew : s.net.beaconOf ≠ some (cycleNow s))
    (hin : inWindow s = false) (hexch : s.net.exch = none) (hcan : canStart s j = true) :
    beaconCycle s = beginAccess j { s with net := { s.net with beaconOf := some (cycleNow s) } } := by
  have hopened : (!s.net.beaconOf.isNone) = s.net.beaconOf.isSome := by cases s.net.beaconOf <;> rfl
  unfold beaconCycle
  dsimp only
  rw [hopened, ← hj]
  exact if_pos ⟨hrole, hrun, hnew, by rw [hin]; rfl, hexch, hcan⟩

/-- A frame without a join slot behind it begins channel access where the accountant lets it (R277). -/
theorem beginAccess_of_latest_none {j : TxJob} (hl : j.latest = none) (hd : dutyRefusal s j = none) :
    (beginAccess j s).radio.state = .synthUp ∧ (exempt s j = true → (beginAccess j s).radio.up = .tx j) ∧
      (exempt s j = false → (beginAccess j s).radio.up = .cca) := by
  obtain ⟨hstate, hsend, hlisten⟩ := beginAccess_ready hd fun k _ => listenFits_of_latest_none hl s _
  exact ⟨hstate, hsend, fun he => (hlisten he).1⟩

theorem beginAccess_net (j : TxJob) (s : State) : (beginAccess j s).net = s.net :=
  (beginAccess_frame (w := [.sup, .ring, .evtLost, .rx, .radio, .draws]) j s (frame_refl _ s) (hw := by decide)).same
    .net (by decide)

-- The POLL (R301)

/-- The POLL of the next enabled address begins channel access. -/
theorem pollStart_of_ready {a : Nat} {x : TxJob × Exchange} (hrole : s.sys.role = .coordinator)
    (hrun : running s = true) (hagain : s.net.again = none)
    (hnext : nextPoll s.net.polls s.net.pollNext.toNat = some a) (hx : x = pollJob (macRead a s) (BitVec.ofNat 16 a))
    (ha : (BitVec.ofNat 16 a).toNat = a) (hmay : mayPoll (macRead a s) x.1 = true) :
    pollStart s = startPoll x 1 (macRead a s) := by
  have hsys : (macRead a s).sys = s.sys :=
    (macRead_frame (w := [.ring, .evtLost, .mortar, .jrn, .qe, .repair]) a s (frame_refl _ s) (hw := by decide)).same
      .sys (by decide)
  have hrun' : running (macRead a s) = true := by rw [running, hsys]; exact hrun
  unfold pollStart
  rw [hagain]
  dsimp only
  rw [hnext]
  dsimp only [Option.map_some]
  rw [ha, ← hx]
  exact if_pos ⟨by rw [hsys]; exact hrole, hrun', hmay⟩

theorem startPoll_of_ready {x : TxJob × Exchange} (hl : x.1.latest = none) (hd : dutyRefusal s x.1 = none) :
    (startPoll x 1 s).radio.state = .synthUp ∧ (startPoll x 1 s).net.exch = some { x.2 with burst := 1 } ∧
      (exempt s x.1 = true → (startPoll x 1 s).radio.up = .tx x.1) := by
  obtain ⟨hstate, hsend, -⟩ := beginAccess_of_latest_none hl hd
  unfold startPoll
  dsimp only
  rw [if_pos (beq_iff_eq.mpr hstate)]
  exact ⟨hstate, rfl, hsend⟩

theorem pollJob_latest (s : State) (a : Half) : (pollJob s a).1.latest = none := by
  unfold pollJob
  extract_lets attr m fl flood dq mk dq' dl j sf
  show (if (mk dq' dl).fits s then mk dq' dl else mk dq' none).latest = none
  split <;> rfl

-- The reply that does not come (R305)

theorem pollMiss_of_missing {e : Exchange} (hexch : s.net.exch = some e) (hsent : e.sent = true)
    (hbegun : replyBegun s = false) : (pollMiss s).net.exch = none ∧ (pollMiss s).net.again = none ∧
      (pollMiss s).net.pollMiss = inc s.net.pollMiss := by
  have hcond : ((s.net.exch.any fun e => e.sent) && !replyBegun s) = true := by
    rw [hexch, hbegun]
    exact (Bool.and_true _).trans hsent
  have hend : (endExchange false { s with net := { s.net with pollMiss := inc s.net.pollMiss } }).net =
      { s.net with pollMiss := inc s.net.pollMiss, exch := none, again := none } := by
    unfold endExchange
    dsimp only
    rw [hexch]
    rfl
  have hmoves := settle_netMoves (endExchange false { s with net := { s.net with pollMiss := inc s.net.pollMiss } })
  rw [pollMiss, if_pos hcond]
  refine ⟨hmoves.exch_none (by rw [hend]), ?_⟩
  rw [hmoves.net, hend]
  exact ⟨rfl, rfl⟩

theorem pollMiss_of_begun (hbegun : replyBegun s = true) : pollMiss s = s := by
  rw [pollMiss, hbegun, Bool.not_true, Bool.and_false]
  exact if_neg Bool.false_ne_true

end

/-- Settles O48. -/
theorem coordinatorTimersAct : Obligations.CoordinatorTimersAct := by
  intro s hw hrole hrun
  refine ⟨fun j hj hnew hin hexch hcan hd => ?_, fun a u x hagain hnext hu hx ha hmay hd => ?_,
    fun e hexch hsent => ⟨fun hbegun => ?_, fun hbegun => ?_⟩⟩
  · have hl : j.latest = none := by rw [hj]; rfl
    obtain ⟨hstate, hsend, hlisten⟩ := beginAccess_of_latest_none (s := { s with net := { s.net with
      beaconOf := some (cycleNow s) } }) hl hd
    refine ⟨_, congrArg Host.Outcome.next (present_of_works hw), ?_⟩
    rw [beaconCycle_of_ready hrole hrun hj hnew hin hexch hcan, beginAccess_net]
    exact ⟨rfl, hstate, hsend, hlisten⟩
  · subst hu
    refine ⟨_, congrArg Host.Outcome.next (present_of_works hw), ?_⟩
    rw [pollStart_of_ready hrole hrun hagain hnext hx ha hmay]
    exact startPoll_of_ready (by rw [hx]; exact pollJob_latest ..) hd
  · exact ⟨_, congrArg Host.Outcome.next (present_of_works hw), pollMiss_of_missing hexch hsent hbegun⟩
  · exact congrArg Host.Outcome.next ((present_of_works hw).trans (pollMiss_of_begun hbegun))

end Sys2Proof.Machine
end

section
/-! SUPPORT. O49: a station's timers (R303, R309, R314, R315, R317, R281). -/

namespace Sys2Proof.Machine

open Sys2Proof.Safety

-- The reply to a POLL (R303)

theorem buildReply_latest (s : State) (r : Reply) : (buildReply s r).1.latest = none := by
  unfold buildReply
  extract_lets r'
  cases r'.head with
  | none => rfl
  | some f =>
    dsimp only
    split
    · rfl
    · split
      · rfl
      · split
        · rfl
        · split <;> rfl

section
variable {s : State}

/-- The state in which the reply begins channel access. -/
def replying (s : State) (r : Reply) : State :=
  let t := { s with net := { s.net with reply := none } }
  let u := if (buildReply s r).2 then { t with qe := { t.qe with oversize := inc t.qe.oversize } } else t
  { u with swarm := { u.swarm with fseq := if r.flooded then u.swarm.fseq + 1 else u.swarm.fseq } }

theorem replying_eq (s : State) (r : Reply) : ∃ a b, replying s r =
    { s with net := { s.net with reply := none }, qe := a, swarm := { s.swarm with fseq := b } } := by
  unfold replying
  dsimp only
  split
  · exact ⟨_, _, rfl⟩
  · exact ⟨s.qe, _, rfl⟩

theorem pollReply_of_ready {r : Reply} (hr : s.net.reply = some r) (hcan : canStart s (buildReply s r).1 = true)
    (hd : dutyRefusal s (buildReply s r).1 = none) :
    pollReply s = beginAccess (buildReply s r).1 (replying s r) := by
  unfold pollReply
  rw [hr]
  dsimp only
  rw [show canStart { s with net := { s.net with reply := none } } (buildReply s r).1 = true from hcan]
  unfold replying
  generalize hx : buildReply s r = x at hcan hd
  cases x.2
  · have hd' : dutyRefusal { s with net := { s.net with reply := none } } x.1 = none := hd
    simp only [Bool.not_true, Bool.false_eq_true, if_false, hd', Option.isSome_none]
  · have hd' : dutyRefusal { s with net := { s.net with reply := none }, qe := { s.qe with
        oversize := inc s.qe.oversize } } x.1 = none := hd
    simp only [Bool.not_true, Bool.false_eq_true, if_false, if_true, hd', Option.isSome_none]

theorem pollReply_facts {r : Reply} (hr : s.net.reply = some r) (hcan : canStart s (buildReply s r).1 = true)
    (hd : dutyRefusal s (buildReply s r).1 = none) : (pollReply s).net.reply = none ∧
      (pollReply s).radio.state = .synthUp ∧
      (exempt s (buildReply s r).1 = true → (pollReply s).radio.up = .tx (buildReply s r).1) := by
  obtain ⟨a, b, hreplying⟩ := replying_eq s r
  rw [pollReply_of_ready hr hcan hd, beginAccess_net, hreplying]
  obtain ⟨hstate, hsend, -⟩ := beginAccess_of_latest_none (s := { s with
    net := { s.net with reply := none }, qe := a, swarm := { s.swarm with fseq := b } }) (buildReply_latest s r) hd
  exact ⟨rfl, hstate, hsend⟩

end

-- The JOIN of the slot (R309)

/-- The state with other network state. -/
def withNet (a : Net) (s : State) : State := { s with net := a }

/-- The provisional reading of a path, once a detection there is discarded: that of another detection, the one that the
frame in reception holds, or none that is known (R218). -/
def dropProvA (l : Option Early) (held : Bool) (s : State) : State :=
  match l with
  | some e => { s with rx := { s.rx with provA := clipRssi e.rssiA } }
  | none => if held then s else { (freeBits 16 s).2 with rx := { (freeBits 16 s).2.rx with
      provA := BitVec.ofNat 16 (freeBits 16 s).1 } }
def dropProvB (l : Option Early) (held : Bool) (s : State) : State :=
  match l with
  | some e => { s with rx := { s.rx with provB := clipRssi e.rssiB } }
  | none => if held then s else { (freeBits 16 s).2 with rx := { (freeBits 16 s).2.rx with
      provB := BitVec.ofNat 16 (freeBits 16 s).1 } }

/-- The signal of the last pending detection of a kind. -/
def lastSeen (f : Early → Bool) (s : State) : Option Early :=
  (s.scarab.dets.filter fun d => f d.seen).getLast?.map fun d => d.seen

/-- A frame in reception holds the reading of a path. -/
def holdsProv (d : Det) (f : Early → Bool) (s : State) : Bool :=
  !d.late && (s.rx.recA.any (fun r => f r.seen) || s.rx.recB.any (fun r => f r.seen))

theorem discardProv_eq (d : Det) (s : State) : discardProv d s =
    let t := if !d.seen.pathA then s else
      dropProvA (lastSeen (fun e => e.pathA) s) (holdsProv d (fun e => e.pathA) s) s
    if !d.seen.pathB then t else
      dropProvB (lastSeen (fun e => e.pathB) s) (holdsProv d (fun e => e.pathB) s) t := rfl

section
variable (a : Net)

theorem dropProvA_withNet (l : Option Early) (held : Bool) (s : State) :
    dropProvA l held (withNet a s) = withNet a (dropProvA l held s) := by
  cases l with
  | some e => rfl
  | none => cases held <;> rfl

theorem dropProvB_withNet (l : Option Early) (held : Bool) (s : State) :
    dropProvB l held (withNet a s) = withNet a (dropProvB l held s) := by
  cases l with
  | some e => rfl
  | none => cases held <;> rfl

theorem post_withNet (code tag : Half) (arg : Word) (s : State) :
    post code tag arg (withNet a s) = withNet a (post code tag arg s) := by
  unfold post
  rw [show unmasked (withNet a s) code = unmasked s code from rfl, show (withNet a s).ring = s.ring from rfl]
  split
  · split <;> rfl
  · rfl

theorem discardProv_withNet (d : Det) (s : State) : discardProv d (withNet a s) = withNet a (discardProv d s) := by
  have hseen : ∀ f, lastSeen f (withNet a s) = lastSeen f s := fun _ => rfl
  have hheld : ∀ f, holdsProv d f (withNet a s) = holdsProv d f s := fun _ => rfl
  rw [discardProv_eq, discardProv_eq]
  dsimp only
  rw [hseen, hseen, hheld, hheld, dropProvA_withNet]
  cases d.seen.pathA <;> cases d.seen.pathB
  · rfl
  · exact dropProvB_withNet ..
  · rfl
  · exact dropProvB_withNet ..

theorem cancelDet_withNet (n : Nat) (d : Det) (s : State) :
    cancelDet n d (withNet a s) = withNet a (cancelDet n d s) := by
  have hrelease : ∀ t, releaseGain (withNet a t) = withNet a (releaseGain t) := fun _ => rfl
  unfold cancelDet
  dsimp only
  rw [← hrelease, ← discardProv_withNet, ← post_withNet]
  rfl

/-- Detections are cancelled without a look at the network. -/
theorem cancelDets_withNet (n : Nat) (p : Det → Bool) (s : State) :
    cancelDets n p (withNet a s) = withNet a (cancelDets n p s) := by
  have hfold : ∀ (l : List Det) (t : State), l.foldl (fun u d => cancelDet n d u) (withNet a t) =
      withNet a (l.foldl (fun u d => cancelDet n d u) t) := fun l => by
    induction l with
    | nil => exact fun _ => rfl
    | cons d l ih => exact fun t => (congrArg (List.foldl _ · l) (cancelDet_withNet a n d t)).trans (ih _)
  exact hfold _ s

end

theorem quietEnd_of_run {s : State} (h : s.sys.dev = .run) : quietEnd s = s := by
  rw [quietEnd, if_neg (by rw [h]; decide)]

/-- The end of QUIET does not turn on the slot (R126). -/
theorem quietEnd_slot {s : State} (h : s.sys.dev = .quiet ∨ s.sys.dev = .run) :
    quietEnd { s with net := { s.net with slot := none } } =
      withNet { (quietEnd s).net with slot := none } (quietEnd s) := by
  rcases h with h | h
  · rw [quietEnd_of_quiet h, quietEnd_of_quiet (s := { s with net := { s.net with slot := none } }) h,
      show ({ s with net := { s.net with slot := none } } : State) = withNet { s.net with slot := none } s from rfl,
      cancelDets_withNet]
    have hnet := cancelDets_net 6 (fun _ => true) s
    generalize cancelDets 6 (fun _ => true) s = t at hnet
    rw [← hnet]
    rfl
  · rw [quietEnd_of_run h]
    exact quietEnd_of_run (s := { s with net := { s.net with slot := none } }) h

/-- QUIET's end leaves the settings, the time and the role (R126). -/
theorem quietEnd_parts {s : State} (h : s.sys.dev = .quiet ∨ s.sys.dev = .run) :
    (quietEnd s).sys = { s.sys with dev := .run } ∧ (quietEnd s).live = s.live ∧ (quietEnd s).timer = s.timer ∧
      (quietEnd s).net.joined = s.net.joined := by
  rcases h with h | h
  · have hframe := cancelDets_frame (w := [.ring, .evtLost, .scarab, .rx, .draws]) 6 (fun _ => true) s (frame_refl _ s)
      (hw := by decide)
    have hsys := cancelDets_sys 6 (fun _ => true) s
    have hnet := cancelDets_net 6 (fun _ => true) s
    rw [quietEnd_of_quiet h]
    refine ⟨?_, hframe.same .live (by decide), hframe.same .timer (by decide), ?_⟩
    · dsimp only
      rw [hsys]
    · dsimp only
      rw [hnet]
  · rw [quietEnd_of_run h, ← h]
    exact ⟨rfl, rfl, rfl, rfl⟩

section
variable {s : State}

/-- The state in which the JOIN begins channel access. -/
def joinsFrom (s : State) : State := withNet { (quietEnd s).net with slot := none } (quietEnd s)

theorem joinSlot_of_ready {w : Nat × Nat} (hslot : s.net.slot = some w) (hrole : s.sys.role ≠ .coordinator)
    (hdev : s.sys.dev = .quiet ∨ s.sys.dev = .run) (hjoined : s.net.joined = false) (haddr : myAddr s ≠ 0)
    (hcan : canStart (quietEnd s) (joinJob s) = true) : joinSlot s = beginAccess (joinJob s) (joinsFrom s) := by
  obtain ⟨hsys, hlive, -, hjoin⟩ := quietEnd_parts hdev
  have hrun : running (joinsFrom s) = true := by
    show running (quietEnd s) = true
    rw [running, hsys]
    rfl
  have haddr' : myAddr (joinsFrom s) = myAddr s := by
    show myAddr (quietEnd s) = myAddr s
    simp only [myAddr, hsys, liveNat, liveBytes, hlive]
  unfold joinSlot
  rw [hslot]
  dsimp only
  rw [if_neg hrole, quietEnd_slot hdev, ← joinsFrom, hrun, haddr', bne_iff_ne.mpr haddr,
    show (joinsFrom s).net.joined = false from hjoin.trans hjoined,
    show canStart (joinsFrom s) (joinJob s) = true from hcan]
  rfl

theorem joinSlot_facts {w : Nat × Nat} (hslot : s.net.slot = some w) (hrole : s.sys.role ≠ .coordinator)
    (hdev : s.sys.dev = .quiet ∨ s.sys.dev = .run) (hjoined : s.net.joined = false) (haddr : myAddr s ≠ 0)
    (hcan : canStart (quietEnd s) (joinJob s) = true) (hd : dutyRefusal (quietEnd s) (joinJob s) = none)
    (hfit : ∀ k ≤ liveNat s K.lbtRand, listenFits s (joinJob s) (liveNat s K.lbtListen + k * 500) = true) :
    (joinSlot s).net.slot = none ∧ (joinSlot s).sys.dev = .run ∧ (joinSlot s).radio.state = .synthUp ∧
      (exempt s (joinJob s) = true → (joinSlot s).radio.up = .tx (joinJob s)) := by
  obtain ⟨hsys, hlive, htimer, -⟩ := quietEnd_parts hdev
  have hnat : ∀ key, liveNat (joinsFrom s) key = liveNat s key := fun key => by
    show liveNat (quietEnd s) key = _
    simp only [liveNat, liveBytes, hlive]
  have hlisten : ∀ us, listenFits (joinsFrom s) (joinJob s) us = listenFits s (joinJob s) us := fun us => by
    show listenFits (quietEnd s) _ _ = _
    unfold listenFits ntime
    rw [htimer]
  have hexempt : exempt (joinsFrom s) (joinJob s) = exempt s (joinJob s) := by
    simp only [exempt, liveBool, hnat]
  obtain ⟨hstate, hsend, -⟩ := beginAccess_ready (j := joinJob s) (s := joinsFrom s) hd fun k hk => by
    rw [hnat] at hk ⊢
    rw [hlisten]
    exact hfit k hk
  have hframe := beginAccess_frame (w := [.sup, .ring, .evtLost, .rx, .radio, .draws]) (joinJob s) (joinsFrom s)
    (frame_refl _ _) (hw := by decide)
  rw [joinSlot_of_ready hslot hrole hdev hjoined haddr hcan, beginAccess_net]
  rw [hexempt] at hsend
  refine ⟨rfl, ?_, hstate, hsend⟩
  rw [hframe.same .sys (by decide)]
  show (quietEnd s).sys.dev = _
  rw [hsys]

-- The copies of a relay (R315)

/-- The copy of a relay leaves its buffer. -/
def copyTaken (b : RelayCopy) (s : State) : State :=
  { s with swarm := { s.swarm with buffers := s.swarm.buffers.filter fun x => x != b } }

theorem relayCopyDue_of_idle {o q : Half} {b : RelayCopy}
    (hfind : s.swarm.buffers.find? (fun b => b.orig == o && b.fseq == q) = some b) (hconf : confirmed s = false)
    (hreply : s.net.reply = none) (hfack : s.net.fackWait = none) (hacks : s.radio.acks = [])
    (hcommits : s.radio.commits = []) (hrun : running s = true) (hst : s.radio.state = .rx ∨ s.radio.state = .idle) :
    relayCopyDue o q s = if liveNat s K.swSuppress ≤ b.repeats then
        { copyTaken b s with
          swarm := { (copyTaken b s).swarm with suppressed := inc (copyTaken b s).swarm.suppressed } }
      else if b.job.frame.type = tyBeacon ∧ s.tb.state ≠ tbDisciplined then copyTaken b s
      else if !canStart s b.job then s
      else
        let t := beginAccess b.job (copyTaken b s)
        if t.radio.state == .synthUp then t
        else { t with swarm := { t.swarm with drops := inc t.swarm.drops } } := by
  have hexchange : (s.net.reply.isSome || !s.radio.acks.isEmpty || !s.radio.commits.isEmpty || s.radio.state == .tx ||
      s.radio.state == .ackWait || s.radio.state == .ackTx || s.net.fackWait.isSome) = false := by
    rw [hreply, hfack, hacks, hcommits]
    rcases hst with h | h <;> rw [h] <;> rfl
  unfold relayCopyDue
  rw [hfind]
  dsimp only
  rw [hexchange, hconf, hrun]
  rfl

/-- A copy that may start is sent, and none is dropped. -/
theorem copySent_facts {b : RelayCopy} (hl : b.job.latest = none) (hd : dutyRefusal s b.job = none) :
    (beginAccess b.job (copyTaken b s)).radio.state = .synthUp ∧
      (beginAccess b.job (copyTaken b s)).swarm.buffers = s.swarm.buffers.filter (fun x => x != b) ∧
      (beginAccess b.job (copyTaken b s)).swarm.drops = s.swarm.drops := by
  have hswarm : (beginAccess b.job (copyTaken b s)).swarm = (copyTaken b s).swarm :=
    (beginAccess_frame (w := [.sup, .ring, .evtLost, .rx, .radio, .draws]) _ _ (frame_refl _ _) (hw := by decide)).same
      .swarm (by decide)
  rw [hswarm]
  exact ⟨(beginAccess_of_latest_none (s := copyTaken b s) hl hd).1, rfl, rfl⟩

-- The FACK that does not come (R317)

theorem fackWaitExpiry_facts {q : Nat} {seq : Word} (h : s.net.fackWait = some (q, seq)) :
    (fackWaitExpiry s).net.fackWait = none ∧ (fackWaitExpiry s).radio.ackMiss = inc s.radio.ackMiss := by
  have hnet := post_net evAckMiss (BitVec.ofNat 16 q) seq { s with
    net := { s.net with fackWait := none }, radio := { s.radio with ackMiss := inc s.radio.ackMiss } }
  have hradio := post_radio evAckMiss (BitVec.ofNat 16 q) seq { s with
    net := { s.net with fackWait := none }, radio := { s.radio with ackMiss := inc s.radio.ackMiss } }
  unfold fackWaitExpiry
  rw [h]
  dsimp only
  rw [(settle_netMoves _).net, (settle_radioMoves _).ackMiss, hnet, hradio]
  exact ⟨rfl, rfl⟩

-- The seen cache (R314)

theorem inSeen_seenExpiry (k k' : Half × Half) (s : State) :
    inSeen (seenExpiry k s) k' = (inSeen s k' && k' != k) := by
  unfold inSeen seenExpiry
  rw [Bool.eq_iff_iff, Bool.and_eq_true, List.contains_iff_mem, List.contains_iff_mem, List.mem_filter]

end

/-- Settles O49. -/
theorem stationTimersAct : Obligations.StationTimersAct := by
  intro s hw
  refine ⟨fun r hr hcan hd => ?_, fun w hslot hrole hdev hjoined haddr hcan hd hfit => ?_,
    fun o q b hfind hconf hreply hfack hacks hcommits hrun hst => ⟨fun hle => ?_, fun hlt hty hl hcan hd => ?_⟩,
    fun q seq h => ?_, fun o q => ?_, ?_⟩
  · exact ⟨_, congrArg Host.Outcome.next (present_of_works hw), pollReply_facts hr hcan hd⟩
  · exact ⟨_, congrArg Host.Outcome.next (present_of_works hw),
      joinSlot_facts hslot hrole hdev hjoined haddr hcan hd hfit⟩
  · refine congrArg Host.Outcome.next ((present_of_works hw).trans ?_)
    rw [relayCopyDue_of_idle hfind hconf hreply hfack hacks hcommits hrun hst, if_pos hle]
    rfl
  · obtain ⟨hstate, hbuffers, hdrops⟩ := copySent_facts hl hd
    refine ⟨_, congrArg Host.Outcome.next (present_of_works hw), ?_⟩
    rw [relayCopyDue_of_idle hfind hconf hreply hfack hacks hcommits hrun hst, if_neg (Nat.not_le.mpr hlt),
      if_neg fun h => hty h.1, if_neg (by rw [hcan]; decide)]
    dsimp only
    rw [if_pos (beq_iff_eq.mpr hstate)]
    exact ⟨hstate, hbuffers, hdrops⟩
  · exact ⟨_, congrArg Host.Outcome.next (present_of_works hw), fackWaitExpiry_facts h⟩
  · refine ⟨_, rfl, confined_setSwarm s _, ?_, fun k hk => ?_⟩
    · rw [inSeen_seenExpiry, bne_self_eq_false, Bool.and_false]
    · rw [inSeen_seenExpiry, bne_iff_ne.mpr hk, Bool.and_true]
  · exact ⟨_, rfl, confined_setRadio s _, rfl⟩

end Sys2Proof.Machine
end
